-- ==== Sys2Proof/Word.lean ====
section
/-!
DEFINITION. The word types of the module and their plainest arithmetic: 32-bit registers (00_scope.md), bytes in
little-endian order (R6), and bit ranges written `[hi:lo]`.
-/
namespace Sys2Proof

/-- A register word: registers are 32 bits wide (00_scope.md, Registers). -/
abbrev Word := BitVec 32
/-- One byte of a frame, a table window or an event-log entry. -/
abbrev Byte := BitVec 8
/-- A binary32 pattern (R5: loop coefficients and states). -/
abbrev F32 := BitVec 32
/-- A binary64 pattern. -/
abbrev F64 := BitVec 64

end Sys2Proof
end

