-- ==== Sys2Proof/Config.lean ====
section
/-!
DEFINITION. What the spec leaves to one module or to an implementation, as constants with no body: nothing can
evaluate them, so a statement that mentions one holds for every value of it. Each is named in the assumption log.
-/
namespace Sys2Proof.Config

/-! ### Free values, by a number the state counts up (`State.freeCtr`) -/

/-- A free word. -/
opaque freeWord : Nat → Word
/-- A free byte. -/
opaque freeByte : Nat → Byte

/-- The filtered offset of a source after a measurement, from its raw offsets, newest first: the filter is not given (R354). -/
opaque ofsFilter : Nat → List Int → Int

/-! ### Values fixed at manufacture -/

/-- ESR of the reservoir of a converter at manufacture, in milliohms (R102). -/
opaque esr0 : Nat → Nat
/-- Yref of range r of converter c (first argument 4·c + r) at catalogue index i, measured at manufacture (R127): real and
imaginary part, binary64. -/
opaque yrefRe : Nat → Nat → F64
opaque yrefIm : Nat → Nat → F64
/-- REF_CALj of AI converter c: the measured reference resistance in Ω, binary32 (R170). -/
opaque refCal : Nat → Nat → F32
/-- The twelve characters of the label key of slot 0 at delivery (R48). -/
opaque label : Nat → Byte
/-- The serial number, the Ethernet address and the hardware revision of the module. -/
opaque serial : Nat → Word
/-- The version word of the firmware image of delivery. -/
opaque fwVersion : Word
/-- The six bytes of the Ethernet address. -/
opaque mac : Nat → Byte
/-- Event-log entries that one flash sector holds (R102). -/
opaque sectorEntries : Nat
/-- offsetScaledLogVariance announced as master. -/
opaque ptpVariance : Nat

/-! ### The last bit of an elementary function -/

/-- Which of the two patterns around the value of an elementary function the module gives, by function and argument. -/
opaque lastBit : Nat → F64 → Bool

end Sys2Proof.Config
end

