-- ==== Sys2Proof/Machine/Bits.lean ====
section
/-!
DEFINITION. Bit fields, sign extension, saturation and little-endian byte order: the helpers every other file uses.
-/
namespace Sys2Proof.Machine

/-- The unsigned value of bits `[hi:lo]` of a word. -/
def fieldOf (w : Word) (hi lo : Nat) : Nat := w.toNat / 2 ^ lo % 2 ^ (hi - lo + 1)

/-- A word whose bits `[hi:lo]` hold `v` (cut to the field's width), the others 0. -/
def fieldAt (hi lo v : Nat) : Word := BitVec.ofNat 32 (v % 2 ^ (hi - lo + 1) * 2 ^ lo)

/-- The word whose ones are the bits `[hi:lo]`. -/
def maskOf (hi lo : Nat) : Word := fieldAt hi lo (2 ^ (hi - lo + 1) - 1)

/-- `w` with bits `[hi:lo]` replaced by `v`. -/
def withField (w : Word) (hi lo v : Nat) : Word := (w &&& ~~~ (maskOf hi lo)) ||| fieldAt hi lo v

/-- Bit `n` of a word. -/
def bitOf (w : Word) (n : Nat) : Bool := w.getLsbD n

/-- 1 for true, 0 for false. -/
def b2n (b : Bool) : Nat := if b then 1 else 0

/-- A word of a natural number, wrapping modulo 2³². -/
def toWord (n : Nat) : Word := BitVec.ofNat 32 n

/-- The bits [31:0] of a number. -/
def loWord (n : Nat) : Word := BitVec.ofNat 32 n
/-- The bits [63:32] of a number. -/
def hiWord (n : Nat) : Word := BitVec.ofNat 32 (n / 2 ^ 32)

/-- The largest value of `bits` bits: counters and results that saturate stop here. -/
def maxOf (bits : Nat) : Nat := 2 ^ bits - 1

/-- Saturation at the top of an unsigned field. -/
def satU (bits n : Nat) : Nat := min n (maxOf bits)

/-- Saturation of a signed number in a two's-complement field, as the field's bits. -/
def satS (bits : Nat) (i : Int) : Nat :=
  let lo : Int := -(2 ^ (bits - 1) : Nat)
  let hi : Int := (2 ^ (bits - 1) : Nat) - 1
  ((max lo (min hi i)) % ((2 ^ bits : Nat) : Int)).toNat

/-- The two's-complement bits of a signed number, wrapping. -/
def wrapS (bits : Nat) (i : Int) : Nat := (i % ((2 ^ bits : Nat) : Int)).toNat

/-- The signed value of a two's-complement field of `bits` bits. -/
def signed (bits n : Nat) : Int :=
  let m := n % 2 ^ bits
  if m < 2 ^ (bits - 1) then (m : Int) else (m : Int) - (2 ^ bits : Nat)

/-- One more, saturating at the top of a 32-bit counter. -/
def satInc (w : Word) : Word := if w = 0xFFFFFFFF#32 then w else w + 1

/-- `n` more, saturating at the top of a 32-bit counter. -/
def satAdd (w : Word) (n : Nat) : Word := BitVec.ofNat 32 (satU 32 (w.toNat + n))

/-- The `k` bytes of a number, least significant first (R6). -/
def leBytes : Nat → Nat → List Byte
  | 0, _ => []
  | k + 1, n => BitVec.ofNat 8 n :: leBytes k (n / 256)

/-- The number spelled by bytes, least significant first (R6). -/
def ofLe : List Byte → Nat
  | [] => 0
  | b :: bs => b.toNat + 256 * ofLe bs

/-- The number spelled by bytes, most significant first. -/
def ofBe (bs : List Byte) : Nat := bs.foldl (fun acc b => acc * 256 + b.toNat) 0

/-- The `k` bytes of a number, most significant first. -/
def beBytes (k n : Nat) : List Byte := (leBytes k n).reverse

/-- The four bytes of a word (R6). -/
def wordBytes (w : Word) : List Byte := leBytes 4 w.toNat

/-- Bytes `off .. off + n - 1` of a frame. -/
def slice (bs : List Byte) (off n : Nat) : List Byte := (bs.drop off).take n

/-- The little-endian number at an offset of a frame. -/
def leAt (bs : List Byte) (off n : Nat) : Nat := ofLe (slice bs off n)

/-- Ceiling division. -/
def ceilDiv (a b : Nat) : Nat := (a + b - 1) / b

/-- Division rounded to nearest, halves away from zero. -/
def roundDiv (a b : Nat) : Nat := (2 * a + b) / (2 * b)

/-- The elements of a list with their positions. -/
def withIndex {α : Type} (l : List α) : List (Nat × α) := (List.range l.length).zip l

end Sys2Proof.Machine
end

