-- ==== Sys2Proof/Machine/Float.lean ====
section
/-!
DEFINITION. IEEE 754 binary32 and binary64 arithmetic on bit patterns, by exact dyadic arithmetic and one rounding
to nearest, ties to even. The spec names the formats (R5) and says which computation runs in which; the rounding
direction of every operation is the default one of the standard (assumption 7).
-/
namespace Sys2Proof.Machine

/-- An interchange format: exponent width and stored significand width. -/
structure Fmt where
  ew : Nat
  mw : Nat
  deriving DecidableEq, Repr

def fmt32 : Fmt := ⟨8, 23⟩
def fmt64 : Fmt := ⟨11, 52⟩

/-- The value of a pattern: a NaN, an infinity, or `± m · 2^e`. -/
inductive Fp where
  | nan
  | inf (neg : Bool)
  | fin (neg : Bool) (m : Nat) (e : Int)
  deriving DecidableEq, Repr

namespace Fmt

def bias (f : Fmt) : Int := (2 ^ (f.ew - 1) : Nat) - 1
/-- The exponent of the last place of a subnormal number. -/
def emin (f : Fmt) : Int := 1 - f.bias - f.mw
def infBits (f : Fmt) : Nat := (2 ^ f.ew - 1) * 2 ^ f.mw
def nanBits (f : Fmt) : Nat := f.infBits + 2 ^ (f.mw - 1)
def signBit (f : Fmt) (neg : Bool) : Nat := if neg then 2 ^ (f.ew + f.mw) else 0

/-- The value of a pattern given as a natural number. -/
def decode (f : Fmt) (w : Nat) : Fp :=
  let neg := w / 2 ^ (f.ew + f.mw) % 2 == 1
  let ex := w / 2 ^ f.mw % 2 ^ f.ew
  let m := w % 2 ^ f.mw
  if ex = 2 ^ f.ew - 1 then (if m = 0 then .inf neg else .nan)
  else if ex = 0 then .fin neg m f.emin
  else .fin neg (m + 2 ^ f.mw) (f.emin + (ex - 1 : Nat))

/-- `± m · 2^e`, with `sticky` saying that a smaller positive rest was cut off, rounded to nearest even. -/
def round (f : Fmt) (neg : Bool) (m : Nat) (e : Int) (sticky : Bool) : Nat :=
  if m = 0 then f.signBit neg else
  let len : Int := (Nat.log2 m + 1 : Nat)
  let ex : Int := max (e + len - (f.mw + 1 : Nat)) f.emin
  let q : Nat :=
    if ex ≤ e then m * 2 ^ (e - ex).toNat
    else
      let sh := (ex - e).toNat
      let q := m / 2 ^ sh
      let r := m % 2 ^ sh
      let half := 2 ^ (sh - 1)
      if r > half ∨ (r = half ∧ (sticky ∨ q % 2 = 1)) then q + 1 else q
  let bits := (ex - f.emin).toNat * 2 ^ f.mw + q
  f.signBit neg + min bits f.infBits

/-- The pattern of a value. -/
def encode (f : Fmt) : Fp → Nat
  | .nan => f.nanBits
  | .inf neg => f.signBit neg + f.infBits
  | .fin neg m e => f.round neg m e false

end Fmt

namespace Fp

def neg : Fp → Fp
  | .nan => .nan
  | .inf n => .inf (!n)
  | .fin n m e => .fin (!n) m e

def abs : Fp → Fp
  | .nan => .nan
  | .inf _ => .inf false
  | .fin _ m e => .fin false m e

/-- The signed significand at a common exponent. -/
def sig (neg : Bool) (m : Nat) : Int := if neg then -(m : Int) else m

/-- The exact sum (infinities and NaNs by the standard). -/
def add : Fp → Fp → Fp
  | .nan, _ | _, .nan => .nan
  | .inf a, .inf b => if a = b then .inf a else .nan
  | .inf a, _ => .inf a
  | _, .inf b => .inf b
  | .fin na ma ea, .fin nb mb eb =>
    let e := min ea eb
    let x := sig na (ma * 2 ^ (ea - e).toNat) + sig nb (mb * 2 ^ (eb - e).toNat)
    if x = 0 then .fin (na && nb) 0 e else .fin (decide (x < 0)) x.natAbs e

/-- The exact product. -/
def mul : Fp → Fp → Fp
  | .nan, _ | _, .nan => .nan
  | .inf a, .inf b => .inf (a != b)
  | .inf a, .fin n m _ => if m = 0 then .nan else .inf (a != n)
  | .fin n m _, .inf b => if m = 0 then .nan else .inf (n != b)
  | .fin na ma ea, .fin nb mb eb => .fin (na != nb) (ma * mb) (ea + eb)

def isNan : Fp → Bool
  | .nan => true
  | _ => false

def isFinite : Fp → Bool
  | .fin .. => true
  | _ => false

def isZero : Fp → Bool
  | .fin _ 0 _ => true
  | _ => false

/-- Three-way comparison of two values that are not NaNs: the sign of `a - b`. -/
def cmpInt : Fp → Fp → Option Int
  | .nan, _ | _, .nan => none
  | .inf a, .inf b => some (if a = b then 0 else if a then -1 else 1)
  | .inf a, _ => some (if a then -1 else 1)
  | _, .inf b => some (if b then 1 else -1)
  | .fin na ma ea, .fin nb mb eb =>
    let e := min ea eb
    some (sig na (ma * 2 ^ (ea - e).toNat) - sig nb (mb * 2 ^ (eb - e).toNat))

def lt (a b : Fp) : Bool := match cmpInt a b with | some i => decide (i < 0) | none => false
def le (a b : Fp) : Bool := match cmpInt a b with | some i => decide (i ≤ 0) | none => false
def eq (a b : Fp) : Bool := match cmpInt a b with | some i => decide (i = 0) | none => false

/-- The exact integer nearest below. -/
def floorInt : Fp → Option Int
  | .fin n m e =>
    let s := sig n m
    some (if 0 ≤ e then s * (2 ^ e.toNat : Nat) else s / ((2 ^ (-e).toNat : Nat) : Int))
  | _ => none

/-- Rounded to an integer, to nearest, ties to even. -/
def roundEven : Fp → Option Int
  | .fin n m e =>
    if 0 ≤ e then some (sig n m * (2 ^ e.toNat : Nat))
    else
      let d := 2 ^ (-e).toNat
      let q := m / d
      let r := m % d
      let q' := if 2 * r > d ∨ (2 * r = d ∧ q % 2 = 1) then q + 1 else q
      some (sig n q')
  | _ => none

/-- Rounded to an integer, to nearest, halves away from zero. -/
def roundAway : Fp → Option Int
  | .fin n m e =>
    if 0 ≤ e then some (sig n m * (2 ^ e.toNat : Nat))
    else
      let d := 2 ^ (-e).toNat
      some (sig n ((2 * m + d) / (2 * d)))
  | _ => none

/-- Cut to an integer, toward zero. -/
def trunc : Fp → Option Int
  | .fin n m e => some (sig n (if 0 ≤ e then m * 2 ^ e.toNat else m / 2 ^ (-e).toNat))
  | _ => none

def ofInt (i : Int) : Fp := .fin (decide (i < 0)) i.natAbs 0

end Fp

namespace Fmt

def add (f : Fmt) (a b : Nat) : Nat := f.encode ((f.decode a).add (f.decode b))
def sub (f : Fmt) (a b : Nat) : Nat := f.encode ((f.decode a).add (f.decode b).neg)
def mul (f : Fmt) (a b : Nat) : Nat := f.encode ((f.decode a).mul (f.decode b))

/-- The quotient, rounded once. -/
def div (f : Fmt) (a b : Nat) : Nat :=
  match f.decode a, f.decode b with
  | .nan, _ | _, .nan => f.nanBits
  | .inf _, .inf _ => f.nanBits
  | .inf x, .fin n _ _ => f.signBit (x != n) + f.infBits
  | .fin n _ _, .inf x => f.signBit (n != x)
  | .fin na ma ea, .fin nb mb eb =>
    if mb = 0 then (if ma = 0 then f.nanBits else f.signBit (na != nb) + f.infBits)
    else
      let k := f.mw + 4 + Nat.log2 mb
      let num := ma * 2 ^ k
      f.round (na != nb) (num / mb) (ea - eb - k) (num % mb != 0)

/-- The integer square root, bit by bit from the top: `fuel` bits are tried. -/
def isqrtGo (n : Nat) : Nat → Nat → Nat
  | 0, r => r
  | k + 1, r =>
    let c := r + 2 ^ k
    isqrtGo n k (if c * c ≤ n then c else r)

def isqrt (n : Nat) : Nat := isqrtGo n (Nat.log2 n / 2 + 1) 0

/-- The square root, rounded once; NaN below 0. -/
def sqrt (f : Fmt) (a : Nat) : Nat :=
  match f.decode a with
  | .nan => f.nanBits
  | .inf n => if n then f.nanBits else f.infBits
  | .fin n m e =>
    if m = 0 then f.signBit n
    else if n then f.nanBits
    else
      let k := 2 * (f.mw + 4)
      let k := if (e - k) % 2 = 0 then k else k + 1
      let x := m * 2 ^ k
      let r := isqrt x
      f.round false r ((e - k) / 2) (r * r != x)

/-- A number as a pattern, rounded once. -/
def ofInt (f : Fmt) (i : Int) : Nat := f.encode (Fp.ofInt i)

/-- A ratio of natural numbers as a pattern, rounded once. -/
def ofRat (f : Fmt) (neg : Bool) (num den : Nat) : Nat :=
  if den = 0 then f.nanBits else
  let k := f.mw + 4 + Nat.log2 den
  let x := num * 2 ^ k
  f.round neg (x / den) (-(k : Int)) (x % den != 0)

end Fmt

namespace F32
def val (a : F32) : Fp := fmt32.decode a.toNat
def of (n : Nat) : F32 := BitVec.ofNat 32 n
def add (a b : F32) : F32 := of (fmt32.add a.toNat b.toNat)
def sub (a b : F32) : F32 := of (fmt32.sub a.toNat b.toNat)
def mul (a b : F32) : F32 := of (fmt32.mul a.toNat b.toNat)
def div (a b : F32) : F32 := of (fmt32.div a.toNat b.toNat)
def neg (a : F32) : F32 := a ^^^ 0x80000000#32
def abs (a : F32) : F32 := a &&& 0x7FFFFFFF#32
def lt (a b : F32) : Bool := (val a).lt (val b)
def le (a b : F32) : Bool := (val a).le (val b)
def isFinite (a : F32) : Bool := (val a).isFinite
def isNan (a : F32) : Bool := (val a).isNan
def ofInt (i : Int) : F32 := of (fmt32.ofInt i)
def ofRat (neg : Bool) (n d : Nat) : F32 := of (fmt32.ofRat neg n d)
def zero : F32 := 0#32
def one : F32 := 0x3F800000#32
/-- A subnormal operand or result becomes a zero of its sign (R242: flush to zero). -/
def flush (a : F32) : F32 := if (a &&& 0x7F800000#32) = 0#32 then a &&& 0x80000000#32 else a
end F32

namespace F64
def val (a : F64) : Fp := fmt64.decode a.toNat
def of (n : Nat) : F64 := BitVec.ofNat 64 n
def add (a b : F64) : F64 := of (fmt64.add a.toNat b.toNat)
def sub (a b : F64) : F64 := of (fmt64.sub a.toNat b.toNat)
def mul (a b : F64) : F64 := of (fmt64.mul a.toNat b.toNat)
def div (a b : F64) : F64 := of (fmt64.div a.toNat b.toNat)
def sqrt (a : F64) : F64 := of (fmt64.sqrt a.toNat)
def neg (a : F64) : F64 := a ^^^ 0x8000000000000000#64
def abs (a : F64) : F64 := a &&& 0x7FFFFFFFFFFFFFFF#64
def lt (a b : F64) : Bool := (val a).lt (val b)
def le (a b : F64) : Bool := (val a).le (val b)
def isFinite (a : F64) : Bool := (val a).isFinite
def isNan (a : F64) : Bool := (val a).isNan
def ofInt (i : Int) : F64 := of (fmt64.ofInt i)
def ofNat (n : Nat) : F64 := of (fmt64.ofInt n)
def ofRat (neg : Bool) (n d : Nat) : F64 := of (fmt64.ofRat neg n d)
/-- A decimal constant of the spec: `± n / 10^k`, rounded once. -/
def dec (n : Int) (k : Nat) : F64 := of (fmt64.ofRat (decide (n < 0)) n.natAbs (10 ^ k))
def zero : F64 := 0#64
def one : F64 := 0x3FF0000000000000#64
def max (a b : F64) : F64 := if lt a b then b else a
def min (a b : F64) : F64 := if lt b a then b else a
/-- π, rounded to binary64. -/
def pi : F64 := 0x400921FB54442D18#64
/-- 2π, rounded to binary64. -/
def twoPi : F64 := 0x401921FB54442D18#64
end F64

/-- Binary32 widened to binary64: exact. -/
def F32.widen (a : F32) : F64 := BitVec.ofNat 64 (fmt64.encode (F32.val a))
/-- Binary64 rounded to binary32. -/
def F64.narrow (a : F64) : F32 := BitVec.ofNat 32 (fmt32.encode (F64.val a))

/-- A binary64 value as a natural number: cut below at 0 and above at `top`, rounded to nearest, halves up. -/
def F64.toNatSat (a : F64) (top : Nat) : Nat :=
  match F64.val a with
  | .nan => 0
  | .inf n => if n then 0 else top
  | v => Nat.min ((v.roundAway.getD 0).toNat) top

/-- A binary64 value as a signed number saturating in `bits` bits (its two's-complement bits), rounded to nearest. -/
def F64.toSignedSat (a : F64) (bits : Nat) : Nat :=
  match F64.val a with
  | .nan => 0
  | .inf n => if n then 2 ^ (bits - 1) else 2 ^ (bits - 1) - 1
  | v => satS bits (v.roundAway.getD 0)

end Sys2Proof.Machine
end

