-- ==== Sys2Proof/Machine/Elem.lean ====
section
/-!
DEFINITION. The elementary functions the rules name (R102, R160, R170, R272, R361, R429), on binary64: each is computed by an
integer series far below the last place, and of the two patterns that enclose the value `Config.lastBit` says which one the
module gives, since no rule gives the last bit (log entry 9).
-/
namespace Sys2Proof.Machine

/-- `± m · 2^e` (m cut below the last place kept) toward zero, as a pattern. -/
def Fmt.cut (f : Fmt) (neg : Bool) (m : Nat) (e : Int) : Nat :=
  let len : Int := (Nat.log2 m + 1 : Nat)
  let ex : Int := max (e + len - (f.mw + 1 : Nat)) f.emin
  let q : Nat := if ex ≤ e then m * 2 ^ (e - ex).toNat else m / 2 ^ (ex - e).toNat
  f.signBit neg + min ((ex - f.emin).toNat * 2 ^ f.mw + q) (f.infBits - 1)

namespace Elem

/-- The scale of the series: 2^160. -/
def one : Nat := 2 ^ 160
/-- ln 2 and ln 10 at that scale, and π/2 at scale 2^1200. -/
def ln2 : Nat := 0xb17217f7d1cf79abc9e3b39803f2f6af40f34326
def ln10 : Nat := 0x24d763776aaa2b05ba95b58ae0b4c28a38a3fb3e7
def halfPi : Nat :=
  0x1921fb54442d18469898cc51701b839a252049c1114cf98e804177d4c76273644a29410f31c6809bbdf2a33679a748636605614dbe4be286e9fc26adadaa3848bc90b6aecc4bcfd8de89885d34c6fdad617feb96de80d6fdbdc70d7f6b5133f4b5d3e4822f8963fcc9250cca3d9c8b67b8400f97142c77e0b31b4906c38aba734d22c7f51fa499ebf06caba47b9475b2c38c5e6ac410b

/-- The function that `Config.lastBit` is asked about. -/
inductive Fn where
  | exp | ln | log10 | cos | sin
  deriving DecidableEq, Repr

def Fn.code : Fn → Nat
  | .exp => 0 | .ln => 1 | .log10 => 2 | .cos => 3 | .sin => 4

/-- The value `± m · 2^e` of a function of x: one of the two patterns around it. -/
def pick (fn : Fn) (x : F64) (neg : Bool) (m : Nat) (e : Int) : F64 :=
  F64.of (fmt64.cut neg m e + if Config.lastBit fn.code x then 1 else 0)

/-- t + t·x/(n+1) + t·x²/((n+1)(n+2)) + … : the exponential series from term t on. -/
def expSeries (x : Int) : Nat → Nat → Int → Int
  | 0, _, _ => 0
  | f + 1, n, t => t + expSeries x f (n + 1) (t * x / (one : Int) / ((n + 1 : Nat) : Int))

/-- t − t·x²/((n+1)(n+2)) + … : the series of cosine (n = 0) and sine (n = 1) from term t on. -/
def trigSeries (x2 : Nat) : Nat → Nat → Nat → Int
  | 0, _, _ => 0
  | f + 1, n, t => (t : Int) - trigSeries x2 f (n + 2) (t * x2 / one / ((n + 1) * (n + 2)))

/-- t/n + t·z²/(n+2) + … : the series of the area tangent. -/
def areaSeries (z2 : Nat) : Nat → Nat → Nat → Nat
  | 0, _, _ => 0
  | f + 1, n, t => t / n + areaSeries z2 f (n + 2) (t * z2 / one)

/-- `m · 2^e` at the scale of the series, to the next lower whole number. -/
def fix (m : Int) (e : Int) : Int :=
  let k := e + 160
  if 0 ≤ k then m * (2 ^ k.toNat : Nat) else m / ((2 ^ (-k).toNat : Nat) : Int)

/-- ln (m · 2^e) at the scale of the series, m above 0. -/
def lnFix (m : Nat) (e : Int) : Int :=
  let l := Nat.log2 m
  let y := (fix m (-(l : Int))).toNat
  let z := (y - one) * one / (y + one)
  (e + l) * ln2 + 2 * (areaSeries (z * z / one) 60 1 z : Nat)

/-- The quadrant of `m · 2^e` and the angle within it at the scale of the series. -/
def reduce (m : Nat) (e : Int) : Nat × Nat :=
  let x := if 0 ≤ e + 1200 then m * 2 ^ (e + 1200).toNat else m / 2 ^ (-(e + 1200)).toNat
  (x / halfPi % 4, x % halfPi / 2 ^ 1040)

/-- Cosine (`q0` = 0) or sine (`q0` = 3) of an angle above 0 at the scale of the series. -/
def circ (q0 m : Nat) (e : Int) : Int :=
  let (q, r) := reduce m e
  let x2 := r * r / one
  match (q + q0) % 4 with
  | 0 => trigSeries x2 28 0 one
  | 1 => -trigSeries x2 28 1 r
  | 2 => -trigSeries x2 28 0 one
  | _ => trigSeries x2 28 1 r

end Elem

namespace F64

def nan : F64 := of fmt64.nanBits
def infty (neg : Bool) : F64 := of (fmt64.signBit neg + fmt64.infBits)

/-- e to the power x. -/
def exp (x : F64) : F64 :=
  match val x with
  | .nan => nan
  | .inf n => if n then zero else infty false
  | .fin n m e =>
    if m = 0 then one
    else if lt (ofNat 710) x then infty false
    else if lt x (ofInt (-746)) then Elem.pick .exp x false 0 0
    else
      let v := Elem.fix (Fp.sig n m) e
      let k := v / (Elem.ln2 : Int)
      Elem.pick .exp x false (Elem.expSeries (v - k * (Elem.ln2 : Int)) 48 0 Elem.one).toNat (k - 160)

/-- A logarithm: `div` turns the natural one, at the scale of the series, into it. -/
def logOf (fn : Elem.Fn) (conv : Int → Int) (x : F64) : F64 :=
  match val x with
  | .nan => nan
  | .inf n => if n then nan else infty false
  | .fin n m e =>
    if m = 0 then infty true
    else if n then nan
    else if x = one then zero
    else
      let v := conv (Elem.lnFix m e)
      Elem.pick fn x (decide (v < 0)) v.natAbs (-160)

/-- The natural logarithm. -/
def ln (x : F64) : F64 := logOf .ln id x
/-- The decimal logarithm. -/
def log10 (x : F64) : F64 := logOf .log10 (fun v => v * (Elem.one : Int) / (Elem.ln10 : Int)) x

/-- The cosine of an angle in radians. -/
def cos (x : F64) : F64 :=
  match val x with
  | .fin _ m e =>
    if m = 0 then one
    else
      let v := Elem.circ 0 m e
      Elem.pick .cos x (decide (v < 0)) v.natAbs (-160)
  | _ => nan

/-- The sine of an angle in radians. Of an angle below 2^-60 it lies below the angle by less than its last place. -/
def sin (x : F64) : F64 :=
  match val x with
  | .fin n m e =>
    if m = 0 then x
    else if (Nat.log2 m : Int) + e < -60 then Elem.pick .sin x n (m * 2 ^ 64 - 1) (e - 64)
    else
      let v := Elem.circ 3 m e
      Elem.pick .sin x (n != decide (v < 0)) v.natAbs (-160)
  | _ => nan

end F64
end Sys2Proof.Machine
end

