-- ==== Sys2Proof/Machine/Cx.lean ====
section
/-!
DEFINITION. Complex numbers in binary64 (R125, R127, R130), one rounding per real operation, the integer cosine table of
R123, and the demodulator.
-/
namespace Sys2Proof.Machine

structure Cx where
  re : F64
  im : F64
  deriving DecidableEq, Repr

namespace Cx

def zero : Cx := ⟨F64.zero, F64.zero⟩
def one : Cx := ⟨F64.one, F64.zero⟩
def add (a b : Cx) : Cx := ⟨F64.add a.re b.re, F64.add a.im b.im⟩
def sub (a b : Cx) : Cx := ⟨F64.sub a.re b.re, F64.sub a.im b.im⟩
def neg (a : Cx) : Cx := ⟨F64.neg a.re, F64.neg a.im⟩
def mul (a b : Cx) : Cx :=
  ⟨F64.sub (F64.mul a.re b.re) (F64.mul a.im b.im), F64.add (F64.mul a.re b.im) (F64.mul a.im b.re)⟩
def scale (k : F64) (a : Cx) : Cx := ⟨F64.mul k a.re, F64.mul k a.im⟩
def unscale (a : Cx) (k : F64) : Cx := ⟨F64.div a.re k, F64.div a.im k⟩
def norm2 (a : Cx) : F64 := F64.add (F64.mul a.re a.re) (F64.mul a.im a.im)
def abs (a : Cx) : F64 := F64.sqrt a.norm2
def div (a b : Cx) : Cx :=
  let n := b.norm2
  ⟨F64.div (F64.add (F64.mul a.re b.re) (F64.mul a.im b.im)) n, F64.div (F64.sub (F64.mul a.im b.re) (F64.mul a.re b.im)) n⟩
def inv (a : Cx) : Cx := div one a
/-- Rounded to binary32 and widened again: what a table of binary32 words keeps. -/
def store (a : Cx) : Cx := ⟨F32.widen (F64.narrow a.re), F32.widen (F64.narrow a.im)⟩

end Cx

/-! ### The tables of R123 -/

/-- 2^80, the scale of the series below. -/
def trigOne : Nat := 2 ^ 80
/-- π · 2^80, rounded. -/
def trigPi : Nat := 3797952473636338580787994

/-- Sum of the alternating series `t − t·x²/((n+1)(n+2)) + …` from term `t`, at scale 2^80. -/
def trigSeries (x2 : Nat) : Nat → Nat → Nat → Int
  | 0, _, _ => 0
  | f + 1, n, t => (t : Int) - trigSeries x2 f (n + 2) (t * x2 / trigOne / ((n + 1) * (n + 2)))

/-- cos and sin of 2π·r / 262,144 for r ≤ 32,768, at scale 2^80. -/
def trigSmall (r : Nat) : Int × Int :=
  let x := trigPi * r / 131072
  let x2 := x * x / trigOne
  (trigSeries x2 16 0 trigOne, trigSeries x2 16 1 x)

/-- cos and sin of 2π·i / 262,144, at scale 2^80. -/
def trig (i : Nat) : Int × Int :=
  let q := i / 65536 % 4
  let r := i % 65536
  let (c, s) := if r ≤ 32768 then trigSmall r else let y := trigSmall (65536 - r); (y.2, y.1)
  match q with
  | 0 => (c, s) | 1 => (-s, c) | 2 => (-c, -s) | _ => (s, -c)

/-- 32,767 times a number at scale 2^80, to nearest, halves away from zero. -/
def trigRound (x : Int) : Int :=
  let m := (x.natAbs * 32767 * 2 + trigOne) / (2 * trigOne)
  if x < 0 then -(m : Int) else m

/-- COSTAB[i] = round(32,767 × cos(2π i / 262,144)). -/
def cosTab (i : Nat) : Int := trigRound (trig i).1
/-- SINTAB[i] = round(32,767 × sin(2π i / 262,144)). -/
def sinTab (i : Nat) : Int := trigRound (trig i).2

/-- The catalogue: frequencies in kHz (R111). -/
def catKhz : List Nat :=
  [10, 14, 19, 26, 36, 50, 69, 94, 130, 179, 247, 341, 470, 647, 892, 1230, 1695, 2336, 3219, 4436, 6114, 8427, 11614, 16000]

/-- Cycles of catalogue tone i in the 19 ms window (R111). -/
def catN (i : Nat) : Nat := catKhz.getD i 0 * 19

/-- A converter code. -/
abbrev Code := BitVec 16

/-- The phase index i of R123 at sample n of the window, before it too (R124). -/
def phaseIdx (nk ph : Nat) (n : Int) : Nat := (((nk : Int) * n + 950 * ph) % 950000).toNat * 262144 / 950000

/-- The DAC code d[n] of R124: tones as N, amplitude in 1/64 mV and phase; rounded to nearest, halves away from zero. -/
def dacCode (tones : List (Nat × Nat × Nat)) (n : Int) : Int :=
  let x := tones.foldl (fun (a : Int) t => a + t.2.1 * cosTab (phaseIdx t.1 t.2.2 n)) 0
  let m := (2 * x.natAbs + 64000) / 128000
  if x < 0 then -(m : Int) else m

/-- The demodulator of R123 from sample n on: N cycles, phase PH. -/
def demodFrom (nk ph : Nat) : Nat → List Code → Int × Int → Int × Int
  | _, [], acc => acc
  | n, x :: xs, (i, q) =>
    let p := (nk * n + 950 * ph) % 950000
    let j := p * 262144 / 950000
    demodFrom nk ph (n + 1) xs (i + x.toInt * cosTab j, q - x.toInt * sinTab j)

/-- ACC_I and ACC_Q of a window. -/
def demod (nk ph : Nat) (xs : List Code) : Int × Int := demodFrom nk ph 0 xs (0, 0)

/-- The 19 partial sums of R126: blocks of 50,000 samples. -/
def demodBlocks (nk ph : Nat) (xs : List Code) : List (Int × Int) :=
  (List.range 19).map fun b => demodFrom nk ph (50000 * b) ((xs.drop (50000 * b)).take 50000) (0, 0)

/-- PEAK: the largest |code|. -/
def peakOf (xs : List Code) : Nat := xs.foldl (fun m x => max m x.toInt.natAbs) 0

/-- Steps 1–3 of R125: Ym from an accumulator over `n` samples; amplitude in 1/64 mV, range r, correction G. -/
def admittance (acc : Int × Int) (n : Nat) (amp64 r : Nat) (g : Cx) : Cx :=
  let one := fun (x : Int) =>
    F64.div (F64.mul (F64.div (F64.mul (F64.ofNat 2) (F64.ofInt x)) (F64.ofNat (n * 32767))) (F64.ofNat 4)) (F64.ofNat 65536)
  let v : Cx := ⟨one acc.1, one acc.2⟩
  let a := F64.ofRat false amp64 64000
  Cx.div v.neg (Cx.scale (F64.mul a (F64.ofNat (200 * 10 ^ r))) g)

/-- Angular frequency of catalogue tone i: TWO_PI × (1,000 × f in kHz). -/
def omega (i : Nat) : F64 := F64.mul F64.twoPi (F64.mul (F64.ofNat 1000) (F64.ofNat (catKhz.getD i 0)))

/-! ### Power spectra of 16,384 samples (R137, R160) -/

/-- The Hann window. -/
def hann (n : Nat) : F64 :=
  F64.sub (F64.dec 5 1) (F64.mul (F64.dec 5 1) (F64.cos (F64.div (F64.mul F64.twoPi (F64.ofNat n)) (F64.ofNat 16384))))

/-- Bin k of the transform of windowed samples. -/
def binOf (k : Nat) : Nat → List Code → Cx → Cx
  | _, [], acc => acc
  | n, x :: xs, acc =>
    let a := F64.div (F64.mul F64.twoPi (F64.ofNat (k * n % 16384))) (F64.ofNat 16384)
    let v := F64.mul (F64.ofInt x.toInt) (hann n)
    binOf k (n + 1) xs ⟨F64.add acc.re (F64.mul v (F64.cos a)), F64.sub acc.im (F64.mul v (F64.sin a))⟩

/-- The bin nearest to f × 16,384 / 50 MHz of catalogue tone i. -/
def toneBin (i : Nat) : Nat := roundDiv (catKhz.getD i 0 * 1000 * 16384) 50000000

/-- Power of bin k. -/
def binPower (xs : List Code) (k : Nat) : F64 := (binOf k 0 xs Cx.zero).norm2

/-- The residual of a block with tones at the given catalogue indices: 10·log10(P_off / P_tone), in 0.1 dB (R160). -/
def residual (tones : List Nat) (xs : List Code) : F64 :=
  let near := fun k => tones.any fun i => decide (toneBin i ≤ k + 2) && decide (k ≤ toneBin i + 2)
  let sum := fun (l : List Nat) => l.foldl (fun a k => F64.add a (binPower xs k)) F64.zero
  let bins := List.range 8192
  let pt := sum (bins.filter near)
  let po := sum (bins.filter fun k => !near k && decide (3 ≤ k))
  F64.mul (F64.ofNat 100) (F64.log10 (F64.div po pt))

/-- NOISE of catalogue tone i in pA rms (R137): the bin's amplitude corrected for the Hann window (coherent gain 1/2),
referred to the TIA input through Rf = 200 kΩ. -/
def noisePa (xs : List Code) (i : Nat) : Nat :=
  let amp := F64.div (F64.mul (F64.ofNat 4) (binOf (toneBin i) 0 xs Cx.zero).abs) (F64.ofNat 16384)
  let rms := F64.div (F64.div (F64.mul (F64.div amp (F64.sqrt (F64.ofNat 2))) (F64.ofNat 4)) (F64.ofNat 65536)) (F64.ofNat 200000)
  F64.toNatSat (F64.mul rms (F64.ofNat 1000000000000)) 0xFFFF

end Sys2Proof.Machine
end

