-- ==== Sys2Proof/Machine/Layout.lean ====
section
/-!
DEFINITION. The register map: every page, register and field of spec/19_register_index.md (R473) with the access code
(R9), the reset value (R8) and the limits the field's table gives. One row is one register; a row may repeat at one
or two strides. The tables of the chapters are the source of every line. A field whose Reset column is "x" has 0 here;
what it reads is computed from the state (Views.lean) or is a value assumption 3 names.
-/
namespace Sys2Proof.Machine

/-- The kinds of register page (R473). -/
inductive Kind where
  | dev
  | clk
  | pwr
  | therm
  | ledger
  | host
  | time
  | link
  | wear
  | xform
  | act
  | ucode
  | di
  | dio
  | ao
  | ai
  | moist
  | cell
  | fan
  | gnss
  | gnssCh
  | rootSeg
  | rootMain
  | loop
  deriving DecidableEq, Repr

/-- The access codes of R9. -/
inductive Access where
  | ro | rw | wo | w1c | rwc
  deriving DecidableEq, Repr

/-- What a written field value must satisfy; otherwise the write returns RANGE (R67). -/
inductive Lim where
  /-- Every value of the field's width. -/
  | any
  /-- From `lo` to `hi`, both included. -/
  | range (lo hi : Nat)
  /-- Signed 32-bit, from `-lo` to `hi`. -/
  | srange (lo hi : Nat)
  /-- One of the listed values. -/
  | oneOf (vs : List Nat)
  /-- A multiple of `n`. -/
  | mult (n : Nat)
  /-- A finite binary32 pattern. -/
  | finite
  /-- C0 of the MOIST page: 0, or binary32 from 5.0 to 50.0. -/
  | c0
  /-- Less than the value written to bits `[hi:lo]` of the same register. -/
  | ltField (hi lo : Nat)
  /-- At least the value written to bits `[hi:lo]` of the same register. -/
  | geField (hi lo : Nat)
  /-- SKIPb of a FAN page: with EN = 1, LO < HI. -/
  | skip
  deriving DecidableEq, Repr

/-- A reset value: a number, or one that depends on the page's instance. -/
inductive Rst where
  | val (n : Nat)
  | code
  | inst
  | instDiv4
  | instMod4
  deriving DecidableEq, Repr

/-- One field of a register: bits `[hi:lo]`. -/
structure Field where
  name : String
  hi : Nat
  lo : Nat
  acc : Access
  rst : Rst
  lim : Lim
  deriving DecidableEq, Repr

/-- One register, repeated `n1` times at stride `s1`, each of these `n2` times at stride `s2`. -/
structure Row where
  name : String
  off : Nat
  n1 : Nat
  s1 : Nat
  n2 : Nat
  s2 : Nat
  fields : List Field
  deriving DecidableEq, Repr

/-- Registers of the DEV page (spec chapter 03), part 1. -/
def rowsDev0 : List Row :=
  [⟨"PAGE_ID", 0x0, 1, 0x0, 1, 0x0,
     [⟨"BLOCK", 31, 16, .ro, .code, .any⟩,
      ⟨"INSTANCE", 15, 0, .ro, .inst, .any⟩]⟩,
   ⟨"PAGE_VER", 0x4, 1, 0x0, 1, 0x0,
     [⟨"VERSION", 31, 0, .ro, (.val 1), .any⟩]⟩,
   ⟨"PAGE_CTRL", 0x8, 1, 0x0, 1, 0x0,
     [⟨"EN", 0, 0, .ro, (.val 1), .any⟩]⟩,
   ⟨"PAGE_STAT", 0xC, 1, 0x0, 1, 0x0,
     []⟩,
   ⟨"PAGE_EVT", 0x10, 1, 0x0, 1, 0x0,
     [⟨"FLAGS", 3, 0, .w1c, (.val 0), .any⟩]⟩,
   ⟨"PAGE_EVT_EN", 0x14, 1, 0x0, 1, 0x0,
     [⟨"ENABLES", 31, 0, .rw, (.val 0), .any⟩]⟩,
   ⟨"PAGE_EVT_CNT", 0x18, 1, 0x0, 1, 0x0,
     [⟨"COUNT", 31, 0, .ro, (.val 0), .any⟩]⟩,
   ⟨"PAGE_OWNER", 0x1C, 1, 0x0, 1, 0x0,
     [⟨"SUBMASK", 23, 16, .ro, (.val 0), .any⟩,
      ⟨"LOSS", 10, 9, .ro, (.val 0), .any⟩,
      ⟨"ORPHAN", 8, 8, .ro, (.val 0), .any⟩,
      ⟨"OWNER", 7, 0, .ro, (.val 255), .any⟩]⟩,
   ⟨"PAGE_EPOCH", 0x20, 1, 0x0, 1, 0x0,
     [⟨"EPOCH", 31, 0, .ro, (.val 1), .any⟩]⟩,
   ⟨"PAGE_LOCK", 0x24, 1, 0x0, 1, 0x0,
     [⟨"MODE_LOCK", 8, 0, .ro, (.val 0), .any⟩]⟩,
   ⟨"DEV_MODE", 0x40, 1, 0x0, 1, 0x0,
     [⟨"PREV", 11, 8, .ro, (.val 0), .any⟩,
      ⟨"MODE", 3, 0, .ro, (.val 0), .any⟩]⟩,
   ⟨"DEV_CMD", 0x44, 1, 0x0, 1, 0x0,
     [⟨"CMD", 3, 0, .wo, (.val 0), (.oneOf [0, 2, 3, 4, 6, 8, 9, 15])⟩]⟩]

/-- Registers of the DEV page (spec chapter 03), part 2. -/
def rowsDev1 : List Row :=
  [⟨"DEV_STAT", 0x48, 1, 0x0, 1, 0x0,
     [⟨"SENSOR_FAIL", 12, 12, .ro, (.val 0), .any⟩,
      ⟨"WEAR_END", 11, 11, .ro, (.val 0), .any⟩,
      ⟨"ORPHAN_ANY", 10, 10, .ro, (.val 0), .any⟩,
      ⟨"BANK_LOCK_ANY", 9, 9, .ro, (.val 0), .any⟩,
      ⟨"LIFE_ACTIVE", 8, 8, .ro, (.val 0), .any⟩,
      ⟨"FW_TRIAL", 7, 7, .ro, (.val 0), .any⟩,
      ⟨"FALLBACK", 6, 6, .ro, (.val 0), .any⟩,
      ⟨"SAG", 5, 5, .ro, (.val 0), .any⟩,
      ⟨"ENERGY_LIMIT", 4, 4, .ro, (.val 0), .any⟩,
      ⟨"THR_ENFORCE", 3, 3, .ro, (.val 0), .any⟩,
      ⟨"THR_REQUEST", 2, 2, .ro, (.val 0), .any⟩,
      ⟨"REPLACE", 1, 1, .ro, (.val 0), .any⟩,
      ⟨"CLOCK_FAULT", 0, 0, .ro, (.val 0), .any⟩]⟩,
   ⟨"SAFE_CAUSE", 0x4C, 1, 0x0, 1, 0x0,
     [⟨"CAUSE", 5, 0, .ro, (.val 0), .any⟩]⟩,
   ⟨"RESET_CAUSE", 0x50, 1, 0x0, 1, 0x0,
     [⟨"THERM_COUNT", 10, 8, .ro, (.val 0), .any⟩,
      ⟨"CAUSE", 5, 0, .ro, (.val 0), .any⟩]⟩,
   ⟨"STRAPS", 0x54, 1, 0x0, 1, 0x0,
     [⟨"NET_DEF", 4, 4, .ro, (.val 0), .any⟩,
      ⟨"BOOT_SEL", 3, 3, .ro, (.val 0), .any⟩,
      ⟨"SHDN_OPEN", 2, 2, .ro, (.val 0), .any⟩,
      ⟨"SHDN_T", 1, 0, .ro, (.val 0), .any⟩]⟩,
   ⟨"FW_STAT", 0x60, 1, 0x0, 1, 0x0,
     [⟨"ERR", 15, 8, .ro, (.val 0), .any⟩,
      ⟨"UPD_STATE", 7, 4, .ro, (.val 0), .any⟩,
      ⟨"INACTIVE_VALID", 3, 3, .ro, (.val 0), .any⟩,
      ⟨"TRIAL", 2, 2, .ro, (.val 0), .any⟩,
      ⟨"FALLBACK", 1, 1, .ro, (.val 0), .any⟩,
      ⟨"ACTIVE_BANK", 0, 0, .ro, (.val 0), .any⟩]⟩,
   ⟨"FW_VER_A", 0x64, 1, 0x0, 1, 0x0,
     [⟨"VERSION", 31, 0, .ro, (.val 0), .any⟩]⟩,
   ⟨"FW_VER_B", 0x68, 1, 0x0, 1, 0x0,
     [⟨"VERSION", 31, 0, .ro, (.val 0), .any⟩]⟩,
   ⟨"FW_OFFSET", 0x6C, 1, 0x0, 1, 0x0,
     [⟨"OFFSET", 21, 0, .rw, (.val 0), (.mult 256)⟩]⟩,
   ⟨"FW_CMD", 0x70, 1, 0x0, 1, 0x0,
     [⟨"CMD", 2, 0, .wo, (.val 0), (.range 0 5)⟩]⟩,
   ⟨"SELFTEST_RES", 0x74, 1, 0x0, 1, 0x0,
     [⟨"SEQ", 31, 24, .ro, (.val 0), .any⟩,
      ⟨"VALID", 23, 23, .ro, (.val 0), .any⟩,
      ⟨"FAIL", 14, 8, .ro, (.val 0), .any⟩,
      ⟨"PASS", 0, 0, .ro, (.val 0), .any⟩]⟩,
   ⟨"FW_BUF", 0x100, 64, 0x4, 1, 0x0,
     [⟨"DATA", 31, 0, .wo, (.val 0), .any⟩]⟩]

def rowsDev : List Row := rowsDev0 ++ rowsDev1

/-- Registers of the CLK page (spec chapter 16), part 1. -/
def rowsClk0 : List Row :=
  [⟨"PAGE_ID", 0x0, 1, 0x0, 1, 0x0,
     [⟨"BLOCK", 31, 16, .ro, .code, .any⟩,
      ⟨"INSTANCE", 15, 0, .ro, .inst, .any⟩]⟩,
   ⟨"PAGE_VER", 0x4, 1, 0x0, 1, 0x0,
     [⟨"VERSION", 31, 0, .ro, (.val 1), .any⟩]⟩,
   ⟨"PAGE_CTRL", 0x8, 1, 0x0, 1, 0x0,
     [⟨"EN", 0, 0, .ro, (.val 1), .any⟩]⟩,
   ⟨"PAGE_STAT", 0xC, 1, 0x0, 1, 0x0,
     [⟨"TCXO_OK", 3, 3, .ro, (.val 0), .any⟩,
      ⟨"CORE_SRC", 2, 2, .ro, (.val 0), .any⟩,
      ⟨"ROOT_LOCK", 1, 1, .ro, (.val 0), .any⟩,
      ⟨"XREF_STABLE", 0, 0, .ro, (.val 0), .any⟩]⟩,
   ⟨"PAGE_EVT", 0x10, 1, 0x0, 1, 0x0,
     [⟨"FLAGS", 6, 0, .w1c, (.val 0), .any⟩]⟩,
   ⟨"PAGE_EVT_EN", 0x14, 1, 0x0, 1, 0x0,
     [⟨"ENABLES", 31, 0, .rw, (.val 0), .any⟩]⟩,
   ⟨"PAGE_EVT_CNT", 0x18, 1, 0x0, 1, 0x0,
     [⟨"COUNT", 31, 0, .ro, (.val 0), .any⟩]⟩,
   ⟨"PAGE_OWNER", 0x1C, 1, 0x0, 1, 0x0,
     [⟨"SUBMASK", 23, 16, .ro, (.val 0), .any⟩,
      ⟨"LOSS", 10, 9, .ro, (.val 0), .any⟩,
      ⟨"ORPHAN", 8, 8, .ro, (.val 0), .any⟩,
      ⟨"OWNER", 7, 0, .ro, (.val 255), .any⟩]⟩,
   ⟨"PAGE_EPOCH", 0x20, 1, 0x0, 1, 0x0,
     [⟨"EPOCH", 31, 0, .ro, (.val 1), .any⟩]⟩,
   ⟨"PAGE_LOCK", 0x24, 1, 0x0, 1, 0x0,
     [⟨"MODE_LOCK", 8, 0, .ro, (.val 256), .any⟩]⟩,
   ⟨"CLK_EN", 0x40, 1, 0x0, 1, 0x0,
     [⟨"ROOT", 21, 21, .rw, (.val 0), .any⟩,
      ⟨"GNSS", 20, 20, .rw, (.val 0), .any⟩,
      ⟨"FAN", 19, 19, .rw, (.val 0), .any⟩,
      ⟨"LOOP", 18, 18, .rw, (.val 0), .any⟩,
      ⟨"CELL", 17, 17, .rw, (.val 0), .any⟩,
      ⟨"MOIST", 16, 16, .rw, (.val 0), .any⟩,
      ⟨"AI", 15, 15, .rw, (.val 0), .any⟩,
      ⟨"AO", 14, 14, .rw, (.val 0), .any⟩,
      ⟨"DO", 13, 13, .rw, (.val 0), .any⟩,
      ⟨"DI", 12, 12, .rw, (.val 0), .any⟩,
      ⟨"UCODE", 11, 11, .rw, (.val 0), .any⟩,
      ⟨"ACT", 10, 10, .rw, (.val 0), .any⟩,
      ⟨"XFORM", 9, 9, .rw, (.val 0), .any⟩,
      ⟨"WEAR", 8, 8, .rw, (.val 0), .any⟩,
      ⟨"LINK", 7, 7, .ro, (.val 1), .any⟩,
      ⟨"TIME", 6, 6, .rw, (.val 0), .any⟩,
      ⟨"HOST", 5, 5, .ro, (.val 1), .any⟩,
      ⟨"LEDGER", 4, 4, .rw, (.val 0), .any⟩,
      ⟨"DEV, CLK, PWR, THERM", 3, 0, .ro, (.val 15), .any⟩]⟩,
   ⟨"CLK_STAT", 0x44, 1, 0x0, 1, 0x0,
     [⟨"JUDGE_RUN", 27, 24, .ro, (.val 0), .any⟩,
      ⟨"FAULT", 18, 16, .ro, (.val 0), .any⟩,
      ⟨"TCXO_OK", 12, 12, .ro, (.val 0), .any⟩,
      ⟨"CORE_SRC", 8, 8, .ro, (.val 0), .any⟩,
      ⟨"ROOT_LOCK", 4, 4, .ro, (.val 0), .any⟩,
      ⟨"XREF_STABLE", 0, 0, .ro, (.val 0), .any⟩]⟩]

/-- Registers of the CLK page (spec chapter 16), part 2. -/
def rowsClk1 : List Row :=
  [⟨"FAULT_CNT", 0x48, 1, 0x0, 1, 0x0,
     [⟨"COUNT", 31, 0, .ro, (.val 0), .any⟩]⟩,
   ⟨"MUX_FORCED_CNT", 0x4C, 1, 0x0, 1, 0x0,
     [⟨"COUNT", 31, 0, .ro, (.val 0), .any⟩]⟩,
   ⟨"FAULT_REC.SEQ", 0x50, 1, 0x0, 1, 0x0,
     [⟨"SEQ", 31, 24, .ro, (.val 0), .any⟩,
      ⟨"VALID", 23, 23, .ro, (.val 0), .any⟩,
      ⟨"CAUSE", 1, 0, .ro, (.val 0), .any⟩]⟩,
   ⟨"FAULT_REC.STAMP_LO", 0x54, 1, 0x0, 1, 0x0,
     [⟨"STAMP_LO", 31, 0, .ro, (.val 0), .any⟩]⟩,
   ⟨"FAULT_REC.STAMP_HI", 0x58, 1, 0x0, 1, 0x0,
     [⟨"STAMP_HI", 31, 0, .ro, (.val 0), .any⟩]⟩,
   ⟨"FAULT_REC.DURATION", 0x5C, 1, 0x0, 1, 0x0,
     [⟨"DURATION", 31, 0, .ro, (.val 0), .any⟩]⟩,
   ⟨"XREF_MEAS", 0x60, 1, 0x0, 1, 0x0,
     [⟨"SEQ", 31, 24, .ro, (.val 0), .any⟩,
      ⟨"VALID", 23, 23, .ro, (.val 0), .any⟩,
      ⟨"COUNT", 20, 0, .ro, (.val 0), .any⟩]⟩,
   ⟨"TCXO_MEAS", 0x64, 1, 0x0, 1, 0x0,
     [⟨"SEQ", 31, 24, .ro, (.val 0), .any⟩,
      ⟨"VALID", 23, 23, .ro, (.val 0), .any⟩,
      ⟨"DEV", 15, 0, .ro, (.val 0), .any⟩]⟩,
   ⟨"FCNT_CFG", 0x80, 1, 0x0, 1, 0x0,
     [⟨"GATE", 31, 16, .rw, (.val 0x61A8), (.range 1 65535)⟩,
      ⟨"GRP", 11, 8, .rw, (.val 0), (.range 0 11)⟩,
      ⟨"REF", 7, 4, .rw, (.val 0), .any⟩,
      ⟨"SRC", 3, 0, .rw, (.val 1), .any⟩]⟩,
   ⟨"FCNT_CMD", 0x84, 1, 0x0, 1, 0x0,
     [⟨"START", 0, 0, .wo, (.val 0), (.range 0 1)⟩]⟩,
   ⟨"FCNT_RES.SEQ", 0x88, 1, 0x0, 1, 0x0,
     [⟨"SEQ", 31, 24, .ro, (.val 0), .any⟩,
      ⟨"VALID", 23, 23, .ro, (.val 0), .any⟩,
      ⟨"STATE", 18, 16, .ro, (.val 0), .any⟩,
      ⟨"REF", 7, 4, .ro, (.val 0), .any⟩,
      ⟨"SRC", 3, 0, .ro, (.val 0), .any⟩]⟩,
   ⟨"FCNT_RES.COUNT", 0x8C, 1, 0x0, 1, 0x0,
     [⟨"COUNT", 31, 0, .ro, (.val 0), .any⟩]⟩]

/-- Registers of the CLK page (spec chapter 16), part 3. -/
def rowsClk2 : List Row :=
  [⟨"FCNT_RES.FREQ", 0x90, 1, 0x0, 1, 0x0,
     [⟨"FREQ", 31, 0, .ro, (.val 0), .any⟩]⟩]

def rowsClk : List Row := rowsClk0 ++ rowsClk1 ++ rowsClk2

/-- Registers of the PWR page (spec chapter 15), part 1. -/
def rowsPwr0 : List Row :=
  [⟨"PAGE_ID", 0x0, 1, 0x0, 1, 0x0,
     [⟨"BLOCK", 31, 16, .ro, .code, .any⟩,
      ⟨"INSTANCE", 15, 0, .ro, .inst, .any⟩]⟩,
   ⟨"PAGE_VER", 0x4, 1, 0x0, 1, 0x0,
     [⟨"VERSION", 31, 0, .ro, (.val 1), .any⟩]⟩,
   ⟨"PAGE_CTRL", 0x8, 1, 0x0, 1, 0x0,
     [⟨"EN", 0, 0, .ro, (.val 1), .any⟩]⟩,
   ⟨"PAGE_STAT", 0xC, 1, 0x0, 1, 0x0,
     [⟨"VFA_STAGE", 18, 16, .ro, (.val 0), .any⟩,
      ⟨"VFF_UV", 10, 10, .ro, (.val 0), .any⟩,
      ⟨"VFA_OVL", 9, 9, .ro, (.val 0), .any⟩,
      ⟨"VL_LOW", 8, 8, .ro, (.val 0), .any⟩]⟩,
   ⟨"PAGE_EVT", 0x10, 1, 0x0, 1, 0x0,
     [⟨"FLAGS", 10, 0, .w1c, (.val 0), .any⟩]⟩,
   ⟨"PAGE_EVT_EN", 0x14, 1, 0x0, 1, 0x0,
     [⟨"ENABLES", 31, 0, .rw, (.val 0), .any⟩]⟩,
   ⟨"PAGE_EVT_CNT", 0x18, 1, 0x0, 1, 0x0,
     [⟨"COUNT", 31, 0, .ro, (.val 0), .any⟩]⟩,
   ⟨"PAGE_OWNER", 0x1C, 1, 0x0, 1, 0x0,
     [⟨"SUBMASK", 23, 16, .ro, (.val 0), .any⟩,
      ⟨"LOSS", 10, 9, .ro, (.val 0), .any⟩,
      ⟨"ORPHAN", 8, 8, .ro, (.val 0), .any⟩,
      ⟨"OWNER", 7, 0, .ro, (.val 255), .any⟩]⟩,
   ⟨"PAGE_EPOCH", 0x20, 1, 0x0, 1, 0x0,
     [⟨"EPOCH", 31, 0, .ro, (.val 1), .any⟩]⟩,
   ⟨"PAGE_LOCK", 0x24, 1, 0x0, 1, 0x0,
     [⟨"MODE_LOCK", 8, 0, .ro, (.val 256), .any⟩]⟩,
   ⟨"DOM_STAT", 0x40, 1, 0x0, 1, 0x0,
     [⟨"FAULT", 27, 16, .ro, (.val 0), .any⟩,
      ⟨"POWERED", 11, 0, .ro, (.val 0), .any⟩]⟩,
   ⟨"VFA_CFG", 0x44, 1, 0x0, 1, 0x0,
     [⟨"VFA_MIN", 25, 16, .rwc, (.val 180), (.range 160 500)⟩,
      ⟨"VFA_ILIM", 5, 0, .rwc, (.val 10), (.range 1 40)⟩]⟩]

/-- Registers of the PWR page (spec chapter 15), part 2. -/
def rowsPwr1 : List Row :=
  [⟨"VFF_CFG", 0x48, 1, 0x0, 1, 0x0,
     [⟨"VFF_ILIM", 4, 0, .rwc, (.val 8), (.range 1 24)⟩]⟩,
   ⟨"HU_CFG", 0x4C, 1, 0x0, 1, 0x0,
     [⟨"HU_MARGIN", 31, 24, .rwc, (.val 30), (.range 10 200)⟩,
      ⟨"EXT_HU", 15, 0, .rwc, (.val 0), .any⟩]⟩,
   ⟨"SUPPLY.SEQ", 0x60, 1, 0x0, 1, 0x0,
     [⟨"SEQ", 31, 24, .ro, (.val 0), .any⟩,
      ⟨"VALID", 23, 23, .ro, (.val 0), .any⟩]⟩,
   ⟨"SUPPLY.I", 0x64, 1, 0x0, 1, 0x0,
     [⟨"I", 31, 16, .ro, (.val 0), .any⟩,
      ⟨"V", 15, 0, .ro, (.val 0), .any⟩]⟩,
   ⟨"SUPPLY.I", 0x68, 1, 0x0, 1, 0x0,
     [⟨"I", 31, 16, .ro, (.val 0), .any⟩,
      ⟨"V", 15, 0, .ro, (.val 0), .any⟩]⟩,
   ⟨"SUPPLY.I", 0x6C, 1, 0x0, 1, 0x0,
     [⟨"I", 31, 16, .ro, (.val 0), .any⟩,
      ⟨"V", 15, 0, .ro, (.val 0), .any⟩]⟩,
   ⟨"SUPPLY.I", 0x70, 1, 0x0, 1, 0x0,
     [⟨"I", 31, 16, .ro, (.val 0), .any⟩,
      ⟨"V", 15, 0, .ro, (.val 0), .any⟩]⟩,
   ⟨"VFD_STAT", 0x78, 1, 0x0, 1, 0x0,
     [⟨"UV15", 27, 16, .ro, (.val 0), .any⟩,
      ⟨"UV18", 11, 0, .ro, (.val 0), .any⟩]⟩]

def rowsPwr : List Row := rowsPwr0 ++ rowsPwr1

/-- Registers of the THERM page (spec chapter 17), part 1. -/
def rowsTherm0 : List Row :=
  [⟨"PAGE_ID", 0x0, 1, 0x0, 1, 0x0,
     [⟨"BLOCK", 31, 16, .ro, .code, .any⟩,
      ⟨"INSTANCE", 15, 0, .ro, .inst, .any⟩]⟩,
   ⟨"PAGE_VER", 0x4, 1, 0x0, 1, 0x0,
     [⟨"VERSION", 31, 0, .ro, (.val 1), .any⟩]⟩,
   ⟨"PAGE_CTRL", 0x8, 1, 0x0, 1, 0x0,
     [⟨"EN", 0, 0, .ro, (.val 1), .any⟩]⟩,
   ⟨"PAGE_STAT", 0xC, 1, 0x0, 1, 0x0,
     [⟨"BROKEN", 25, 16, .ro, (.val 0), .any⟩,
      ⟨"ENF_SENSOR", 11, 8, .ro, (.val 0), .any⟩,
      ⟨"ENF_LEVEL", 1, 0, .ro, (.val 0), .any⟩]⟩,
   ⟨"PAGE_EVT", 0x10, 1, 0x0, 1, 0x0,
     [⟨"FLAGS", 6, 0, .w1c, (.val 0), .any⟩]⟩,
   ⟨"PAGE_EVT_EN", 0x14, 1, 0x0, 1, 0x0,
     [⟨"ENABLES", 31, 0, .ro, (.val 127), .any⟩]⟩,
   ⟨"PAGE_EVT_CNT", 0x18, 1, 0x0, 1, 0x0,
     [⟨"COUNT", 31, 0, .ro, (.val 0), .any⟩]⟩,
   ⟨"PAGE_OWNER", 0x1C, 1, 0x0, 1, 0x0,
     [⟨"SUBMASK", 23, 16, .ro, (.val 0), .any⟩,
      ⟨"LOSS", 10, 9, .ro, (.val 0), .any⟩,
      ⟨"ORPHAN", 8, 8, .ro, (.val 0), .any⟩,
      ⟨"OWNER", 7, 0, .ro, (.val 255), .any⟩]⟩,
   ⟨"PAGE_EPOCH", 0x20, 1, 0x0, 1, 0x0,
     [⟨"EPOCH", 31, 0, .ro, (.val 1), .any⟩]⟩,
   ⟨"PAGE_LOCK", 0x24, 1, 0x0, 1, 0x0,
     [⟨"MODE_LOCK", 8, 0, .ro, (.val 256), .any⟩]⟩,
   ⟨"THERM_CFG", 0x40, 1, 0x0, 1, 0x0,
     [⟨"GRACE_S", 9, 0, .rwc, (.val 30), (.range 1 600)⟩]⟩,
   ⟨"THERM_STAT", 0x44, 1, 0x0, 1, 0x0,
     [⟨"GRACE_LEFT", 25, 16, .ro, (.val 0), .any⟩,
      ⟨"CRIT_TRIP", 13, 8, .ro, (.val 0), .any⟩,
      ⟨"T_CRIT", 7, 0, .ro, (.val 0), .any⟩]⟩]

/-- Registers of the THERM page (spec chapter 17), part 2. -/
def rowsTherm1 : List Row :=
  [⟨"SHDN_CNT", 0x48, 1, 0x0, 1, 0x0,
     [⟨"COUNT", 31, 0, .ro, (.val 0), .any⟩]⟩,
   ⟨"TS0_CFG", 0x80, 1, 0x0, 1, 0x0,
     [⟨"THR", 31, 16, .rwc, (.val 0x1680), .any⟩,
      ⟨"THR_EN", 8, 8, .rwc, (.val 1), .any⟩,
      ⟨"TYPE", 1, 0, .ro, (.val 1), .any⟩]⟩,
   ⟨"TS1_CFG", 0x84, 1, 0x0, 1, 0x0,
     [⟨"THR", 31, 16, .rwc, (.val 0x1680), .any⟩,
      ⟨"THR_EN", 8, 8, .rwc, (.val 1), .any⟩,
      ⟨"TYPE", 1, 0, .ro, (.val 1), .any⟩]⟩,
   ⟨"TS2_CFG", 0x88, 1, 0x0, 1, 0x0,
     [⟨"THR", 31, 16, .rwc, (.val 0x1540), .any⟩,
      ⟨"THR_EN", 8, 8, .rwc, (.val 1), .any⟩,
      ⟨"TYPE", 1, 0, .ro, (.val 1), .any⟩]⟩,
   ⟨"TS3_CFG", 0x8C, 1, 0x0, 1, 0x0,
     [⟨"THR", 31, 16, .rwc, (.val 0x1680), .any⟩,
      ⟨"THR_EN", 8, 8, .rwc, (.val 1), .any⟩,
      ⟨"TYPE", 1, 0, .ro, (.val 1), .any⟩]⟩,
   ⟨"TS4_CFG", 0x90, 1, 0x0, 1, 0x0,
     [⟨"THR", 31, 16, .rwc, (.val 0x1540), .any⟩,
      ⟨"THR_EN", 8, 8, .rwc, (.val 1), .any⟩,
      ⟨"TYPE", 1, 0, .ro, (.val 1), .any⟩]⟩,
   ⟨"TS5_CFG", 0x94, 1, 0x0, 1, 0x0,
     [⟨"THR", 31, 16, .rwc, (.val 0x1400), .any⟩,
      ⟨"THR_EN", 8, 8, .rwc, (.val 1), .any⟩,
      ⟨"TYPE", 1, 0, .ro, (.val 1), .any⟩]⟩,
   ⟨"TS6_CFG", 0x98, 1, 0x0, 1, 0x0,
     [⟨"THR", 31, 16, .rwc, (.val 0x1180), .any⟩,
      ⟨"THR_EN", 8, 8, .rwc, (.val 0), .any⟩,
      ⟨"TYPE", 1, 0, .rwc, (.val 0), (.range 0 2)⟩]⟩,
   ⟨"TS7_CFG", 0x9C, 1, 0x0, 1, 0x0,
     [⟨"THR", 31, 16, .rwc, (.val 0x1180), .any⟩,
      ⟨"THR_EN", 8, 8, .rwc, (.val 0), .any⟩,
      ⟨"TYPE", 1, 0, .rwc, (.val 0), (.range 0 2)⟩]⟩,
   ⟨"TS8_CFG", 0xA0, 1, 0x0, 1, 0x0,
     [⟨"THR", 31, 16, .rwc, (.val 0x1180), .any⟩,
      ⟨"THR_EN", 8, 8, .rwc, (.val 0), .any⟩,
      ⟨"TYPE", 1, 0, .rwc, (.val 0), (.range 0 2)⟩]⟩,
   ⟨"TS9_CFG", 0xA4, 1, 0x0, 1, 0x0,
     [⟨"THR", 31, 16, .rwc, (.val 0x1180), .any⟩,
      ⟨"THR_EN", 8, 8, .rwc, (.val 0), .any⟩,
      ⟨"TYPE", 1, 0, .rwc, (.val 0), (.range 0 2)⟩]⟩,
   ⟨"EXT_B", 0xB0, 4, 0x4, 1, 0x0,
     [⟨"B", 15, 0, .rwc, (.val 3435), (.range 2000 6000)⟩]⟩]

/-- Registers of the THERM page (spec chapter 17), part 3. -/
def rowsTherm2 : List Row :=
  [⟨"TS_RES", 0x100, 10, 0x4, 1, 0x0,
     [⟨"SEQ", 31, 24, .ro, (.val 0), .any⟩,
      ⟨"VALID", 23, 23, .ro, (.val 0), .any⟩,
      ⟨"STAGE", 21, 20, .ro, (.val 0), .any⟩,
      ⟨"LEVEL", 19, 18, .ro, (.val 0), .any⟩,
      ⟨"BROKEN", 17, 17, .ro, (.val 0), .any⟩,
      ⟨"TEMP", 15, 0, .ro, (.val 0), .any⟩]⟩,
   ⟨"TS_EFF", 0x140, 10, 0x4, 1, 0x0,
     [⟨"DERATED", 16, 16, .ro, (.val 0), .any⟩,
      ⟨"THR_EFF", 15, 0, .ro, (.val 0), .any⟩]⟩]

def rowsTherm : List Row := rowsTherm0 ++ rowsTherm1 ++ rowsTherm2

/-- Registers of the LEDGER page (spec chapter 15), part 1. -/
def rowsLedger0 : List Row :=
  [⟨"PAGE_ID", 0x0, 1, 0x0, 1, 0x0,
     [⟨"BLOCK", 31, 16, .ro, .code, .any⟩,
      ⟨"INSTANCE", 15, 0, .ro, .inst, .any⟩]⟩,
   ⟨"PAGE_VER", 0x4, 1, 0x0, 1, 0x0,
     [⟨"VERSION", 31, 0, .ro, (.val 1), .any⟩]⟩,
   ⟨"PAGE_CTRL", 0x8, 1, 0x0, 1, 0x0,
     [⟨"EN", 0, 0, .ro, (.val 1), .any⟩]⟩,
   ⟨"PAGE_STAT", 0xC, 1, 0x0, 1, 0x0,
     [⟨"ENERGY_LIMIT", 17, 17, .ro, (.val 0), .any⟩,
      ⟨"RUNNING", 16, 16, .ro, (.val 0), .any⟩,
      ⟨"DEFER", 5, 0, .ro, (.val 0), .any⟩]⟩,
   ⟨"PAGE_EVT", 0x10, 1, 0x0, 1, 0x0,
     [⟨"FLAGS", 4, 0, .w1c, (.val 0), .any⟩]⟩,
   ⟨"PAGE_EVT_EN", 0x14, 1, 0x0, 1, 0x0,
     [⟨"ENABLES", 31, 0, .rw, (.val 0), .any⟩]⟩,
   ⟨"PAGE_EVT_CNT", 0x18, 1, 0x0, 1, 0x0,
     [⟨"COUNT", 31, 0, .ro, (.val 0), .any⟩]⟩,
   ⟨"PAGE_OWNER", 0x1C, 1, 0x0, 1, 0x0,
     [⟨"SUBMASK", 23, 16, .ro, (.val 0), .any⟩,
      ⟨"LOSS", 10, 9, .ro, (.val 0), .any⟩,
      ⟨"ORPHAN", 8, 8, .ro, (.val 0), .any⟩,
      ⟨"OWNER", 7, 0, .ro, (.val 255), .any⟩]⟩,
   ⟨"PAGE_EPOCH", 0x20, 1, 0x0, 1, 0x0,
     [⟨"EPOCH", 31, 0, .ro, (.val 1), .any⟩]⟩,
   ⟨"PAGE_LOCK", 0x24, 1, 0x0, 1, 0x0,
     [⟨"MODE_LOCK", 8, 0, .ro, (.val 256), .any⟩]⟩,
   ⟨"LEDGER_CFG", 0x40, 1, 0x0, 1, 0x0,
     [⟨"RECHG_BUDGET", 15, 8, .rwc, (.val 80), (.range 5 200)⟩,
      ⟨"FLOOR", 6, 0, .rwc, (.val 50), (.range 30 90)⟩]⟩,
   ⟨"CONV.SEQ", 0x80, 6, 0x10, 1, 0x0,
     [⟨"SEQ", 31, 24, .ro, (.val 0), .any⟩,
      ⟨"VALID", 23, 23, .ro, (.val 0), .any⟩,
      ⟨"N_DEFER", 15, 8, .ro, (.val 0), .any⟩,
      ⟨"N_PLAN", 7, 0, .ro, (.val 0), .any⟩]⟩]

/-- Registers of the LEDGER page (spec chapter 15), part 2. -/
def rowsLedger1 : List Row :=
  [⟨"CONV.E_RSV", 0x84, 6, 0x10, 1, 0x0,
     [⟨"E_RSV", 31, 16, .ro, (.val 0), .any⟩,
      ⟨"E_ACC", 15, 0, .ro, (.val 0), .any⟩]⟩,
   ⟨"CONV.E_MAX", 0x88, 6, 0x10, 1, 0x0,
     [⟨"E_MAX", 31, 16, .ro, (.val 0), .any⟩,
      ⟨"V_FLOOR", 15, 0, .ro, (.val 0), .any⟩]⟩,
   ⟨"CONV.P_R", 0x8C, 6, 0x10, 1, 0x0,
     [⟨"P_R", 31, 16, .ro, (.val 0), .any⟩,
      ⟨"C_USED", 15, 0, .ro, (.val 0), .any⟩]⟩,
   ⟨"HOLDUP.SEQ", 0xE0, 1, 0x0, 1, 0x0,
     [⟨"SEQ", 31, 24, .ro, (.val 0), .any⟩,
      ⟨"VALID", 23, 23, .ro, (.val 0), .any⟩]⟩,
   ⟨"HOLDUP.E_HU", 0xE4, 1, 0x0, 1, 0x0,
     [⟨"E_HU", 31, 0, .ro, (.val 0), .any⟩]⟩,
   ⟨"HOLDUP.E_SEQ", 0xE8, 1, 0x0, 1, 0x0,
     [⟨"E_SEQ", 31, 16, .ro, (.val 120), .any⟩,
      ⟨"C_HU", 15, 0, .ro, (.val 0), .any⟩]⟩,
   ⟨"USE.SEQ", 0x100, 1, 0x0, 1, 0x0,
     [⟨"SEQ", 31, 24, .ro, (.val 0), .any⟩,
      ⟨"VALID", 23, 23, .ro, (.val 0), .any⟩]⟩,
   ⟨"USE.P", 0x104, 1, 0x0, 1, 0x0,
     [⟨"P", 15, 0, .ro, (.val 0), .any⟩]⟩,
   ⟨"USE.P", 0x108, 1, 0x0, 1, 0x0,
     [⟨"P", 15, 0, .ro, (.val 0), .any⟩]⟩,
   ⟨"USE.P", 0x10C, 1, 0x0, 1, 0x0,
     [⟨"P", 15, 0, .ro, (.val 0), .any⟩]⟩,
   ⟨"USE.P", 0x110, 1, 0x0, 1, 0x0,
     [⟨"P", 15, 0, .ro, (.val 0), .any⟩]⟩,
   ⟨"E_VL", 0x120, 1, 0x0, 1, 0x0,
     [⟨"ENERGY", 31, 0, .ro, (.val 0), .any⟩]⟩]

/-- Registers of the LEDGER page (spec chapter 15), part 3. -/
def rowsLedger2 : List Row :=
  [⟨"E_VFA", 0x124, 1, 0x0, 1, 0x0,
     [⟨"ENERGY", 31, 0, .ro, (.val 0), .any⟩]⟩,
   ⟨"E_VFF", 0x128, 1, 0x0, 1, 0x0,
     [⟨"ENERGY", 31, 0, .ro, (.val 0), .any⟩]⟩,
   ⟨"E_VR", 0x12C, 1, 0x0, 1, 0x0,
     [⟨"ENERGY", 31, 0, .ro, (.val 0), .any⟩]⟩,
   ⟨"DEFER_CNT", 0x140, 1, 0x0, 1, 0x0,
     [⟨"COUNT", 31, 0, .ro, (.val 0), .any⟩]⟩,
   ⟨"DROP_CNT", 0x144, 1, 0x0, 1, 0x0,
     [⟨"COUNT", 31, 0, .ro, (.val 0), .any⟩]⟩,
   ⟨"RCUT_MS", 0x148, 1, 0x0, 1, 0x0,
     [⟨"COUNT", 31, 0, .ro, (.val 0), .any⟩]⟩,
   ⟨"ARB_REFUSE_CNT", 0x14C, 1, 0x0, 1, 0x0,
     [⟨"COUNT", 31, 0, .ro, (.val 0), .any⟩]⟩]

def rowsLedger : List Row := rowsLedger0 ++ rowsLedger1 ++ rowsLedger2

/-- Registers of the HOST page (spec chapter 02), part 1. -/
def rowsHost0 : List Row :=
  [⟨"PAGE_ID", 0x0, 1, 0x0, 1, 0x0,
     [⟨"BLOCK", 31, 16, .ro, .code, .any⟩,
      ⟨"INSTANCE", 15, 0, .ro, .inst, .any⟩]⟩,
   ⟨"PAGE_VER", 0x4, 1, 0x0, 1, 0x0,
     [⟨"VERSION", 31, 0, .ro, (.val 1), .any⟩]⟩,
   ⟨"PAGE_CTRL", 0x8, 1, 0x0, 1, 0x0,
     [⟨"EN", 0, 0, .ro, (.val 1), .any⟩]⟩,
   ⟨"PAGE_STAT", 0xC, 1, 0x0, 1, 0x0,
     [⟨"SPI_OPEN", 8, 8, .ro, (.val 0), .any⟩,
      ⟨"SESS_OPEN", 7, 0, .ro, (.val 0), .any⟩]⟩,
   ⟨"PAGE_EVT", 0x10, 1, 0x0, 1, 0x0,
     [⟨"FLAGS", 2, 0, .w1c, (.val 0), .any⟩]⟩,
   ⟨"PAGE_EVT_EN", 0x14, 1, 0x0, 1, 0x0,
     [⟨"ENABLES", 31, 0, .rw, (.val 0), .any⟩]⟩,
   ⟨"PAGE_EVT_CNT", 0x18, 1, 0x0, 1, 0x0,
     [⟨"COUNT", 31, 0, .ro, (.val 0), .any⟩]⟩,
   ⟨"PAGE_OWNER", 0x1C, 1, 0x0, 1, 0x0,
     [⟨"SUBMASK", 23, 16, .ro, (.val 0), .any⟩,
      ⟨"LOSS", 10, 9, .ro, (.val 0), .any⟩,
      ⟨"ORPHAN", 8, 8, .ro, (.val 0), .any⟩,
      ⟨"OWNER", 7, 0, .ro, (.val 255), .any⟩]⟩,
   ⟨"PAGE_EPOCH", 0x20, 1, 0x0, 1, 0x0,
     [⟨"EPOCH", 31, 0, .ro, (.val 1), .any⟩]⟩,
   ⟨"PAGE_LOCK", 0x24, 1, 0x0, 1, 0x0,
     [⟨"MODE_LOCK", 8, 0, .ro, (.val 0), .any⟩]⟩,
   ⟨"CONFIG_EPOCH", 0x40, 1, 0x0, 1, 0x0,
     [⟨"EPOCH", 31, 0, .ro, (.val 1), .any⟩]⟩,
   ⟨"SESS_OPEN", 0x44, 1, 0x0, 1, 0x0,
     [⟨"OPEN", 7, 0, .ro, (.val 0), .any⟩]⟩]

/-- Registers of the HOST page (spec chapter 02), part 2. -/
def rowsHost1 : List Row :=
  [⟨"LEASE_DEF", 0x48, 1, 0x0, 1, 0x0,
     [⟨"LEASE_MS", 15, 0, .rwc, (.val 2000), (.range 200 60000)⟩]⟩,
   ⟨"SESS_INFO", 0x50, 8, 0x4, 1, 0x0,
     [⟨"LEASE_LEFT", 31, 16, .ro, (.val 0), .any⟩,
      ⟨"MINOR", 15, 12, .ro, (.val 0), .any⟩,
      ⟨"TRANSPORT", 11, 10, .ro, (.val 0), .any⟩,
      ⟨"ROLE", 9, 8, .ro, (.val 0), .any⟩,
      ⟨"SLOT", 3, 0, .ro, (.val 0), .any⟩]⟩,
   ⟨"SESS_HIGH", 0x70, 8, 0x4, 1, 0x0,
     [⟨"H", 31, 0, .ro, (.val 0), .any⟩]⟩,
   ⟨"AUTH_FAIL_CNT", 0x90, 1, 0x0, 1, 0x0,
     [⟨"COUNT", 31, 0, .ro, (.val 0), .any⟩]⟩,
   ⟨"FRAME_ERR_CNT", 0x94, 1, 0x0, 1, 0x0,
     [⟨"COUNT", 31, 0, .ro, (.val 0), .any⟩]⟩,
   ⟨"DUP_CNT", 0x98, 1, 0x0, 1, 0x0,
     [⟨"COUNT", 31, 0, .ro, (.val 0), .any⟩]⟩,
   ⟨"STALE_CNT", 0x9C, 1, 0x0, 1, 0x0,
     [⟨"COUNT", 31, 0, .ro, (.val 0), .any⟩]⟩,
   ⟨"KEY_ROLE0", 0xA0, 1, 0x0, 1, 0x0,
     [⟨"KEY_SET", 3, 3, .ro, (.val 1), .any⟩,
      ⟨"ENABLED", 2, 2, .rwc, (.val 1), .any⟩,
      ⟨"ROLE", 1, 0, .rwc, (.val 3), .any⟩]⟩,
   ⟨"KEY_ROLE", 0xA4, 7, 0x4, 1, 0x0,
     [⟨"KEY_SET", 3, 3, .ro, (.val 0), .any⟩,
      ⟨"ENABLED", 2, 2, .rwc, (.val 0), .any⟩,
      ⟨"ROLE", 1, 0, .rwc, (.val 0), .any⟩]⟩,
   ⟨"KEY_DATA", 0x100, 8, 0x20, 8, 0x4,
     [⟨"KEY_WORD", 31, 0, .wo, (.val 0), .any⟩]⟩]

def rowsHost : List Row := rowsHost0 ++ rowsHost1

/-- Registers of the TIME page (spec chapter 13), part 1. -/
def rowsTime0 : List Row :=
  [⟨"PAGE_ID", 0x0, 1, 0x0, 1, 0x0,
     [⟨"BLOCK", 31, 16, .ro, .code, .any⟩,
      ⟨"INSTANCE", 15, 0, .ro, .inst, .any⟩]⟩,
   ⟨"PAGE_VER", 0x4, 1, 0x0, 1, 0x0,
     [⟨"VERSION", 31, 0, .ro, (.val 1), .any⟩]⟩,
   ⟨"PAGE_CTRL", 0x8, 1, 0x0, 1, 0x0,
     [⟨"EN", 0, 0, .rw, (.val 0), .any⟩]⟩,
   ⟨"PAGE_STAT", 0xC, 1, 0x0, 1, 0x0,
     [⟨"STEPPED", 13, 13, .ro, (.val 0), .any⟩,
      ⟨"TP_RUN", 12, 12, .ro, (.val 0), .any⟩,
      ⟨"SLEWING", 11, 11, .ro, (.val 0), .any⟩,
      ⟨"GNSS_TRUST", 10, 10, .ro, (.val 0), .any⟩,
      ⟨"PTP_TRUST", 9, 9, .ro, (.val 0), .any⟩,
      ⟨"ACTIVE", 5, 4, .ro, (.val 0), .any⟩,
      ⟨"TIME_STATE", 1, 0, .ro, (.val 0), .any⟩]⟩,
   ⟨"PAGE_EVT", 0x10, 1, 0x0, 1, 0x0,
     [⟨"FLAGS", 9, 0, .w1c, (.val 0), .any⟩]⟩,
   ⟨"PAGE_EVT_EN", 0x14, 1, 0x0, 1, 0x0,
     [⟨"ENABLES", 31, 0, .rw, (.val 0), .any⟩]⟩,
   ⟨"PAGE_EVT_CNT", 0x18, 1, 0x0, 1, 0x0,
     [⟨"COUNT", 31, 0, .ro, (.val 0), .any⟩]⟩,
   ⟨"PAGE_OWNER", 0x1C, 1, 0x0, 1, 0x0,
     [⟨"SUBMASK", 23, 16, .ro, (.val 0), .any⟩,
      ⟨"LOSS", 10, 9, .ro, (.val 0), .any⟩,
      ⟨"ORPHAN", 8, 8, .ro, (.val 0), .any⟩,
      ⟨"OWNER", 7, 0, .ro, (.val 255), .any⟩]⟩,
   ⟨"PAGE_EPOCH", 0x20, 1, 0x0, 1, 0x0,
     [⟨"EPOCH", 31, 0, .ro, (.val 1), .any⟩]⟩,
   ⟨"PAGE_LOCK", 0x24, 1, 0x0, 1, 0x0,
     [⟨"MODE_LOCK", 8, 0, .ro, (.val 256), .any⟩]⟩,
   ⟨"TIME.NOW_LO", 0x40, 1, 0x0, 1, 0x0,
     [⟨"NOW_LO", 31, 0, .ro, (.val 0), .any⟩]⟩,
   ⟨"TIME.NOW_HI", 0x44, 1, 0x0, 1, 0x0,
     [⟨"NOW_HI", 31, 0, .ro, (.val 0), .any⟩]⟩]

/-- Registers of the TIME page (spec chapter 13), part 2. -/
def rowsTime1 : List Row :=
  [⟨"TIME.BOUND", 0x48, 1, 0x0, 1, 0x0,
     [⟨"BOUND", 31, 0, .ro, (.val 0xFFFFFFFF), .any⟩]⟩,
   ⟨"TIME.FREQ_EST", 0x4C, 1, 0x0, 1, 0x0,
     [⟨"FREQ_EST", 31, 0, .ro, (.val 0), .any⟩]⟩,
   ⟨"TIME.ADDEND", 0x50, 1, 0x0, 1, 0x0,
     [⟨"ADDEND", 31, 0, .ro, (.val 0), .any⟩]⟩,
   ⟨"SRC_CFG", 0x60, 1, 0x0, 1, 0x0,
     [⟨"GNSS_EN", 9, 9, .rwc, (.val 1), .any⟩,
      ⟨"PTP_EN", 8, 8, .rwc, (.val 1), .any⟩,
      ⟨"RANK", 0, 0, .rwc, (.val 0), .any⟩]⟩,
   ⟨"SERVO_CFG", 0x64, 1, 0x0, 1, 0x0,
     [⟨"SLEW_LIM", 23, 16, .rwc, (.val 50), (.range 1 100)⟩,
      ⟨"SERVO_TAU", 9, 0, .rwc, (.val 60), (.range 10 1000)⟩]⟩,
   ⟨"HO_RATE", 0x68, 1, 0x0, 1, 0x0,
     [⟨"VALUE", 15, 0, .rwc, (.val 578), (.range 1 65535)⟩]⟩,
   ⟨"XCHK_LIM", 0x6C, 1, 0x0, 1, 0x0,
     [⟨"VALUE", 15, 0, .rwc, (.val 1000), (.range 100 65535)⟩]⟩,
   ⟨"GNSS_DELAY", 0x74, 1, 0x0, 1, 0x0,
     [⟨"VALUE", 15, 0, .rwc, (.val 0), (.range 0 10000)⟩]⟩,
   ⟨"SRC_UNC", 0x70, 1, 0x0, 1, 0x0,
     [⟨"GNSS_UNC", 31, 16, .rwc, (.val 60), .any⟩,
      ⟨"PTP_UNC", 15, 0, .rwc, (.val 200), .any⟩]⟩,
   ⟨"UTC_OFS", 0x78, 1, 0x0, 1, 0x0,
     [⟨"VALID", 31, 31, .ro, (.val 0), .any⟩,
      ⟨"SRC", 17, 16, .ro, (.val 0), .any⟩,
      ⟨"OFS", 15, 0, .ro, (.val 0), .any⟩]⟩,
   ⟨"TIME_CMD", 0x80, 1, 0x0, 1, 0x0,
     [⟨"CMD", 1, 0, .wo, (.val 0), (.range 0 2)⟩]⟩,
   ⟨"SET_LO", 0x84, 1, 0x0, 1, 0x0,
     [⟨"TIME", 31, 0, .rw, (.val 0), .any⟩]⟩]

/-- Registers of the TIME page (spec chapter 13), part 3. -/
def rowsTime2 : List Row :=
  [⟨"SET_HI", 0x88, 1, 0x0, 1, 0x0,
     [⟨"TIME", 31, 0, .rw, (.val 0), .any⟩]⟩,
   ⟨"TP_CTRL", 0x90, 1, 0x0, 1, 0x0,
     [⟨"POL", 1, 1, .rw, (.val 0), .any⟩,
      ⟨"TP_EN", 0, 0, .rw, (.val 0), .any⟩]⟩,
   ⟨"TP_TIME", 0x94, 1, 0x0, 1, 0x0,
     [⟨"TP_PER", 31, 16, .rwc, (.val 1000), (.range 1 60000)⟩,
      ⟨"TP_PHASE", 15, 0, .rwc, (.val 0), (.ltField 31 16)⟩]⟩,
   ⟨"TP_WIDTH", 0x98, 1, 0x0, 1, 0x0,
     [⟨"WIDTH", 18, 0, .rwc, (.val 0x186A0), (.range 1 500000)⟩]⟩,
   ⟨"MEAS.SEQ", 0xA0, 1, 0x0, 1, 0x0,
     [⟨"SEQ", 31, 24, .ro, (.val 0), .any⟩,
      ⟨"VALID", 23, 23, .ro, (.val 0), .any⟩]⟩,
   ⟨"MEAS.OFS_PTP", 0xA4, 1, 0x0, 1, 0x0,
     [⟨"OFS_PTP", 31, 0, .ro, (.val 0), .any⟩]⟩,
   ⟨"MEAS.OFS_GNSS", 0xA8, 1, 0x0, 1, 0x0,
     [⟨"OFS_GNSS", 31, 0, .ro, (.val 0), .any⟩]⟩,
   ⟨"MEAS.GNSS_RMS", 0xAC, 1, 0x0, 1, 0x0,
     [⟨"GNSS_RMS", 31, 16, .ro, (.val 0), .any⟩,
      ⟨"PTP_RMS", 15, 0, .ro, (.val 0), .any⟩]⟩,
   ⟨"MEAS.MPD", 0xB0, 1, 0x0, 1, 0x0,
     [⟨"MPD", 31, 0, .ro, (.val 0), .any⟩]⟩,
   ⟨"MEAS.E_REM", 0xB4, 1, 0x0, 1, 0x0,
     [⟨"E_REM", 31, 0, .ro, (.val 0), .any⟩]⟩,
   ⟨"PTP_CFG", 0xC0, 1, 0x0, 1, 0x0,
     [⟨"PRIO2", 31, 24, .rwc, (.val 128), .any⟩,
      ⟨"PRIO1", 23, 16, .rwc, (.val 128), .any⟩,
      ⟨"TC_EN", 10, 10, .rwc, (.val 1), .any⟩,
      ⟨"SLAVE_ONLY", 9, 9, .rwc, (.val 1), .any⟩,
      ⟨"MECH", 8, 8, .rwc, (.val 0), .any⟩,
      ⟨"DOMAIN", 7, 0, .rwc, (.val 0), (.range 0 127)⟩]⟩,
   ⟨"PTP_INT", 0xC4, 1, 0x0, 1, 0x0,
     [⟨"LOG_MINDREQ", 27, 24, .rwc, (.val 0), (.range 0 5)⟩,
      ⟨"CLASS_MAX", 23, 16, .rwc, (.val 7), .any⟩,
      ⟨"ANN_TO", 11, 8, .rwc, (.val 3), (.range 2 10)⟩,
      ⟨"LOG_ANN", 7, 4, .rwc, (.val 1), (.range 0 4)⟩,
      ⟨"LOG_SYNC", 3, 0, .rwc, (.val 0), (.oneOf [0, 1, 15])⟩]⟩]

/-- Registers of the TIME page (spec chapter 13), part 4. -/
def rowsTime3 : List Row :=
  [⟨"ASYM_P1", 0xC8, 1, 0x0, 1, 0x0,
     [⟨"ASYM", 31, 0, .rwc, (.val 0), (.srange 10000 10000)⟩]⟩,
   ⟨"ASYM_P2", 0xCC, 1, 0x0, 1, 0x0,
     [⟨"ASYM", 31, 0, .rwc, (.val 0), (.srange 10000 10000)⟩]⟩,
   ⟨"PTP_STAT", 0xD0, 1, 0x0, 1, 0x0,
     [⟨"GM_CLASS", 31, 24, .ro, (.val 0), .any⟩,
      ⟨"STEPS", 23, 16, .ro, (.val 0), .any⟩,
      ⟨"MASTER_PORT", 9, 8, .ro, (.val 0), .any⟩,
      ⟨"PORT_STATE", 3, 0, .ro, (.val 1), .any⟩]⟩,
   ⟨"GM_ID_LO", 0xD4, 1, 0x0, 1, 0x0,
     [⟨"ID", 31, 0, .ro, (.val 0), .any⟩]⟩,
   ⟨"GM_ID_HI", 0xD8, 1, 0x0, 1, 0x0,
     [⟨"ID", 31, 0, .ro, (.val 0), .any⟩]⟩,
   ⟨"CLOCK_ID_LO", 0xDC, 1, 0x0, 1, 0x0,
     [⟨"ID", 31, 0, .ro, (.val 0), .any⟩]⟩,
   ⟨"CLOCK_ID_HI", 0xE0, 1, 0x0, 1, 0x0,
     [⟨"ID", 31, 0, .ro, (.val 0), .any⟩]⟩,
   ⟨"PDELAY_P1", 0xE4, 1, 0x0, 1, 0x0,
     [⟨"VALUE", 31, 0, .ro, (.val 0), .any⟩]⟩,
   ⟨"PDELAY_P2", 0xE8, 1, 0x0, 1, 0x0,
     [⟨"VALUE", 31, 0, .ro, (.val 0), .any⟩]⟩,
   ⟨"TC_CNT", 0xEC, 1, 0x0, 1, 0x0,
     [⟨"VALUE", 31, 0, .ro, (.val 0), .any⟩]⟩]

def rowsTime : List Row := rowsTime0 ++ rowsTime1 ++ rowsTime2 ++ rowsTime3

/-- Registers of the LINK page (spec chapter 02), part 1. -/
def rowsLink0 : List Row :=
  [⟨"PAGE_ID", 0x0, 1, 0x0, 1, 0x0,
     [⟨"BLOCK", 31, 16, .ro, .code, .any⟩,
      ⟨"INSTANCE", 15, 0, .ro, .inst, .any⟩]⟩,
   ⟨"PAGE_VER", 0x4, 1, 0x0, 1, 0x0,
     [⟨"VERSION", 31, 0, .ro, (.val 1), .any⟩]⟩,
   ⟨"PAGE_CTRL", 0x8, 1, 0x0, 1, 0x0,
     [⟨"EN", 0, 0, .rw, (.val 1), .any⟩]⟩,
   ⟨"PAGE_STAT", 0xC, 1, 0x0, 1, 0x0,
     []⟩,
   ⟨"PAGE_EVT", 0x10, 1, 0x0, 1, 0x0,
     [⟨"FLAGS", 2, 0, .w1c, (.val 0), .any⟩]⟩,
   ⟨"PAGE_EVT_EN", 0x14, 1, 0x0, 1, 0x0,
     [⟨"ENABLES", 31, 0, .rw, (.val 0), .any⟩]⟩,
   ⟨"PAGE_EVT_CNT", 0x18, 1, 0x0, 1, 0x0,
     [⟨"COUNT", 31, 0, .ro, (.val 0), .any⟩]⟩,
   ⟨"PAGE_OWNER", 0x1C, 1, 0x0, 1, 0x0,
     [⟨"SUBMASK", 23, 16, .ro, (.val 0), .any⟩,
      ⟨"LOSS", 10, 9, .ro, (.val 0), .any⟩,
      ⟨"ORPHAN", 8, 8, .ro, (.val 0), .any⟩,
      ⟨"OWNER", 7, 0, .ro, (.val 255), .any⟩]⟩,
   ⟨"PAGE_EPOCH", 0x20, 1, 0x0, 1, 0x0,
     [⟨"EPOCH", 31, 0, .ro, (.val 1), .any⟩]⟩,
   ⟨"PAGE_LOCK", 0x24, 1, 0x0, 1, 0x0,
     [⟨"MODE_LOCK", 8, 0, .ro, (.val 0), .any⟩]⟩,
   ⟨"MAC_ADDR_LO", 0x40, 1, 0x0, 1, 0x0,
     [⟨"MAC_LO", 31, 0, .ro, (.val 0), .any⟩]⟩,
   ⟨"MAC_ADDR_HI", 0x44, 1, 0x0, 1, 0x0,
     [⟨"MAC_HI", 15, 0, .ro, (.val 0), .any⟩]⟩]

/-- Registers of the LINK page (spec chapter 02), part 2. -/
def rowsLink1 : List Row :=
  [⟨"NET_CFG", 0x48, 1, 0x0, 1, 0x0,
     [⟨"USE_STRAP", 1, 1, .rwc, (.val 1), .any⟩,
      ⟨"DHCP", 0, 0, .rwc, (.val 0), .any⟩]⟩,
   ⟨"IP_ADDR", 0x4C, 1, 0x0, 1, 0x0,
     [⟨"ADDR", 31, 0, .rwc, (.val 0xC0A84028), .any⟩]⟩,
   ⟨"IP_MASK", 0x50, 1, 0x0, 1, 0x0,
     [⟨"ADDR", 31, 0, .rwc, (.val 0xFFFFFF00), .any⟩]⟩,
   ⟨"IP_GW", 0x54, 1, 0x0, 1, 0x0,
     [⟨"ADDR", 31, 0, .rwc, (.val 0), .any⟩]⟩,
   ⟨"IP_ACTIVE", 0x58, 1, 0x0, 1, 0x0,
     [⟨"ADDR", 31, 0, .ro, (.val 0), .any⟩]⟩,
   ⟨"PORT_STAT", 0x60, 1, 0x0, 1, 0x0,
     [⟨"DHCP_BOUND", 4, 4, .ro, (.val 0), .any⟩,
      ⟨"P2_FDX", 3, 3, .ro, (.val 0), .any⟩,
      ⟨"P1_FDX", 2, 2, .ro, (.val 0), .any⟩,
      ⟨"P2_LINK", 1, 1, .ro, (.val 0), .any⟩,
      ⟨"P1_LINK", 0, 0, .ro, (.val 0), .any⟩]⟩,
   ⟨"SPI_ERR_CNT", 0x64, 1, 0x0, 1, 0x0,
     [⟨"COUNT", 31, 0, .ro, (.val 0), .any⟩]⟩]

def rowsLink : List Row := rowsLink0 ++ rowsLink1

/-- Registers of the WEAR page (spec chapter 03), part 1. -/
def rowsWear0 : List Row :=
  [⟨"PAGE_ID", 0x0, 1, 0x0, 1, 0x0,
     [⟨"BLOCK", 31, 16, .ro, .code, .any⟩,
      ⟨"INSTANCE", 15, 0, .ro, .inst, .any⟩]⟩,
   ⟨"PAGE_VER", 0x4, 1, 0x0, 1, 0x0,
     [⟨"VERSION", 31, 0, .ro, (.val 1), .any⟩]⟩,
   ⟨"PAGE_CTRL", 0x8, 1, 0x0, 1, 0x0,
     [⟨"EN", 0, 0, .ro, (.val 1), .any⟩]⟩,
   ⟨"PAGE_STAT", 0xC, 1, 0x0, 1, 0x0,
     []⟩,
   ⟨"PAGE_EVT", 0x10, 1, 0x0, 1, 0x0,
     [⟨"FLAGS", 15, 0, .w1c, (.val 0), .any⟩]⟩,
   ⟨"PAGE_EVT_EN", 0x14, 1, 0x0, 1, 0x0,
     [⟨"ENABLES", 31, 0, .ro, (.val 0xFFFF), .any⟩]⟩,
   ⟨"PAGE_EVT_CNT", 0x18, 1, 0x0, 1, 0x0,
     [⟨"COUNT", 31, 0, .ro, (.val 0), .any⟩]⟩,
   ⟨"PAGE_OWNER", 0x1C, 1, 0x0, 1, 0x0,
     [⟨"SUBMASK", 23, 16, .ro, (.val 0), .any⟩,
      ⟨"LOSS", 10, 9, .ro, (.val 0), .any⟩,
      ⟨"ORPHAN", 8, 8, .ro, (.val 0), .any⟩,
      ⟨"OWNER", 7, 0, .ro, (.val 255), .any⟩]⟩,
   ⟨"PAGE_EPOCH", 0x20, 1, 0x0, 1, 0x0,
     [⟨"EPOCH", 31, 0, .ro, (.val 1), .any⟩]⟩,
   ⟨"PAGE_LOCK", 0x24, 1, 0x0, 1, 0x0,
     [⟨"MODE_LOCK", 8, 0, .ro, (.val 0), .any⟩]⟩,
   ⟨"WEAR_IND", 0x40, 8, 0x4, 1, 0x0,
     [⟨"WORST", 31, 24, .ro, (.val 0), .any⟩,
      ⟨"END", 17, 17, .ro, (.val 0), .any⟩,
      ⟨"WARN", 16, 16, .ro, (.val 0), .any⟩,
      ⟨"USED", 15, 0, .ro, (.val 0), .any⟩]⟩,
   ⟨"HOLDUP_MEAS", 0x60, 1, 0x0, 1, 0x0,
     [⟨"SEQ", 31, 24, .ro, (.val 0), .any⟩,
      ⟨"VALID", 23, 23, .ro, (.val 0), .any⟩,
      ⟨"C", 15, 0, .ro, (.val 0), .any⟩]⟩]

/-- Registers of the WEAR page (spec chapter 03), part 2. -/
def rowsWear1 : List Row :=
  [⟨"BOOST_MEAS", 0x64, 6, 0x4, 1, 0x0,
     [⟨"SEQ", 31, 24, .ro, (.val 0), .any⟩,
      ⟨"VALID", 23, 23, .ro, (.val 0), .any⟩,
      ⟨"ESR", 22, 12, .ro, (.val 0), .any⟩,
      ⟨"C", 11, 0, .ro, (.val 0), .any⟩]⟩,
   ⟨"REPL_CFG", 0x80, 1, 0x0, 1, 0x0,
     [⟨"DO_EN", 8, 8, .rwc, (.val 0), .any⟩,
      ⟨"DO_SEL", 4, 0, .rwc, (.val 0), .any⟩]⟩,
   ⟨"RUN_HOURS", 0x84, 1, 0x0, 1, 0x0,
     [⟨"HOURS", 31, 0, .ro, (.val 0), .any⟩]⟩]

def rowsWear : List Row := rowsWear0 ++ rowsWear1

/-- Registers of the XFORM page (spec chapter 01), part 1. -/
def rowsXform0 : List Row :=
  [⟨"PAGE_ID", 0x0, 1, 0x0, 1, 0x0,
     [⟨"BLOCK", 31, 16, .ro, .code, .any⟩,
      ⟨"INSTANCE", 15, 0, .ro, .inst, .any⟩]⟩,
   ⟨"PAGE_VER", 0x4, 1, 0x0, 1, 0x0,
     [⟨"VERSION", 31, 0, .ro, (.val 1), .any⟩]⟩,
   ⟨"PAGE_CTRL", 0x8, 1, 0x0, 1, 0x0,
     [⟨"EN", 0, 0, .ro, (.val 1), .any⟩]⟩,
   ⟨"PAGE_STAT", 0xC, 1, 0x0, 1, 0x0,
     [⟨"WORK", 9, 8, .ro, (.val 0), .any⟩,
      ⟨"MOIST_WAIT", 4, 4, .ro, (.val 0), .any⟩,
      ⟨"POWERED", 0, 0, .ro, (.val 0), .any⟩]⟩,
   ⟨"PAGE_EVT", 0x10, 1, 0x0, 1, 0x0,
     [⟨"FLAGS", 1, 0, .w1c, (.val 0), .any⟩]⟩,
   ⟨"PAGE_EVT_EN", 0x14, 1, 0x0, 1, 0x0,
     [⟨"ENABLES", 31, 0, .rw, (.val 0), .any⟩]⟩,
   ⟨"PAGE_EVT_CNT", 0x18, 1, 0x0, 1, 0x0,
     [⟨"COUNT", 31, 0, .ro, (.val 0), .any⟩]⟩,
   ⟨"PAGE_OWNER", 0x1C, 1, 0x0, 1, 0x0,
     [⟨"SUBMASK", 23, 16, .ro, (.val 0), .any⟩,
      ⟨"LOSS", 10, 9, .ro, (.val 0), .any⟩,
      ⟨"ORPHAN", 8, 8, .ro, (.val 0), .any⟩,
      ⟨"OWNER", 7, 0, .ro, (.val 255), .any⟩]⟩,
   ⟨"PAGE_EPOCH", 0x20, 1, 0x0, 1, 0x0,
     [⟨"EPOCH", 31, 0, .ro, (.val 1), .any⟩]⟩,
   ⟨"PAGE_LOCK", 0x24, 1, 0x0, 1, 0x0,
     [⟨"MODE_LOCK", 8, 0, .ro, (.val 0), .any⟩]⟩,
   ⟨"USE.SEQ", 0x40, 1, 0x0, 1, 0x0,
     [⟨"SEQ", 31, 24, .ro, (.val 0), .any⟩,
      ⟨"VALID", 23, 23, .ro, (.val 0), .any⟩]⟩,
   ⟨"USE.MOIST_US", 0x44, 1, 0x0, 1, 0x0,
     [⟨"MOIST_US", 31, 0, .ro, (.val 0), .any⟩]⟩]

/-- Registers of the XFORM page (spec chapter 01), part 2. -/
def rowsXform1 : List Row :=
  [⟨"USE.GNSS_US", 0x48, 1, 0x0, 1, 0x0,
     [⟨"GNSS_US", 31, 0, .ro, (.val 0), .any⟩]⟩,
   ⟨"XF_WAIT_MAX", 0x4C, 1, 0x0, 1, 0x0,
     [⟨"WAIT", 15, 0, .ro, (.val 0), .any⟩]⟩,
   ⟨"XF_CNT_M", 0x50, 1, 0x0, 1, 0x0,
     [⟨"COUNT", 31, 0, .ro, (.val 0), .any⟩]⟩,
   ⟨"XF_CNT_G", 0x54, 1, 0x0, 1, 0x0,
     [⟨"COUNT", 31, 0, .ro, (.val 0), .any⟩]⟩]

def rowsXform : List Row := rowsXform0 ++ rowsXform1

/-- Registers of the ACT page (spec chapter 07), part 1. -/
def rowsAct0 : List Row :=
  [⟨"PAGE_ID", 0x0, 1, 0x0, 1, 0x0,
     [⟨"BLOCK", 31, 16, .ro, .code, .any⟩,
      ⟨"INSTANCE", 15, 0, .ro, .inst, .any⟩]⟩,
   ⟨"PAGE_VER", 0x4, 1, 0x0, 1, 0x0,
     [⟨"VERSION", 31, 0, .ro, (.val 1), .any⟩]⟩,
   ⟨"PAGE_CTRL", 0x8, 1, 0x0, 1, 0x0,
     [⟨"EN", 0, 0, .rw, (.val 0), .any⟩]⟩,
   ⟨"PAGE_STAT", 0xC, 1, 0x0, 1, 0x0,
     [⟨"QUEUE_LEN", 30, 24, .ro, (.val 0), .any⟩,
      ⟨"SAG", 19, 19, .ro, (.val 0), .any⟩,
      ⟨"WIN_OPEN", 18, 18, .ro, (.val 0), .any⟩,
      ⟨"HS_MODE", 17, 16, .ro, (.val 0), .any⟩,
      ⟨"BANK_LOCK", 12, 12, .ro, (.val 0), .any⟩,
      ⟨"CH_FAULT", 11, 8, .ro, (.val 0), .any⟩,
      ⟨"REG_LS", 7, 4, .ro, (.val 0), .any⟩,
      ⟨"CONDUCT", 3, 0, .ro, (.val 0), .any⟩]⟩,
   ⟨"PAGE_EVT", 0x10, 1, 0x0, 1, 0x0,
     [⟨"FLAGS", 14, 0, .w1c, (.val 0), .any⟩]⟩,
   ⟨"PAGE_EVT_EN", 0x14, 1, 0x0, 1, 0x0,
     [⟨"ENABLES", 31, 0, .rw, (.val 0), .any⟩]⟩,
   ⟨"PAGE_EVT_CNT", 0x18, 1, 0x0, 1, 0x0,
     [⟨"COUNT", 31, 0, .ro, (.val 0), .any⟩]⟩,
   ⟨"PAGE_OWNER", 0x1C, 1, 0x0, 1, 0x0,
     [⟨"SUBMASK", 23, 16, .ro, (.val 0), .any⟩,
      ⟨"LOSS", 10, 9, .ro, (.val 0), .any⟩,
      ⟨"ORPHAN", 8, 8, .ro, (.val 0), .any⟩,
      ⟨"OWNER", 7, 0, .ro, (.val 255), .any⟩]⟩,
   ⟨"PAGE_EPOCH", 0x20, 1, 0x0, 1, 0x0,
     [⟨"EPOCH", 31, 0, .ro, (.val 1), .any⟩]⟩,
   ⟨"PAGE_LOCK", 0x24, 1, 0x0, 1, 0x0,
     [⟨"MODE_LOCK", 8, 0, .ro, (.val 256), .any⟩]⟩,
   ⟨"BANK_CFG", 0x40, 1, 0x0, 1, 0x0,
     [⟨"DIAG_EN", 16, 16, .rwc, (.val 1), .any⟩,
      ⟨"DIAG_MS", 9, 0, .rwc, (.val 100), (.range 10 1000)⟩]⟩,
   ⟨"BOOST_CFG", 0x44, 1, 0x0, 1, 0x0,
     [⟨"BOOST_EN", 16, 16, .rwc, (.val 0), .any⟩,
      ⟨"RECHG_I", 13, 8, .rwc, (.val 20), (.range 5 40)⟩,
      ⟨"BOOST_V", 7, 0, .rwc, (.val 96), (.range 60 130)⟩]⟩]

/-- Registers of the ACT page (spec chapter 07), part 2. -/
def rowsAct1 : List Row :=
  [⟨"BOOST_STAT", 0x48, 1, 0x0, 1, 0x0,
     [⟨"SEQ", 31, 24, .ro, (.val 0), .any⟩,
      ⟨"VALID", 23, 23, .ro, (.val 0), .any⟩,
      ⟨"READY", 17, 17, .ro, (.val 0), .any⟩,
      ⟨"DERATED", 16, 16, .ro, (.val 0), .any⟩,
      ⟨"VRES", 9, 0, .ro, (.val 0), .any⟩]⟩,
   ⟨"LOCK_CLR", 0x4C, 1, 0x0, 1, 0x0,
     [⟨"CLEAR", 0, 0, .wo, (.val 0), (.range 0 1)⟩]⟩,
   ⟨"HS_DIAG", 0x50, 1, 0x0, 1, 0x0,
     [⟨"SEQ", 31, 24, .ro, (.val 0), .any⟩,
      ⟨"VALID", 23, 23, .ro, (.val 0), .any⟩,
      ⟨"CLASS", 18, 16, .ro, (.val 0), .any⟩,
      ⟨"V", 7, 0, .ro, (.val 0), .any⟩]⟩,
   ⟨"LOCK_CAUSE", 0x54, 1, 0x0, 1, 0x0,
     [⟨"CH", 11, 8, .ro, (.val 15), .any⟩,
      ⟨"CAUSE", 2, 0, .ro, (.val 0), .any⟩]⟩,
   ⟨"HS_I", 0x58, 1, 0x0, 1, 0x0,
     [⟨"I_PEAK", 31, 16, .ro, (.val 0), .any⟩,
      ⟨"I_AVG", 15, 0, .ro, (.val 0), .any⟩]⟩,
   ⟨"QRY_ID", 0x60, 1, 0x0, 1, 0x0,
     [⟨"EVENT_ID", 31, 0, .rw, (.val 0), .any⟩]⟩,
   ⟨"QRY_CH", 0x64, 1, 0x0, 1, 0x0,
     [⟨"CH", 1, 0, .rw, (.val 0), .any⟩]⟩,
   ⟨"QRY_RES", 0x68, 1, 0x0, 1, 0x0,
     [⟨"FOUND", 31, 31, .ro, (.val 0), .any⟩,
      ⟨"ESTATE", 25, 24, .ro, (.val 0), .any⟩,
      ⟨"OUTCOME", 7, 0, .ro, (.val 0), .any⟩]⟩,
   ⟨"CH_CFG", 0x100, 4, 0x40, 1, 0x0,
     [⟨"MAX_DELAY", 31, 16, .rwc, (.val 0), .any⟩,
      ⟨"NEWCMD", 2, 2, .rwc, (.val 0), .any⟩,
      ⟨"POLICY", 1, 1, .rwc, (.val 0), .any⟩,
      ⟨"CLASS", 0, 0, .rwc, (.val 0), .any⟩]⟩,
   ⟨"CH_MINOFF", 0x104, 4, 0x40, 1, 0x0,
     [⟨"MIN_OFF", 15, 0, .rwc, (.val 0), .any⟩]⟩,
   ⟨"CH_STAT", 0x108, 4, 0x40, 1, 0x0,
     [⟨"I_NOW", 31, 16, .ro, (.val 0), .any⟩,
      ⟨"FAULTED", 13, 13, .ro, (.val 0), .any⟩,
      ⟨"FAULT", 11, 8, .ro, (.val 0), .any⟩,
      ⟨"PROFILE", 7, 4, .ro, (.val 0), .any⟩,
      ⟨"PHASE", 2, 0, .ro, (.val 0), .any⟩]⟩,
   ⟨"CH_DIAG", 0x10C, 4, 0x40, 1, 0x0,
     [⟨"SEQ", 31, 24, .ro, (.val 0), .any⟩,
      ⟨"VALID", 23, 23, .ro, (.val 0), .any⟩,
      ⟨"CLASS", 18, 16, .ro, (.val 0), .any⟩,
      ⟨"VU", 15, 8, .ro, (.val 0), .any⟩,
      ⟨"VD", 7, 0, .ro, (.val 0), .any⟩]⟩]

/-- Registers of the ACT page (spec chapter 07), part 3. -/
def rowsAct2 : List Row :=
  [⟨"CH_FLT_CLR", 0x110, 4, 0x40, 1, 0x0,
     [⟨"CLEAR", 0, 0, .wo, (.val 0), (.range 0 1)⟩]⟩,
   ⟨"CH_EVT.SEQ", 0x114, 4, 0x40, 1, 0x0,
     [⟨"SEQ", 31, 24, .ro, (.val 0), .any⟩,
      ⟨"VALID", 23, 23, .ro, (.val 0), .any⟩,
      ⟨"ESTATE", 21, 20, .ro, (.val 0), .any⟩,
      ⟨"PROFILE", 19, 16, .ro, (.val 0), .any⟩,
      ⟨"OUTCOME", 15, 8, .ro, (.val 0), .any⟩,
      ⟨"MOTION", 2, 2, .ro, (.val 0), .any⟩,
      ⟨"LOOP", 1, 1, .ro, (.val 0), .any⟩,
      ⟨"DELAYED", 0, 0, .ro, (.val 0), .any⟩]⟩,
   ⟨"CH_EVT.EVENT_ID", 0x118, 4, 0x40, 1, 0x0,
     [⟨"EVENT_ID", 31, 0, .ro, (.val 0), .any⟩]⟩,
   ⟨"CH_EVT.START_LO", 0x11C, 4, 0x40, 1, 0x0,
     [⟨"START_LO", 31, 0, .ro, (.val 0), .any⟩]⟩,
   ⟨"CH_EVT.START_HI", 0x120, 4, 0x40, 1, 0x0,
     [⟨"START_HI", 31, 0, .ro, (.val 0), .any⟩]⟩,
   ⟨"CH_EVT.DELAY", 0x124, 4, 0x40, 1, 0x0,
     [⟨"DELAY", 31, 16, .ro, (.val 0), .any⟩,
      ⟨"PEAK_I", 15, 0, .ro, (.val 0), .any⟩]⟩,
   ⟨"CH_EVT.MOT_T", 0x128, 4, 0x40, 1, 0x0,
     [⟨"MOT_T", 31, 0, .ro, (.val 0), .any⟩]⟩,
   ⟨"CH_EVT.DUR", 0x12C, 4, 0x40, 1, 0x0,
     [⟨"DUR", 31, 0, .ro, (.val 0), .any⟩]⟩,
   ⟨"CH_EVT.E_REGEN", 0x130, 4, 0x40, 1, 0x0,
     [⟨"E_REGEN", 31, 16, .ro, (.val 0), .any⟩,
      ⟨"E_RES", 15, 0, .ro, (.val 0), .any⟩]⟩,
   ⟨"CH_MOT_MEAN", 0x134, 4, 0x40, 1, 0x0,
     [⟨"VALUE", 31, 0, .ro, (.val 0), .any⟩]⟩,
   ⟨"CH_MOT_CNT", 0x138, 4, 0x40, 1, 0x0,
     [⟨"VALUE", 31, 0, .ro, (.val 0), .any⟩]⟩,
   ⟨"CH_NOMOT_CNT", 0x13C, 4, 0x40, 1, 0x0,
     [⟨"VALUE", 31, 0, .ro, (.val 0), .any⟩]⟩]

/-- Registers of the ACT page (spec chapter 07), part 4. -/
def rowsAct3 : List Row :=
  [⟨"PROF_CFG", 0x200, 16, 0x4, 1, 0x0,
     [⟨"EBOOST", 31, 16, .rwc, (.val 0), (.range 0 4650)⟩,
      ⟨"WIN_CLOSE", 15, 15, .rwc, (.val 0), .any⟩,
      ⟨"MOT_EXP", 14, 14, .rwc, (.val 0), .any⟩,
      ⟨"WIN_US", 13, 0, .rwc, (.val 0), (.range 0 10000)⟩]⟩]

def rowsAct : List Row := rowsAct0 ++ rowsAct1 ++ rowsAct2 ++ rowsAct3

/-- Registers of the UCODE page (spec chapter 08), part 1. -/
def rowsUcode0 : List Row :=
  [⟨"PAGE_ID", 0x0, 1, 0x0, 1, 0x0,
     [⟨"BLOCK", 31, 16, .ro, .code, .any⟩,
      ⟨"INSTANCE", 15, 0, .ro, .inst, .any⟩]⟩,
   ⟨"PAGE_VER", 0x4, 1, 0x0, 1, 0x0,
     [⟨"VERSION", 31, 0, .ro, (.val 1), .any⟩]⟩,
   ⟨"PAGE_CTRL", 0x8, 1, 0x0, 1, 0x0,
     [⟨"EN", 0, 0, .ro, (.val 1), .any⟩]⟩,
   ⟨"PAGE_STAT", 0xC, 1, 0x0, 1, 0x0,
     [⟨"ACTIVE", 7, 4, .ro, (.val 0), .any⟩,
      ⟨"VALID", 0, 0, .ro, (.val 0), .any⟩]⟩,
   ⟨"PAGE_EVT", 0x10, 1, 0x0, 1, 0x0,
     [⟨"FLAGS", 5, 0, .w1c, (.val 0), .any⟩]⟩,
   ⟨"PAGE_EVT_EN", 0x14, 1, 0x0, 1, 0x0,
     [⟨"ENABLES", 31, 0, .rw, (.val 0), .any⟩]⟩,
   ⟨"PAGE_EVT_CNT", 0x18, 1, 0x0, 1, 0x0,
     [⟨"COUNT", 31, 0, .ro, (.val 0), .any⟩]⟩,
   ⟨"PAGE_OWNER", 0x1C, 1, 0x0, 1, 0x0,
     [⟨"SUBMASK", 23, 16, .ro, (.val 0), .any⟩,
      ⟨"LOSS", 10, 9, .ro, (.val 0), .any⟩,
      ⟨"ORPHAN", 8, 8, .ro, (.val 0), .any⟩,
      ⟨"OWNER", 7, 0, .ro, (.val 255), .any⟩]⟩,
   ⟨"PAGE_EPOCH", 0x20, 1, 0x0, 1, 0x0,
     [⟨"EPOCH", 31, 0, .ro, (.val 1), .any⟩]⟩,
   ⟨"PAGE_LOCK", 0x24, 1, 0x0, 1, 0x0,
     [⟨"MODE_LOCK", 8, 0, .ro, (.val 256), .any⟩]⟩,
   ⟨"UC_CMD", 0x40, 1, 0x0, 1, 0x0,
     [⟨"VALIDATE", 0, 0, .wo, (.val 0), (.range 0 1)⟩]⟩,
   ⟨"UC_STAT", 0x44, 1, 0x0, 1, 0x0,
     [⟨"ERR_ADDR", 24, 16, .ro, (.val 0), .any⟩,
      ⟨"ERR_CODE", 11, 8, .ro, (.val 0), .any⟩,
      ⟨"VALID", 0, 0, .ro, (.val 0), .any⟩]⟩]

/-- Registers of the UCODE page (spec chapter 08), part 2. -/
def rowsUcode1 : List Row :=
  [⟨"UC_CRC", 0x48, 1, 0x0, 1, 0x0,
     [⟨"CRC", 31, 0, .ro, (.val 0), .any⟩]⟩,
   ⟨"ENTRY", 0x80, 16, 0x4, 1, 0x0,
     [⟨"EN", 31, 31, .rwc, (.val 0), .any⟩,
      ⟨"BAND0", 23, 16, .rwc, (.val 0), .any⟩,
      ⟨"ADDR", 8, 0, .rwc, (.val 0), .any⟩]⟩,
   ⟨"CTX.ACTIVE", 0x100, 4, 0x20, 1, 0x0,
     [⟨"ACTIVE", 31, 31, .ro, (.val 0), .any⟩,
      ⟨"PC", 24, 16, .ro, (.val 0), .any⟩,
      ⟨"PHASE", 14, 12, .ro, (.val 0), .any⟩,
      ⟨"OFFM", 11, 10, .ro, (.val 0), .any⟩,
      ⟨"WAITING", 9, 9, .ro, (.val 0), .any⟩,
      ⟨"ARMED", 8, 8, .ro, (.val 0), .any⟩,
      ⟨"FLAGS", 3, 0, .ro, (.val 0), .any⟩]⟩,
   ⟨"CTX.BAND", 0x104, 4, 0x20, 1, 0x0,
     [⟨"BAND", 27, 20, .ro, (.val 0), .any⟩,
      ⟨"ITGT", 11, 0, .ro, (.val 0), .any⟩]⟩,
   ⟨"CTX.TPH", 0x108, 4, 0x20, 1, 0x0,
     [⟨"TPH", 31, 0, .ro, (.val 0), .any⟩]⟩,
   ⟨"CTX.TEV", 0x10C, 4, 0x20, 1, 0x0,
     [⟨"TEV", 31, 0, .ro, (.val 0), .any⟩]⟩,
   ⟨"CTX.V0", 0x110, 4, 0x20, 1, 0x0,
     [⟨"V0", 31, 0, .ro, (.val 0), .any⟩]⟩,
   ⟨"CTX.V1", 0x114, 4, 0x20, 1, 0x0,
     [⟨"V1", 31, 0, .ro, (.val 0), .any⟩]⟩,
   ⟨"CTX.V2", 0x118, 4, 0x20, 1, 0x0,
     [⟨"V2", 31, 0, .ro, (.val 0), .any⟩]⟩,
   ⟨"CTX.V3", 0x11C, 4, 0x20, 1, 0x0,
     [⟨"V3", 31, 0, .ro, (.val 0), .any⟩]⟩,
   ⟨"CTX_MARK", 0x180, 4, 0x4, 1, 0x0,
     [⟨"SEQ", 31, 24, .ro, (.val 0), .any⟩,
      ⟨"VALID", 23, 23, .ro, (.val 0), .any⟩,
      ⟨"PC", 16, 8, .ro, (.val 0), .any⟩,
      ⟨"CODE", 7, 0, .ro, (.val 0), .any⟩]⟩,
   ⟨"REFUSE_CNT", 0x190, 4, 0x4, 1, 0x0,
     [⟨"COUNT", 31, 0, .ro, (.val 0), .any⟩]⟩]

/-- Registers of the UCODE page (spec chapter 08), part 3. -/
def rowsUcode2 : List Row :=
  [⟨"STORE", 0x800, 512, 0x4, 1, 0x0,
     [⟨"WORD", 31, 0, .rwc, (.val 0), .any⟩]⟩]

def rowsUcode : List Row := rowsUcode0 ++ rowsUcode1 ++ rowsUcode2

/-- Registers of the DI page (spec chapter 12), part 1. -/
def rowsDi0 : List Row :=
  [⟨"PAGE_ID", 0x0, 1, 0x0, 1, 0x0,
     [⟨"BLOCK", 31, 16, .ro, .code, .any⟩,
      ⟨"INSTANCE", 15, 0, .ro, .inst, .any⟩]⟩,
   ⟨"PAGE_VER", 0x4, 1, 0x0, 1, 0x0,
     [⟨"VERSION", 31, 0, .ro, (.val 1), .any⟩]⟩,
   ⟨"PAGE_CTRL", 0x8, 1, 0x0, 1, 0x0,
     [⟨"EN", 0, 0, .rw, (.val 0), .any⟩]⟩,
   ⟨"PAGE_STAT", 0xC, 1, 0x0, 1, 0x0,
     [⟨"LINK_OK", 10, 10, .ro, (.val 0), .any⟩,
      ⟨"UV15", 9, 9, .ro, (.val 0), .any⟩,
      ⟨"UV18", 8, 8, .ro, (.val 0), .any⟩,
      ⟨"INVALID", 7, 0, .ro, (.val 0), .any⟩]⟩,
   ⟨"PAGE_EVT", 0x10, 1, 0x0, 1, 0x0,
     [⟨"FLAGS", 5, 0, .w1c, (.val 0), .any⟩]⟩,
   ⟨"PAGE_EVT_EN", 0x14, 1, 0x0, 1, 0x0,
     [⟨"ENABLES", 31, 0, .rw, (.val 0), .any⟩]⟩,
   ⟨"PAGE_EVT_CNT", 0x18, 1, 0x0, 1, 0x0,
     [⟨"COUNT", 31, 0, .ro, (.val 0), .any⟩]⟩,
   ⟨"PAGE_OWNER", 0x1C, 1, 0x0, 1, 0x0,
     [⟨"SUBMASK", 23, 16, .ro, (.val 0), .any⟩,
      ⟨"LOSS", 10, 9, .ro, (.val 0), .any⟩,
      ⟨"ORPHAN", 8, 8, .ro, (.val 0), .any⟩,
      ⟨"OWNER", 7, 0, .ro, (.val 255), .any⟩]⟩,
   ⟨"PAGE_EPOCH", 0x20, 1, 0x0, 1, 0x0,
     [⟨"EPOCH", 31, 0, .ro, (.val 1), .any⟩]⟩,
   ⟨"PAGE_LOCK", 0x24, 1, 0x0, 1, 0x0,
     [⟨"MODE_LOCK", 8, 0, .ro, (.val 256), .any⟩]⟩,
   ⟨"DI_LEVEL", 0x40, 1, 0x0, 1, 0x0,
     [⟨"SEQ", 31, 24, .ro, (.val 0), .any⟩,
      ⟨"VALID", 23, 23, .ro, (.val 0), .any⟩,
      ⟨"INV", 15, 8, .ro, (.val 0), .any⟩,
      ⟨"LEVEL", 7, 0, .ro, (.val 0), .any⟩]⟩,
   ⟨"DI_RAW", 0x44, 1, 0x0, 1, 0x0,
     [⟨"RAW", 7, 0, .ro, (.val 0), .any⟩]⟩]

/-- Registers of the DI page (spec chapter 12), part 2. -/
def rowsDi1 : List Row :=
  [⟨"PULSE_CFG", 0x48, 1, 0x0, 1, 0x0,
     [⟨"PERIOD", 13, 0, .rwc, (.val 1000), (.range 10 10000)⟩]⟩,
   ⟨"EDGE_NEWEST", 0x4C, 1, 0x0, 1, 0x0,
     [⟨"VALUE", 31, 0, .ro, (.val 0), .any⟩]⟩,
   ⟨"LINK_ERR_CNT", 0x50, 1, 0x0, 1, 0x0,
     [⟨"VALUE", 31, 0, .ro, (.val 0), .any⟩]⟩,
   ⟨"CH_CFG", 0x80, 8, 0x4, 1, 0x0,
     [⟨"DEB", 31, 16, .rwc, (.val 1000), .any⟩,
      ⟨"STAMP", 9, 8, .rwc, (.val 0), .any⟩,
      ⟨"PULSED", 1, 1, .rwc, (.val 0), .any⟩,
      ⟨"TYPE", 0, 0, .rwc, (.val 0), .any⟩]⟩,
   ⟨"CNT_CFG", 0x100, 2, 0x20, 1, 0x0,
     [⟨"FTIMEOUT", 31, 16, .rwc, (.val 2000), (.range 1 65535)⟩,
      ⟨"FGATE", 13, 4, .rwc, (.val 100), (.range 1 1000)⟩,
      ⟨"EDGE", 2, 1, .rwc, (.val 1), (.range 1 3)⟩,
      ⟨"CNT_EN", 0, 0, .rwc, (.val 0), .any⟩]⟩,
   ⟨"CNT_CLR", 0x104, 2, 0x20, 1, 0x0,
     [⟨"CLEAR", 0, 0, .wo, (.val 0), (.range 0 1)⟩]⟩,
   ⟨"CNT_RES.SEQ", 0x108, 2, 0x20, 1, 0x0,
     [⟨"SEQ", 31, 24, .ro, (.val 0), .any⟩,
      ⟨"VALID", 23, 23, .ro, (.val 0), .any⟩,
      ⟨"STOP", 1, 1, .ro, (.val 0), .any⟩,
      ⟨"INVALID", 0, 0, .ro, (.val 0), .any⟩]⟩,
   ⟨"CNT_RES.COUNT", 0x10C, 2, 0x20, 1, 0x0,
     [⟨"COUNT", 31, 0, .ro, (.val 0), .any⟩]⟩,
   ⟨"CNT_RES.FREQ", 0x110, 2, 0x20, 1, 0x0,
     [⟨"FREQ", 31, 0, .ro, (.val 0), .any⟩]⟩,
   ⟨"CNT_RES.STAMP_LO", 0x114, 2, 0x20, 1, 0x0,
     [⟨"STAMP_LO", 31, 0, .ro, (.val 0), .any⟩]⟩,
   ⟨"CNT_RES.STAMP_HI", 0x118, 2, 0x20, 1, 0x0,
     [⟨"STAMP_HI", 31, 0, .ro, (.val 0), .any⟩]⟩,
   ⟨"EDGE_RING", 0x800, 512, 0x4, 1, 0x0,
     [⟨"WORD", 31, 0, .ro, (.val 0), .any⟩]⟩]

def rowsDi : List Row := rowsDi0 ++ rowsDi1

/-- Registers of the DO page (spec chapter 12), part 1. -/
def rowsDio0 : List Row :=
  [⟨"PAGE_ID", 0x0, 1, 0x0, 1, 0x0,
     [⟨"BLOCK", 31, 16, .ro, .code, .any⟩,
      ⟨"INSTANCE", 15, 0, .ro, .inst, .any⟩]⟩,
   ⟨"PAGE_VER", 0x4, 1, 0x0, 1, 0x0,
     [⟨"VERSION", 31, 0, .ro, (.val 1), .any⟩]⟩,
   ⟨"PAGE_CTRL", 0x8, 1, 0x0, 1, 0x0,
     [⟨"EN", 0, 0, .rw, (.val 0), .any⟩]⟩,
   ⟨"PAGE_STAT", 0xC, 1, 0x0, 1, 0x0,
     [⟨"LINK_OK", 18, 18, .ro, (.val 0), .any⟩,
      ⟨"UV15", 17, 17, .ro, (.val 0), .any⟩,
      ⟨"UV18", 16, 16, .ro, (.val 0), .any⟩,
      ⟨"SAFE_ACT", 15, 8, .ro, (.val 0), .any⟩,
      ⟨"ON", 7, 0, .ro, (.val 0), .any⟩]⟩,
   ⟨"PAGE_EVT", 0x10, 1, 0x0, 1, 0x0,
     [⟨"FLAGS", 11, 0, .w1c, (.val 0), .any⟩]⟩,
   ⟨"PAGE_EVT_EN", 0x14, 1, 0x0, 1, 0x0,
     [⟨"ENABLES", 31, 0, .rw, (.val 0), .any⟩]⟩,
   ⟨"PAGE_EVT_CNT", 0x18, 1, 0x0, 1, 0x0,
     [⟨"COUNT", 31, 0, .ro, (.val 0), .any⟩]⟩,
   ⟨"PAGE_OWNER", 0x1C, 1, 0x0, 1, 0x0,
     [⟨"SUBMASK", 23, 16, .ro, (.val 0), .any⟩,
      ⟨"LOSS", 10, 9, .ro, (.val 0), .any⟩,
      ⟨"ORPHAN", 8, 8, .ro, (.val 0), .any⟩,
      ⟨"OWNER", 7, 0, .ro, (.val 255), .any⟩]⟩,
   ⟨"PAGE_EPOCH", 0x20, 1, 0x0, 1, 0x0,
     [⟨"EPOCH", 31, 0, .ro, (.val 1), .any⟩]⟩,
   ⟨"PAGE_LOCK", 0x24, 1, 0x0, 1, 0x0,
     [⟨"MODE_LOCK", 8, 0, .ro, (.val 256), .any⟩]⟩,
   ⟨"GRP_CFG", 0x40, 1, 0x0, 1, 0x0,
     [⟨"SIL_MS", 9, 0, .rwc, (.val 50), (.range 1 1000)⟩]⟩,
   ⟨"LINK_ERR_CNT", 0x44, 1, 0x0, 1, 0x0,
     [⟨"COUNT", 31, 0, .ro, (.val 0), .any⟩]⟩]

/-- Registers of the DO page (spec chapter 12), part 2. -/
def rowsDio1 : List Row :=
  [⟨"OUT_CFG", 0x100, 8, 0x40, 1, 0x0,
     [⟨"SAFE", 31, 30, .rwc, (.val 0), (.range 0 2)⟩,
      ⟨"SRC", 25, 24, .rwc, (.val 0), (.range 0 2)⟩,
      ⟨"MODE", 21, 20, .rwc, (.val 0), (.range 0 2)⟩,
      ⟨"INV_ACT", 16, 16, .rwc, (.val 0), .any⟩,
      ⟨"RETRY", 8, 8, .rwc, (.val 0), .any⟩,
      ⟨"OPEN_EN", 4, 4, .rwc, (.val 0), .any⟩]⟩,
   ⟨"OUT_SET", 0x104, 8, 0x40, 1, 0x0,
     [⟨"VALUE", 23, 0, .rw, (.val 0), .any⟩]⟩,
   ⟨"OUT_LOOP", 0x108, 8, 0x40, 1, 0x0,
     [⟨"VALUE", 23, 0, .ro, (.val 0), .any⟩]⟩,
   ⟨"OUT_PWM", 0x10C, 8, 0x40, 1, 0x0,
     [⟨"PWM_PER", 13, 0, .rwc, (.val 1000), (.range 1 10000)⟩]⟩,
   ⟨"OUT_MIR_SEL", 0x110, 8, 0x40, 1, 0x0,
     [⟨"KIND", 31, 24, .rwc, (.val 0), .any⟩,
      ⟨"INST", 23, 16, .rwc, (.val 0), .any⟩,
      ⟨"ITEM", 15, 8, .rwc, (.val 0), .any⟩]⟩,
   ⟨"OUT_MIR_AGE", 0x114, 8, 0x40, 1, 0x0,
     [⟨"VALUE", 15, 0, .rwc, (.val 2000), (.range 1 65535)⟩]⟩,
   ⟨"OUT_MIR_GAIN", 0x118, 8, 0x40, 1, 0x0,
     [⟨"VALUE", 31, 0, .rwc, (.val 0x3F800000), .finite⟩]⟩,
   ⟨"OUT_MIR_OFS", 0x11C, 8, 0x40, 1, 0x0,
     [⟨"VALUE", 31, 0, .rwc, (.val 0), .finite⟩]⟩,
   ⟨"OUT_STAT", 0x120, 8, 0x40, 1, 0x0,
     [⟨"RB", 17, 17, .ro, (.val 0), .any⟩,
      ⟨"ON", 16, 16, .ro, (.val 0), .any⟩,
      ⟨"SAFE_ACT", 15, 15, .ro, (.val 0), .any⟩,
      ⟨"FLAGS", 7, 0, .ro, (.val 0), .any⟩]⟩,
   ⟨"OUT_APPLIED", 0x124, 8, 0x40, 1, 0x0,
     [⟨"VALUE", 31, 0, .ro, (.val 0), .any⟩]⟩,
   ⟨"OUT_SW_CNT", 0x128, 8, 0x40, 1, 0x0,
     [⟨"VALUE", 31, 0, .ro, (.val 0), .any⟩]⟩,
   ⟨"OUT_FLT_CLR", 0x12C, 8, 0x40, 1, 0x0,
     [⟨"CLEAR", 0, 0, .wo, (.val 0), (.range 0 1)⟩]⟩]

def rowsDio : List Row := rowsDio0 ++ rowsDio1

/-- Registers of the AO page (spec chapter 06), part 1. -/
def rowsAo0 : List Row :=
  [⟨"PAGE_ID", 0x0, 1, 0x0, 1, 0x0,
     [⟨"BLOCK", 31, 16, .ro, .code, .any⟩,
      ⟨"INSTANCE", 15, 0, .ro, .inst, .any⟩]⟩,
   ⟨"PAGE_VER", 0x4, 1, 0x0, 1, 0x0,
     [⟨"VERSION", 31, 0, .ro, (.val 1), .any⟩]⟩,
   ⟨"PAGE_CTRL", 0x8, 1, 0x0, 1, 0x0,
     [⟨"EN", 0, 0, .rw, (.val 0), .any⟩]⟩,
   ⟨"PAGE_STAT", 0xC, 1, 0x0, 1, 0x0,
     [⟨"OUT_SAFE", 15, 8, .ro, (.val 0), .any⟩,
      ⟨"REFRESH_TO", 2, 2, .ro, (.val 0), .any⟩,
      ⟨"CLK_FB", 1, 1, .ro, (.val 0), .any⟩]⟩,
   ⟨"PAGE_EVT", 0x10, 1, 0x0, 1, 0x0,
     [⟨"FLAGS", 3, 0, .w1c, (.val 0), .any⟩]⟩,
   ⟨"PAGE_EVT_EN", 0x14, 1, 0x0, 1, 0x0,
     [⟨"ENABLES", 31, 0, .rw, (.val 0), .any⟩]⟩,
   ⟨"PAGE_EVT_CNT", 0x18, 1, 0x0, 1, 0x0,
     [⟨"COUNT", 31, 0, .ro, (.val 0), .any⟩]⟩,
   ⟨"PAGE_OWNER", 0x1C, 1, 0x0, 1, 0x0,
     [⟨"SUBMASK", 23, 16, .ro, (.val 0), .any⟩,
      ⟨"LOSS", 10, 9, .ro, (.val 0), .any⟩,
      ⟨"ORPHAN", 8, 8, .ro, (.val 0), .any⟩,
      ⟨"OWNER", 7, 0, .ro, (.val 255), .any⟩]⟩,
   ⟨"PAGE_EPOCH", 0x20, 1, 0x0, 1, 0x0,
     [⟨"EPOCH", 31, 0, .ro, (.val 1), .any⟩]⟩,
   ⟨"PAGE_LOCK", 0x24, 1, 0x0, 1, 0x0,
     [⟨"MODE_LOCK", 8, 0, .ro, (.val 256), .any⟩]⟩,
   ⟨"AO_SET", 0x40, 8, 0x4, 1, 0x0,
     [⟨"CODE", 15, 0, .rw, (.val 0), (.range 0 60000)⟩]⟩,
   ⟨"AO_SAFE", 0x60, 8, 0x4, 1, 0x0,
     [⟨"CODE", 15, 0, .rwc, (.val 0), (.range 0 60000)⟩]⟩]

/-- Registers of the AO page (spec chapter 06), part 2. -/
def rowsAo1 : List Row :=
  [⟨"AO_RB", 0x80, 8, 0x4, 1, 0x0,
     [⟨"SEQ", 31, 24, .ro, (.val 0), .any⟩,
      ⟨"VALID", 23, 23, .ro, (.val 0), .any⟩,
      ⟨"SHORT_SUP", 17, 17, .ro, (.val 0), .any⟩,
      ⟨"OPEN", 16, 16, .ro, (.val 0), .any⟩,
      ⟨"CODE", 15, 0, .ro, (.val 0), .any⟩]⟩]

def rowsAo : List Row := rowsAo0 ++ rowsAo1

/-- Registers of the AI page (spec chapter 06), part 1. -/
def rowsAi0 : List Row :=
  [⟨"PAGE_ID", 0x0, 1, 0x0, 1, 0x0,
     [⟨"BLOCK", 31, 16, .ro, .code, .any⟩,
      ⟨"INSTANCE", 15, 0, .ro, .inst, .any⟩]⟩,
   ⟨"PAGE_VER", 0x4, 1, 0x0, 1, 0x0,
     [⟨"VERSION", 31, 0, .ro, (.val 1), .any⟩]⟩,
   ⟨"PAGE_CTRL", 0x8, 1, 0x0, 1, 0x0,
     [⟨"EN", 0, 0, .rw, (.val 0), .any⟩]⟩,
   ⟨"PAGE_STAT", 0xC, 1, 0x0, 1, 0x0,
     [⟨"RANGE_NEXT", 15, 8, .ro, (.val 0), .any⟩,
      ⟨"ACTIVE", 5, 4, .ro, (.val 0), .any⟩,
      ⟨"CLK_FB", 1, 1, .ro, (.val 0), .any⟩,
      ⟨"LINK_OK", 0, 0, .ro, (.val 0), .any⟩]⟩,
   ⟨"PAGE_EVT", 0x10, 1, 0x0, 1, 0x0,
     [⟨"FLAGS", 9, 0, .w1c, (.val 0), .any⟩]⟩,
   ⟨"PAGE_EVT_EN", 0x14, 1, 0x0, 1, 0x0,
     [⟨"ENABLES", 31, 0, .rw, (.val 0), .any⟩]⟩,
   ⟨"PAGE_EVT_CNT", 0x18, 1, 0x0, 1, 0x0,
     [⟨"COUNT", 31, 0, .ro, (.val 0), .any⟩]⟩,
   ⟨"PAGE_OWNER", 0x1C, 1, 0x0, 1, 0x0,
     [⟨"SUBMASK", 23, 16, .ro, (.val 0), .any⟩,
      ⟨"LOSS", 10, 9, .ro, (.val 0), .any⟩,
      ⟨"ORPHAN", 8, 8, .ro, (.val 0), .any⟩,
      ⟨"OWNER", 7, 0, .ro, (.val 255), .any⟩]⟩,
   ⟨"PAGE_EPOCH", 0x20, 1, 0x0, 1, 0x0,
     [⟨"EPOCH", 31, 0, .ro, (.val 1), .any⟩]⟩,
   ⟨"PAGE_LOCK", 0x24, 1, 0x0, 1, 0x0,
     [⟨"MODE_LOCK", 8, 0, .ro, (.val 256), .any⟩]⟩,
   ⟨"REF_CAL", 0x40, 3, 0x4, 1, 0x0,
     [⟨"RREF", 31, 0, .ro, (.val 0), .any⟩]⟩,
   ⟨"LINK_ERR_CNT", 0x4C, 1, 0x0, 1, 0x0,
     [⟨"COUNT", 31, 0, .ro, (.val 0), .any⟩]⟩]

/-- Registers of the AI page (spec chapter 06), part 2. -/
def rowsAi1 : List Row :=
  [⟨"CH_CFG", 0x80, 4, 0x20, 1, 0x0,
     [⟨"CH_EN", 31, 31, .rw, (.val 0), .any⟩,
      ⟨"RANGE_MODE", 18, 16, .rwc, (.val 0), (.range 0 4)⟩,
      ⟨"PT", 12, 12, .rwc, (.val 0), .any⟩,
      ⟨"TYPE", 3, 0, .rwc, (.val 0), (.range 0 7)⟩]⟩,
   ⟨"CH_TIME", 0x84, 4, 0x20, 1, 0x0,
     [⟨"SETTLE", 31, 20, .rwc, (.val 100), (.range 10 4095)⟩,
      ⟨"DISCH_US", 18, 10, .rwc, (.val 50), (.range 10 500)⟩,
      ⟨"GATE_MS", 9, 0, .rwc, (.val 100), (.range 1 1000)⟩]⟩,
   ⟨"CH_LEAD2", 0x88, 4, 0x20, 1, 0x0,
     [⟨"LEAD2", 31, 0, .rwc, (.val 0), (.range 0x0 0x42480000)⟩]⟩,
   ⟨"CH_SH_A", 0x8C, 4, 0x20, 1, 0x0,
     [⟨"COEF", 31, 0, .rwc, (.val 0x3A93FFEB), .any⟩]⟩,
   ⟨"CH_SH_B", 0x90, 4, 0x20, 1, 0x0,
     [⟨"COEF", 31, 0, .rwc, (.val 0x39757F73), .any⟩]⟩,
   ⟨"CH_SH_C", 0x94, 4, 0x20, 1, 0x0,
     [⟨"COEF", 31, 0, .rwc, (.val 0x33BC4759), .any⟩]⟩,
   ⟨"CH_SCALE_K", 0x98, 4, 0x20, 1, 0x0,
     [⟨"VALUE", 31, 0, .rwc, (.val 0x3F800000), .finite⟩]⟩,
   ⟨"CH_SCALE_D", 0x9C, 4, 0x20, 1, 0x0,
     [⟨"VALUE", 31, 0, .rwc, (.val 0), .finite⟩]⟩,
   ⟨"CH_LEAD_CMD", 0x100, 4, 0x10, 1, 0x0,
     [⟨"CMD", 1, 0, .wo, (.val 0), (.range 0 2)⟩]⟩,
   ⟨"CH_LEAD_STAT", 0x104, 4, 0x10, 1, 0x0,
     [⟨"SEQ", 31, 24, .ro, (.val 0), .any⟩,
      ⟨"VALID", 23, 23, .ro, (.val 0), .any⟩,
      ⟨"STATE", 2, 0, .ro, (.val 0), .any⟩]⟩,
   ⟨"CH_LEAD_MEAS", 0x108, 4, 0x10, 1, 0x0,
     [⟨"LEAD", 31, 0, .ro, (.val 0), .any⟩]⟩,
   ⟨"CH_RES.SEQ", 0x200, 4, 0x40, 1, 0x0,
     [⟨"SEQ", 31, 24, .ro, (.val 0), .any⟩,
      ⟨"VALID", 23, 23, .ro, (.val 0), .any⟩,
      ⟨"RANGE", 21, 20, .ro, (.val 0), .any⟩,
      ⟨"FLAGS", 3, 0, .ro, (.val 0), .any⟩]⟩]

/-- Registers of the AI page (spec chapter 06), part 3. -/
def rowsAi2 : List Row :=
  [⟨"CH_RES.STAMP_LO", 0x204, 4, 0x40, 1, 0x0,
     [⟨"STAMP_LO", 31, 0, .ro, (.val 0), .any⟩]⟩,
   ⟨"CH_RES.STAMP_HI", 0x208, 4, 0x40, 1, 0x0,
     [⟨"STAMP_HI", 31, 0, .ro, (.val 0), .any⟩]⟩,
   ⟨"CH_RES.COUNT", 0x20C, 4, 0x40, 1, 0x0,
     [⟨"COUNT", 31, 0, .ro, (.val 0), .any⟩]⟩,
   ⟨"CH_RES.FREQ", 0x210, 4, 0x40, 1, 0x0,
     [⟨"FREQ", 31, 0, .ro, (.val 0), .any⟩]⟩,
   ⟨"CH_RES.VALUE", 0x214, 4, 0x40, 1, 0x0,
     [⟨"VALUE", 31, 0, .ro, (.val 0), .any⟩]⟩,
   ⟨"CH_RES.SCALED", 0x218, 4, 0x40, 1, 0x0,
     [⟨"SCALED", 31, 0, .ro, (.val 0), .any⟩]⟩,
   ⟨"CH_RES.LEAD", 0x21C, 4, 0x40, 1, 0x0,
     [⟨"LEAD", 31, 0, .ro, (.val 0), .any⟩]⟩]

def rowsAi : List Row := rowsAi0 ++ rowsAi1 ++ rowsAi2

/-- Registers of the MOIST page (spec chapter 05), part 1. -/
def rowsMoist0 : List Row :=
  [⟨"PAGE_ID", 0x0, 1, 0x0, 1, 0x0,
     [⟨"BLOCK", 31, 16, .ro, .code, .any⟩,
      ⟨"INSTANCE", 15, 0, .ro, .inst, .any⟩]⟩,
   ⟨"PAGE_VER", 0x4, 1, 0x0, 1, 0x0,
     [⟨"VERSION", 31, 0, .ro, (.val 1), .any⟩]⟩,
   ⟨"PAGE_CTRL", 0x8, 1, 0x0, 1, 0x0,
     [⟨"EN", 0, 0, .rw, (.val 0), .any⟩]⟩,
   ⟨"PAGE_STAT", 0xC, 1, 0x0, 1, 0x0,
     []⟩,
   ⟨"PAGE_EVT", 0x10, 1, 0x0, 1, 0x0,
     [⟨"FLAGS", 7, 0, .w1c, (.val 0), .any⟩]⟩,
   ⟨"PAGE_EVT_EN", 0x14, 1, 0x0, 1, 0x0,
     [⟨"ENABLES", 31, 0, .rw, (.val 0), .any⟩]⟩,
   ⟨"PAGE_EVT_CNT", 0x18, 1, 0x0, 1, 0x0,
     [⟨"COUNT", 31, 0, .ro, (.val 0), .any⟩]⟩,
   ⟨"PAGE_OWNER", 0x1C, 1, 0x0, 1, 0x0,
     [⟨"SUBMASK", 23, 16, .ro, (.val 0), .any⟩,
      ⟨"LOSS", 10, 9, .ro, (.val 0), .any⟩,
      ⟨"ORPHAN", 8, 8, .ro, (.val 0), .any⟩,
      ⟨"OWNER", 7, 0, .ro, (.val 255), .any⟩]⟩,
   ⟨"PAGE_EPOCH", 0x20, 1, 0x0, 1, 0x0,
     [⟨"EPOCH", 31, 0, .ro, (.val 1), .any⟩]⟩,
   ⟨"PAGE_LOCK", 0x24, 1, 0x0, 1, 0x0,
     [⟨"MODE_LOCK", 8, 0, .ro, (.val 256), .any⟩]⟩,
   ⟨"MCFG", 0x40, 16, 0x4, 1, 0x0,
     [⟨"CAP_N", 31, 24, .rwc, (.val 25), (.range 1 250)⟩,
      ⟨"RESID_EN", 17, 17, .rwc, (.val 0), .any⟩,
      ⟨"TSRC", 16, 16, .rwc, (.val 0), .any⟩,
      ⟨"AVG_N", 14, 8, .rwc, (.val 1), (.range 1 64)⟩,
      ⟨"MEN", 7, 7, .rwc, (.val 0), .any⟩,
      ⟨"GTYPE", 4, 0, .rwc, (.val 0), .any⟩]⟩,
   ⟨"TFIX", 0x80, 16, 0x4, 1, 0x0,
     [⟨"TEMP", 15, 0, .rwc, (.val 1600), .any⟩]⟩]

/-- Registers of the MOIST page (spec chapter 05), part 2. -/
def rowsMoist1 : List Row :=
  [⟨"C0", 0xC0, 16, 0x4, 1, 0x0,
     [⟨"C0", 31, 0, .rwc, (.val 0), .c0⟩]⟩,
   ⟨"CMD", 0x100, 16, 0x4, 1, 0x0,
     [⟨"CMD", 1, 0, .wo, (.val 0), (.range 0 3)⟩]⟩,
   ⟨"GT_CMD", 0x140, 1, 0x0, 1, 0x0,
     [⟨"GTYPE", 12, 8, .wo, (.val 0), .any⟩,
      ⟨"VALIDATE", 0, 0, .wo, (.val 0), .any⟩]⟩,
   ⟨"GT_VALID", 0x144, 1, 0x0, 1, 0x0,
     [⟨"VALID", 31, 0, .ro, (.val 0), .any⟩]⟩,
   ⟨"EMPTY_MIN", 0x148, 1, 0x0, 1, 0x0,
     [⟨"VALUE", 31, 0, .rwc, (.val 0x3E99999A), .any⟩]⟩,
   ⟨"RESID_LIM", 0x14C, 1, 0x0, 1, 0x0,
     [⟨"VALUE", 31, 0, .rwc, (.val 0xFFFFFE70), .any⟩]⟩,
   ⟨"SWEEP_STAT", 0x150, 1, 0x0, 1, 0x0,
     [⟨"SEQ", 31, 24, .ro, (.val 0), .any⟩,
      ⟨"VALID", 23, 23, .ro, (.val 0), .any⟩,
      ⟨"CELL", 19, 16, .ro, (.val 0), .any⟩,
      ⟨"STATE", 2, 0, .ro, (.val 0), .any⟩]⟩,
   ⟨"RES.SEQ", 0x400, 16, 0x40, 1, 0x0,
     [⟨"SEQ", 31, 24, .ro, (.val 0), .any⟩,
      ⟨"VALID", 23, 23, .ro, (.val 0), .any⟩,
      ⟨"GTYPE", 20, 16, .ro, (.val 0), .any⟩,
      ⟨"FLAGS", 7, 0, .ro, (.val 0), .any⟩]⟩,
   ⟨"RES.STAMP_LO", 0x404, 16, 0x40, 1, 0x0,
     [⟨"STAMP_LO", 31, 0, .ro, (.val 0), .any⟩]⟩,
   ⟨"RES.STAMP_HI", 0x408, 16, 0x40, 1, 0x0,
     [⟨"STAMP_HI", 31, 0, .ro, (.val 0), .any⟩]⟩,
   ⟨"RES.MOIST_AVG", 0x40C, 16, 0x40, 1, 0x0,
     [⟨"MOIST_AVG", 31, 16, .ro, (.val 0), .any⟩,
      ⟨"MOIST", 15, 0, .ro, (.val 0), .any⟩]⟩,
   ⟨"RES.AVG_VALID", 0x410, 16, 0x40, 1, 0x0,
     [⟨"AVG_VALID", 8, 8, .ro, (.val 0), .any⟩,
      ⟨"COUNT", 7, 0, .ro, (.val 0), .any⟩]⟩]

/-- Registers of the MOIST page (spec chapter 05), part 3. -/
def rowsMoist2 : List Row :=
  [⟨"RES.TEMP", 0x414, 16, 0x40, 1, 0x0,
     [⟨"TEMP", 31, 16, .ro, (.val 0), .any⟩,
      ⟨"DENSITY", 15, 0, .ro, (.val 0), .any⟩]⟩,
   ⟨"RES.PSI", 0x418, 16, 0x40, 1, 0x0,
     [⟨"PSI", 31, 0, .ro, (.val 0), .any⟩]⟩,
   ⟨"RES.EPS_L_RE", 0x41C, 16, 0x40, 1, 0x0,
     [⟨"EPS_L_RE", 31, 0, .ro, (.val 0), .any⟩]⟩,
   ⟨"RES.EPS_L_IM", 0x420, 16, 0x40, 1, 0x0,
     [⟨"EPS_L_IM", 31, 0, .ro, (.val 0), .any⟩]⟩,
   ⟨"RES.EPS_H_RE", 0x424, 16, 0x40, 1, 0x0,
     [⟨"EPS_H_RE", 31, 0, .ro, (.val 0), .any⟩]⟩,
   ⟨"RES.EPS_H_IM", 0x428, 16, 0x40, 1, 0x0,
     [⟨"EPS_H_IM", 31, 0, .ro, (.val 0), .any⟩]⟩,
   ⟨"RES.PLAN_ID", 0x42C, 16, 0x40, 1, 0x0,
     [⟨"PLAN_ID", 31, 16, .ro, (.val 0), .any⟩,
      ⟨"CELL_SEQ", 7, 0, .ro, (.val 0), .any⟩]⟩,
   ⟨"RES.RESID_VALID", 0x430, 16, 0x40, 1, 0x0,
     [⟨"RESID_VALID", 17, 17, .ro, (.val 0), .any⟩,
      ⟨"NOISY", 16, 16, .ro, (.val 0), .any⟩,
      ⟨"RESID", 15, 0, .ro, (.val 0), .any⟩]⟩,
   ⟨"CAP.SEQ", 0x800, 16, 0x20, 1, 0x0,
     [⟨"SEQ", 31, 24, .ro, (.val 0), .any⟩,
      ⟨"VALID", 23, 23, .ro, (.val 0), .any⟩,
      ⟨"STATE", 18, 16, .ro, (.val 0), .any⟩,
      ⟨"MODE", 9, 8, .ro, (.val 0), .any⟩,
      ⟨"COUNT", 7, 0, .ro, (.val 0), .any⟩]⟩,
   ⟨"CAP.STAMP_LO", 0x804, 16, 0x20, 1, 0x0,
     [⟨"STAMP_LO", 31, 0, .ro, (.val 0), .any⟩]⟩,
   ⟨"CAP.STAMP_HI", 0x808, 16, 0x20, 1, 0x0,
     [⟨"STAMP_HI", 31, 0, .ro, (.val 0), .any⟩]⟩,
   ⟨"CAP.PSI", 0x80C, 16, 0x20, 1, 0x0,
     [⟨"PSI", 31, 0, .ro, (.val 0), .any⟩]⟩]

/-- Registers of the MOIST page (spec chapter 05), part 4. -/
def rowsMoist3 : List Row :=
  [⟨"CAP.EPS_H", 0x810, 16, 0x20, 1, 0x0,
     [⟨"EPS_H", 31, 0, .ro, (.val 0), .any⟩]⟩,
   ⟨"CAP.C_REF", 0x814, 16, 0x20, 1, 0x0,
     [⟨"C_REF", 31, 0, .ro, (.val 0), .any⟩]⟩,
   ⟨"CAP.TEMP", 0x818, 16, 0x20, 1, 0x0,
     [⟨"TEMP", 15, 0, .ro, (.val 0), .any⟩]⟩,
   ⟨"EPS_RE", 0xC00, 24, 0x8, 1, 0x0,
     [⟨"VALUE", 31, 0, .ro, (.val 0), .any⟩]⟩,
   ⟨"EPS_IM", 0xC04, 24, 0x8, 1, 0x0,
     [⟨"VALUE", 31, 0, .ro, (.val 0), .any⟩]⟩,
   ⟨"SWEEP_RESID", 0xCC0, 3, 0x4, 1, 0x0,
     [⟨"VALUE", 31, 0, .ro, (.val 0), .any⟩]⟩]

def rowsMoist : List Row := rowsMoist0 ++ rowsMoist1 ++ rowsMoist2 ++ rowsMoist3

/-- Registers of the CELL page (spec chapter 04), part 1. -/
def rowsCell0 : List Row :=
  [⟨"PAGE_ID", 0x0, 1, 0x0, 1, 0x0,
     [⟨"BLOCK", 31, 16, .ro, .code, .any⟩,
      ⟨"INSTANCE", 15, 0, .ro, .inst, .any⟩]⟩,
   ⟨"PAGE_VER", 0x4, 1, 0x0, 1, 0x0,
     [⟨"VERSION", 31, 0, .ro, (.val 1), .any⟩]⟩,
   ⟨"PAGE_CTRL", 0x8, 1, 0x0, 1, 0x0,
     [⟨"RAW", 1, 1, .rw, (.val 0), .any⟩,
      ⟨"EN", 0, 0, .rw, (.val 0), .any⟩]⟩,
   ⟨"PAGE_STAT", 0xC, 1, 0x0, 1, 0x0,
     [⟨"TIA_NEXT", 7, 6, .ro, (.val 0), .any⟩,
      ⟨"RCAL", 5, 4, .ro, (.val 0), .any⟩,
      ⟨"CAL_VALID", 3, 3, .ro, (.val 0), .any⟩,
      ⟨"ACTIVITY", 2, 0, .ro, (.val 0), .any⟩]⟩,
   ⟨"PAGE_EVT", 0x10, 1, 0x0, 1, 0x0,
     [⟨"FLAGS", 12, 0, .w1c, (.val 0), .any⟩]⟩,
   ⟨"PAGE_EVT_EN", 0x14, 1, 0x0, 1, 0x0,
     [⟨"ENABLES", 31, 0, .rw, (.val 0), .any⟩]⟩,
   ⟨"PAGE_EVT_CNT", 0x18, 1, 0x0, 1, 0x0,
     [⟨"COUNT", 31, 0, .ro, (.val 0), .any⟩]⟩,
   ⟨"PAGE_OWNER", 0x1C, 1, 0x0, 1, 0x0,
     [⟨"SUBMASK", 23, 16, .ro, (.val 0), .any⟩,
      ⟨"LOSS", 10, 9, .ro, (.val 0), .any⟩,
      ⟨"ORPHAN", 8, 8, .ro, (.val 0), .any⟩,
      ⟨"OWNER", 7, 0, .ro, (.val 255), .any⟩]⟩,
   ⟨"PAGE_EPOCH", 0x20, 1, 0x0, 1, 0x0,
     [⟨"EPOCH", 31, 0, .ro, (.val 1), .any⟩]⟩,
   ⟨"PAGE_LOCK", 0x24, 1, 0x0, 1, 0x0,
     [⟨"MODE_LOCK", 8, 0, .ro, (.val 256), .any⟩]⟩,
   ⟨"CELL_CFG", 0x40, 1, 0x0, 1, 0x0,
     [⟨"DISCH_US", 23, 16, .rwc, (.val 20), (.range 10 200)⟩,
      ⟨"RTD_EN", 8, 8, .rwc, (.val 1), .any⟩,
      ⟨"TIA_MODE", 2, 0, .rwc, (.val 0), (.range 0 4)⟩]⟩,
   ⟨"PLAN_ID", 0x44, 1, 0x0, 1, 0x0,
     [⟨"ID", 15, 0, .rwc, (.val 0), .any⟩]⟩]

/-- Registers of the CELL page (spec chapter 04), part 2. -/
def rowsCell1 : List Row :=
  [⟨"TONE_SEL0", 0x48, 1, 0x0, 1, 0x0,
     [⟨"T3 / T7", 28, 24, .rwc, (.val 12), (.range 0 23)⟩,
      ⟨"T2 / T6", 20, 16, .rwc, (.val 10), (.range 0 23)⟩,
      ⟨"T1 / T5", 12, 8, .rwc, (.val 7), (.range 0 23)⟩,
      ⟨"T0 / T4", 4, 0, .rwc, (.val 4), (.range 0 23)⟩]⟩,
   ⟨"TONE_SEL1", 0x4C, 1, 0x0, 1, 0x0,
     [⟨"T3 / T7", 28, 24, .rwc, (.val 22), (.range 0 23)⟩,
      ⟨"T2 / T6", 20, 16, .rwc, (.val 19), (.range 0 23)⟩,
      ⟨"T1 / T5", 12, 8, .rwc, (.val 16), (.range 0 23)⟩,
      ⟨"T0 / T4", 4, 0, .rwc, (.val 14), (.range 0 23)⟩]⟩,
   ⟨"TONE_AMP0", 0x50, 1, 0x0, 1, 0x0,
     [⟨"A3 / A7", 31, 24, .rwc, (.val 125), (.range 1 250)⟩,
      ⟨"A2 / A6", 23, 16, .rwc, (.val 125), (.range 1 250)⟩,
      ⟨"A1 / A5", 15, 8, .rwc, (.val 125), (.range 1 250)⟩,
      ⟨"A0 / A4", 7, 0, .rwc, (.val 125), (.range 1 250)⟩]⟩,
   ⟨"TONE_AMP1", 0x54, 1, 0x0, 1, 0x0,
     [⟨"A3 / A7", 31, 24, .rwc, (.val 125), (.range 1 250)⟩,
      ⟨"A2 / A6", 23, 16, .rwc, (.val 125), (.range 1 250)⟩,
      ⟨"A1 / A5", 15, 8, .rwc, (.val 125), (.range 1 250)⟩,
      ⟨"A0 / A4", 7, 0, .rwc, (.val 125), (.range 1 250)⟩]⟩,
   ⟨"TONE_PH0", 0x58, 1, 0x0, 1, 0x0,
     [⟨"PH2 / PH5 / —", 29, 20, .rwc, (.val 250), (.range 0 999)⟩,
      ⟨"PH1 / PH4 / PH7", 19, 10, .rwc, (.val 63), (.range 0 999)⟩,
      ⟨"PH0 / PH3 / PH6", 9, 0, .rwc, (.val 0), (.range 0 999)⟩]⟩,
   ⟨"TONE_PH1", 0x5C, 1, 0x0, 1, 0x0,
     [⟨"PH2 / PH5 / —", 29, 20, .rwc, (.val 563), (.range 0 999)⟩,
      ⟨"PH1 / PH4 / PH7", 19, 10, .rwc, (.val 0), (.range 0 999)⟩,
      ⟨"PH0 / PH3 / PH6", 9, 0, .rwc, (.val 563), (.range 0 999)⟩]⟩,
   ⟨"TONE_PH2", 0x60, 1, 0x0, 1, 0x0,
     [⟨"PH1 / PH4 / PH7", 19, 10, .rwc, (.val 63), (.range 0 999)⟩,
      ⟨"PH0 / PH3 / PH6", 9, 0, .rwc, (.val 250), (.range 0 999)⟩]⟩,
   ⟨"OPEN_C", 0x64, 1, 0x0, 1, 0x0,
     [⟨"VALUE", 23, 0, .rwc, (.val 200), (.range 10 5000)⟩]⟩,
   ⟨"LOAD_C", 0x68, 1, 0x0, 1, 0x0,
     [⟨"VALUE", 23, 0, .rwc, (.val 0x2710), (.range 100 60000)⟩]⟩,
   ⟨"LOAD_G", 0x6C, 1, 0x0, 1, 0x0,
     [⟨"VALUE", 23, 0, .rwc, (.val 1000), (.range 0 10000000)⟩]⟩,
   ⟨"CAL_CMD", 0x70, 1, 0x0, 1, 0x0,
     [⟨"CMD", 2, 0, .wo, (.val 0), (.range 0 6)⟩]⟩,
   ⟨"CAL_STAT", 0x74, 1, 0x0, 1, 0x0,
     [⟨"CAL_VALID", 12, 12, .ro, (.val 0), .any⟩,
      ⟨"FAIL", 11, 8, .ro, (.val 0), .any⟩,
      ⟨"PENDING", 6, 4, .ro, (.val 0), .any⟩,
      ⟨"STATE", 2, 0, .ro, (.val 0), .any⟩]⟩]

/-- Registers of the CELL page (spec chapter 04), part 3. -/
def rowsCell2 : List Row :=
  [⟨"RCAL_CMD", 0x78, 1, 0x0, 1, 0x0,
     [⟨"START", 0, 0, .wo, (.val 0), (.range 0 1)⟩]⟩,
   ⟨"RCAL_STAT", 0x7C, 1, 0x0, 1, 0x0,
     [⟨"STATE", 1, 0, .ro, (.val 0), .any⟩]⟩,
   ⟨"SCAN_CMD", 0x80, 1, 0x0, 1, 0x0,
     [⟨"START", 0, 0, .wo, (.val 0), (.range 0 1)⟩]⟩,
   ⟨"ROT_STAT", 0x84, 1, 0x0, 1, 0x0,
     [⟨"IDLE_CYC", 15, 8, .ro, (.val 0), .any⟩,
      ⟨"CONV", 3, 2, .ro, .instDiv4, .any⟩,
      ⟨"SLOT", 1, 0, .ro, .instMod4, .any⟩]⟩,
   ⟨"READ_CNT", 0x88, 1, 0x0, 1, 0x0,
     [⟨"COUNT", 31, 0, .ro, (.val 0), .any⟩]⟩,
   ⟨"OVR_CNT", 0x8C, 1, 0x0, 1, 0x0,
     [⟨"COUNT", 31, 0, .ro, (.val 0), .any⟩]⟩,
   ⟨"RES_STAT", 0x100, 1, 0x0, 1, 0x0,
     [⟨"SEQ", 31, 24, .ro, (.val 0), .any⟩,
      ⟨"VALID", 23, 23, .ro, (.val 0), .any⟩,
      ⟨"TIA_RANGE", 21, 20, .ro, (.val 0), .any⟩,
      ⟨"FLAGS", 9, 0, .ro, (.val 0), .any⟩]⟩,
   ⟨"STAMP_LO", 0x104, 1, 0x0, 1, 0x0,
     [⟨"STAMP", 31, 0, .ro, (.val 0), .any⟩]⟩,
   ⟨"STAMP_HI", 0x108, 1, 0x0, 1, 0x0,
     [⟨"STAMP", 31, 0, .ro, (.val 0), .any⟩]⟩,
   ⟨"Y_RE", 0x10C, 4, 0x8, 1, 0x0,
     [⟨"VALUE", 31, 0, .ro, (.val 0), .any⟩]⟩,
   ⟨"Y_IM", 0x110, 4, 0x8, 1, 0x0,
     [⟨"VALUE", 31, 0, .ro, (.val 0), .any⟩]⟩,
   ⟨"RES_STAT_B", 0x140, 1, 0x0, 1, 0x0,
     [⟨"SEQ", 31, 24, .ro, (.val 0), .any⟩,
      ⟨"VALID", 23, 23, .ro, (.val 0), .any⟩,
      ⟨"TIA_RANGE", 21, 20, .ro, (.val 0), .any⟩,
      ⟨"FLAGS", 9, 0, .ro, (.val 0), .any⟩]⟩]

/-- Registers of the CELL page (spec chapter 04), part 4. -/
def rowsCell3 : List Row :=
  [⟨"GRAIN_T", 0x144, 1, 0x0, 1, 0x0,
     [⟨"TEMP", 15, 0, .ro, (.val 0), .any⟩]⟩,
   ⟨"PEAK_PLAN", 0x148, 1, 0x0, 1, 0x0,
     [⟨"PLAN_ID", 31, 16, .ro, (.val 0), .any⟩,
      ⟨"PEAK", 15, 0, .ro, (.val 0), .any⟩]⟩,
   ⟨"YB_RE", 0x14C, 4, 0x8, 1, 0x0,
     [⟨"VALUE", 31, 0, .ro, (.val 0), .any⟩]⟩,
   ⟨"YB_IM", 0x150, 4, 0x8, 1, 0x0,
     [⟨"VALUE", 31, 0, .ro, (.val 0), .any⟩]⟩,
   ⟨"CAL_YO_RE", 0x400, 24, 0x18, 1, 0x0,
     [⟨"WORD", 31, 0, .rwc, (.val 0), .any⟩]⟩,
   ⟨"CAL_YO_IM", 0x404, 24, 0x18, 1, 0x0,
     [⟨"WORD", 31, 0, .rwc, (.val 0), .any⟩]⟩,
   ⟨"CAL_YS_RE", 0x408, 24, 0x18, 1, 0x0,
     [⟨"WORD", 31, 0, .rwc, (.val 0), .any⟩]⟩,
   ⟨"CAL_YS_IM", 0x40C, 24, 0x18, 1, 0x0,
     [⟨"WORD", 31, 0, .rwc, (.val 0), .any⟩]⟩,
   ⟨"CAL_YL_RE", 0x410, 24, 0x18, 1, 0x0,
     [⟨"WORD", 31, 0, .rwc, (.val 0), .any⟩]⟩,
   ⟨"CAL_YL_IM", 0x414, 24, 0x18, 1, 0x0,
     [⟨"WORD", 31, 0, .rwc, (.val 0), .any⟩]⟩,
   ⟨"SCAN_RES", 0x700, 1, 0x0, 1, 0x0,
     [⟨"SEQ", 31, 24, .ro, (.val 0), .any⟩,
      ⟨"VALID", 23, 23, .ro, (.val 0), .any⟩,
      ⟨"OVR", 0, 0, .ro, (.val 0), .any⟩]⟩,
   ⟨"NOISE", 0x704, 12, 0x4, 1, 0x0,
     [⟨"ODD", 31, 16, .ro, (.val 0), .any⟩,
      ⟨"EVEN", 15, 0, .ro, (.val 0), .any⟩]⟩]

def rowsCell : List Row := rowsCell0 ++ rowsCell1 ++ rowsCell2 ++ rowsCell3

/-- Registers of the FAN page (spec chapter 17), part 1. -/
def rowsFan0 : List Row :=
  [⟨"PAGE_ID", 0x0, 1, 0x0, 1, 0x0,
     [⟨"BLOCK", 31, 16, .ro, .code, .any⟩,
      ⟨"INSTANCE", 15, 0, .ro, .inst, .any⟩]⟩,
   ⟨"PAGE_VER", 0x4, 1, 0x0, 1, 0x0,
     [⟨"VERSION", 31, 0, .ro, (.val 1), .any⟩]⟩,
   ⟨"PAGE_CTRL", 0x8, 1, 0x0, 1, 0x0,
     [⟨"EN", 0, 0, .rw, (.val 0), .any⟩]⟩,
   ⟨"PAGE_STAT", 0xC, 1, 0x0, 1, 0x0,
     [⟨"OVERLOAD", 9, 9, .ro, (.val 0), .any⟩,
      ⟨"TACH_LOST", 8, 8, .ro, (.val 0), .any⟩,
      ⟨"STATE", 2, 0, .ro, (.val 0), .any⟩]⟩,
   ⟨"PAGE_EVT", 0x10, 1, 0x0, 1, 0x0,
     [⟨"FLAGS", 7, 0, .w1c, (.val 0), .any⟩]⟩,
   ⟨"PAGE_EVT_EN", 0x14, 1, 0x0, 1, 0x0,
     [⟨"ENABLES", 31, 0, .rw, (.val 0), .any⟩]⟩,
   ⟨"PAGE_EVT_CNT", 0x18, 1, 0x0, 1, 0x0,
     [⟨"COUNT", 31, 0, .ro, (.val 0), .any⟩]⟩,
   ⟨"PAGE_OWNER", 0x1C, 1, 0x0, 1, 0x0,
     [⟨"SUBMASK", 23, 16, .ro, (.val 0), .any⟩,
      ⟨"LOSS", 10, 9, .ro, (.val 0), .any⟩,
      ⟨"ORPHAN", 8, 8, .ro, (.val 0), .any⟩,
      ⟨"OWNER", 7, 0, .ro, (.val 255), .any⟩]⟩,
   ⟨"PAGE_EPOCH", 0x20, 1, 0x0, 1, 0x0,
     [⟨"EPOCH", 31, 0, .ro, (.val 1), .any⟩]⟩,
   ⟨"PAGE_LOCK", 0x24, 1, 0x0, 1, 0x0,
     [⟨"MODE_LOCK", 8, 0, .ro, (.val 0), .any⟩]⟩,
   ⟨"FAN_CFG", 0x40, 1, 0x0, 1, 0x0,
     [⟨"FREQ", 31, 24, .rwc, (.val 25), (.range 10 100)⟩,
      ⟨"SRC", 21, 20, .rwc, (.val 0), (.range 0 2)⟩,
      ⟨"MODE", 16, 16, .rwc, (.val 0), .any⟩,
      ⟨"TACH_PPR", 11, 8, .rwc, (.val 2), (.range 0 8)⟩,
      ⟨"I_NOM", 4, 0, .rwc, (.val 10), (.range 1 30)⟩]⟩,
   ⟨"FAN_TIME", 0x44, 1, 0x0, 1, 0x0,
     [⟨"RETRY_S", 25, 16, .rwc, (.val 30), (.range 5 600)⟩,
      ⟨"RPM_MAX", 15, 0, .rwc, (.val 3000), (.range 300 65535)⟩]⟩]

/-- Registers of the FAN page (spec chapter 17), part 2. -/
def rowsFan1 : List Row :=
  [⟨"FAN_INRUSH", 0x48, 1, 0x0, 1, 0x0,
     [⟨"INRUSH_I", 6, 0, .rwc, (.val 30), (.range 1 80)⟩]⟩,
   ⟨"FAN_SET", 0x4C, 1, 0x0, 1, 0x0,
     [⟨"VALUE", 15, 0, .rw, (.val 0), .any⟩]⟩,
   ⟨"FAN_LOOP", 0x50, 1, 0x0, 1, 0x0,
     [⟨"VALUE", 15, 0, .ro, (.val 0), .any⟩]⟩,
   ⟨"FAN_TLIM", 0x54, 1, 0x0, 1, 0x0,
     [⟨"T_HI", 31, 16, .rwc, (.val 3840), .any⟩,
      ⟨"T_LO", 15, 0, .rwc, (.val 2560), .any⟩]⟩,
   ⟨"FAN_THERM", 0x58, 1, 0x0, 1, 0x0,
     [⟨"TSEL", 19, 16, .rwc, (.val 5), (.range 0 9)⟩,
      ⟨"DUTY_MIN", 9, 0, .rwc, (.val 300), (.range 100 1000)⟩]⟩,
   ⟨"FAN_KP", 0x5C, 1, 0x0, 1, 0x0,
     [⟨"VALUE", 31, 0, .rwc, (.val 0x3C23D70A), .finite⟩]⟩,
   ⟨"FAN_KI", 0x60, 1, 0x0, 1, 0x0,
     [⟨"VALUE", 31, 0, .rwc, (.val 0x3D4CCCCD), .finite⟩]⟩,
   ⟨"SKIP", 0x70, 3, 0x4, 1, 0x0,
     [⟨"EN", 31, 31, .rwc, (.val 0), .skip⟩,
      ⟨"HI", 25, 16, .rwc, (.val 0), .any⟩,
      ⟨"LO", 9, 0, .rwc, (.val 0), .any⟩]⟩,
   ⟨"FAN_FLT_CLR", 0x80, 1, 0x0, 1, 0x0,
     [⟨"CLEAR", 0, 0, .wo, (.val 0), (.range 0 1)⟩]⟩,
   ⟨"RES.SEQ", 0x100, 1, 0x0, 1, 0x0,
     [⟨"SEQ", 31, 24, .ro, (.val 0), .any⟩,
      ⟨"VALID", 23, 23, .ro, (.val 0), .any⟩,
      ⟨"FLAGS", 4, 0, .ro, (.val 0), .any⟩]⟩,
   ⟨"RES.SPEED", 0x104, 1, 0x0, 1, 0x0,
     [⟨"SPEED", 31, 16, .ro, (.val 0), .any⟩,
      ⟨"DUTY", 15, 0, .ro, (.val 0), .any⟩]⟩,
   ⟨"RES.I_PEAK", 0x108, 1, 0x0, 1, 0x0,
     [⟨"I_PEAK", 31, 16, .ro, (.val 0), .any⟩,
      ⟨"I_MEAN", 15, 0, .ro, (.val 0), .any⟩]⟩]

/-- Registers of the FAN page (spec chapter 17), part 3. -/
def rowsFan2 : List Row :=
  [⟨"STALL_CNT", 0x120, 1, 0x0, 1, 0x0,
     [⟨"COUNT", 31, 0, .ro, (.val 0), .any⟩]⟩]

def rowsFan : List Row := rowsFan0 ++ rowsFan1 ++ rowsFan2

/-- Registers of the GNSS page (spec chapter 14), part 1. -/
def rowsGnss0 : List Row :=
  [⟨"PAGE_ID", 0x0, 1, 0x0, 1, 0x0,
     [⟨"BLOCK", 31, 16, .ro, .code, .any⟩,
      ⟨"INSTANCE", 15, 0, .ro, .inst, .any⟩]⟩,
   ⟨"PAGE_VER", 0x4, 1, 0x0, 1, 0x0,
     [⟨"VERSION", 31, 0, .ro, (.val 1), .any⟩]⟩,
   ⟨"PAGE_CTRL", 0x8, 1, 0x0, 1, 0x0,
     [⟨"EN", 0, 0, .rw, (.val 0), .any⟩]⟩,
   ⟨"PAGE_STAT", 0xC, 1, 0x0, 1, 0x0,
     [⟨"N_TRACK", 22, 16, .ro, (.val 0), .any⟩,
      ⟨"START", 13, 12, .ro, (.val 0), .any⟩,
      ⟨"THR_LEVEL", 11, 10, .ro, (.val 0), .any⟩,
      ⟨"SUSPECT", 8, 8, .ro, (.val 0), .any⟩,
      ⟨"ANT", 7, 6, .ro, (.val 0), .any⟩,
      ⟨"TCXO_OK", 5, 5, .ro, (.val 0), .any⟩,
      ⟨"FIX", 2, 0, .ro, (.val 0), .any⟩]⟩,
   ⟨"PAGE_EVT", 0x10, 1, 0x0, 1, 0x0,
     [⟨"FLAGS", 8, 0, .w1c, (.val 0), .any⟩]⟩,
   ⟨"PAGE_EVT_EN", 0x14, 1, 0x0, 1, 0x0,
     [⟨"ENABLES", 31, 0, .rw, (.val 0), .any⟩]⟩,
   ⟨"PAGE_EVT_CNT", 0x18, 1, 0x0, 1, 0x0,
     [⟨"COUNT", 31, 0, .ro, (.val 0), .any⟩]⟩,
   ⟨"PAGE_OWNER", 0x1C, 1, 0x0, 1, 0x0,
     [⟨"SUBMASK", 23, 16, .ro, (.val 0), .any⟩,
      ⟨"LOSS", 10, 9, .ro, (.val 0), .any⟩,
      ⟨"ORPHAN", 8, 8, .ro, (.val 0), .any⟩,
      ⟨"OWNER", 7, 0, .ro, (.val 255), .any⟩]⟩,
   ⟨"PAGE_EPOCH", 0x20, 1, 0x0, 1, 0x0,
     [⟨"EPOCH", 31, 0, .ro, (.val 1), .any⟩]⟩,
   ⟨"PAGE_LOCK", 0x24, 1, 0x0, 1, 0x0,
     [⟨"MODE_LOCK", 8, 0, .ro, (.val 256), .any⟩]⟩,
   ⟨"GNSS_CFG", 0x40, 1, 0x0, 1, 0x0,
     [⟨"ELEV_MASK", 29, 24, .rwc, (.val 10), (.range 0 60)⟩,
      ⟨"SYS_EN", 18, 16, .rwc, (.val 7), .any⟩,
      ⟨"REF_SYS", 13, 12, .rwc, (.val 0), (.range 0 2)⟩,
      ⟨"POS_MODE", 9, 8, .rwc, (.val 0), (.range 0 2)⟩,
      ⟨"ANT_PWR", 0, 0, .rwc, (.val 1), .any⟩]⟩,
   ⟨"SURVEY_CFG", 0x44, 1, 0x0, 1, 0x0,
     [⟨"SURVEY_S", 31, 16, .rwc, (.val 600), (.range 60 65535)⟩,
      ⟨"SURVEY_SIG", 15, 0, .rwc, (.val 1000), .any⟩]⟩]

/-- Registers of the GNSS page (spec chapter 14), part 2. -/
def rowsGnss1 : List Row :=
  [⟨"POS_X", 0x48, 1, 0x0, 1, 0x0,
     [⟨"VALUE", 31, 0, .rwc, (.val 0), .any⟩]⟩,
   ⟨"POS_Y", 0x4C, 1, 0x0, 1, 0x0,
     [⟨"VALUE", 31, 0, .rwc, (.val 0), .any⟩]⟩,
   ⟨"POS_Z", 0x50, 1, 0x0, 1, 0x0,
     [⟨"VALUE", 31, 0, .rwc, (.val 0), .any⟩]⟩,
   ⟨"ACQ_CFG", 0x54, 1, 0x0, 1, 0x0,
     [⟨"NC_GPS", 29, 24, .rwc, (.val 4), (.range 1 40)⟩,
      ⟨"NC_BDS", 21, 16, .rwc, (.val 4), (.range 1 40)⟩,
      ⟨"NC_GAL", 11, 8, .rwc, (.val 1), (.range 1 10)⟩,
      ⟨"ACQ_THR", 7, 0, .rwc, (.val 110), (.range 60 200)⟩]⟩,
   ⟨"TRK_CFG", 0x58, 1, 0x0, 1, 0x0,
     [⟨"LOSS_CN0", 31, 24, .rwc, (.val 25), (.range 15 40)⟩,
      ⟨"PLL_BW", 15, 8, .rwc, (.val 15), (.range 5 30)⟩,
      ⟨"DLL_BW", 7, 0, .rwc, (.val 10), (.range 1 50)⟩]⟩,
   ⟨"CHK_CFG", 0x5C, 1, 0x0, 1, 0x0,
     [⟨"CHK_N", 31, 24, .rwc, (.val 3), (.range 1 20)⟩,
      ⟨"CLR_N", 23, 16, .rwc, (.val 10), (.range 1 255)⟩,
      ⟨"CN0_SPREAD_MIN", 15, 8, .rwc, (.val 15), .any⟩,
      ⟨"DOP_LIM", 7, 0, .rwc, (.val 20), (.range 1 255)⟩]⟩,
   ⟨"CHK_LIM", 0x60, 1, 0x0, 1, 0x0,
     [⟨"RES_LIM", 31, 16, .rwc, (.val 300), (.range 10 65535)⟩,
      ⟨"TJUMP_LIM", 15, 0, .rwc, (.val 500), (.range 50 65535)⟩]⟩,
   ⟨"NAV_CFG", 0x64, 1, 0x0, 1, 0x0,
     [⟨"NAV_MASK", 2, 0, .rw, (.val 0), .any⟩]⟩,
   ⟨"GNSS_CMD", 0x68, 1, 0x0, 1, 0x0,
     [⟨"CMD", 1, 0, .wo, (.val 0), (.range 0 2)⟩]⟩,
   ⟨"ANT_MEAS", 0x6C, 1, 0x0, 1, 0x0,
     [⟨"SEQ", 31, 24, .ro, (.val 0), .any⟩,
      ⟨"VALID", 23, 23, .ro, (.val 0), .any⟩,
      ⟨"I_ANT", 15, 0, .ro, (.val 0), .any⟩]⟩,
   ⟨"SOL.SEQ", 0x80, 1, 0x0, 1, 0x0,
     [⟨"SEQ", 31, 24, .ro, (.val 0), .any⟩,
      ⟨"VALID", 23, 23, .ro, (.val 0), .any⟩,
      ⟨"FIX", 18, 16, .ro, (.val 0), .any⟩,
      ⟨"REF", 9, 8, .ro, (.val 0), .any⟩,
      ⟨"SUSPECT", 4, 4, .ro, (.val 0), .any⟩,
      ⟨"CAUSE", 3, 0, .ro, (.val 0), .any⟩]⟩,
   ⟨"SOL.N_USED", 0x84, 1, 0x0, 1, 0x0,
     [⟨"N_USED", 23, 0, .ro, (.val 0), .any⟩]⟩]

/-- Registers of the GNSS page (spec chapter 14), part 3. -/
def rowsGnss2 : List Row :=
  [⟨"SOL.STAMP_LO", 0x88, 1, 0x0, 1, 0x0,
     [⟨"STAMP_LO", 31, 0, .ro, (.val 0), .any⟩]⟩,
   ⟨"SOL.STAMP_HI", 0x8C, 1, 0x0, 1, 0x0,
     [⟨"STAMP_HI", 31, 0, .ro, (.val 0), .any⟩]⟩,
   ⟨"SOL.TAI_LO", 0x90, 1, 0x0, 1, 0x0,
     [⟨"TAI_LO", 31, 0, .ro, (.val 0), .any⟩]⟩,
   ⟨"SOL.TAI_HI", 0x94, 1, 0x0, 1, 0x0,
     [⟨"TAI_HI", 31, 0, .ro, (.val 0), .any⟩]⟩,
   ⟨"SOL.QERR", 0x98, 1, 0x0, 1, 0x0,
     [⟨"QERR", 31, 0, .ro, (.val 0), .any⟩]⟩,
   ⟨"SOL.X", 0x9C, 1, 0x0, 1, 0x0,
     [⟨"X", 31, 0, .ro, (.val 0), .any⟩]⟩,
   ⟨"SOL.Y", 0xA0, 1, 0x0, 1, 0x0,
     [⟨"Y", 31, 0, .ro, (.val 0), .any⟩]⟩,
   ⟨"SOL.Z", 0xA4, 1, 0x0, 1, 0x0,
     [⟨"Z", 31, 0, .ro, (.val 0), .any⟩]⟩,
   ⟨"SOL.TDOP", 0xA8, 1, 0x0, 1, 0x0,
     [⟨"TDOP", 31, 16, .ro, (.val 0), .any⟩,
      ⟨"SIGMA_POS", 15, 0, .ro, (.val 0), .any⟩]⟩,
   ⟨"SOL.RES_RMS", 0xAC, 1, 0x0, 1, 0x0,
     [⟨"RES_RMS", 31, 16, .ro, (.val 0), .any⟩,
      ⟨"SIGMA_T", 15, 0, .ro, (.val 0), .any⟩]⟩,
   ⟨"SOL.ISB_GAL", 0xB0, 1, 0x0, 1, 0x0,
     [⟨"ISB_GAL", 31, 16, .ro, (.val 0), .any⟩,
      ⟨"ISB_BDS", 15, 0, .ro, (.val 0), .any⟩]⟩,
   ⟨"CHK_STAT", 0xC0, 1, 0x0, 1, 0x0,
     [⟨"SPREAD", 31, 24, .ro, (.val 0), .any⟩,
      ⟨"FAIL_RUN", 23, 16, .ro, (.val 0), .any⟩,
      ⟨"PASS_RUN", 15, 8, .ro, (.val 0), .any⟩]⟩]

/-- Registers of the GNSS page (spec chapter 14), part 4. -/
def rowsGnss3 : List Row :=
  [⟨"ACQ_STAT", 0xC4, 1, 0x0, 1, 0x0,
     [⟨"SEQ", 31, 24, .ro, (.val 0), .any⟩,
      ⟨"VALID", 23, 23, .ro, (.val 0), .any⟩,
      ⟨"CAND", 22, 16, .ro, (.val 0), .any⟩,
      ⟨"PASS_MS", 15, 0, .ro, (.val 0), .any⟩]⟩,
   ⟨"RES_OVF_CNT", 0xC8, 1, 0x0, 1, 0x0,
     [⟨"VALUE", 31, 0, .ro, (.val 0), .any⟩]⟩,
   ⟨"NAV_NEWEST", 0xCC, 1, 0x0, 1, 0x0,
     [⟨"VALUE", 31, 0, .ro, (.val 0), .any⟩]⟩,
   ⟨"NAV_RING", 0x400, 768, 0x4, 1, 0x0,
     [⟨"WORD", 31, 0, .ro, (.val 0), .any⟩]⟩]

def rowsGnss : List Row := rowsGnss0 ++ rowsGnss1 ++ rowsGnss2 ++ rowsGnss3

/-- Registers of the GNSSCH page (spec chapter 14), part 1. PAGE_LOCK resets to 0x100 (the model's choice: log entry 85). -/
def rowsGnssCh0 : List Row :=
  [⟨"PAGE_ID", 0x0, 1, 0x0, 1, 0x0,
     [⟨"BLOCK", 31, 16, .ro, .code, .any⟩,
      ⟨"INSTANCE", 15, 0, .ro, .inst, .any⟩]⟩,
   ⟨"PAGE_VER", 0x4, 1, 0x0, 1, 0x0,
     [⟨"VERSION", 31, 0, .ro, (.val 1), .any⟩]⟩,
   ⟨"PAGE_CTRL", 0x8, 1, 0x0, 1, 0x0,
     [⟨"EN", 0, 0, .ro, (.val 1), .any⟩]⟩,
   ⟨"PAGE_STAT", 0xC, 1, 0x0, 1, 0x0,
     [⟨"ACTIVE", 15, 0, .ro, (.val 0), .any⟩]⟩,
   ⟨"PAGE_EVT", 0x10, 1, 0x0, 1, 0x0,
     [⟨"FLAGS", 1, 0, .w1c, (.val 0), .any⟩]⟩,
   ⟨"PAGE_EVT_EN", 0x14, 1, 0x0, 1, 0x0,
     [⟨"ENABLES", 31, 0, .rw, (.val 0), .any⟩]⟩,
   ⟨"PAGE_EVT_CNT", 0x18, 1, 0x0, 1, 0x0,
     [⟨"COUNT", 31, 0, .ro, (.val 0), .any⟩]⟩,
   ⟨"PAGE_OWNER", 0x1C, 1, 0x0, 1, 0x0,
     [⟨"SUBMASK", 23, 16, .ro, (.val 0), .any⟩,
      ⟨"LOSS", 10, 9, .ro, (.val 0), .any⟩,
      ⟨"ORPHAN", 8, 8, .ro, (.val 0), .any⟩,
      ⟨"OWNER", 7, 0, .ro, (.val 255), .any⟩]⟩,
   ⟨"PAGE_EPOCH", 0x20, 1, 0x0, 1, 0x0,
     [⟨"EPOCH", 31, 0, .ro, (.val 1), .any⟩]⟩,
   ⟨"PAGE_LOCK", 0x24, 1, 0x0, 1, 0x0,
     [⟨"MODE_LOCK", 8, 0, .ro, (.val 256), .any⟩]⟩,
   ⟨"CHAN.SEQ", 0x100, 16, 0x80, 1, 0x0,
     [⟨"SEQ", 31, 24, .ro, (.val 0), .any⟩,
      ⟨"VALID", 23, 23, .ro, (.val 0), .any⟩,
      ⟨"SYS", 21, 20, .ro, (.val 0), .any⟩,
      ⟨"PRN", 15, 8, .ro, (.val 0), .any⟩,
      ⟨"CSTATE", 6, 4, .ro, (.val 0), .any⟩,
      ⟨"FLAGS", 2, 0, .ro, (.val 0), .any⟩]⟩,
   ⟨"CHAN.CN0", 0x104, 16, 0x80, 1, 0x0,
     [⟨"CN0", 31, 16, .ro, (.val 0), .any⟩,
      ⟨"ELEV", 15, 8, .ro, (.val 0), .any⟩]⟩]

/-- Registers of the GNSSCH page (spec chapter 14), part 2. -/
def rowsGnssCh1 : List Row :=
  [⟨"CHAN.DOPPLER", 0x108, 16, 0x80, 1, 0x0,
     [⟨"DOPPLER", 31, 0, .ro, (.val 0), .any⟩]⟩,
   ⟨"CHAN.PR", 0x10C, 16, 0x80, 1, 0x0,
     [⟨"PR", 31, 0, .ro, (.val 0), .any⟩]⟩,
   ⟨"CHAN.RES", 0x110, 16, 0x80, 1, 0x0,
     [⟨"RES", 31, 0, .ro, (.val 0), .any⟩]⟩,
   ⟨"CHAN.AZ", 0x114, 16, 0x80, 1, 0x0,
     [⟨"AZ", 31, 16, .ro, (.val 0), .any⟩,
      ⟨"DOP_DEV", 15, 0, .ro, (.val 0), .any⟩]⟩,
   ⟨"CHAN.STAMP_LO", 0x118, 16, 0x80, 1, 0x0,
     [⟨"STAMP_LO", 31, 0, .ro, (.val 0), .any⟩]⟩,
   ⟨"CHAN.STAMP_HI", 0x11C, 16, 0x80, 1, 0x0,
     [⟨"STAMP_HI", 31, 0, .ro, (.val 0), .any⟩]⟩]

def rowsGnssCh : List Row := rowsGnssCh0 ++ rowsGnssCh1

/-- Registers of the ROOTSEG page (spec chapter 11), part 1. -/
def rowsRootSeg0 : List Row :=
  [⟨"PAGE_ID", 0x0, 1, 0x0, 1, 0x0,
     [⟨"BLOCK", 31, 16, .ro, .code, .any⟩,
      ⟨"INSTANCE", 15, 0, .ro, .inst, .any⟩]⟩,
   ⟨"PAGE_VER", 0x4, 1, 0x0, 1, 0x0,
     [⟨"VERSION", 31, 0, .ro, (.val 1), .any⟩]⟩,
   ⟨"PAGE_CTRL", 0x8, 1, 0x0, 1, 0x0,
     [⟨"EN", 0, 0, .rw, (.val 0), .any⟩]⟩,
   ⟨"PAGE_STAT", 0xC, 1, 0x0, 1, 0x0,
     [⟨"DERATED", 8, 8, .ro, (.val 0), .any⟩,
      ⟨"ACTIVITY", 6, 4, .ro, (.val 0), .any⟩,
      ⟨"PWR", 2, 0, .ro, (.val 0), .any⟩]⟩,
   ⟨"PAGE_EVT", 0x10, 1, 0x0, 1, 0x0,
     [⟨"FLAGS", 15, 0, .w1c, (.val 0), .any⟩]⟩,
   ⟨"PAGE_EVT_EN", 0x14, 1, 0x0, 1, 0x0,
     [⟨"ENABLES", 31, 0, .rw, (.val 0), .any⟩]⟩,
   ⟨"PAGE_EVT_CNT", 0x18, 1, 0x0, 1, 0x0,
     [⟨"COUNT", 31, 0, .ro, (.val 0), .any⟩]⟩,
   ⟨"PAGE_OWNER", 0x1C, 1, 0x0, 1, 0x0,
     [⟨"SUBMASK", 23, 16, .ro, (.val 0), .any⟩,
      ⟨"LOSS", 10, 9, .ro, (.val 0), .any⟩,
      ⟨"ORPHAN", 8, 8, .ro, (.val 0), .any⟩,
      ⟨"OWNER", 7, 0, .ro, (.val 255), .any⟩]⟩,
   ⟨"PAGE_EPOCH", 0x20, 1, 0x0, 1, 0x0,
     [⟨"EPOCH", 31, 0, .ro, (.val 1), .any⟩]⟩,
   ⟨"PAGE_LOCK", 0x24, 1, 0x0, 1, 0x0,
     [⟨"MODE_LOCK", 8, 0, .ro, (.val 256), .any⟩]⟩,
   ⟨"SEG_CFG", 0x40, 1, 0x0, 1, 0x0,
     [⟨"LOST_N", 31, 24, .rwc, (.val 3), (.range 1 255)⟩,
      ⟨"RD_RETRY", 23, 16, .rwc, (.val 16), .any⟩,
      ⟨"CMD_RETRY", 9, 8, .rwc, (.val 2), .any⟩,
      ⟨"AUTO_ENUM", 0, 0, .rwc, (.val 1), .any⟩]⟩,
   ⟨"SEG_PWR", 0x44, 1, 0x0, 1, 0x0,
     [⟨"RESTART_S", 11, 0, .rwc, (.val 60), (.range 1 3600)⟩]⟩]

/-- Registers of the ROOTSEG page (spec chapter 11), part 2. -/
def rowsRootSeg1 : List Row :=
  [⟨"SEG_MEAS", 0x48, 1, 0x0, 1, 0x0,
     [⟨"SEQ", 31, 24, .ro, (.val 0), .any⟩,
      ⟨"VALID", 23, 23, .ro, (.val 0), .any⟩,
      ⟨"I_SEG", 22, 12, .ro, (.val 0), .any⟩,
      ⟨"V_LINE", 9, 0, .ro, (.val 0), .any⟩]⟩,
   ⟨"SEG_COUNT", 0x4C, 1, 0x0, 1, 0x0,
     [⟨"NODES", 28, 16, .ro, (.val 0), .any⟩,
      ⟨"SPAN", 12, 0, .ro, (.val 0), .any⟩]⟩,
   ⟨"SURGE_CNT", 0x50, 1, 0x0, 1, 0x0,
     [⟨"COUNT", 31, 0, .ro, (.val 0), .any⟩]⟩,
   ⟨"QUAR_CNT", 0x54, 1, 0x0, 1, 0x0,
     [⟨"COUNT", 31, 0, .ro, (.val 0), .any⟩]⟩,
   ⟨"CRC_ERR_CNT", 0x58, 1, 0x0, 1, 0x0,
     [⟨"COUNT", 31, 0, .ro, (.val 0), .any⟩]⟩,
   ⟨"MISS_CNT", 0x5C, 1, 0x0, 1, 0x0,
     [⟨"COUNT", 31, 0, .ro, (.val 0), .any⟩]⟩,
   ⟨"COLL_CNT", 0x60, 1, 0x0, 1, 0x0,
     [⟨"COUNT", 31, 0, .ro, (.val 0), .any⟩]⟩,
   ⟨"STRAY_CNT", 0x64, 1, 0x0, 1, 0x0,
     [⟨"COUNT", 31, 0, .ro, (.val 0), .any⟩]⟩,
   ⟨"CMD", 0x80, 1, 0x0, 1, 0x0,
     [⟨"CMD", 3, 0, .wo, (.val 0), (.range 0 7)⟩]⟩,
   ⟨"CMD_SER_LO", 0x84, 1, 0x0, 1, 0x0,
     [⟨"VALUE", 31, 0, .rw, (.val 0), .any⟩]⟩,
   ⟨"CMD_SER_HI", 0x88, 1, 0x0, 1, 0x0,
     [⟨"VALUE", 31, 0, .rw, (.val 0), .any⟩]⟩,
   ⟨"CMD_ARG", 0x8C, 1, 0x0, 1, 0x0,
     [⟨"VALUE", 31, 0, .rw, (.val 0), .any⟩]⟩]

/-- Registers of the ROOTSEG page (spec chapter 11), part 3. -/
def rowsRootSeg2 : List Row :=
  [⟨"CMDRES.SEQ", 0x90, 1, 0x0, 1, 0x0,
     [⟨"SEQ", 31, 24, .ro, (.val 0), .any⟩,
      ⟨"VALID", 23, 23, .ro, (.val 0), .any⟩,
      ⟨"STATE", 18, 16, .ro, (.val 0), .any⟩,
      ⟨"CMD", 11, 8, .ro, (.val 0), .any⟩,
      ⟨"RESULT", 2, 0, .ro, (.val 0), .any⟩]⟩,
   ⟨"CMDRES.DATA_HI", 0x94, 1, 0x0, 1, 0x0,
     [⟨"DATA_HI", 15, 0, .ro, (.val 0), .any⟩]⟩,
   ⟨"CMDRES.DATA_LO", 0x98, 1, 0x0, 1, 0x0,
     [⟨"DATA_LO", 31, 0, .ro, (.val 0), .any⟩]⟩,
   ⟨"CMDRES.FOUND", 0x9C, 1, 0x0, 1, 0x0,
     [⟨"FOUND", 31, 16, .ro, (.val 0), .any⟩,
      ⟨"ASSIGNED", 15, 0, .ro, (.val 0), .any⟩]⟩,
   ⟨"ROUND.SEQ", 0x100, 1, 0x0, 1, 0x0,
     [⟨"SEQ", 31, 24, .ro, (.val 0), .any⟩,
      ⟨"VALID", 23, 23, .ro, (.val 0), .any⟩,
      ⟨"ABORTED", 16, 16, .ro, (.val 0), .any⟩]⟩,
   ⟨"ROUND.ROUND", 0x104, 1, 0x0, 1, 0x0,
     [⟨"ROUND", 31, 0, .ro, (.val 0), .any⟩]⟩,
   ⟨"ROUND.STAMP_LO", 0x108, 1, 0x0, 1, 0x0,
     [⟨"STAMP_LO", 31, 0, .ro, (.val 0), .any⟩]⟩,
   ⟨"ROUND.STAMP_HI", 0x10C, 1, 0x0, 1, 0x0,
     [⟨"STAMP_HI", 31, 0, .ro, (.val 0), .any⟩]⟩,
   ⟨"ROUND.N_MISSED", 0x110, 1, 0x0, 1, 0x0,
     [⟨"N_MISSED", 31, 16, .ro, (.val 0), .any⟩,
      ⟨"N_OK", 15, 0, .ro, (.val 0), .any⟩]⟩,
   ⟨"ROUND.DURATION", 0x114, 1, 0x0, 1, 0x0,
     [⟨"DURATION", 15, 0, .ro, (.val 0), .any⟩]⟩,
   ⟨"HIST.ROUND", 0x140, 8, 0x10, 1, 0x0,
     [⟨"ROUND", 31, 0, .ro, (.val 0), .any⟩]⟩,
   ⟨"HIST.STAMP_LO", 0x144, 8, 0x10, 1, 0x0,
     [⟨"STAMP_LO", 31, 0, .ro, (.val 0), .any⟩]⟩]

/-- Registers of the ROOTSEG page (spec chapter 11), part 4. -/
def rowsRootSeg3 : List Row :=
  [⟨"HIST.STAMP_HI", 0x148, 8, 0x10, 1, 0x0,
     [⟨"STAMP_HI", 31, 0, .ro, (.val 0), .any⟩]⟩,
   ⟨"HIST.ABORTED", 0x14C, 8, 0x10, 1, 0x0,
     [⟨"ABORTED", 16, 16, .ro, (.val 0), .any⟩,
      ⟨"N_OK", 15, 0, .ro, (.val 0), .any⟩]⟩,
   ⟨"QUAR.SER_LO", 0x200, 16, 0x10, 1, 0x0,
     [⟨"SER_LO", 31, 0, .ro, (.val 0), .any⟩]⟩,
   ⟨"QUAR.SER_HI", 0x204, 16, 0x10, 1, 0x0,
     [⟨"SER_HI", 31, 0, .ro, (.val 0), .any⟩]⟩,
   ⟨"QUAR.KIND", 0x208, 16, 0x10, 1, 0x0,
     [⟨"KIND", 15, 8, .ro, (.val 0), .any⟩,
      ⟨"VERSION", 7, 0, .ro, (.val 0), .any⟩]⟩,
   ⟨"QUAR.PAD", 0x20C, 16, 0x10, 1, 0x0,
     [⟨"WORD", 31, 0, .ro, (.val 0), .any⟩]⟩,
   ⟨"GRP_CFG", 0x400, 256, 0x4, 1, 0x0,
     [⟨"EN", 31, 31, .rwc, (.val 0), .any⟩,
      ⟨"MIN_N", 30, 24, .rwc, (.val 1), (.range 1 127)⟩,
      ⟨"LAST", 23, 12, .rwc, (.val 0), (.geField 11 0)⟩,
      ⟨"FIRST", 11, 0, .rwc, (.val 0), .any⟩]⟩,
   ⟨"GRP_AGG.MAX", 0x800, 256, 0x8, 1, 0x0,
     [⟨"MAX", 31, 16, .ro, (.val 0x8000), .any⟩,
      ⟨"MEAN", 15, 0, .ro, (.val 0x8000), .any⟩]⟩,
   ⟨"GRP_AGG.N_TEMP", 0x804, 256, 0x8, 1, 0x0,
     [⟨"N_TEMP", 31, 16, .ro, (.val 0), .any⟩,
      ⟨"N_VALID", 15, 0, .ro, (.val 0), .any⟩]⟩]

def rowsRootSeg : List Row := rowsRootSeg0 ++ rowsRootSeg1 ++ rowsRootSeg2 ++ rowsRootSeg3

/-- Registers of the ROOTMAIN page (spec chapter 11), part 1. -/
def rowsRootMain0 : List Row :=
  [⟨"PAGE_ID", 0x0, 1, 0x0, 1, 0x0,
     [⟨"BLOCK", 31, 16, .ro, .code, .any⟩,
      ⟨"INSTANCE", 15, 0, .ro, .inst, .any⟩]⟩,
   ⟨"PAGE_VER", 0x4, 1, 0x0, 1, 0x0,
     [⟨"VERSION", 31, 0, .ro, (.val 1), .any⟩]⟩,
   ⟨"PAGE_CTRL", 0x8, 1, 0x0, 1, 0x0,
     [⟨"EN", 0, 0, .rw, (.val 0), .any⟩]⟩,
   ⟨"PAGE_STAT", 0xC, 1, 0x0, 1, 0x0,
     [⟨"RATE_DIV", 19, 16, .ro, (.val 1), .any⟩,
      ⟨"VR_OK", 8, 8, .ro, (.val 0), .any⟩,
      ⟨"RSTATE", 1, 0, .ro, (.val 0), .any⟩]⟩,
   ⟨"PAGE_EVT", 0x10, 1, 0x0, 1, 0x0,
     [⟨"FLAGS", 5, 0, .w1c, (.val 0), .any⟩]⟩,
   ⟨"PAGE_EVT_EN", 0x14, 1, 0x0, 1, 0x0,
     [⟨"ENABLES", 31, 0, .rw, (.val 0), .any⟩]⟩,
   ⟨"PAGE_EVT_CNT", 0x18, 1, 0x0, 1, 0x0,
     [⟨"COUNT", 31, 0, .ro, (.val 0), .any⟩]⟩,
   ⟨"PAGE_OWNER", 0x1C, 1, 0x0, 1, 0x0,
     [⟨"SUBMASK", 23, 16, .ro, (.val 0), .any⟩,
      ⟨"LOSS", 10, 9, .ro, (.val 0), .any⟩,
      ⟨"ORPHAN", 8, 8, .ro, (.val 0), .any⟩,
      ⟨"OWNER", 7, 0, .ro, (.val 255), .any⟩]⟩,
   ⟨"PAGE_EPOCH", 0x20, 1, 0x0, 1, 0x0,
     [⟨"EPOCH", 31, 0, .ro, (.val 1), .any⟩]⟩,
   ⟨"PAGE_LOCK", 0x24, 1, 0x0, 1, 0x0,
     [⟨"MODE_LOCK", 8, 0, .ro, (.val 256), .any⟩]⟩,
   ⟨"ROUND_CFG", 0x40, 1, 0x0, 1, 0x0,
     [⟨"ROUND_INT", 11, 0, .rwc, (.val 10), (.range 1 3600)⟩]⟩,
   ⟨"ROUND.SEQ", 0x44, 1, 0x0, 1, 0x0,
     [⟨"SEQ", 31, 24, .ro, (.val 0), .any⟩,
      ⟨"VALID", 23, 23, .ro, (.val 0), .any⟩,
      ⟨"ABORTED", 16, 16, .ro, (.val 0), .any⟩,
      ⟨"SEGMENTS", 15, 0, .ro, (.val 0), .any⟩]⟩]

/-- Registers of the ROOTMAIN page (spec chapter 11), part 2. -/
def rowsRootMain1 : List Row :=
  [⟨"ROUND.ROUND", 0x48, 1, 0x0, 1, 0x0,
     [⟨"ROUND", 31, 0, .ro, (.val 0), .any⟩]⟩,
   ⟨"ROUND.STAMP_LO", 0x4C, 1, 0x0, 1, 0x0,
     [⟨"STAMP_LO", 31, 0, .ro, (.val 0), .any⟩]⟩,
   ⟨"ROUND.STAMP_HI", 0x50, 1, 0x0, 1, 0x0,
     [⟨"STAMP_HI", 31, 0, .ro, (.val 0), .any⟩]⟩,
   ⟨"ROUND.DURATION", 0x54, 1, 0x0, 1, 0x0,
     [⟨"DURATION", 15, 0, .ro, (.val 0), .any⟩]⟩,
   ⟨"VR_MEAS", 0x60, 1, 0x0, 1, 0x0,
     [⟨"SEQ", 31, 24, .ro, (.val 0), .any⟩,
      ⟨"VALID", 23, 23, .ro, (.val 0), .any⟩,
      ⟨"VR", 9, 0, .ro, (.val 0), .any⟩]⟩,
   ⟨"OVERRUN_CNT", 0x64, 1, 0x0, 1, 0x0,
     [⟨"COUNT", 31, 0, .ro, (.val 0), .any⟩]⟩,
   ⟨"ABORT_CNT", 0x68, 1, 0x0, 1, 0x0,
     [⟨"COUNT", 31, 0, .ro, (.val 0), .any⟩]⟩]

def rowsRootMain : List Row := rowsRootMain0 ++ rowsRootMain1

/-- Registers of the LOOP page (spec chapter 09, 10), part 1. -/
def rowsLoop0 : List Row :=
  [⟨"PAGE_ID", 0x0, 1, 0x0, 1, 0x0,
     [⟨"BLOCK", 31, 16, .ro, .code, .any⟩,
      ⟨"INSTANCE", 15, 0, .ro, .inst, .any⟩]⟩,
   ⟨"PAGE_VER", 0x4, 1, 0x0, 1, 0x0,
     [⟨"VERSION", 31, 0, .ro, (.val 1), .any⟩]⟩,
   ⟨"PAGE_CTRL", 0x8, 1, 0x0, 1, 0x0,
     [⟨"EN", 0, 0, .rw, (.val 0), .any⟩]⟩,
   ⟨"PAGE_STAT", 0xC, 1, 0x0, 1, 0x0,
     [⟨"ABSORBED", 20, 20, .ro, (.val 0), .any⟩,
      ⟨"LSTATE", 18, 16, .ro, (.val 0), .any⟩,
      ⟨"DEPTH", 13, 12, .ro, (.val 0), .any⟩,
      ⟨"SET", 10, 8, .ro, (.val 0), .any⟩,
      ⟨"LATCH", 1, 1, .ro, (.val 0), .any⟩,
      ⟨"ADMITTED", 0, 0, .ro, (.val 0), .any⟩]⟩,
   ⟨"PAGE_EVT", 0x10, 1, 0x0, 1, 0x0,
     [⟨"FLAGS", 13, 0, .w1c, (.val 0), .any⟩]⟩,
   ⟨"PAGE_EVT_EN", 0x14, 1, 0x0, 1, 0x0,
     [⟨"ENABLES", 31, 0, .rw, (.val 0), .any⟩]⟩,
   ⟨"PAGE_EVT_CNT", 0x18, 1, 0x0, 1, 0x0,
     [⟨"COUNT", 31, 0, .ro, (.val 0), .any⟩]⟩,
   ⟨"PAGE_OWNER", 0x1C, 1, 0x0, 1, 0x0,
     [⟨"SUBMASK", 23, 16, .ro, (.val 0), .any⟩,
      ⟨"LOSS", 10, 9, .ro, (.val 0), .any⟩,
      ⟨"ORPHAN", 8, 8, .ro, (.val 0), .any⟩,
      ⟨"OWNER", 7, 0, .ro, (.val 255), .any⟩]⟩,
   ⟨"PAGE_EPOCH", 0x20, 1, 0x0, 1, 0x0,
     [⟨"EPOCH", 31, 0, .ro, (.val 1), .any⟩]⟩,
   ⟨"PAGE_LOCK", 0x24, 1, 0x0, 1, 0x0,
     [⟨"MODE_LOCK", 8, 0, .ro, (.val 256), .any⟩]⟩,
   ⟨"LOOP_CFG", 0x40, 1, 0x0, 1, 0x0,
     [⟨"NX", 31, 28, .rwc, (.val 1), (.range 1 8)⟩,
      ⟨"NY", 26, 24, .rwc, (.val 1), (.range 1 4)⟩,
      ⟨"NU", 20, 20, .rwc, (.val 0), .any⟩,
      ⟨"LAW", 17, 16, .rwc, (.val 0), (.range 0 2)⟩,
      ⟨"INV_ACT", 9, 8, .rwc, (.val 0), (.range 0 2)⟩,
      ⟨"DIR", 0, 0, .rwc, (.val 0), .any⟩]⟩,
   ⟨"LOOP_TIME", 0x44, 1, 0x0, 1, 0x0,
     [⟨"PERIOD", 31, 16, .rwc, (.val 1000), (.range 1 65535)⟩,
      ⟨"PHASE", 15, 0, .rwc, (.val 0), (.ltField 31 16)⟩]⟩]

/-- Registers of the LOOP page (spec chapter 09, 10), part 2. -/
def rowsLoop1 : List Row :=
  [⟨"LOOP_DL", 0x48, 1, 0x0, 1, 0x0,
     [⟨"DL_US", 25, 0, .rwc, (.val 0), .any⟩]⟩,
   ⟨"SEL_SEL", 0x50, 5, 0x10, 1, 0x0,
     [⟨"KIND", 31, 24, .rwc, (.val 0), .any⟩,
      ⟨"INST", 23, 16, .rwc, (.val 0), .any⟩,
      ⟨"ITEM", 15, 8, .rwc, (.val 0), .any⟩]⟩,
   ⟨"SEL_AGE", 0x54, 5, 0x10, 1, 0x0,
     [⟨"MAX_AGE", 15, 0, .rwc, (.val 2000), (.range 1 65535)⟩]⟩,
   ⟨"SEL_GAIN", 0x58, 5, 0x10, 1, 0x0,
     [⟨"VALUE", 31, 0, .rwc, (.val 0x3F800000), .finite⟩]⟩,
   ⟨"SEL_OFS", 0x5C, 5, 0x10, 1, 0x0,
     [⟨"VALUE", 31, 0, .rwc, (.val 0), .finite⟩]⟩,
   ⟨"SP", 0xA0, 1, 0x0, 1, 0x0,
     [⟨"SP", 31, 0, .rw, (.val 0), .any⟩]⟩,
   ⟨"CMODE", 0xA4, 1, 0x0, 1, 0x0,
     [⟨"CMODE", 1, 0, .rw, (.val 1), (.range 1 2)⟩]⟩,
   ⟨"MAN_OUT", 0xA8, 2, 0x4, 1, 0x0,
     [⟨"VALUE", 31, 0, .rw, (.val 0), .any⟩]⟩,
   ⟨"SAFE_OUT", 0xB0, 2, 0x4, 1, 0x0,
     [⟨"VALUE", 31, 0, .rwc, (.val 0), .any⟩]⟩,
   ⟨"SCHED", 0xB8, 1, 0x0, 1, 0x0,
     [⟨"SCHED_EN", 8, 8, .rwc, (.val 0), .any⟩,
      ⟨"SCHED_IN", 5, 4, .rwc, (.val 0), .any⟩,
      ⟨"SET_SEL", 2, 0, .rw, (.val 0), .any⟩]⟩,
   ⟨"SCHED_HYST", 0xBC, 1, 0x0, 1, 0x0,
     [⟨"HYST", 31, 0, .rwc, (.val 0), .any⟩]⟩,
   ⟨"OUT_TGT", 0xC0, 2, 0x20, 1, 0x0,
     [⟨"KIND", 31, 24, .rwc, (.val 0), (.range 0 4)⟩,
      ⟨"INST", 23, 16, .rwc, (.val 0), .any⟩,
      ⟨"PROFILE", 11, 8, .rwc, (.val 0), .any⟩]⟩]

/-- Registers of the LOOP page (spec chapter 09, 10), part 3. -/
def rowsLoop2 : List Row :=
  [⟨"OUT_GAIN", 0xC4, 2, 0x20, 1, 0x0,
     [⟨"VALUE", 31, 0, .rwc, (.val 0x3F800000), .any⟩]⟩,
   ⟨"OUT_OFS", 0xC8, 2, 0x20, 1, 0x0,
     [⟨"VALUE", 31, 0, .rwc, (.val 0), .any⟩]⟩,
   ⟨"OUT_EVT_OFS", 0xCC, 2, 0x20, 1, 0x0,
     [⟨"VALUE", 19, 0, .rwc, (.val 0), (.range 0 1000000)⟩]⟩,
   ⟨"OUT_EVT_LATEST", 0xD0, 2, 0x20, 1, 0x0,
     [⟨"VALUE", 19, 0, .rwc, (.val 0), (.range 0 1000000)⟩]⟩,
   ⟨"PL_CFG", 0x100, 1, 0x0, 1, 0x0,
     [⟨"PL_ACT", 17, 16, .rwc, (.val 0), (.range 0 2)⟩,
      ⟨"PL_N", 15, 8, .rwc, (.val 10), (.range 1 255)⟩,
      ⟨"PL_EN", 0, 0, .rwc, (.val 0), .any⟩]⟩,
   ⟨"PL_GAIN", 0x104, 1, 0x0, 1, 0x0,
     [⟨"VALUE", 31, 0, .rwc, (.val 0x3F800000), .any⟩]⟩,
   ⟨"PL_TAU", 0x108, 1, 0x0, 1, 0x0,
     [⟨"VALUE", 31, 0, .rwc, (.val 0x3F800000), .any⟩]⟩,
   ⟨"PL_DEAD", 0x10C, 1, 0x0, 1, 0x0,
     [⟨"VALUE", 15, 0, .rwc, (.val 0), .any⟩]⟩,
   ⟨"PL_BAND", 0x110, 1, 0x0, 1, 0x0,
     [⟨"VALUE", 31, 0, .rwc, (.val 0), .any⟩]⟩,
   ⟨"TUNE_CFG", 0x120, 1, 0x0, 1, 0x0,
     [⟨"CYCLES", 19, 16, .rwc, (.val 4), (.range 2 15)⟩,
      ⟨"TSET", 10, 8, .rwc, (.val 7), .any⟩,
      ⟨"AUTOAPPLY", 0, 0, .rwc, (.val 0), .any⟩]⟩,
   ⟨"TUNE_AMP", 0x124, 1, 0x0, 1, 0x0,
     [⟨"VALUE", 31, 0, .rwc, (.val 0), .any⟩]⟩,
   ⟨"TUNE_HYST", 0x128, 1, 0x0, 1, 0x0,
     [⟨"VALUE", 31, 0, .rwc, (.val 0), .any⟩]⟩]

/-- Registers of the LOOP page (spec chapter 09, 10), part 4. -/
def rowsLoop3 : List Row :=
  [⟨"TUNE_CMD", 0x12C, 1, 0x0, 1, 0x0,
     [⟨"CMD", 1, 0, .wo, (.val 0), (.range 0 2)⟩]⟩,
   ⟨"TUNE.SEQ", 0x130, 1, 0x0, 1, 0x0,
     [⟨"SEQ", 31, 24, .ro, (.val 0), .any⟩,
      ⟨"VALID", 23, 23, .ro, (.val 0), .any⟩,
      ⟨"STATE", 2, 0, .ro, (.val 0), .any⟩]⟩,
   ⟨"TUNE.KU", 0x134, 1, 0x0, 1, 0x0,
     [⟨"KU", 31, 0, .ro, (.val 0), .any⟩]⟩,
   ⟨"TUNE.TU", 0x138, 1, 0x0, 1, 0x0,
     [⟨"TU", 31, 0, .ro, (.val 0), .any⟩]⟩,
   ⟨"TUNE.S_KI", 0x13C, 1, 0x0, 1, 0x0,
     [⟨"S_KI", 31, 0, .ro, (.val 0), .any⟩]⟩,
   ⟨"TUNE.S_B0", 0x140, 1, 0x0, 1, 0x0,
     [⟨"S_B0", 31, 0, .ro, (.val 0), .any⟩]⟩,
   ⟨"TUNE.S_B1", 0x144, 1, 0x0, 1, 0x0,
     [⟨"S_B1", 31, 0, .ro, (.val 0), .any⟩]⟩,
   ⟨"TUNE.S_B2", 0x148, 1, 0x0, 1, 0x0,
     [⟨"S_B2", 31, 0, .ro, (.val 0), .any⟩]⟩,
   ⟨"TUNE.S_A1", 0x14C, 1, 0x0, 1, 0x0,
     [⟨"S_A1", 31, 0, .ro, (.val 0), .any⟩]⟩,
   ⟨"TUNE.S_A2", 0x150, 1, 0x0, 1, 0x0,
     [⟨"S_A2", 31, 0, .ro, (.val 0), .any⟩]⟩,
   ⟨"ENG_LOAD", 0x160, 1, 0x0, 1, 0x0,
     [⟨"LOAD", 15, 0, .ro, (.val 0), .any⟩]⟩,
   ⟨"LOOP_COST", 0x164, 1, 0x0, 1, 0x0,
     [⟨"DMIN", 31, 16, .ro, (.val 0), .any⟩,
      ⟨"COST", 15, 0, .ro, (.val 0), .any⟩]⟩]

/-- Registers of the LOOP page (spec chapter 09, 10), part 5. -/
def rowsLoop4 : List Row :=
  [⟨"PL_STAT", 0x170, 1, 0x0, 1, 0x0,
     [⟨"PL_FAULT", 16, 16, .ro, (.val 0), .any⟩,
      ⟨"MODEL_RUN", 8, 8, .ro, (.val 0), .any⟩,
      ⟨"CNT", 7, 0, .ro, (.val 0), .any⟩]⟩,
   ⟨"PL_RESID", 0x174, 1, 0x0, 1, 0x0,
     [⟨"VALUE", 31, 0, .ro, (.val 0), .any⟩]⟩,
   ⟨"PL_YM", 0x178, 1, 0x0, 1, 0x0,
     [⟨"VALUE", 31, 0, .ro, (.val 0), .any⟩]⟩,
   ⟨"PL_BIAS", 0x17C, 1, 0x0, 1, 0x0,
     [⟨"VALUE", 31, 0, .ro, (.val 0), .any⟩]⟩,
   ⟨"SCHED_STAT", 0x180, 1, 0x0, 1, 0x0,
     [⟨"REGION", 10, 8, .ro, (.val 0), .any⟩,
      ⟨"NO_REGION", 1, 1, .ro, (.val 0), .any⟩,
      ⟨"X_INVALID", 0, 0, .ro, (.val 0), .any⟩]⟩,
   ⟨"TUNE_PROG", 0x184, 1, 0x0, 1, 0x0,
     [⟨"CYCLE", 19, 16, .ro, (.val 0), .any⟩,
      ⟨"STAGE", 9, 8, .ro, (.val 0), .any⟩,
      ⟨"RELAY_HIGH", 0, 0, .ro, (.val 0), .any⟩]⟩,
   ⟨"RES.SEQ", 0x200, 1, 0x0, 1, 0x0,
     [⟨"SEQ", 31, 24, .ro, (.val 0), .any⟩,
      ⟨"VALID", 23, 23, .ro, (.val 0), .any⟩,
      ⟨"LSTATE", 18, 16, .ro, (.val 0), .any⟩,
      ⟨"SET", 10, 8, .ro, (.val 0), .any⟩,
      ⟨"FLAGS", 7, 0, .ro, (.val 0), .any⟩]⟩,
   ⟨"RES.STAMP_LO", 0x204, 1, 0x0, 1, 0x0,
     [⟨"STAMP_LO", 31, 0, .ro, (.val 0), .any⟩]⟩,
   ⟨"RES.STAMP_HI", 0x208, 1, 0x0, 1, 0x0,
     [⟨"STAMP_HI", 31, 0, .ro, (.val 0), .any⟩]⟩,
   ⟨"RES.SAMPLE_CNT", 0x20C, 1, 0x0, 1, 0x0,
     [⟨"SAMPLE_CNT", 31, 0, .ro, (.val 0), .any⟩]⟩,
   ⟨"RES.SP_USED", 0x210, 1, 0x0, 1, 0x0,
     [⟨"SP_USED", 31, 0, .ro, (.val 0), .any⟩]⟩,
   ⟨"RES.Y0", 0x214, 1, 0x0, 1, 0x0,
     [⟨"Y0", 31, 0, .ro, (.val 0), .any⟩]⟩]

/-- Registers of the LOOP page (spec chapter 09, 10), part 6. -/
def rowsLoop5 : List Row :=
  [⟨"RES.U0", 0x218, 1, 0x0, 1, 0x0,
     [⟨"U0", 31, 0, .ro, (.val 0), .any⟩]⟩,
   ⟨"RES.U1", 0x21C, 1, 0x0, 1, 0x0,
     [⟨"U1", 31, 0, .ro, (.val 0), .any⟩]⟩,
   ⟨"RES.I0", 0x220, 1, 0x0, 1, 0x0,
     [⟨"I0", 31, 0, .ro, (.val 0), .any⟩]⟩,
   ⟨"RES.I1", 0x224, 1, 0x0, 1, 0x0,
     [⟨"I1", 31, 0, .ro, (.val 0), .any⟩]⟩,
   ⟨"RES.INV", 0x228, 1, 0x0, 1, 0x0,
     [⟨"INV", 4, 0, .ro, (.val 0), .any⟩]⟩,
   ⟨"RES.OUT_ST", 0x22C, 1, 0x0, 1, 0x0,
     [⟨"OUT_ST", 15, 0, .ro, (.val 0), .any⟩]⟩,
   ⟨"DL_CNT", 0x240, 1, 0x0, 1, 0x0,
     [⟨"COUNT", 31, 0, .ro, (.val 0), .any⟩]⟩,
   ⟨"SKIP_CNT", 0x244, 1, 0x0, 1, 0x0,
     [⟨"COUNT", 31, 0, .ro, (.val 0), .any⟩]⟩,
   ⟨"INV_CNT", 0x248, 1, 0x0, 1, 0x0,
     [⟨"COUNT", 31, 0, .ro, (.val 0), .any⟩]⟩,
   ⟨"EVT_DROP_CNT", 0x24C, 1, 0x0, 1, 0x0,
     [⟨"COUNT", 31, 0, .ro, (.val 0), .any⟩]⟩,
   ⟨"STATE", 0x300, 12, 0x4, 1, 0x0,
     [⟨"STATE", 31, 0, .ro, (.val 0), .any⟩]⟩,
   ⟨"SET_CTRL", 0x800, 8, 0x100, 1, 0x0,
     [⟨"NOTCH_EN,INT_EN", 1, 0, .rwc, (.val 0), .any⟩]⟩]

/-- Registers of the LOOP page (spec chapter 09, 10), part 7. N0 resets to 1.0 whatever LAW selects (the model's choice: log
entry 78). -/
def rowsLoop6 : List Row :=
  [⟨"SET_W1", 0x804, 8, 0x100, 8, 0x4,
     [⟨"WORD", 31, 0, .rwc, (.val 0), .any⟩]⟩,
   ⟨"SET_N0", 0x824, 8, 0x100, 1, 0x0,
     [⟨"WORD", 31, 0, .rwc, (.val 0x3F800000), .any⟩]⟩,
   ⟨"SET_W2", 0x828, 8, 0x100, 54, 0x4,
     [⟨"WORD", 31, 0, .rwc, (.val 0), .any⟩]⟩]

def rowsLoop : List Row := rowsLoop0 ++ rowsLoop1 ++ rowsLoop2 ++ rowsLoop3 ++ rowsLoop4 ++ rowsLoop5 ++ rowsLoop6

/-- The registers of a page of each kind. -/
def rowsOf : Kind → List Row
  | .dev => rowsDev
  | .clk => rowsClk
  | .pwr => rowsPwr
  | .therm => rowsTherm
  | .ledger => rowsLedger
  | .host => rowsHost
  | .time => rowsTime
  | .link => rowsLink
  | .wear => rowsWear
  | .xform => rowsXform
  | .act => rowsAct
  | .ucode => rowsUcode
  | .di => rowsDi
  | .dio => rowsDio
  | .ao => rowsAo
  | .ai => rowsAi
  | .moist => rowsMoist
  | .cell => rowsCell
  | .fan => rowsFan
  | .gnss => rowsGnss
  | .gnssCh => rowsGnssCh
  | .rootSeg => rowsRootSeg
  | .rootMain => rowsRootMain
  | .loop => rowsLoop

/-- One line of the page map: kind, first page number (base / 0x1000), block code, pages, first instance number. -/
structure PageRow where
  kind : Kind
  first : Nat
  code : Nat
  count : Nat
  inst0 : Nat
  deriving DecidableEq, Repr

/-- The page map (R473). -/
def pageMap : List PageRow :=
  [⟨.dev, 0x0, 0x1, 1, 0⟩,
   ⟨.clk, 0x1, 0x2, 1, 0⟩,
   ⟨.pwr, 0x2, 0x3, 1, 0⟩,
   ⟨.therm, 0x3, 0x4, 1, 0⟩,
   ⟨.ledger, 0x4, 0x5, 1, 0⟩,
   ⟨.host, 0x5, 0x6, 1, 0⟩,
   ⟨.time, 0x6, 0x7, 1, 0⟩,
   ⟨.link, 0x7, 0x8, 1, 0⟩,
   ⟨.wear, 0x8, 0x9, 1, 0⟩,
   ⟨.xform, 0x9, 0xA, 1, 0⟩,
   ⟨.act, 0x10, 0x10, 12, 0⟩,
   ⟨.ucode, 0x20, 0x11, 12, 0⟩,
   ⟨.di, 0x30, 0x20, 8, 0⟩,
   ⟨.dio, 0x38, 0x21, 4, 0⟩,
   ⟨.ao, 0x3C, 0x22, 1, 0⟩,
   ⟨.ai, 0x40, 0x30, 8, 0⟩,
   ⟨.moist, 0x48, 0x31, 1, 0⟩,
   ⟨.cell, 0x50, 0x32, 16, 0⟩,
   ⟨.fan, 0x60, 0x50, 8, 0⟩,
   ⟨.gnss, 0x70, 0x60, 1, 0⟩,
   ⟨.gnssCh, 0x71, 0x60, 4, 1⟩,
   ⟨.rootSeg, 0x80, 0x70, 16, 0⟩,
   ⟨.rootMain, 0x90, 0x70, 1, 16⟩,
   ⟨.loop, 0x100, 0x40, 256, 0⟩]

/-- The page an address lies in, with its index within its kind. -/
def pageOf (addr : Nat) : Option (PageRow × Nat) :=
  let p := addr / 0x1000
  (pageMap.find? fun r => decide (r.first ≤ p) && decide (p < r.first + r.count)).map fun r => (r, p - r.first)

/-- The index of `off` in a repeated register, if the row covers it. -/
def Row.index (r : Row) (off : Nat) : Option (Nat × Nat) :=
  if off < r.off then none else
  let d := off - r.off
  let i := if r.s1 = 0 then 0 else min (d / r.s1) (r.n1 - 1)
  let d := d - i * r.s1
  let j := if r.s2 = 0 then 0 else min (d / r.s2) (r.n2 - 1)
  let d := d - j * r.s2
  if d = 0 then some (i, j) else none

/-- The register at an offset of a page: its row and its two indices. -/
def rowAt (k : Kind) (off : Nat) : Option (Row × Nat × Nat) :=
  (rowsOf k).findSome? fun r => (r.index off).map fun ij => (r, ij.1, ij.2)

/-- The value of a reset entry on page `r`, index `i` of its kind. -/
def Rst.value (x : Rst) (r : PageRow) (i : Nat) : Nat :=
  match x with
  | .val n => n
  | .code => r.code
  | .inst => r.inst0 + i
  | .instDiv4 => i / 4
  | .instMod4 => i % 4

/-- The word a list of fields resets to. -/
def resetFields (r : PageRow) (i : Nat) : List Field → Word
  | [] => 0
  | f :: fs => fieldAt f.hi f.lo (f.rst.value r i) ||| resetFields r i fs

/-- The Reset column (R8): what a register holds when the module leaves BOOT; 0 outside the map. -/
def resetWord (addr : Nat) : Word :=
  match pageOf addr with
  | none => 0
  | some (r, i) =>
    match rowAt r.kind (addr % 0x1000) with
    | none => 0
    | some (row, _, _) => resetFields r i row.fields

/-- The ones of a word in the fields of the given access codes. -/
def accMask (p : Access → Bool) : List Field → Word
  | [] => 0
  | f :: fs => (if p f.acc then maskOf f.hi f.lo else 0) ||| accMask p fs

/-- Base address of page `i` of a kind (R473). -/
def pageBase : Kind → Nat → Nat
  | .dev, _ => 0x0
  | .clk, _ => 0x1000
  | .pwr, _ => 0x2000
  | .therm, _ => 0x3000
  | .ledger, _ => 0x4000
  | .host, _ => 0x5000
  | .time, _ => 0x6000
  | .link, _ => 0x7000
  | .wear, _ => 0x8000
  | .xform, _ => 0x9000
  | .act, i => 0x10000 + i * 0x1000
  | .ucode, i => 0x20000 + i * 0x1000
  | .di, i => 0x30000 + i * 0x1000
  | .dio, i => 0x38000 + i * 0x1000
  | .ao, _ => 0x3C000
  | .ai, i => 0x40000 + i * 0x1000
  | .moist, _ => 0x48000
  | .cell, i => 0x50000 + i * 0x1000
  | .fan, i => 0x60000 + i * 0x1000
  | .gnss, _ => 0x70000
  | .gnssCh, i => 0x71000 + i * 0x1000
  | .rootSeg, i => 0x80000 + i * 0x1000
  | .rootMain, _ => 0x90000
  | .loop, i => 0x100000 + i * 0x1000

end Sys2Proof.Machine
end

