-- ==== Sys2Proof/Machine/Types.lean ====
section
/-!
DEFINITION. The state of the blocks, part 1: modes and supervisor, Heartwood, clocks, supplies and domains, the peak
arbiter and the energy ledger, thermal supervision and fans, the actuator banks and their microcode contexts.
Everything software reads in a register and nothing else holds stands in the register file (State.lean, `regs`); the
structures here hold what the spec gives the machine beside its registers. Instants are module nanoseconds (`now`)
unless a comment says Heartwood nanoseconds.
-/
namespace Sys2Proof.Machine

/-- The nine modes (R32 table, "Modes in brief"). -/
inductive Mode where
  | off | boot | standby | commission | run | constrained | safeHold | thermalOff | maintenance
  deriving DecidableEq, Repr

/-- DEV_MODE codes. -/
def Mode.code : Mode → Nat
  | .off => 0 | .boot => 1 | .standby => 2 | .commission => 3 | .run => 4
  | .constrained => 5 | .safeHold => 6 | .thermalOff => 7 | .maintenance => 8

/-- An event-log entry (R66). -/
structure LogEntry where
  stamp : Nat
  num : Nat
  page : Nat
  flags : Nat
  code : Nat
  sess : Nat
  cls : Nat
  data : Nat
  deriving DecidableEq, Repr

/-- The event log: the ring of the last 16,384 entries, newest first; the number of the newest; how many of the newest
are not yet in the flash archive; the archive and the instant it was last written (R66, R90, R102, R393); the flags the
hardware has set in the present cycle (R9). -/
structure EvLog where
  ring : List LogEntry
  newest : Nat
  unarchived : Nat
  archive : List LogEntry
  lastArchive : Option Nat
  /-- The fabric cycle in which a flag was last set, and the flags set in it: page and bit (R9). -/
  freshAt : Nat
  fresh : List (Nat × Nat)
  deriving DecidableEq, Repr

/-- Where BOOT stands in the timeline of R87. -/
inductive BootPhase where
  /-- AON held in reset (t = 0 to 2 ms). -/
  | aonReset
  /-- XREF judged, PLL enabled, root awaited (3 ms to root lock). -/
  | clocks
  /-- Core held in reset (root locked, 17–18 ms; or the 1.0 ms hold of R90). -/
  | coreReset
  /-- March test of the SRAM. -/
  | sram
  /-- Image read and authenticated. -/
  | auth
  /-- Firmware restores the configuration store. -/
  | restore
  /-- BOOT has ended. -/
  | done
  /-- BOOT has stalled for good: SRAM failure or no image (R88). -/
  | stalled
  deriving DecidableEq, Repr

/-- The reset sources of R90, in the order of the RESET_CAUSE bits. -/
inductive ResetCause where
  | powerOn | rstPin | watchdog | hostReset | thermal | fwActivate
  deriving DecidableEq, Repr

def ResetCause.bit : ResetCause → Nat
  | .powerOn => 0 | .rstPin => 1 | .watchdog => 2 | .hostReset => 3 | .thermal => 4 | .fwActivate => 5

/-- UPD_STATE of FW_STAT. -/
inductive UpdState where
  | idle | erasing | ready | programming | verifying | verified | failed
  deriving DecidableEq, Repr

def UpdState.code : UpdState → Nat
  | .idle => 0 | .erasing => 1 | .ready => 2 | .programming => 3 | .verifying => 4 | .verified => 5 | .failed => 6

/-- One firmware bank: whether its image authenticates, its version word, and its 4 MiB as (offset, byte) cells; an erased
byte reads 0xFF and is not listed. -/
structure FwBank where
  valid : Bool
  version : Word
  cells : List (Nat × Byte)
  deriving DecidableEq, Repr

/-- Firmware banks and the update in progress (R99, R100). -/
structure Firmware where
  bankA : FwBank
  bankB : FwBank
  /-- true: bank B is the active bank. -/
  activeB : Bool
  /-- The active image awaits CONFIRM. -/
  trial : Bool
  /-- Running from the bank that is not the selected one (R88) or the previous one (R100). -/
  fallback : Bool
  upd : UpdState
  err : Nat
  /-- FW_BUF, 64 words. -/
  buf : List Word
  deriving DecidableEq, Repr

/-- The strap lines as latched at start-up: true for a line that is linked (R455). -/
structure Straps where
  shdnT0 : Bool
  shdnT1 : Bool
  shdnOpen : Bool
  bootSel : Bool
  netDef : Bool
  deriving DecidableEq, Repr

/-- Supervisor core, modes, reset and boot (chapter 03). -/
structure Sup where
  mode : Mode
  prev : Mode
  /-- SAFE_CAUSE bits. -/
  safeCause : Nat
  resetCause : ResetCause
  /-- The SAFE net's level: asserted holds every output driver at its safe state. -/
  safeNet : Bool
  /-- RST_N accepted low and not yet risen (R91). -/
  rstLow : Bool
  /-- The clockless latch of R425. -/
  sentLatch : Bool
  /-- The sentinel is stopped (R425). -/
  sentStopped : Bool
  boot : BootPhase
  bootStart : Nat
  /-- FLT flashes under R88. -/
  bootFail : Bool
  /-- The second bank is being tried (R88). -/
  triedOther : Bool
  straps : Straps
  /-- The saved set of R89, in flash: CLK_EN and the pages whose EN is 1; none before the first entry to RUN. -/
  saved : Option (Word × List Nat)
  /-- SYS_SHDN_N driven low. -/
  shdnLow : Bool
  /-- LIFE_A/LIFE_B carry the 1 kHz wave. -/
  lifeWave : Bool
  /-- The management core is judged alive (R92). -/
  coreAlive : Bool
  lastBeat : Nat
  /-- The watchdog is armed (R87, from 1,058 ms). -/
  wdArmed : Bool
  /-- The session that commanded MAINTENANCE. -/
  maintSess : Option Nat
  selftest : Bool
  /-- Instants of the thermal shutdowns of the last 60 min. -/
  shutdowns : List Nat
  /-- THERM_COUNT has reached 3: no restart until AON is reset (R439). -/
  thermHold : Bool
  thermalAt : Nat
  /-- Comparators of TS0–TS5 tripped at the last shutdown, and tripped now. -/
  tripMask : Nat
  tripNow : Nat
  /-- Thermal shutdowns since manufacture. -/
  shdnTotal : Nat
  /-- The instant from which the hours of operation since the last power-up count (RUN_HOURS). -/
  hourRef : Nat
  /-- A reset commanded by DEV_CMD 15 or FW_CMD ACTIVATE follows the response of the request (R83, R100). -/
  resetDue : Option ResetCause
  /-- The response, as it stands in the SPI out queue, that must have left before the commanded reset begins. -/
  resetFrame : Option (List Byte)
  fw : Firmware
  deriving DecidableEq, Repr

/-- Clock judging and faults (chapter 16). -/
structure Clocks where
  /-- The last agreeing COUNT values of the judge, newest first, at most 8 (R414). -/
  run : List Nat
  lastCount : Option Nat
  /-- When the latest window ended. -/
  windowAt : Option Nat
  xrefStable : Bool
  pllOn : Bool
  rootLocked : Bool
  pllAt : Nat
  /-- Clock fault in progress: 0 none, 1 XREF_LOST, 2 LOCK_LOST. -/
  fault : Nat
  faultAt : Nat
  faultStamp : Nat
  /-- CORE and fabric run on the sentinel. -/
  coreOnSentinel : Bool
  tcxoRun : Nat
  tcxoOk : Bool
  /-- A frequency measurement runs since this instant, with the FCNT_CFG it was started with. -/
  fcnt : Option (Nat × Word)
  /-- XREF has been lost in the fault in progress. -/
  xrefGone : Bool
  deriving DecidableEq, Repr

/-- Supplies and domains (chapter 15). Voltages in 10 mV. -/
structure Power where
  vlLow : Bool
  /-- A VL sag sequence runs since the instant. -/
  sag : Option Nat
  /-- Its event-log entry, until it is written at 0.1 ms. -/
  sagData : Option Nat
  /-- The four domains of R393 are switched off by the sequence. -/
  sagShed : Bool
  vfaStage : Nat
  vfaOvl : Bool
  vffUv : Bool
  /-- Powered domains, bit n of R398. -/
  powered : Nat
  /-- Domains switched off by R400. -/
  domFault : Nat
  /-- The last 1,000 samples of VL power, 0.1 mW, newest first. -/
  vlPower : List Nat
  /-- VL_OVL and VFF_OVL hold. -/
  vlOvl : Bool
  vffOvl : Bool
  deriving DecidableEq, Repr

inductive ReqKind where
  | boost | peak
  deriving DecidableEq, Repr

/-- A BOOST or PEAK request waiting for the arbiter, or a grant held (R401, R203). -/
structure ArbReq where
  kind : ReqKind
  bank : Nat
  ch : Nat
  target : Nat
  /-- Class: true for DEFERRABLE. -/
  deferrable : Bool
  deadline : Nat
  /-- The boundary at which a first phase starts: module instant and Heartwood ns. Any other phase starts at the first slot
  boundary after its decision (R203). -/
  startAt : Nat
  startHw : Nat
  /-- First phase of an event. -/
  first : Bool
  offm : Nat
  raddr : Nat
  /-- The order number of an event that still waits to take over its running channel: requested before its boundary. -/
  pre : Option Nat
  deriving DecidableEq, Repr

/-- An inrush request or grant of a fan: channel, INRUSH_I in 0.1 A, since when. -/
structure Inrush where
  fan : Nat
  amps : Nat
  since : Nat
  deriving DecidableEq, Repr

/-- The peak arbiter (R401–R404). Currents in 0.1 A. -/
structure Arbiter where
  pending : List ArbReq
  grants : List ArbReq
  inrush : List Inrush
  inrushHeld : List Inrush
  /-- Recharge granted in the previous slot, per converter, 0.1 A. -/
  rechg : List Nat
  deriving DecidableEq, Repr

/-- One converter in the ledger (R405). Energies in binary64 joules. -/
structure LedgerConv where
  eAcc : F64
  eRsv : F64
  lastUpdate : Nat
  /-- EBOOST (0.1 mJ) of events started since the previous update. -/
  started : Nat
  deriving DecidableEq, Repr

/-- The energy ledger (R405–R410). -/
structure Ledger where
  conv : List LedgerConv
  /-- A deferral or recharge refusal is in force. -/
  limiting : Bool
  /-- Instant at which the last one ended. -/
  limitEnd : Nat
  energyLimit : Bool
  rcut : Bool
  /-- Energy sums since BOOT in units of 1e-7 J, one per supply. -/
  energy : List Nat
  /-- Sum of V·I products of the running second, and their number, per supply. -/
  secSum : List Nat
  secN : Nat
  deriving DecidableEq, Repr

inductive Stage where
  | none | request | enforce (level : Nat)
  deriving DecidableEq, Repr

/-- One thermal sensor (R429–R432). -/
structure Sensor where
  stage : Stage
  broken : Bool
  /-- Latest TEMP, 1/64 °C, signed. -/
  temp : Int
  valid : Bool
  /-- Heartwood instant of the latest sample. -/
  stamp : Nat
  /-- The last four readings, newest first. -/
  hist : List Int
  /-- Since when every sample lay at or below the release limit. -/
  lowSince : Option Nat
  graceAt : Nat
  deriving DecidableEq, Repr

/-- What the converter of R428 senses at one sensor: a diode's forward voltage (mV) and temperature (1/1000 °C), an NTC's
resistance (mΩ, its return included), or an open or short on the lines. -/
inductive Sensed where
  | diode (mv : Nat) (milli : Int)
  | ntc (milliOhm : Nat)
  | line
  deriving DecidableEq, Repr

inductive FanState where
  | off | starting | run | stallWait | kick | safe
  deriving DecidableEq, Repr

def FanState.code : FanState → Nat
  | .off => 0 | .starting => 1 | .run => 2 | .stallWait => 3 | .kick => 4 | .safe => 5

/-- One fan channel (R440–R449). Duty in 0.1 %. -/
structure Fan where
  st : FanState
  duty : Nat
  /-- Integrator of the RPM loop, binary32, in percent. -/
  integ : F32
  /-- Off since. -/
  offSince : Nat
  /-- The channel waits for an inrush grant, since when it has asked or, once granted, since when it runs. -/
  waiting : Bool
  startReq : Nat
  waitFlagged : Bool
  overload : Bool
  tachLost : Bool
  openFlag : Bool
  /-- Latest speed, rpm. -/
  speed : Nat
  /-- Consecutive stretches with tach, and since when. -/
  tachRun : Nat
  tachSince : Nat
  stallAt : Nat
  /-- The THERM curve has the channel stopped (R443). -/
  thermOff : Bool
  /-- The RPM loop is preset at its next closed-loop step. -/
  preset : Bool
  /-- The duty of the speed loop that takes effect at the end of the period in progress (R440, R444). -/
  next : Nat
  /-- A window of the KICK in progress was judged STALL (R448). -/
  kickStall : Bool
  /-- SHORT_SUP keeps the channel off (R449). -/
  shortSup : Bool
  /-- The on-interval of the period in progress, and what the on-intervals still give back of a stretch of that length (R441),
  10 µs each. -/
  on : Nat
  stretch : Nat
  debt : Nat
  /-- Heartwood instant of the latest result span. -/
  stamp : Nat
  deriving DecidableEq, Repr

inductive Phase where
  | none | off | boost | peak | hold
  deriving DecidableEq, Repr

/-- PHASE codes of CTXk. -/
def Phase.code : Phase → Nat
  | .none => 0 | .off => 1 | .boost => 3 | .peak => 4 | .hold => 5

inductive OffMode where
  | fast | slow | regen
  deriving DecidableEq, Repr

def OffMode.code : OffMode → Nat
  | .fast => 0 | .slow => 1 | .regen => 2

def offModeOf : Nat → OffMode
  | 0 => .fast | 1 => .slow | _ => .regen

/-- An actuator event (R192). `start` and `latest` are Heartwood nanoseconds. -/
structure Event where
  ch : Nat
  prof : Nat
  id : Nat
  start : Nat
  param : Word
  latest : Nat
  deferrable : Bool
  fromLoop : Bool
  /-- Order of queuing. -/
  seq : Nat
  /-- 0: not judged yet; 3, 4, 5: held at that gate. -/
  held : Nat
  /-- Due instant (Heartwood ns) recorded at the first judgement. -/
  dueAt : Nat
  /-- Passed gate 4: the window is reserved. -/
  passed4 : Bool
  /-- P_START, Heartwood ns, and FIT, as last planned (R406). -/
  pstart : Nat
  fit : Bool
  /-- The ledger has planned it, and a slot at which it can start exists. -/
  planned : Bool
  /-- Heartwood instant of the latest plan that set P_START. -/
  planAt : Nat
  /-- Counted in DEFER_CNT (R407). -/
  counted : Bool
  /-- Grant asked ahead of a takeover in HOLD (R202, R203): 0 no, 1 asked, 2 granted, 3 refused. -/
  pre : Nat
  /-- Heartwood instant at which it entered the queue: what the bank knew ahead (R203). -/
  queuedAt : Nat
  deriving DecidableEq, Repr

/-- What a waiting instruction waits for (R221). -/
inductive Wait where
  | decision
  | until (at_ : Nat)
  | current (dirLe : Bool) (thr : Nat)
  | tph (ticks : Nat)
  | dip
  | offEnd
  deriving DecidableEq, Repr

/-- A dip watch in progress (R227). -/
structure DipWatch where
  depth : Nat
  imax : Nat
  falling : Bool
  imin : Nat
  tmin : Nat
  deriving DecidableEq, Repr

/-- A ramp in progress (R225). -/
structure Ramp where
  old : Nat
  new : Nat
  at_ : Nat
  tr : Nat
  deriving DecidableEq, Repr

/-- A phase that starts at a slot boundary still to come (R203, R220, R221): the boundary (module instant and Heartwood
ns), PHASE, OFFM, ITGT, and whether the arbiter granted it (BST, PK) or it needs no grant (HLD). -/
structure NextPhase where
  at_ : Nat
  hw : Nat
  ph : Phase
  offm : OffMode
  itgt : Nat
  grant : Bool
  deriving DecidableEq, Repr

/-- A microcode context (R218). -/
structure Ctx where
  active : Bool
  pc : Nat
  v0 : Nat
  v1 : Nat
  v2 : Nat
  v3 : Nat
  param : Nat
  phase : Phase
  offm : OffMode
  itgt : Nat
  band : Nat
  tonMin : Nat
  toffMin : Nat
  /-- Origin of TPH; none before the first phase. -/
  tph0 : Option Nat
  tev0 : Nat
  refused : Bool
  refWin : Bool
  tgt : Bool
  dip : Bool
  arm : Option (Nat × Nat)
  wait : Option Wait
  ramp : Option Ramp
  watch : Option DipWatch
  /-- The regulation interval: on or off, and since when. -/
  onInt : Bool
  intAt : Nat
  /-- The first off-interval of a phase entered above its band lasts until I ≤ ITGT (R224). -/
  firstOff : Option OffMode
  /-- The phase that starts at the slot boundary named in it. -/
  next : Option NextPhase
  /-- An OFF switched the channel off: the end of that switch-off is the origin of TPH (R219). -/
  offTph : Bool
  deriving DecidableEq, Repr

/-- An EVENT_ID held for a channel (R65, R196). -/
structure IdRec where
  id : Nat
  estate : Nat
  outcome : Nat
  deriving DecidableEq, Repr

/-- The running event of a channel. -/
structure Running where
  ev : Event
  /-- Stamp of the actual start, Heartwood ns, and its module instant: the instant its first phase took effect. Until then
  (`begun` false) the boundary at which the first phase is due. -/
  startHw : Nat
  startAt : Nat
  begun : Bool
  peakI : Nat
  motT : Option Nat
  /-- Energy drawn from and returned to the reservoir so far, units of 1e-10 J. -/
  eRes : Nat
  eRegen : Nat
  /-- Outcome already decided; the record is written when the switch-off ends. -/
  ending : Option Nat
  deriving DecidableEq, Repr

/-- The wear ledger (R102, R103). -/
structure Wear where
  /-- USED of each indicator, 0.01 %, saturating at 0xFFFF. -/
  used : Vector Nat 8
  worst : Vector Nat 8
  warn : Vector Bool 8
  ended : Vector Bool 8
  /-- Consecutive hold-up measurements above 9,000 and above 10,000. -/
  hold9 : Nat
  hold10 : Nat
  /-- Clamp energy of each bank, 0.1 mJ. -/
  clampE : Vector Nat 12
  /-- Converters whose own use has passed its end of life (R189), and their runs of measurements above 9,000 and
  above 10,000. -/
  boostEnd : Vector Bool 6
  boost9 : Vector Nat 6
  boost10 : Vector Nat 6
  /-- Latest use of each converter, 0.01 %. -/
  boostUse : Vector Nat 6
  /-- On-off cycles of each DO output. -/
  doCycles : Vector Nat 32
  /-- Turning points of TS5 not yet closed into cycles (rainflow), newest first, 1/64 °C. -/
  rain : List Int
  /-- Equivalent thermal cycles so far. -/
  cycles : F64
  /-- Erases of the most-erased flash sector, and the sector. -/
  erases : Nat
  sector : Nat
  /-- Surges of each Rootline segment. -/
  surges : Vector Nat 16
  /-- Equivalent isolator hours at TS2 and at TS4. -/
  iso2 : F64
  iso4 : F64
  replace : Bool
  /-- Hours with VL applied, in 100 ms units, before the present power-on. -/
  hours : Nat
  deriving DecidableEq, Repr

/-- One actuator channel. -/
structure Chan where
  ctx : Ctx
  run : Option Running
  /-- An event that passed gates 3–5 and waits for the switch-off and MIN_OFF (R202). -/
  next : Option Event
  /-- Switch-off in progress. -/
  switchOff : Option OffMode
  conduct : Bool
  /-- End of MIN_OFF, Heartwood ns. -/
  minOffEnd : Nat
  /-- Latest current sample, 10 mA. -/
  i : Nat
  fault : Nat
  /-- Class of the previous off-state test, the reported class, and the class in force, which UNKNOWN leaves (R207). -/
  lastClass : Nat
  shown : Nat
  cls : Nat
  ids : List IdRec
  /-- MOT_T of the last 64 events that ended DONE with MOTION. -/
  mots : List Nat
  /-- Dip instant of the newest of them, Heartwood ns. -/
  motStamp : Nat
  deriving DecidableEq, Repr

/-- An open or reserved window of a bank (R198, R199). -/
structure Win where
  ch : Nat
  /-- The event (order of queuing) whose window it is. -/
  ev : Nat
  /-- Closing instant (module ns); none while reserved. -/
  closeAt : Option Nat
  deriving DecidableEq, Repr

/-- One actuator bank. -/
structure Bank where
  ch : Vector Chan 4
  queue : List Event
  wins : List Win
  lock : Bool
  lockCause : Nat
  /-- An off-state test has completed since the trip (R210). -/
  testedSince : Bool
  sag : Bool
  testing : Bool
  /-- Module instant at which the latest off-state test began (R207). -/
  lastTest : Option Nat
  hsLast : Nat
  hsShown : Nat
  hsClass : Nat
  /-- Sum and number of the bank-current samples of the running millisecond. -/
  iSum : Nat
  iN : Nat
  iPeak : Nat
  /-- 1 ms means of the last 100 ms, newest first, 10 mA. -/
  means : List Nat
  lastMs : Nat
  /-- Heartwood instant of the latest 1 ms update of I_AVG. -/
  avgStamp : Nat
  seq : Nat
  /-- QRY_ID and QRY_CH of each session. -/
  qry : Vector (Word × Nat) 8
  deriving DecidableEq, Repr

end Sys2Proof.Machine
end

