-- ==== Sys2Proof/Machine/Types2.lean ====
section
/-!
DEFINITION. The state of the blocks, part 2: Canopy sessions, claims, the SPI host port and the network side.
-/
namespace Sys2Proof.Machine

/-- The roles of R45, in rising order. -/
inductive Role where
  | view | operate | engineer | service
  deriving DecidableEq, Repr

def Role.code : Role → Nat
  | .view => 0 | .operate => 1 | .engineer => 2 | .service => 3

def roleOf : Nat → Role
  | 0 => .view | 1 => .operate | 2 => .engineer | _ => .service

/-- Where a frame comes from and its answers go: UDP on P1 (0) or P2 (1) with the source address, or the SPI port. -/
inductive Via where
  | udp (port : Fin 2) (ip : Word) (uport : Nat)
  | spi
  deriving DecidableEq, Repr

/-- TRANSPORT of SESS_INFO. -/
def Via.code : Via → Nat
  | .udp p _ _ => p
  | .spi => 2

/-- An open session (R45–R57, R71). -/
structure Sess where
  slot : Nat
  role : Role
  minor : Nat
  /-- The source of its latest authenticated request. -/
  via : Via
  /-- Granted lease in ms, and the instant of its last renewal. -/
  lease : Nat
  renewed : Nat
  /-- Session key Ks (R48). -/
  key : List Byte
  /-- H of R71. -/
  h : Nat
  /-- Sequence numbers accepted among H−63 to H. -/
  seen : List Nat
  /-- Responses of the last 16 executed requests, newest first, by sequence number. -/
  cache : List (Nat × List Byte)
  beacons : Nat
  /-- Which opening this session is. -/
  gen : Nat
  deriving DecidableEq, Repr

/-- A session number reserved by an OPEN_CHAL (R49). -/
structure OpenWait where
  slot : Nat
  minor : Nat
  lease : Nat
  replace : Bool
  hostNonce : List Byte
  modNonce : List Byte
  since : Nat
  deriving DecidableEq, Repr

/-- A claim (R61, R62). `sub` is 0xFF for the whole page. -/
structure Claim where
  page : Nat
  sub : Nat
  owner : Nat
  loss : Nat
  orphan : Bool
  /-- The opening of the session it was made by, and that session's role: a later session of the same number owns
  nothing of it (R275). -/
  gen : Nat
  role : Role
  deriving DecidableEq, Repr

/-- An accepted request waiting for the Canopy engine (R68). -/
structure Req where
  sess : Nat
  seq : Nat
  via : Via
  frame : List Byte
  deriving DecidableEq, Repr

/-- The lines the module sends on. -/
inductive Line where
  | udp (port : Fin 2) (ip : Word) (uport : Nat)
  | arp (port : Fin 2)
  | icmp (port : Fin 2) (ip : Word)
  | dhcp (port : Fin 2)
  /-- A PTP frame of the module's own; a frame the transparent clock passes on. -/
  | ptp (port : Fin 2)
  | tc (port : Fin 2)
  | miso
  | seg (n : Nat)
  /-- The latest frame of a segment was cut off: what had left of it (R319). -/
  | segCut (n : Nat)
  | dio (g : Nat)
  | afe
  deriving DecidableEq, Repr

/-- What the module has sent, and when. -/
structure Sent where
  at_ : Nat
  line : Line
  bytes : List Byte
  deriving DecidableEq, Repr

/-- A frame of the SPI out queue (R41). -/
structure OutFrame where
  beacon : Bool
  bytes : List Byte
  deriving DecidableEq, Repr

/-- The SPI host port (R36–R41). -/
structure Spi where
  out : List OutFrame
  /-- IN_FULL as the latest transfer showed it. -/
  inFull : Bool
  crcErr : Bool
  deriving DecidableEq, Repr

/-- What reaches the DHCP client (R34): a server's OFFER, ACK or NAK with the address, the server and the lease time in s;
or `timer`: the client's own timer runs out. -/
inductive DhcpMsg where
  | offer (ip server : Word)
  | ack (ip server : Word) (lease : Nat)
  | nak
  | timer
  deriving DecidableEq, Repr

/-- The states of a DHCP client (RFC 2131). -/
inductive DhcpState where
  | init | selecting | requesting | bound | renewing | rebinding
  deriving DecidableEq, Repr

/-- The DHCP client (R34): its state, its transaction number, the address and the server it deals with, when it last asked for
a lease, from when the lease it holds counts and how long it lasts in s. -/
structure Dhcp where
  st : DhcpState
  xid : Word
  ip : Word
  server : Word
  asked : Nat
  since : Nat
  secs : Nat
  deriving DecidableEq, Repr

/-- The network side (R34, R80, LINK page). -/
structure Net where
  /-- Address in use; 0 while DHCP holds no lease. -/
  ip : Word
  /-- A DHCP lease: its address. -/
  lease : Option Word
  dhcp : Dhcp
  /-- An address change waiting for the response of the request that caused it (R80). -/
  changeDue : Bool
  /-- Link up at 100 Mbit/s and full duplex, P1 and P2. -/
  link : Vector Bool 2
  fdx : Vector Bool 2
  deriving DecidableEq, Repr

/-- Canopy (chapter 02). -/
structure Canopy where
  sess : Vector (Option Sess) 8
  waits : Vector (Option OpenWait) 8
  claims : List Claim
  queue : List Req
  /-- Key of each slot; none: the key of delivery (slot 0) or no key. -/
  keys : Vector (Option (List Byte)) 8
  spi : Spi
  net : Net
  /-- Sessions opened so far. -/
  gens : Nat
  /-- Frames that wait in SPI_IN and LINK_RXQ while the core has no clock, the oldest first (R418). -/
  rxq : List (Via × List Byte)
  /-- Frames that P1_RXF and P2_RXF hold while the switch has no clock (R418). -/
  rxf : List (Via × List Byte)
  deriving DecidableEq, Repr

/-- A relay tune in progress (R279–R281). -/
structure Tune where
  uc : F32
  spT : F32
  /-- RELAY = +1. -/
  high : Bool
  started : Bool
  /-- Up-switches so far, the first and last of the evaluated spans, and the extremes of Y0 over them. -/
  ups : Nat
  tFirst : Nat
  tLast : Nat
  ymax : F32
  ymin : F32
  /-- Executed or skipped samples since the last change of RELAY. -/
  quiet : Nat
  /-- START has taken effect: U_C and SP_T are frozen (R279). -/
  frozen : Bool
  deriving DecidableEq, Repr

/-- What a selector's source holds: the raw value in binary32, the stamp in Heartwood ns, and whether the result is valid and
free of its block's fault flags (R240, R241). -/
structure Source where
  raw : F32
  stamp : Nat
  ok : Bool
  /-- A level sampled throughout: its latest sample is that at the boundary, whose instant is its stamp (R241, R326). -/
  live : Bool := false
  deriving DecidableEq, Repr

/-- The sources of a loop's selectors as latched at its boundaries in (lo, hi], Heartwood ns (R239, R256). -/
structure LoopLatch where
  loop : Nat
  lo : Nat
  hi : Nat
  src : Vector (Option Source) 5
  deriving DecidableEq, Repr

/-- One loop (chapters 09 and 10). Words are binary32. -/
structure Loop where
  /-- LSTATE of the latest executed sample: 0 OFF, 1 MANUAL, 2 AUTO, 3 HOLD, 4 SAFE, 5 TRACK, 6 TUNE. -/
  lst : Nat
  /-- Latched: 0 none, 1 SAFE, 2 HOLD by NUMERIC, 3 both (R251). -/
  latch : Nat
  /-- Set in use. -/
  set_ : Nat
  /-- A write to a word of the set in use waits for its swap (R249). -/
  swapDue : Bool
  /-- NOTCH_EN of the set in use, as of its latest swap (R270). -/
  notch : Bool
  /-- The next AUTO sample is a preset sample (R264, R266, R276). -/
  presetDue : Bool
  /-- U_REF_0 of the first sample after a tune (R283). -/
  uRef : Option F32
  w1 : F32
  w2 : F32
  s1 : F32
  s2 : F32
  xh : Vector F32 8
  i : Vector F32 2
  up : Vector F32 2
  /-- Last valid X of SEL0–SEL4. -/
  lastX : Vector F32 5
  /-- The previous sample's write of output k was refused (R276). -/
  refused : Vector Bool 2
  /-- SAMPLE_CNT, and the Heartwood instant up to which boundaries are counted (exclusive) (R254). -/
  cnt : Nat
  mark : Nat
  /-- Latest boundary executed or skipped, plus one; 0: none. -/
  done : Nat
  /-- Heartwood steps forward that a boundary still waiting stood before: from, to, exclusive (R260). -/
  jumps : List (Nat × Nat)
  /-- Plausibility model (R272, R273): recorded inputs, newest first; it ran in the latest executed sample; values. -/
  hist : List F32
  plRun : Bool
  plRestart : Bool
  ym : F32
  plB : F32
  plR : F32
  plCnt : Nat
  plOk : Nat
  plFault : Bool
  /-- Latest region decision (R269). -/
  region : Nat
  /-- SCHED_EN has changed from 0 to 1: the first decision starts from SET_SEL (R269). -/
  schedNew : Bool
  noRegion : Bool
  xInvalid : Bool
  tune : Option Tune
  deriving DecidableEq, Repr

end Sys2Proof.Machine
end

