-- ==== Sys2Proof/Machine/Types3.lean ====
section
/-!
DEFINITION. The state of the blocks, part 3: the isolated digital inputs and outputs (chapter 12).
-/
namespace Sys2Proof.Machine

/-- The field side of one group (R321–R324, R343): groups 0–7 are DIG 0–7, groups 8–11 are DOG 0–3. -/
structure FieldSide where
  /-- The field side is powered. -/
  on : Bool
  uv18 : Bool
  uv15 : Bool
  /-- UV15 has cleared and the 100 ms of R343 run since the instant. -/
  recover : Option Nat
  silent : Bool
  rcStop : Bool
  /-- Instant of the latest valid CMD frame. -/
  lastCmd : Nat
  silMs : Nat
  /-- The group went SILENT and the report waits for the link. -/
  silReport : Bool
  /-- Configuration on its way in the latest CMD frame: a CHk_CFG or OUTk_CFG word per channel, SIL_MS, pending clears. -/
  sent : Option (List Word × Nat × Nat)
  /-- Configuration the field side holds: one word per channel. -/
  cfg : Vector Word 8
  /-- Fault clears that wait for the next CMD frame, bit k. -/
  clears : Nat
  /-- Logic side: LINK_OK, the instant of the latest valid STATUS frame, and UV18 and UV15 as last reported. -/
  linkOk : Bool
  lastStatus : Nat
  repUv18 : Bool
  repUv15 : Bool
  deriving DecidableEq, Repr

/-- One digital input. Stamps are Heartwood ns. -/
structure DiChan where
  raw : Bool
  acc : Bool
  /-- Sample instant of the latest pulsed reading. -/
  stamp : Nat
  /-- Pulsed: consecutive windows that showed `raw`, and the sample instant of the first. Continuous: the module instant of the
  first 50 MHz sample since which the lane has shown `raw` and the debounce runs (R329, R331). -/
  run : Nat
  first : Nat
  /-- Sampling mode in force: pulsed since a window. -/
  pulsed : Bool
  deriving DecidableEq, Repr

/-- One counting input (R333, R334). -/
structure DiCount where
  count : Nat
  k : Nat
  tLast : Option Nat
  tRef : Option Nat
  tFirst : Nat
  deriving DecidableEq, Repr

/-- One input group. -/
structure DiGroup where
  ch : Vector DiChan 8
  cnt : Vector DiCount 2
  /-- A valid STATUS frame has arrived since EN was set. -/
  seen : Bool
  deriving DecidableEq, Repr

/-- What an output's DRIVE lane carries: a level, or a wave begun at an instant, its period and high part in ns. -/
inductive Drive where
  | steady (on : Bool)
  | wave (start period high : Nat)
  deriving DecidableEq, Repr

/-- One digital output. -/
structure DoOut where
  /-- What rows 5–8 of R336 drive, and what reaches the terminal after rows 1–4. -/
  lane : Drive
  out : Drive
  /-- Since when `out` is as it is. -/
  since : Nat
  /-- The row of R336 that applies, and the level the output drove when it began to. -/
  row : Nat
  held : Bool
  /-- The row of 5–8 that the logic side applies on the lane (9: row 8 with an invalid mirror that asks for the safe state),
  and the level the output drove when it began to. -/
  lrow : Nat
  lheld : Bool
  overload : Bool
  overAt : Nat
  ot : Bool
  /-- In current limit, as its latest STATUS frame says (R323). -/
  limit : Bool
  /-- Readback flags: SHORT_SUP, RB_FAIL, OPEN. -/
  shortSup : Bool
  /-- When SHORT_SUP and RB_FAIL were set. -/
  supAt : Nat
  rbAt : Nat
  rbFail : Bool
  opened : Bool
  /-- The value in force, in units of R338, with the mode and period it was taken under. -/
  value : Nat
  mode : Nat
  /-- Mirror: the value of its latest valid evaluation since SRC selected it, its validity, and clip. -/
  mir : Option Nat
  mirInv : Bool
  clip : Bool
  derated : Bool
  /-- Switch-offs whose load current has not been judged yet. -/
  offs : Nat
  deriving DecidableEq, Repr

/-- The DIO block. -/
structure Dio where
  field : Vector FieldSide 12
  di : Vector DiGroup 8
  out : Vector DoOut 32
  deriving DecidableEq, Repr

end Sys2Proof.Machine
end

