-- ==== Sys2Proof/Machine/Types4.lean ====
section
/-!
DEFINITION. The state of the blocks, part 4: the analog island (chapter 06).
-/
namespace Sys2Proof.Machine

/-- A reading of an AI converter, in progress or on its way to the logic side (R172–R178). -/
structure AiReading where
  conv : Nat
  ch : Nat
  /-- The configuration it started with: CHk_CFG, CHk_TIME, LEAD2, SH_A, SH_B, SH_C, SCALE_K, SCALE_D. -/
  cfg : List Word
  range : Nat
  /-- Start, module ns, and Heartwood ns of the gate's midpoint once the gate has ended. -/
  start : Nat
  stamp : Nat
  /-- COUNT of phase A of an RTD3 reading; COUNT, or COUNT of phase B. -/
  countA : Option Nat
  count : Nat
  /-- Gate length in ns, when a break shortened it. -/
  short : Option Nat
  ovr : Bool
  /-- BRIDGE excitation current above 15 mA. -/
  exc : Bool
  clkFb : Bool
  /-- The lead measurement the reading belongs to, if any. -/
  lead : Bool
  deriving DecidableEq, Repr

/-- A lead measurement in progress: readings taken, their sum in Ω, and a flag among them (R175). -/
structure LeadRun where
  n : Nat
  sum : F64
  flagged : Bool
  deriving DecidableEq, Repr

/-- A frame of the result channel (R163): a reading, or the readback of an output with its flags, its stamp and whether its CRC
holds on arrival. -/
inductive AfeFrame where
  | ai (r : AiReading)
  | ao (n : Fin 8) (code : Nat) (opened short : Bool) (stamp : Nat) (good : Bool)
  deriving DecidableEq, Repr

/-- One AI converter. -/
structure AiConv where
  /-- The configuration the island holds: EN, and CHk_CFG and CHk_TIME of each channel, as command frames brought them (R165). -/
  en : Bool
  cfg : Vector (Word × Word) 4
  busy : Option AiReading
  rangeNext : Vector Nat 4
  /-- The reading in progress runs, or has run, on the island RC. -/
  onRc : Bool
  linkOk : Bool
  lead : Vector (Option LeadRun) 4
  /-- CH_EN of a channel was set and no reading of it has started since (R176). -/
  justEn : Vector Bool 4
  deriving DecidableEq, Repr

/-- One current output on the island. Codes are 0.4 µA. -/
structure AoOut where
  code : Nat
  safe : Nat
  openF : Bool
  shortF : Bool
  /-- Since when the OPEN and SHORT_SUP conditions have been seen, or been absent. -/
  openAt : Option Nat
  shortAt : Option Nat
  /-- Heartwood instant of the latest readback. -/
  stamp : Nat
  deriving DecidableEq, Repr

/-- What a configuration frame carries (R163, R165): EN of each converter, CHk_CFG and CHk_TIME of its channels. -/
abbrev AiConfig := Vector (Bool × Vector (Word × Word) 4) 8

/-- The AFE island. -/
structure Afe where
  conv : Vector AiConv 8
  /-- AFE_RX, oldest first, at most 32. -/
  rx : List AfeFrame
  ao : Vector AoOut 8
  /-- The island runs on its RC: the clock channel has stopped. -/
  onRc : Bool
  refreshTo : Bool
  lastCmd : Nat
  /-- The command frame on its way: codes and safe codes. -/
  cmd : Option (List Nat × List Nat)
  /-- The configuration frame on its way. -/
  cfgOut : Option AiConfig
  /-- The island's clock multiplexer has been forced to its RC (R419). -/
  muxRc : Bool
  /-- Command frames that the island has discarded and not yet reported (R164). -/
  cmdErr : Nat
  deriving DecidableEq, Repr

end Sys2Proof.Machine
end

