-- ==== Sys2Proof/Machine/Types5.lean ====
section
/-!
DEFINITION. The state of the blocks, part 5: the moisture cells, MOIST and the transform engine (chapters 01, 04, 05).
-/
namespace Sys2Proof.Machine

/-- What a converter saw over one integration window, or over the capture of a scan: its samples, whether the TIA comparator
tripped, and whether the excitation and the guard buffer limited. -/
structure Window where
  samples : List Code
  trip : Bool
  exc : Bool
  guard : Bool
  deriving DecidableEq, Repr

/-- What a dwell is for. `grp` is a catalogue group of R127; `lost`: what it was for has ended, the dwell yields nothing. -/
inductive DwellKind where
  | read
  | lost
  | cal (grp : Nat)
  | scan
  | rcal (idx : Nat)
  | sweep (grp : Nat)
  deriving DecidableEq, Repr

/-- A dwell in progress: the plan in force, its amplitudes in 1/64 mV, the range, its start (module ns), DISCH_US. -/
structure Dwell where
  cell : Fin 16
  kind : DwellKind
  tones : List Nat
  amps : List Nat
  phases : List Nat
  planId : Nat
  range : Nat
  start : Nat
  disch : Nat
  deriving DecidableEq, Repr

/-- The RTD measurement of a slot: ohms, binary64, and a detected break. -/
structure RtdRead where
  r : F64
  brk : Bool
  deriving DecidableEq, Repr

/-- What a converter does in a slot (R117). -/
inductive DwellPhase where
  | idle | break_ | discharging | settling | integrating
  deriving DecidableEq, Repr

/-- A dumped reading waiting for its posting; `resid`: its residual is computed (R160). -/
structure CellDone where
  dwell : Dwell
  acc : List (Int × Int)
  blocks : List (Int × Int)
  peak : Nat
  ovr : Bool
  exc : Bool
  guard : Bool
  rtd : Option RtdRead
  rtdEn : Bool
  stamp : Nat
  resid : Bool
  deriving DecidableEq, Repr

/-- A cable-calibration measurement in progress (R129): the standard (0 OPEN, 1 SHORT, 2 LOAD), the catalogue group, the
range, whether the range is still sought and the range of the reading before, readings averaged, their sums, an overload
among all readings, the groups done. -/
structure CalRun where
  std : Nat
  grp : Nat
  range : Nat
  ranging : Bool
  last : Option Nat
  n : Nat
  sums : List Cx
  bad : Bool
  done : List Cx
  deriving DecidableEq, Repr

/-- One cell. -/
structure CellSt where
  tiaNext : Nat
  /-- EN or TIA_MODE has set the range since the cell's dwell began: its dump leaves it. -/
  rangeSet : Bool
  cal : Option CalRun
  /-- Pending standards: OPEN, SHORT, LOAD. -/
  pend : Vector (Option (List Cx)) 3
  calValid : Bool
  scan : Bool
  scanCap : Option (List Code × Bool)
  rtd : Option RtdRead
  /-- Readings so far, for every 64th (R160), and its captured samples with the tones. -/
  residN : Nat
  residCap : Option (List Nat × List Code)
  deriving DecidableEq, Repr

/-- One converter group. `rcal`: 0 not done, 1 running, 2 valid, 3 failed. -/
structure CellGrp where
  rcal : Nat
  /-- The first enable since BOOT has started an RCAL. -/
  started : Bool
  /-- Ym of the slots measured so far, 8 per slot. -/
  run : List Cx
  slots : Nat
  g : List Cx
  dwell : Option Dwell
  done : Option CellDone
  deriving DecidableEq, Repr

/-- The cell chain. -/
structure Cells where
  cell : Vector CellSt 16
  grp : Vector CellGrp 4
  /-- The slot that starts next, and whether its cycle is idle. -/
  slot : Nat
  idle : Bool
  idleLeft : Nat
  deriving DecidableEq, Repr

/-- A capture in progress (R158): mode 1 GRAIN, 2 EMPTY. -/
structure Capture where
  mode : Nat
  target : Nat
  posted : Nat
  accepted : Nat
  psi : F64
  epsH : F64
  cref : F64
  temp : Int
  deriving DecidableEq, Repr

/-- A posted CELL reading that waits for its result: the catalogue indices of its plan, the 22 words of its two spans, and
whether its residual posts with it (R141, R160). -/
structure CellRead where
  tones : List Nat
  words : List Word
  resid : Bool
  deriving DecidableEq, Repr

/-- MOIST's memory of one cell. -/
structure MoistCell where
  due : Option CellRead
  /-- MOIST of the last results, newest first; none for a flagged one. -/
  win : List (Option Nat)
  /-- GTYPE, TSRC, AVG_N, MEN and PLAN_ID the window belongs to. -/
  key : Nat
  cap : Option Capture
  /-- A residual computed for the reading that waits. -/
  resid : Option (Int × Bool)
  deriving DecidableEq, Repr

/-- The sweep in progress (R159). -/
structure Sweep where
  cell : Fin 16
  grp : Nat
  retries : Nat
  /-- The slot just dumped. -/
  cap : Option (Dwell × Window)
  eps : List (F64 × F64)
  resid : List (Option Int)
  deriving DecidableEq, Repr

structure Moist where
  cell : Vector MoistCell 16
  sweep : Option Sweep
  gtValid : Word
  deriving DecidableEq, Repr

/-- What a moisture transform is for (R137, R160): a scan or a reading residual of a cell, or a block of the sweep slot. -/
inductive XfJob where
  | scan (n : Fin 16)
  | resid (n : Fin 16)
  | sweep
  deriving DecidableEq, Repr

/-- The transform engine (R25–R27, R373): the step in it (0 none, 1 a moisture transform, 2 and 3 a step of a 4,096- or
16,384-point bin-block), the moisture transforms queued, the oldest first and the one in hand at the head while `work` is 1,
those completed and not yet used, bin-blocks of each size queued (the one in hand included), the step of the bin-block in
hand (0 transform, 1 product, 2 transform back), since when moisture work waits behind a GNSS step, engine time of the
running second in ns. -/
structure Xform where
  work : Nat
  moistQ : List XfJob
  ready : List XfJob
  gnss4 : Nat
  gnss16 : Nat
  sub : Nat
  waitAt : Option Nat
  moistNs : Nat
  gnssNs : Nat
  deriving DecidableEq, Repr

end Sys2Proof.Machine
end

