-- ==== Sys2Proof/Machine/Types6.lean ====
section
/-!
DEFINITION. The state of the blocks, part 6: Rootline (chapter 11).
-/
namespace Sys2Proof.Machine

/-- One uplink bit as the receiver sees it: current in the central 6 µs of its first half, and of its second (R289). -/
structure UpBit where
  first : Bool
  second : Bool
  deriving DecidableEq, Repr

/-- What the receiver makes of one uplink slot (R289, R291): no preamble; a preamble with a collision; a missing bit and no collision;
bits of which the first to collide is `c`, counted from bit 63 (`gap`: some bit is missing too); or 64 clean bits. -/
inductive Uplink where
  | none
  | pre
  | missing
  | coll (bits : BitVec 64) (c : Nat) (gap : Bool)
  | frame (bits : BitVec 64)
  deriving DecidableEq, Repr

/-- A directory entry (R309). -/
structure DirEntry where
  serial : BitVec 64
  pos : Nat
  kind : Nat
  seen : Bool
  lost : Bool
  new_ : Bool
  missing : Bool
  identUntil : Nat
  version : Nat
  deriving DecidableEq, Repr

/-- A readings entry (R310). -/
structure RdEntry where
  v0 : Nat
  v1 : Nat
  round : Nat
  status : Nat
  valid : Bool
  missed : Bool
  roundMis : Bool
  retried : Bool
  coll : Bool
  misses : Nat
  deriving DecidableEq, Repr

/-- A round in progress on a segment (R299–R302). -/
structure Round where
  num : Nat
  startAt : Nat
  startHw : Nat
  stamp : Nat
  sampled : Bool
  span : Nat
  /-- READ periods begun, and the next slot to judge of the period in progress, up to `limit`. -/
  periods : Nat
  next : Nat
  limit : Nat
  /-- Slots that counted as missed and not COLL, still to retry, ascending; retries sent. -/
  retry : List Nat
  sent : Nat
  /-- Slots that counted as missed, and valid readings. -/
  missed : List Nat
  nOk : Nat
  deriving DecidableEq, Repr

/-- A node found and verified by an enumeration. -/
structure Found where
  serial : BitVec 64
  version : Nat
  kind : Nat
  pos : Nat
  cable : Nat
  deriving DecidableEq, Repr

/-- Where an enumeration stands (R303, R304). -/
inductive EnumPhase where
  | search (stack : List (BitVec 64 × Nat)) (found : List (BitVec 64))
  | info (left : List (BitVec 64)) (found : List (BitVec 64)) (ok : List Found)
  | assign (left : List (Found × Nat × Bool))
  deriving DecidableEq, Repr

/-- An enumeration in progress: MODE, whether a host command asked for it, tries of the frame in hand and its TN. -/
structure EnumRun where
  all : Bool
  host : Bool
  phase : EnumPhase
  tries : Nat
  tn : Nat
  /-- The last frame received (R314). -/
  last : Nat
  nFound : Nat
  nAssigned : Nat
  full : Bool
  deriving DecidableEq, Repr

/-- An addressed host command in progress (R313, R314). -/
structure RootCmd where
  code : Nat
  serial : BitVec 64
  arg : Nat
  tries : Nat
  tn : Nat
  last : Nat
  deriving DecidableEq, Repr

/-- One segment. `pwr`: 0 OFF, 1 STARTING, 2 RUNNING, 3 FAULT_OFF, 4 VR_UV. -/
structure Seg where
  pwr : Nat
  onAt : Nat
  checked : Bool
  faultAt : Nat
  tn : Nat
  /-- The period boundary (Heartwood ns) whose SYNC was sent last. -/
  syncAt : Option Nat
  /-- The line levels of the latest downlink frame, one for each 8 µs (R289, R290), the Heartwood instant of the first, and
  the end of the latest frame or slot (R296). -/
  line : List Bool
  lineAt : Nat
  busyTo : Nat
  round : Option Round
  enum : Option EnumRun
  cmd : Option RootCmd
  /-- ENUM_ALL is due after power-up. -/
  autoDue : Bool
  /-- Directory and readings, by slot, ascending. -/
  dir : List (Nat × DirEntry)
  rd : List (Nat × RdEntry)
  /-- The directory region as saved in flash. -/
  saved : List (Nat × DirEntry)
  /-- Serials quarantined since the latest ENUM_ALL. -/
  quar : List (BitVec 64)
  quarFull : Bool
  deriving DecidableEq, Repr

structure Root where
  seg : Vector Seg 16
  /-- The round number, kept in AON. -/
  round : Nat
  /-- Segments that take part in the round in progress, bit s; those that ended early; longest duration, ms. -/
  part : Nat
  aborted : Bool
  longest : Nat
  stamp : Nat
  vrLow : Bool
  /-- Heartwood instant from which periods and rounds go on, after a step or a relock (R297, R319). -/
  resumeAt : Nat
  deriving DecidableEq, Repr

end Sys2Proof.Machine
end

