-- ==== Sys2Proof/Machine/Types7.lean ====
section
/-!
DEFINITION. The state of the blocks, part 7: Heartwood's discipline, PTP, TP_OUT (chapter 13) and the GNSS receiver
(chapter 14). Instants are module ns unless a comment says Heartwood.
-/
namespace Sys2Proof.Machine

/-- The two disciplining sources (R354, R356). -/
inductive SrcId where
  | ptp | gnss
  deriving DecidableEq, Repr

/-- One source. Offsets in ns, newest first, at most 16, corrected for every step since they were taken. -/
structure TimeSrc where
  present : Bool
  /-- It passes its own checks. -/
  pass : Bool
  trusted : Bool
  /-- Since when qualification has run without interruption (R357). -/
  qualAt : Option Nat
  raw : List Int
  filt : List Int
  /-- Phase the servo had steered at the latest measurement. -/
  phaseAt : Int
  /-- The source's own time at the latest measurement, ns, and the module's then. -/
  srcAt : Option (Int × Nat)
  /-- TAI − UTC as the source announces it. -/
  utc : Option Int
  deriving DecidableEq, Repr

/-- A PTP message's header fields the module uses (IEEE 1588): domainNumber, the sender's clock and port, sequenceId,
the two-step flag, correctionField in 2⁻¹⁶ ns, the body's timestamp in ns, logMessageInterval. -/
structure PtpMsg where
  domain : Nat
  clock : Nat
  portNum : Nat
  seq : Nat
  twoStep : Bool
  corr : Int
  ts : Nat
  logInt : Int
  /-- requestingPortIdentity of a response: clock and port. -/
  reqClock : Nat
  reqPort : Nat
  deriving DecidableEq, Repr

/-- What an Announce adds. -/
structure Announce where
  prio1 : Nat
  cls : Nat
  acc : Nat
  var : Nat
  prio2 : Nat
  gm : Nat
  steps : Nat
  /-- The timescale is ARB. -/
  arb : Bool
  utc : Option Int
  deriving DecidableEq, Repr

/-- The master the ordinary clock follows. -/
structure Parent where
  port : Fin 2
  clock : Nat
  portNum : Nat
  ann : Announce
  logAnn : Int
  deriving DecidableEq, Repr

/-- The peer-delay measurement of a port (R353). -/
structure PDelay where
  /-- Sequence and stamp (Heartwood ns) of the latest Pdelay_Req. -/
  sent : Option (Nat × Nat)
  /-- A two-step response: sequence, t2, correction, t4. -/
  resp : Option (Nat × Nat × Int × Nat)
  delay : Option Int
  deriving DecidableEq, Repr

/-- The ordinary clock (R352–R355). Stamps are Heartwood ns. -/
structure Ptp where
  parent : Option Parent
  annAt : Nat
  syncAt : Option Nat
  logSync : Int
  /-- A two-step Sync waiting for its Follow_Up: sequence, correction, t2. -/
  pend : Option (Nat × Int × Nat)
  /-- Master time and t2 of the latest complete Sync. -/
  last : Option (Int × Nat)
  /-- Sequence and stamp of the latest Delay_Req. -/
  dreq : Option (Nat × Nat)
  mpd : Option Int
  pd : Vector PDelay 2
  seqD : Nat
  seqP : Nat
  seqS : Nat
  seqA : Nat
  master : Bool
  /-- The better master heard that keeps the clock PASSIVE (R353). -/
  rival : Option Parent
  /-- Since when the clock has listened. -/
  listenAt : Nat
  /-- Stamp of the latest Sync sent as master. -/
  syncTx : Option Nat
  deriving DecidableEq, Repr

/-- Heartwood's discipline (R357–R366). Frequencies in 0.1 ppb. -/
structure Time where
  ptpS : TimeSrc
  gnssS : TimeSrc
  active : Option SrcId
  /-- A source has been trusted since BOOT or the last SET; since BOOT. -/
  ever : Bool
  everBoot : Bool
  entryBound : Nat
  holdAt : Nat
  /-- HOLDOVER was entered from LOCKED_GNSS. -/
  gnssHeld : Bool
  eRem : Int
  freq : Int
  /-- Departure of ADDEND from FREQ_EST, since when, and the phase it has steered so far, 1e-10 ns. -/
  dep : Int
  depAt : Nat
  phase : Int
  /-- The slew in progress (R361): the instant at which it ends, and the departure from then on. -/
  turn : Option (Nat × Int)
  /-- The start-up step waits for the bank queues (R362). -/
  stepDue : Bool
  stepped : Bool
  /-- Consecutive failing cross-checks. -/
  xfail : Nat
  ptp : Ptp
  /-- TP_OUT: the end of the pulse in progress; the latest of the writes that let it run. -/
  pulse : Option Nat
  tpAt : Nat
  /-- FREQ_EST stored in flash, with RUN_HOURS at that time, ms. -/
  saved : Option (Int × Nat)
  deriving DecidableEq, Repr

/-- A satellite: system (1 GPS, 2 Galileo, 3 BeiDou) and PRN or SVID. -/
structure Sat where
  sys : Nat
  prn : Nat
  deriving DecidableEq, Repr

/-- One tracking channel (R376, R378): CSTATE, the hand-over that waits for FLL, the exclusion of R385 with the seconds
within DOP_LIM so far, the latest C/N0 (0.1 dB-Hz), and use in the latest solution. -/
structure GnssCh where
  sat : Option Sat
  cstate : Nat
  handed : Option Nat
  excl : Option Nat
  cn0 : Nat
  used : Bool
  /-- What the hand-over gave: the sample of the GNSS counter, the code phase at it in cells of 1/4.096 µs, 2⁻¹⁶ of a cell, and the
  Doppler in Hz. -/
  code : Option (Nat × Nat × Int)
  /-- The configuration the channel holds: PLL_BW in Hz, DLL_BW in 0.1 Hz. -/
  pll : Nat
  dll : Nat
  deriving DecidableEq, Repr

/-- A decoded message in the module's store (R380): type (BeiDou D2 with 0x80) and page, whether its checks passed, its ten words,
and when it came: Heartwood ns, and RUN_HOURS in 0.1 s. -/
structure NavRec where
  sat : Sat
  typ : Nat
  page : Nat
  ok : Bool
  data : List Word
  at_ : Nat
  runAt : Nat
  deriving DecidableEq, Repr

/-- What the receiver stores in flash (R377): messages, the last position in cm, the survey. -/
structure GnssStore where
  nav : List NavRec
  pos : Option (Int × Int × Int)
  surveyed : Option (Int × Int × Int)
  /-- Accepted survey solutions and their sums. -/
  survN : Nat
  survSum : Int × Int × Int
  deriving DecidableEq, Repr

/-- An acquisition pass (R373, R374): capture start, past its capture, its candidates with the centres of their Doppler windows in
Hz, and the stamp of the capture on the GNSS sample counter. -/
structure AcqPass where
  start : Nat
  captured : Bool
  cand : List (Sat × Int)
  stamp : Nat
  deriving DecidableEq, Repr

/-- A bin of the search (R373): the candidate, the bin's Doppler in Hz, and the sums of its code-phase cells. -/
structure AcqBin where
  sat : Sat
  dop : Int
  cells : List Nat
  deriving DecidableEq, Repr

/-- An epoch pulse (R356, R384): stamp and TAI second in ns, QERR in ps, and OFS_GNSS raw. -/
structure Epoch where
  stamp : Nat
  tai : Nat
  qerr : Int
  ofs : Int
  phase : Int
  deriving DecidableEq, Repr

structure Gnss where
  on : Bool
  start : Nat
  thr : Nat
  ch : Vector GnssCh 64
  pass : Option AcqPass
  lastPass : Option Nat
  /-- Satellites returned to the candidate list. -/
  back : List Sat
  live : GnssStore
  flash : GnssStore
  fix : Nat
  suspect : Bool
  failRun : Nat
  passRun : Nat
  epoch : Option Epoch
  /-- The previous second's valid solution: its OFS_GNSS and the phase steered by then. -/
  prev : Option (Int × Int)
  lastSol : Option Nat
  /-- 0 OK, 1 OPEN, 2 SHORT (3 OFF follows from the enables), and since when it is short. -/
  ant : Nat
  antAt : Nat
  deriving DecidableEq, Repr

/-- Heartwood steps: the times of the messages received since it began to count move with it; those of the store that lie
ahead of it are of an earlier count. -/
def Gnss.stepped (g : Gnss) (old new : Nat) : Gnss :=
  { g with live := { g.live with nav := g.live.nav.map fun (r : NavRec) => if r.at_ ≤ old then { r with at_ := r.at_ + new - old } else r } }

/-- One channel's measurement of a GNSS second: C/N0 in 0.1 dB-Hz, elevation in 0.01° and azimuth in 1°, Doppler as measured and as
ephemeris and position predict it in mHz, pseudorange and its corrections in cm, and the satellite's position in cm. -/
structure GnssMeas where
  ch : Fin 64
  cn0 : Nat
  elev : Int
  az : Nat
  doppler : Int
  predicted : Int
  pr : Nat
  corr : Int
  sat : Int × Int × Int
  deriving DecidableEq, Repr

/-- What the solution reports beside its result, for which the rules give no formula: TDOP 0.01, SIGMA_POS cm, SIGMA_T ns, and
TAI − UTC if decoded. -/
structure GnssFix where
  tdop : Nat
  sigmaPos : Nat
  sigmaT : Nat
  utc : Option Int
  deriving DecidableEq, Repr

end Sys2Proof.Machine
end

