-- ==== Sys2Proof/Syntax.lean ====
section
/-!
DEFINITION. The commands of the block: one constructor for each row of the spec's table of operations and events. Every
command carries the instant `t` at which it comes, in ns of the module's own time; its other operands are what the world
outside the module shows it then (a frame, a measured value, a message), and which unit it concerns.
-/
namespace Sys2Proof

open Sys2Proof.Machine

inductive Instr where
  /-- OPEN_REQ (R49). Operands: `frame`: the bytes that came over `v`. What the frame's KIND says decides what it
    does. -/
  | openReq (t : Nat) (v : Via) (frame : List Byte)
  /-- OPEN_WAIT_EXPIRY (R49). Operands: `i`: the session number. -/
  | openWaitExpiry (t : Nat) (i : Fin 8)
  /-- OPEN_PROOF (R49). Operands: as in OPEN_REQ. -/
  | openProof (t : Nat) (v : Via) (frame : List Byte)
  /-- REQUEST (R71). Operands: as in OPEN_REQ. -/
  | request (t : Nat) (v : Via) (frame : List Byte)
  /-- REQUEST_EXECUTE (R68). -/
  | requestExecute (t : Nat)
  /-- CLOSE (R56). Operands: as in OPEN_REQ. -/
  | close (t : Nat) (v : Via) (frame : List Byte)
  /-- BEACON (R54). Operands: `i`: the session. -/
  | beacon (t : Nat) (i : Fin 8)
  /-- LEASE_EXPIRY (R53). Operands: `i`: the session. -/
  | leaseExpiry (t : Nat) (i : Fin 8)
  /-- WRITE_FRAME (R40). Operands: `bytes`: what was clocked in after the command byte; `full`: the in queue had no
    room (IN_FULL). -/
  | writeFrame (t : Nat) (bytes : List Byte) (full : Bool)
  /-- READ_FRAME (R37). Operands: `full`: the in queue has no room (IN_FULL). -/
  | readFrame (t : Nat) (full : Bool)
  /-- READ_NEXT (R37). Operands: as in READ_FRAME. -/
  | readNext (t : Nat) (full : Bool)
  /-- READ_STATUS (R37). Operands: as in READ_FRAME. -/
  | readStatus (t : Nat) (full : Bool)
  /-- SPI_UNKNOWN_COMMAND (R37). Operands: `n`: bytes clocked after the command byte; `full` as in READ_FRAME. -/
  | spiUnknownCommand (t : Nat) (n : Nat) (full : Bool)
  /-- ARP_REQUEST (R34). Operands: the port, the sender's addresses and the address asked for. -/
  | arpRequest (t : Nat) (p : Fin 2) (mac : BitVec 48) (ip : Word) (target : Word)
  /-- ICMP_ECHO (R34). Operands: the port, source and destination address, whether the datagram is a fragment, and
    identifier, sequence number and data. -/
  | icmpEcho (t : Nat) (p : Fin 2) (ip : Word) (target : Word) (fragment : Bool) (rest : List Byte)
  /-- DHCP_MESSAGE (R34). Operands: the port, and what reaches the client: a server's message for its transaction, or
    its own timer running out. -/
  | dhcpMessage (t : Nat) (p : Fin 2) (msg : DhcpMsg)
  /-- ADDR_CHANGE (R80). -/
  | addrChange (t : Nat)
  /-- PORT_LINK_CHANGE (R354). Operands: the port, link up at 100 Mbit/s, full duplex. -/
  | portLinkChange (t : Nat) (p : Fin 2) (up : Bool) (fdx : Bool)
  /-- SELFTEST_DONE (R83). Operands: FAIL of SELFTEST_RES, the hold-up capacitance (µF), and each converter's
    capacitance (0.1 µF) and ESR (mΩ). -/
  | selftestDone (t : Nat) (fail : Nat) (c : Nat) (boost : Vector (Nat × Nat) 6)
  /-- FW_ERASE_DONE (R99). Operands: the most-erased sector and its erase count. -/
  | fwEraseDone (t : Nat) (sector : Nat) (n : Nat)
  /-- FW_PROGRAM_DONE (R99). Operands: `ok` = false: a flash write error. -/
  | fwProgramDone (t : Nat) (ok : Bool)
  /-- FW_VERIFY_DONE (R99). Operands: the image authenticates, its version, the error code otherwise. -/
  | fwVerifyDone (t : Nat) (ok : Bool) (version : Word) (err : Nat)
  /-- POWER_ON (R87). -/
  | powerOn (t : Nat)
  /-- VL_BELOW_OFF (R81). -/
  | vlBelowOff (t : Nat)
  /-- AON_RESET_END (R87). Operands: the straps as they are latched. -/
  | aonResetEnd (t : Nat) (st : Straps)
  /-- CORE_RESET_END (R90). -/
  | coreResetEnd (t : Nat)
  /-- SRAM_TEST_DONE (R87). Operands: `ok`: no uncorrectable word. -/
  | sramTestDone (t : Nat) (ok : Bool)
  /-- IMAGE_AUTH_DONE (R88). Operands: `ok`: the image passes. -/
  | imageAuthDone (t : Nat) (ok : Bool)
  /-- BOOT_COMPLETE (R87). -/
  | bootComplete (t : Nat)
  /-- BOOT_STALL (R88). -/
  | bootStall (t : Nat)
  /-- RST_N_ACCEPT (R91). -/
  | rstNAccept (t : Nat)
  /-- RST_N_RISE (R91). Operands: the straps as they are latched. -/
  | rstNRise (t : Nat) (st : Straps)
  /-- HEARTBEAT (R92). -/
  | heartbeat (t : Nat)
  /-- WATCHDOG_EXPIRY (R92). -/
  | watchdogExpiry (t : Nat)
  /-- VL_SAG_CLEAR (R95). -/
  | vlSagClear (t : Nat)
  /-- WEAR_COMMIT (R102). Operands: the most-erased sector and its erase count after the commit. -/
  | wearCommit (t : Nat) (sector : Nat) (n : Nat)
  /-- HOLDUP_MEASURE (R102). Operands: the capacitance, µF. -/
  | holdupMeasure (t : Nat) (c : Nat)
  /-- BOOST_CAP_MEASURE (R102). Operands: the converter, its reservoir's capacitance (0.1 µF) and ESR (mΩ). -/
  | boostCapMeasure (t : Nat) (b : Fin 6) (c : Nat) (esr : Nat)
  /-- XREF_WINDOW (R414). Operands: COUNT of the window; `absent`: the stop monitor showed no XREF. -/
  | xrefWindow (t : Nat) (count : Nat) (absent : Bool)
  /-- ROOT_LOCK (R415). -/
  | rootLock (t : Nat)
  /-- PLL_RETRY (R415). -/
  | pllRetry (t : Nat)
  /-- CLOCK_FAULT (R422). Operands: 1 XREF_LOST, 2 LOCK_LOST. -/
  | clockFault (t : Nat) (cause : Nat)
  /-- MUX_FORCED_RELEASE (R419). Operands: the multiplexer: CORE and fabric, or the AFE island's. -/
  | muxForcedRelease (t : Nat) (island : Bool)
  /-- CLOCK_FAULT_END (R424). Operands: the duration the sentinel counted (ns), and GNSS results discarded meanwhile.
    -/
  | clockFaultEnd (t : Nat) (dur : Nat) (ovf : Nat)
  /-- TCXO_WINDOW (R417). Operands: TCXO edges of the window. -/
  | tcxoWindow (t : Nat) (count : Nat)
  /-- TCXO_STOP (R417). -/
  | tcxoStop (t : Nat)
  /-- SENTINEL_STOP (R425). -/
  | sentinelStop (t : Nat)
  /-- SENTINEL_RESTART (R425). Operands: the straps as they are latched. -/
  | sentinelRestart (t : Nat) (st : Straps)
  /-- FCNT_DONE (R427). Operands: the counter. -/
  | fcntDone (t : Nat) (count : Nat)
  /-- FCNT_NOREF (R427). -/
  | fcntNoref (t : Nat)
  /-- SUPPLY_MEASURE (R389). Operands: voltage (10 mV) and current (10 mA) of VL, VFA, VFF and VR. -/
  | supplyMeasure (t : Nat) (vl : Nat) (il : Nat) (vfa : Nat) (ifa : Nat) (vff : Nat) (iff : Nat) (vr : Nat) (ir : Nat)
  /-- VL_LOW (R392). -/
  | vlLow (t : Nat)
  /-- VL_LOW_CLEAR (R392). -/
  | vlLowClear (t : Nat)
  /-- HOLDUP_JUDGE (R393). Operands: VL, 10 mV. -/
  | holdupJudge (t : Nat) (vl : Nat)
  /-- VL_FALLBACK_DECISION (R394). Operands: VL, 10 mV. -/
  | vlFallbackDecision (t : Nat) (vl : Nat)
  /-- VL_SAG_SHED (R393). -/
  | vlSagShed (t : Nat)
  /-- VL_SAG_COMMIT_DONE (R393). Operands: as in WEAR_COMMIT. -/
  | vlSagCommitDone (t : Nat) (sector : Nat) (n : Nat)
  /-- VFA_STAGE_SET (R395). Operands: 1 RCUT, 2 DEFER, 3 SAG. -/
  | vfaStageSet (t : Nat) (st : Nat)
  /-- VFA_STAGE_CLEAR (R395). Operands: 1 RCUT, 2 DEFER, 3 SAG. -/
  | vfaStageClear (t : Nat) (st : Nat)
  /-- VFF_UV (R397). -/
  | vffUv (t : Nat)
  /-- VFF_UV_CLEAR (R397). -/
  | vffUvClear (t : Nat)
  /-- DOMAIN_POWER_UP (R399). Operands: the domain of R398. -/
  | domainPowerUp (t : Nat) (n : Nat)
  /-- DOMAIN_POWER_OFF (R399). Operands: the domain of R398. -/
  | domainPowerOff (t : Nat) (n : Nat)
  /-- DOM_FAULT (R400). Operands: the domain of R398. -/
  | domFault (t : Nat) (n : Nat)
  /-- ARBITER_SLOT (R402). Operands: the measured supply currents of VFA and VFF, 10 mA. -/
  | arbiterSlot (t : Nat) (iVfa : Nat) (iVff : Nat)
  /-- LEDGER_UPDATE (R405). -/
  | ledgerUpdate (t : Nat)
  /-- USE_SPAN (R410). -/
  | useSpan (t : Nat)
  /-- ENERGY_LIMIT_EXPIRY (R408). -/
  | energyLimitExpiry (t : Nat)
  /-- THERM_SAMPLE (R432). Operands: what the converter senses at TS0 to TS9. -/
  | thermSample (t : Nat) (v : Vector Sensed 10)
  /-- GRACE_EXPIRY (R432). Operands: the sensor. -/
  | graceExpiry (t : Nat) (n : Fin 10)
  /-- CRITICAL_TRIP (R438). Operands: bit n: the comparator of TSn trips. -/
  | criticalTrip (t : Nat) (mask : Nat)
  /-- TACH_STRETCH (R441). Operands: the channel, the time between two falling edges (µs), and by how much the
    on-interval was stretched (µs). -/
  | tachStretch (t : Nat) (f : Fin 8) (gap : Option Nat) (len : Nat)
  /-- FAN_SPEED_LOOP (R444). Operands: the channel, its peak and mean current of the 100 ms. -/
  | fanSpeedLoop (t : Nat) (f : Fin 8) (iPeak : Nat) (iMean : Nat)
  /-- FAN_WINDOW (R448). Operands: the channel, its mean current (10 mA), and whether tach was seen. -/
  | fanWindow (t : Nat) (f : Fin 8) (i : Nat) (tach : Bool)
  /-- FAN_START (R447). Operands: the channel. -/
  | fanStart (t : Nat) (f : Fin 8)
  /-- FAN_INRUSH_RELEASE (R447). Operands: the channel. -/
  | fanInrushRelease (t : Nat) (f : Fin 8)
  /-- FAN_INRUSH_JUDGE (R404). Operands: the measured current of VFF, 10 mA. -/
  | fanInrushJudge (t : Nat) (iVff : Nat)
  /-- STALL_RETRY (R448). Operands: the channel. -/
  | stallRetry (t : Nat) (f : Fin 8)
  /-- KICK_END (R448). Operands: the channel, its current (10 mA), and whether tach was seen in the last 1 s. -/
  | kickEnd (t : Nat) (f : Fin 8) (i : Nat) (tach : Bool)
  /-- FAN_OVERLOAD (R449). Operands: the channel. -/
  | fanOverload (t : Nat) (f : Fin 8)
  /-- FAN_SHORT_TRIP (R440). Operands: the channel. -/
  | fanShortTrip (t : Nat) (f : Fin 8)
  /-- FAN_SHORT_SUP (R449). Operands: the channel. -/
  | fanShortSup (t : Nat) (f : Fin 8)
  /-- EVENT_DUE (R194). Operands: the bank. -/
  | eventDue (t : Nat) (n : Fin 12)
  /-- EVENT_REJUDGE (R194). Operands: the bank. -/
  | eventRejudge (t : Nat) (n : Fin 12)
  /-- EVENT_LATEST_DROP (R194). Operands: the bank. -/
  | eventLatestDrop (t : Nat) (n : Fin 12)
  /-- MAX_DELAY_DROP (R199). Operands: the bank. -/
  | maxDelayDrop (t : Nat) (n : Fin 12)
  /-- SWITCH_OFF_END (R187). Operands: bank, channel, energy the clamp took (0.1 mJ). -/
  | switchOffEnd (t : Nat) (n : Fin 12) (k : Fin 4) (clampE : Nat)
  /-- MIN_OFF_END (R201). Operands: bank, channel. -/
  | minOffEnd (t : Nat) (n : Fin 12) (k : Fin 4)
  /-- PHASE_LIMIT (R230). Operands: bank, channel. -/
  | phaseLimit (t : Nat) (n : Fin 12) (k : Fin 4)
  /-- DIAG_TEST_START (R207). Operands: the bank. -/
  | diagTestStart (t : Nat) (n : Fin 12)
  /-- DIAG_TEST_END (R207). Operands: bank, the high-side node, and each channel's node under the two biases, mV. -/
  | diagTestEnd (t : Nat) (n : Fin 12) (vHs : Nat) (vu : Vector Nat 4) (vd : Vector Nat 4)
  /-- DESAT_LS (R208). Operands: bank, channel. -/
  | desatLs (t : Nat) (n : Fin 12) (k : Fin 4)
  /-- DESAT_HS (R208). Operands: the bank. -/
  | desatHs (t : Nat) (n : Fin 12)
  /-- OVERCURRENT (R208). Operands: bank, channel. -/
  | overcurrent (t : Nat) (n : Fin 12) (k : Fin 4)
  /-- LEAK_GND (R208). Operands: the bank. -/
  | leakGnd (t : Nat) (n : Fin 12)
  /-- NO_CURRENT (R208). Operands: bank, channel. -/
  | noCurrent (t : Nat) (n : Fin 12) (k : Fin 4)
  /-- PEAK_TO (R208). Operands: bank, channel. -/
  | peakTo (t : Nat) (n : Fin 12) (k : Fin 4)
  /-- BANK_OVL (R208). Operands: the bank. -/
  | bankOvl (t : Nat) (n : Fin 12)
  /-- REGEN_OVF (R188). Operands: the converter. -/
  | regenOvf (t : Nat) (b : Fin 6)
  /-- RESERVOIR_MEASURE (R204). Operands: the converter, its reservoir voltage (0.1 V). -/
  | reservoirMeasure (t : Nat) (b : Fin 6) (v : Nat)
  /-- BST (R221). Operands: bank, channel of the context. -/
  | bst (t : Nat) (n : Fin 12) (k : Fin 4)
  /-- PK (R221). Operands: bank, channel of the context. -/
  | pk (t : Nat) (n : Fin 12) (k : Fin 4)
  /-- HLD (R221). Operands: bank, channel of the context. -/
  | hld (t : Nat) (n : Fin 12) (k : Fin 4)
  /-- OFF (R221). Operands: bank, channel of the context. -/
  | off (t : Nat) (n : Fin 12) (k : Fin 4)
  /-- END (R221). Operands: bank, channel of the context. -/
  | endProfile (t : Nat) (n : Fin 12) (k : Fin 4)
  /-- BAND (R221). Operands: bank, channel of the context. -/
  | band (t : Nat) (n : Fin 12) (k : Fin 4)
  /-- RAMP (R225). Operands: bank, channel of the context. -/
  | ramp (t : Nat) (n : Fin 12) (k : Fin 4)
  /-- DIPW (R227). Operands: bank, channel of the context. -/
  | dipw (t : Nat) (n : Fin 12) (k : Fin 4)
  /-- WT (R221). Operands: bank, channel of the context. -/
  | wt (t : Nat) (n : Fin 12) (k : Fin 4)
  /-- WTR (R221). Operands: bank, channel of the context. -/
  | wtr (t : Nat) (n : Fin 12) (k : Fin 4)
  /-- WI (R221). Operands: bank, channel of the context. -/
  | wi (t : Nat) (n : Fin 12) (k : Fin 4)
  /-- WP (R221). Operands: bank, channel of the context. -/
  | wp (t : Nat) (n : Fin 12) (k : Fin 4)
  /-- WD (R221). Operands: bank, channel of the context. -/
  | wd (t : Nat) (n : Fin 12) (k : Fin 4)
  /-- UC_WAIT_END (R219). Operands: bank, channel of the context. -/
  | ucWaitEnd (t : Nat) (n : Fin 12) (k : Fin 4)
  /-- ARM (R228). Operands: bank, channel of the context. -/
  | arm (t : Nat) (n : Fin 12) (k : Fin 4)
  /-- ARM_EXPIRY (R228). Operands: bank, channel of the context. -/
  | armExpiry (t : Nat) (n : Fin 12) (k : Fin 4)
  /-- JMP (R221). Operands: bank, channel of the context. -/
  | jmp (t : Nat) (n : Fin 12) (k : Fin 4)
  /-- BC (R221). Operands: bank, channel of the context. -/
  | bc (t : Nat) (n : Fin 12) (k : Fin 4)
  /-- BI (R221). Operands: bank, channel of the context. -/
  | bi (t : Nat) (n : Fin 12) (k : Fin 4)
  /-- BTM (R221). Operands: bank, channel of the context. -/
  | btm (t : Nat) (n : Fin 12) (k : Fin 4)
  /-- BCMP (R221). Operands: bank, channel of the context. -/
  | bcmp (t : Nat) (n : Fin 12) (k : Fin 4)
  /-- DJNZ (R221). Operands: bank, channel of the context. -/
  | djnz (t : Nat) (n : Fin 12) (k : Fin 4)
  /-- LDI (R221). Operands: bank, channel of the context. -/
  | ldi (t : Nat) (n : Fin 12) (k : Fin 4)
  /-- LDP (R221). Operands: bank, channel of the context. -/
  | ldp (t : Nat) (n : Fin 12) (k : Fin 4)
  /-- LDS (R221). Operands: bank, channel of the context. -/
  | lds (t : Nat) (n : Fin 12) (k : Fin 4)
  /-- ALU (R222). Operands: bank, channel of the context. -/
  | alu (t : Nat) (n : Fin 12) (k : Fin 4)
  /-- MARK (R233). Operands: bank, channel of the context. -/
  | mark (t : Nat) (n : Fin 12) (k : Fin 4)
  /-- NOP (R221). Operands: bank, channel of the context. -/
  | nop (t : Nat) (n : Fin 12) (k : Fin 4)
  /-- LOOP_SAMPLE (R239). Operands: the loop. -/
  | loopSample (t : Nat) (l : Fin 256)
  /-- LOOP_SKIP (R260). Operands: the loop. -/
  | loopSkip (t : Nat) (l : Fin 256)
  /-- START_CHECK (R288). Operands: segment; `high`: the line reached the high level less 2 V. -/
  | startCheck (t : Nat) (g : Fin 16) (high : Bool)
  /-- PERIOD_BOUNDARY (R296). Operands: `prepared`: the scheduler had prepared the SYNCs; VR (0.1 V), and each
    segment's current (1 mA) and voltage (0.1 V) of the period. -/
  | periodBoundary (t : Nat) (prepared : Bool) (vr : Nat) (meas : Vector (Nat × Nat) 16)
  /-- ROUND_START (R299). Operands: `prepared`: the scheduler had prepared the SYNCs. -/
  | roundStart (t : Nat) (prepared : Bool)
  /-- SEND_SAMPLE (R299). Operands: the segment. -/
  | sendSample (t : Nat) (g : Fin 16)
  /-- ROUND_OVERRUN (R298). -/
  | roundOverrun (t : Nat)
  /-- READ_SLOT (R300). Operands: segment, the halves its receiver saw in the slot that ends now. -/
  | readSlot (t : Nat) (g : Fin 16) (rx : List UpBit)
  /-- READ_ROUND (R301). Operands: segment, the halves its receiver saw in the answer slot that ends now. -/
  | readRound (t : Nat) (g : Fin 16) (rx : List UpBit)
  /-- ROUND_END (R302). Operands: the segment. -/
  | roundEnd (t : Nat) (g : Fin 16)
  /-- ENUM_EXCHANGE (R303). Operands: segment, the halves its receiver saw in the answer slot that ends now. -/
  | enumExchange (t : Nat) (g : Fin 16) (rx : List UpBit)
  /-- ENUM_READ_INFO (R304). Operands: segment, the halves its receiver saw in the answer slot that ends now. -/
  | enumReadInfo (t : Nat) (g : Fin 16) (rx : List UpBit)
  /-- ENUM_ASSIGN (R304). Operands: segment, the halves its receiver saw in the answer slot that ends now. -/
  | enumAssign (t : Nat) (g : Fin 16) (rx : List UpBit)
  /-- ADDRESSED_EXCHANGE (R314). Operands: segment, the halves its receiver saw in the answer slot that ends now. -/
  | addressedExchange (t : Nat) (g : Fin 16) (rx : List UpBit)
  /-- SEG_OVERLOAD (R315). Operands: the segment. -/
  | segOverload (t : Nat) (g : Fin 16)
  /-- SEG_SHORT (R315). Operands: the segment. -/
  | segShort (t : Nat) (g : Fin 16)
  /-- SEG_RESTART (R315). Operands: the segment. -/
  | segRestart (t : Nat) (g : Fin 16)
  /-- SURGE (R316). Operands: the segment. -/
  | surge (t : Nat) (g : Fin 16)
  /-- VR_UV (R317). -/
  | vrUv (t : Nat)
  /-- VR_RESTORE (R317). -/
  | vrRestore (t : Nat)
  /-- DI_ACCEPT (R329). Operands: group, channel, the level its lane shows, and the module instant of the first
    sample that showed it (ns). -/
  | diAccept (t : Nat) (g : Fin 8) (k : Fin 8) (level : Bool) (seen : Nat)
  /-- DI_PULSE_WINDOW (R326). Operands: group, what its comparators latch. -/
  | diPulseWindow (t : Nat) (g : Fin 8) (levels : Nat)
  /-- DI_GATE_END (R334). Operands: group, counter. -/
  | diGateEnd (t : Nat) (g : Fin 8) (c : Fin 2)
  /-- DIO_CMD_FRAME (R323). -/
  | dioCmdFrame (t : Nat)
  /-- FIELD_CMD_FRAME (R323, R324). Operands: field group (8 and up are the output groups), whether its CRC holds, and the load
    currents (mA) its outputs carried when they last switched off. -/
  | fieldCmdFrame (t : Nat) (g : Fin 12) (good : Bool) (loads : List Nat)
  /-- STATUS_FRAME (R323). Operands: field group; whether the frame's CRC held; the outputs it reports in current
    limit, a bit each. -/
  | statusFrame (t : Nat) (g : Fin 12) (good : Bool) (limits : Nat)
  /-- STATUS_TIMEOUT (R323). Operands: the field group. -/
  | statusTimeout (t : Nat) (g : Fin 12)
  /-- SILENCE (R324). Operands: the field group. -/
  | silence (t : Nat) (g : Fin 12)
  /-- RC_STOP (R324). Operands: the field group. -/
  | rcStop (t : Nat) (g : Fin 12)
  /-- DO_OVERLOAD (R340). Operands: the output. -/
  | doOverload (t : Nat) (i : Fin 32)
  /-- DO_RETRY (R340). Operands: the output. -/
  | doRetry (t : Nat) (i : Fin 32)
  /-- DO_OT (R340). Operands: the output. -/
  | doOt (t : Nat) (i : Fin 32)
  /-- DO_OT_CLEAR (R340). Operands: the output. -/
  | doOtClear (t : Nat) (i : Fin 32)
  /-- DO_READBACK_FLAG (R341). Operands: the output; 0 SHORT_SUP, 1 RB_FAIL, 2 OPEN. -/
  | doReadbackFlag (t : Nat) (i : Fin 32) (which : Nat)
  /-- DO_READBACK_CLEAR (R341). Operands: the output; 0 SHORT_SUP, 1 RB_FAIL, 2 OPEN. -/
  | doReadbackClear (t : Nat) (i : Fin 32) (which : Nat)
  /-- MIRROR_EVAL (R339). Operands: the output. -/
  | mirrorEval (t : Nat) (i : Fin 32)
  /-- DO_PERIOD_END (R338). Operands: the output, its load current at the switch-off of the period (mA). -/
  | doPeriodEnd (t : Nat) (i : Fin 32) (load : Nat)
  /-- VFD_UNDERVOLT (R343). Operands: field group; 0 below 18.0 V, 1 below 15.0 V, 2 absent. -/
  | vfdUndervolt (t : Nat) (g : Fin 12) (which : Nat)
  /-- VFD_RECOVER (R343). Operands: the field group. -/
  | vfdRecover (t : Nat) (g : Fin 12)
  /-- AFE_CMD_FRAME (R165). -/
  | afeCmdFrame (t : Nat)
  /-- ISLAND_CMD_RECEIVE (R179). Operands: the frame's CRC holds. -/
  | islandCmdReceive (t : Nat) (good : Bool)
  /-- AO_REFRESH_TIMEOUT (R179). -/
  | aoRefreshTimeout (t : Nat)
  /-- AI_GATE_END (R172). Operands: converter, COUNT, integrator overrange, BRIDGE excitation above 15 mA. -/
  | aiGateEnd (t : Nat) (c : Fin 8) (count : Nat) (ovr : Bool) (exc : Bool)
  /-- AI_PHASE_SWAP (R172). Operands: converter, COUNT of phase A. -/
  | aiPhaseSwap (t : Nat) (c : Fin 8) (count : Nat)
  /-- AFE_RESULT_FRAME (R164). Operands: the frame's CRC holds. -/
  | afeResultFrame (t : Nat) (good : Bool)
  /-- AI_WIRE_BREAK (R177). Operands: the converter. -/
  | aiWireBreak (t : Nat) (c : Fin 8)
  /-- AFE_CLOCK_STOP (R166). -/
  | afeClockStop (t : Nat)
  /-- AFE_CLOCK_RETURN (R166). -/
  | afeClockReturn (t : Nat)
  /-- AO_READBACK (R180). Operands: output, its current (0.4 µA), compliance voltage at 22.0 V or more, and that the
    result frame's CRC holds. -/
  | aoReadback (t : Nat) (n : Fin 8) (code : Nat) (high : Bool) (good : Bool)
  /-- LEAD_MEASURE_DONE (R175). Operands: converter, channel. -/
  | leadMeasureDone (t : Nat) (c : Fin 8) (k : Fin 4)
  /-- CELL_SLOT_START (R117). Operands: what each converter saw over the dwell that ends. -/
  | cellSlotStart (t : Nat) (ws : Vector Window 4)
  /-- CELL_POST (R117). Operands: the converter. -/
  | cellPost (t : Nat) (c : Fin 4)
  /-- RTD_GATE_END (R135). Operands: converter, the RTD's resistance (Ω, binary64), a break. -/
  | rtdGateEnd (t : Nat) (c : Fin 4) (r : F64) (brk : Bool)
  /-- RCAL_DONE (R127). Operands: the converter. -/
  | rcalDone (t : Nat) (c : Fin 4)
  /-- CAL_MEAS_DONE (R131). Operands: the cell. -/
  | calMeasDone (t : Nat) (n : Fin 16)
  /-- SCAN_DONE (R137). Operands: the cell. -/
  | scanDone (t : Nat) (n : Fin 16)
  /-- MOIST_RESULT (R141). Operands: the cell. -/
  | moistResult (t : Nat) (n : Fin 16)
  /-- SWEEP_SLOT_DONE (R159). -/
  | sweepSlotDone (t : Nat)
  /-- RESIDUAL_DONE (R160). Operands: the cell. -/
  | residualDone (t : Nat) (n : Fin 16)
  /-- XFORM_BLOCK_DONE (R25). -/
  | xformBlockDone (t : Nat)
  /-- XFORM_USE_POST (R27). -/
  | xformUsePost (t : Nat)
  /-- PTP_SYNC (R354). Operands: port, message. -/
  | ptpSync (t : Nat) (p : Fin 2) (m : PtpMsg)
  /-- PTP_FOLLOW_UP (R354). Operands: port, message. -/
  | ptpFollowUp (t : Nat) (p : Fin 2) (m : PtpMsg)
  /-- PTP_DELAY_REQ (R352). Operands: none, the clock's own is sent, or a slave's that arrives, port and message. -/
  | ptpDelayReq (t : Nat) (rx : Option (Fin 2 × PtpMsg))
  /-- PTP_DELAY_RESP (R354). Operands: port, message. -/
  | ptpDelayResp (t : Nat) (p : Fin 2) (m : PtpMsg)
  /-- PTP_ANNOUNCE (R354). Operands: port, message, its Announce body. -/
  | ptpAnnounce (t : Nat) (p : Fin 2) (m : PtpMsg) (a : Announce)
  /-- PTP_PDELAY_REQ (R353). Operands: port, message, turnaround (ns). -/
  | ptpPdelayReq (t : Nat) (p : Fin 2) (m : PtpMsg) (turn : Nat)
  /-- PTP_PDELAY_RESP (R353). Operands: port, message. -/
  | ptpPdelayResp (t : Nat) (p : Fin 2) (m : PtpMsg)
  /-- PTP_PDELAY_RESP_FOLLOW_UP (R353). Operands: port, message. -/
  | ptpPdelayRespFollowUp (t : Nat) (p : Fin 2) (m : PtpMsg)
  /-- PTP_MASTER_SEND (R353). Operands: 0 Sync, 1 Follow_Up, 2 Announce. -/
  | ptpMasterSend (t : Nat) (kind : Nat)
  /-- PTP_TC_FORWARD (R353). Operands: port it arrives on; 0 IEEE 802.3, 1 UDP over IPv4, 2 UDP over IPv6; residence
    time (ns); the message. -/
  | ptpTcForward (t : Nat) (p : Fin 2) (udp : Nat) (residence : Nat) (msg : List Byte)
  /-- PTP_LOSS (R354). -/
  | ptpLoss (t : Nat)
  /-- GNSS_EPOCH (R356). Operands: reference system (0 to 2), its whole second, QERR (ps). -/
  | gnssEpoch (t : Nat) (ref : Nat) (sec : Nat) (qerr : Int)
  /-- SOURCE_TRUSTED (R357). Operands: the source. -/
  | sourceTrusted (t : Nat) (i : SrcId)
  /-- CROSS_CHECK (R359). -/
  | crossCheck (t : Nat)
  /-- TP_PULSE (R364). -/
  | tpPulse (t : Nat)
  /-- ACQ_PASS_START (R374). Operands: satellites the almanac puts above ELEV_MASK, with their predicted Doppler (Hz). -/
  | acqPassStart (t : Nat) (visible : List (Sat × Int))
  /-- ACQ_CAPTURE_DONE (R373). Operands: the GNSS sample counter at the capture's first sample. -/
  | acqCaptureDone (t : Nat) (stamp : Nat)
  /-- ACQ_PASS_END (R374). Operands: the GNSS sample counter now, and the bins of the search with their sums. -/
  | acqPassEnd (t : Nat) (smp : Nat) (found : List AcqBin)
  /-- ACQ_CONFIRM_TIMEOUT (R376). Operands: the channel. -/
  | acqConfirmTimeout (t : Nat) (c : Fin 64)
  /-- CHANNEL_LOSS (R379). Operands: channel, C/N0 (0.1 dB-Hz). -/
  | channelLoss (t : Nat) (c : Fin 64) (cn0 : Nat)
  /-- NAV_DECODE (R380). Operands: channel, the bits as received (GPS: the last two of the subframe before and the 300 of this one;
    BeiDou: 300; Galileo: the 240 symbols of the even part and those of the odd part), ns since the end of the last. -/
  | navDecode (t : Nat) (c : Fin 64) (raw : List Bool) (ago : Nat)
  /-- GNSS_SOLUTION (R382). Operands: the channels' measurements, and the figures of merit of the solution. -/
  | gnssSolution (t : Nat) (ms : List GnssMeas) (fx : GnssFix)
  /-- ANT_SHORT (R369). -/
  | antShort (t : Nat)
  /-- ANT_RETRY (R369). Operands: the limit acted again within 10 ms. -/
  | antRetry (t : Nat) (limits : Bool)
  /-- ANT_OPEN (R369). Operands: antenna current, 0.1 mA. -/
  | antOpen (t : Nat) (i : Nat)
  /-- CURRENT_SAMPLE (R219). Operands: bank, its channel currents and high-side current, 10 mA. -/
  | currentSample (t : Nat) (n : Fin 12) (i0 : Nat) (i1 : Nat) (i2 : Nat) (i3 : Nat) (hs : Nat)
  /-- WINDOW_EXPIRY (R198). Operands: the bank. -/
  | windowExpiry (t : Nat) (n : Fin 12)
  /-- TP_PULSE_END (R364). -/
  | tpPulseEnd (t : Nat)
  /-- FAN_PERIOD_END (R440). Operands: the channel. -/
  | fanPeriodEnd (t : Nat) (f : Fin 8)
  /-- CHANNEL_LOCK (R378). Operands: the channel. -/
  | channelLock (t : Nat) (c : Fin 64)
  /-- VFD_UV_CLEAR (R343). Operands: field group; 0 UV18, 1 UV15, 2 the supply is back. -/
  | vfdUvClear (t : Nat) (g : Fin 12) (which : Nat)
  deriving DecidableEq, Repr

end Sys2Proof
end

