-- ==== Sys2Proof/Decode.lean ====
section
/-!
DEFINITION. Commands spelt by words. No row of the spec's table of operations and events gives bits: a command is an
occurrence (a frame, a measurement, an expiry), so no word spells one.
-/
namespace Sys2Proof

/-- The command a word of the table spells: none. -/
def decodeTableWord (_nbits _w : Nat) : Option Instr := none

end Sys2Proof
end

