-- ==== Sys2Proof/Machine/Init.lean ====
section
/-!
DEFINITION. What each block holds right after reset or power-up, before anything has happened to it. Reset values the
spec does not give are named in assumption 3.
-/
namespace Sys2Proof.Machine

def Ctx.init : Ctx :=
  { active := false, pc := 0, v0 := 0, v1 := 0, v2 := 0, v3 := 0, param := 0, phase := .none, offm := .fast, itgt := 0, band := 0,
    tonMin := 10, toffMin := 10, tph0 := none, tev0 := 0, refused := false, refWin := false, tgt := false, dip := false, arm := none,
    wait := none, ramp := none, watch := none, onInt := false, intAt := 0, firstOff := none,
    next := none, offTph := false }

def Chan.init : Chan :=
  { ctx := Ctx.init, run := none, next := none, switchOff := none, conduct := false, minOffEnd := 0, i := 0, fault := 0, lastClass := 0,
    shown := 0, cls := 0, ids := [], mots := [], motStamp := 0 }

def Bank.init : Bank :=
  { ch := Vector.replicate 4 Chan.init, queue := [], wins := [], lock := false, lockCause := 0, testedSince := false, sag := false,
    testing := false, lastTest := none, hsLast := 0, hsShown := 0, hsClass := 0, iSum := 0, iN := 0, iPeak := 0, means := [], lastMs := 0, avgStamp := 0, seq := 0,
    qry := Vector.replicate 8 (0, 0) }

def Fan.init : Fan :=
  { st := .off, duty := 0, integ := 0#32, offSince := 0, waiting := false, startReq := 0, waitFlagged := false, overload := false,
    tachLost := false, openFlag := false, speed := 0, tachRun := 0, tachSince := 0, stallAt := 0, thermOff := true, preset := true,
    stamp := 0, next := 0, kickStall := false, shortSup := false, on := 0, stretch := 0, debt := 0 }

def Sensor.init : Sensor :=
  { stage := .none, broken := false, temp := 0, valid := false, stamp := 0, hist := [], lowSince := none, graceAt := 0 }

def Loop.init : Loop :=
  { lst := 0, latch := 0, set_ := 0, swapDue := false, notch := false, presetDue := false, uRef := none, w1 := 0#32, w2 := 0#32, s1 := 0#32, s2 := 0#32,
    xh := Vector.replicate 8 0#32, i := Vector.replicate 2 0#32, up := Vector.replicate 2 0#32, lastX := Vector.replicate 5 0#32,
    refused := Vector.replicate 2 false, cnt := 0, mark := 0, done := 0, jumps := [], hist := [], plRun := false, plRestart := true, ym := 0#32,
    plB := 0#32, plR := 0#32, plCnt := 0, plOk := 0, plFault := false, region := 0, schedNew := false, noRegion := false, xInvalid := false, tune := none }

/-- A field side whose supply is present and which has received no frame: SILENT (R324). -/
def FieldSide.init : FieldSide :=
  { on := true, uv18 := false, uv15 := false, recover := none, silent := true, rcStop := false, lastCmd := 0, silMs := 50,
    silReport := false, sent := none, cfg := Vector.replicate 8 0#32, clears := 0, linkOk := false, lastStatus := 0, repUv18 := false,
    repUv15 := false }

def DiGroup.init : DiGroup :=
  { ch := Vector.replicate 8 ⟨false, false, 0, 0, 0, false⟩, cnt := Vector.replicate 2 ⟨0, 0, none, none, 0⟩, seen := false }

def DoOut.init : DoOut :=
  { lane := .steady false, out := .steady false, since := 0, row := 4, held := false, lrow := 0, lheld := false,
    overload := false, overAt := 0, ot := false, limit := false, shortSup := false, supAt := 0, rbAt := 0,
    rbFail := false, opened := false, value := 0, mode := 0, mir := none, mirInv := false, clip := false, derated := false, offs := 0 }

def Dio.init : Dio := ⟨Vector.replicate 12 FieldSide.init, Vector.replicate 8 DiGroup.init, Vector.replicate 32 DoOut.init⟩

def AiConv.init : AiConv := ⟨false, Vector.replicate 4 (0, 0), none, Vector.replicate 4 0, false, false, Vector.replicate 4 none, Vector.replicate 4 false⟩
def AoOut.init : AoOut := ⟨0, 0, false, false, none, none, 0⟩
def Afe.init : Afe :=
  { conv := Vector.replicate 8 AiConv.init, rx := [], ao := Vector.replicate 8 AoOut.init, onRc := false, refreshTo := false, lastCmd := 0,
    cmd := none, cfgOut := none, muxRc := false, cmdErr := 0 }

def CellSt.init : CellSt :=
  { tiaNext := 0, rangeSet := false, cal := none, pend := Vector.replicate 3 none, calValid := false, scan := false, scanCap := none, rtd := none,
    residN := 0, residCap := none }
def CellGrp.init : CellGrp := ⟨0, false, [], 0, [], none, none⟩
def Cells.init : Cells := ⟨Vector.replicate 16 CellSt.init, Vector.replicate 4 CellGrp.init, 0, false, 0⟩

def MoistCell.init : MoistCell := ⟨none, [], 0, none, none⟩
def Moist.init : Moist := ⟨Vector.replicate 16 MoistCell.init, none, 0#32⟩
def Xform.init : Xform := ⟨0, [], [], 0, 0, 0, none, 0, 0⟩

def Seg.init : Seg :=
  { pwr := 0, onAt := 0, checked := false, faultAt := 0, tn := 0, syncAt := none, line := [], lineAt := 0, busyTo := 0, round := none,
    enum := none, cmd := none, autoDue := false, dir := [], rd := [], saved := [], quar := [], quarFull := false }
def Root.init : Root := ⟨Vector.replicate 16 Seg.init, 0, 0, false, 0, 0, false, 0⟩

def TimeSrc.init : TimeSrc := ⟨false, true, false, none, [], [], 0, none, none⟩
def Ptp.init : Ptp :=
  { parent := none, annAt := 0, syncAt := none, logSync := 0, pend := none, last := none, dreq := none, mpd := none,
    pd := Vector.replicate 2 ⟨none, none, none⟩, seqD := 0, seqP := 0, seqS := 0, seqA := 0, master := false, rival := none,
    listenAt := 0, syncTx := none }
/-- Heartwood's discipline at BOOT, with what flash holds of FREQ_EST. -/
def Time.init (saved : Option (Int × Nat)) : Time :=
  { ptpS := TimeSrc.init, gnssS := TimeSrc.init, active := none, ever := false, everBoot := false, entryBound := 0, holdAt := 0,
    gnssHeld := false, eRem := 0, freq := 0, dep := 0, depAt := 0, phase := 0, turn := none, stepDue := false, stepped := false,
    xfail := 0, ptp := Ptp.init, pulse := none, tpAt := 0, saved := saved }

def GnssCh.init : GnssCh := ⟨none, 0, none, none, 0, false, none, 0, 0⟩
def GnssStore.init : GnssStore := ⟨[], none, none, 0, (0, 0, 0)⟩
def Gnss.init : Gnss :=
  { on := false, start := 0, thr := 0, ch := Vector.replicate 64 GnssCh.init, pass := none, lastPass := none, back := [],
    live := GnssStore.init, flash := GnssStore.init, fix := 0, suspect := false, failRun := 0, passRun := 0, epoch := none, prev := none,
    lastSol := none, ant := 0, antAt := 0 }

def Spi.init : Spi := ⟨[], false, false⟩
def Dhcp.init : Dhcp := ⟨.init, 0#32, 0#32, 0#32, 0, 0, 0⟩

def Net.init : Net := ⟨0#32, none, Dhcp.init, false, Vector.replicate 2 false, Vector.replicate 2 false⟩
def Canopy.init : Canopy :=
  ⟨Vector.replicate 8 none, Vector.replicate 8 none, [], [], Vector.replicate 8 none, Spi.init, Net.init, 0, [], []⟩

def Wear.init : Wear :=
  { used := Vector.replicate 8 0, worst := Vector.replicate 8 0, warn := Vector.replicate 8 false, ended := Vector.replicate 8 false,
    hold9 := 0, hold10 := 0, clampE := Vector.replicate 12 0, boostEnd := Vector.replicate 6 false, boost9 := Vector.replicate 6 0,
    boost10 := Vector.replicate 6 0, boostUse := Vector.replicate 6 0, doCycles := Vector.replicate 32 0, rain := [], cycles := 0#64,
    erases := 0, sector := 0, surges := Vector.replicate 16 0, iso2 := 0#64, iso4 := 0#64, replace := false, hours := 0 }

def EvLog.init : EvLog := ⟨[], 0, 0, [], none, 0, []⟩

/-- The clocks once the root has locked: a stable XREF, no fault. -/
def Clocks.init : Clocks :=
  { run := List.replicate 8 1600000, lastCount := none, windowAt := none, xrefStable := true, pllOn := true, rootLocked := true, pllAt := 0, fault := 0,
    faultAt := 0, faultStamp := 0, coreOnSentinel := false, tcxoRun := 0, tcxoOk := false, fcnt := none, xrefGone := false }

/-- AON, CORE and LINK powered. -/
def Power.init : Power :=
  { vlLow := false, sag := none, sagData := none, sagShed := false, vfaStage := 0, vfaOvl := false, vffUv := false, powered := 0x23,
    domFault := 0, vlPower := [], vlOvl := false, vffOvl := false }

def Arbiter.init : Arbiter := ⟨[], [], [], [], List.replicate 6 0⟩

def Ledger.init : Ledger :=
  { conv := List.replicate 6 ⟨0#64, 0#64, 0, 0⟩, limiting := false, limitEnd := 0, energyLimit := false, rcut := false,
    energy := List.replicate 4 0, secSum := List.replicate 4 0, secN := 0 }

def Firmware.init : Firmware :=
  { bankA := ⟨true, Config.fwVersion, []⟩, bankB := ⟨false, 0#32, []⟩, activeB := false, trial := false, fallback := false, upd := .idle,
    err := 0, buf := List.replicate 64 0#32 }

/-- The supervisor after a power-on BOOT that ended in STANDBY, 1,200 ms after VL rose (R87). -/
def Sup.init : Sup :=
  { mode := .standby, prev := .boot, safeCause := 0, resetCause := .powerOn, safeNet := false, rstLow := false, sentLatch := false,
    sentStopped := false, boot := .done, bootStart := 0, bootFail := false, triedOther := false, straps := ⟨false, false, false, false, false⟩,
    saved := none, shdnLow := false, lifeWave := false, coreAlive := true, lastBeat := 1200000000, wdArmed := true,
    maintSess := none, selftest := false, shutdowns := [], thermHold := false, thermalAt := 0, tripMask := 0, tripNow := 0, shdnTotal := 0, hourRef := 0, resetDue := none,
    resetFrame := none, fw := Firmware.init }

end Sys2Proof.Machine
end

