-- ==== Sys2Proof/Machine/State.lean ====
section
/-!
DEFINITION. The state of the module, as plain data: its clock, its registers, its blocks, what it has sent, and the queue
of the commands that wait. `State.reset` is the module as it is delivered, at the end of the BOOT that follows power-on
(R8, R87), with its straps at their defaults.
-/
namespace Sys2Proof.Machine

/-- Registers and words by byte address, in one canonical form: addresses strictly rising, no entry equal to its reset
word. An address that is not listed reads its reset word. -/
abbrev Regs := List (Nat × Word)

/-- Heartwood up to the edge of a change. -/
structure HeartSeg where
  edge : Nat
  run : Bool
  cnt : Nat
  addend : Nat
  deriving DecidableEq, Repr

/-- Heartwood's counter (R348): running or held, its value in 2⁻²⁸ ns, and ADDEND, which each 125 MHz edge adds. -/
structure Heart where
  run : Bool
  cnt : Nat
  addend : Nat
  /-- How it counted before each of its latest changes, newest first: the 125 MHz edge of the change, and the counter and
  ADDEND up to it. A stamp of an instant that is past is Heartwood's time at that instant (R118). -/
  past : List HeartSeg
  /-- What the loop engine latched at the boundaries not yet executed. -/
  latched : List LoopLatch
  deriving DecidableEq, Repr

/-- The module. -/
structure State where
  /-- Nanoseconds since VL rose, as the model counts them; the timers of every block are kept in it. -/
  now : Nat
  /-- Every register and register-file word that software reads as stored. -/
  regs : Regs
  /-- The configuration store and the values kept in flash or AON (R8, R75, R89). -/
  store : Regs
  /-- How many free values have been used (Config). It is the model's own, no state of the module. -/
  freeCtr : Nat
  heart : Heart
  sup : Sup
  clk : Clocks
  pwr : Power
  arb : Arbiter
  led : Ledger
  sensors : Vector Sensor 10
  fans : Vector Fan 8
  banks : Vector Bank 12
  wear : Wear
  /-- The wear ledger as committed to flash (R102). -/
  wearSaved : Wear
  log : EvLog
  /-- Beacon summary bits of each session (R54). -/
  summary : Vector Nat 8
  can : Canopy
  loops : Vector Loop 256
  dio : Dio
  afe : Afe
  cells : Cells
  moist : Moist
  xf : Xform
  root : Root
  time : Time
  gnss : Gnss
  /-- What the module has sent, newest first. -/
  sent : List Sent
  /-- The commands that wait, the oldest first. -/
  pending : List Instr
  deriving DecidableEq, Repr

/-- Why the module stops: never. The spec gives every command an effect, an answer or no effect in every state, so no
meaning raises a fault and the type has no constructor; nothing unsafe or safe hangs on it. -/
inductive Fault where
  deriving DecidableEq, Repr

/-- Why a command has no meaning. -/
inductive Refusal where
  /-- The command named has no meaning in the model. Only an arm of `exec` raises it; it is safe, since the model then stops
  where the module goes on. No arm does. -/
  | notModelled (mnemonic : String)
  deriving DecidableEq, Repr

/-- The microcode pages as BOOT leaves them with an empty store (R8, R235): a store with no enabled entry passes, so VALID
is 1 and UC_CRC is the CRC-32 of its 2,112 zero bytes. -/
def ucAtReset : Regs :=
  (List.range 12).flatMap fun n => [(0x20044 + n * 0x1000, 1#32), (0x20048 + n * 0x1000, 0xE6579FF3#32)]

/-- The module as delivered, at the end of the BOOT that follows power-on: 1,200 ms after VL rose (R87), Heartwood
having counted from the root's lock at nominal rate. -/
def State.reset : State :=
  { now := 1200000000
    regs := ucAtReset
    store := []
    freeCtr := 0
    heart := ⟨true, 1183600000 * 2 ^ 28, 2 ^ 31, [], []⟩
    sup := Sup.init
    clk := Clocks.init
    pwr := Power.init
    arb := Arbiter.init
    led := Ledger.init
    sensors := Vector.replicate 10 Sensor.init
    fans := Vector.replicate 8 Fan.init
    banks := Vector.replicate 12 Bank.init
    wear := Wear.init
    wearSaved := Wear.init
    log := EvLog.init
    summary := Vector.replicate 8 0
    can := Canopy.init
    loops := Vector.replicate 256 Loop.init
    dio := Dio.init
    afe := Afe.init
    cells := Cells.init
    moist := Moist.init
    xf := Xform.init
    root := Root.init
    time := Time.init none
    gnss := Gnss.init
    sent := []
    pending := [] }

end Sys2Proof.Machine
end

