-- ==== Sys2Proof/Machine/Ops.lean ====
section
/-!
DEFINITION. The named operations over the register file, the free values, the clock enables and the states many blocks
ask for. Every meaning reads and writes registers through these.
-/
namespace Sys2Proof.Machine

/-! ### The register file -/

/-- The first entry of an address. -/
def Regs.find : Regs → Nat → Option Word
  | [], _ => none
  | (b, w) :: r, a => if b = a then some w else Regs.find r a

/-- The word at an address: an unlisted address reads its reset word (R8). -/
def Regs.get (r : Regs) (a : Nat) : Word := (r.find a).getD (resetWord a)

/-- The map without an address. -/
def Regs.erase : Regs → Nat → Regs
  | [], _ => []
  | (b, w) :: r, a => if b = a then Regs.erase r a else (b, w) :: Regs.erase r a

/-- An entry put in its place among rising addresses. -/
def Regs.insert : Regs → Nat → Word → Regs
  | [], a, v => [(a, v)]
  | (b, w) :: r, a, v => if a < b then (a, v) :: (b, w) :: r else (b, w) :: Regs.insert r a v

/-- The map with a word stored; storing the reset word removes the entry, so equal contents are equal data. -/
def Regs.set (r : Regs) (a : Nat) (v : Word) : Regs :=
  if v = resetWord a then r.erase a else (r.erase a).insert a v

/-- Every address of the map is above `b`, rising, and no entry equals its reset word. -/
def Regs.wfFrom : Nat → Regs → Bool
  | _, [] => true
  | b, (a, v) :: r => decide (b ≤ a) && (v != resetWord a) && Regs.wfFrom (a + 1) r

/-- The canonical form: addresses strictly rising, no entry equal to its reset word. -/
def Regs.wf (r : Regs) : Bool := Regs.wfFrom 0 r

namespace State

/-- The stored word at an address. -/
def rd (s : State) (a : Nat) : Word := s.regs.get a

/-- Bits `[hi:lo]` of the stored word at an address. -/
def fld (s : State) (a hi lo : Nat) : Nat := fieldOf (s.rd a) hi lo

/-- Bit `n` of the stored word at an address. -/
def bit (s : State) (a n : Nat) : Bool := (s.rd a).getLsbD n

/-- The state with a word stored. -/
def wr (s : State) (a : Nat) (v : Word) : State := { s with regs := s.regs.set a v }

/-- The state with bits `[hi:lo]` of a word stored. -/
def setFld (s : State) (a hi lo v : Nat) : State := s.wr a (withField (s.rd a) hi lo v)

/-- The state with words stored one after another from an address. -/
def wrs (s : State) (a : Nat) : List Word → State
  | [] => s
  | w :: ws => wrs (s.wr a w) (a + 4) ws

/-- One more in a 32-bit saturating counter register. -/
def count (s : State) (a : Nat) : State := s.wr a (satInc (s.rd a))

/-- A register kept in flash or AON beside its live value (R8): stored in both maps. -/
def wrKept (s : State) (a : Nat) (v : Word) : State := { s.wr a v with store := s.store.set a v }

/-! ### Results: SEQ and VALID (R78) -/

/-- The next SEQ of a result register whose SEQ stands in [31:24]. -/
def nextSeq (s : State) (a : Nat) : Nat := (s.fld a 31 24 + 1) % 256

/-- SEQ advanced and VALID set, with the other bits of the status word. -/
def stamped (s : State) (a : Nat) (rest : Word) : Word :=
  fieldAt 31 24 (s.nextSeq a) ||| fieldAt 23 23 1 ||| rest

/-- A result span posted: its status word with SEQ and VALID, then its other words, in one instant (R10, R78). -/
def post (s : State) (a : Nat) (rest : Word) (ws : List Word) : State :=
  (s.wr a (s.stamped a rest)).wrs (a + 4) ws

/-! ### Free values -/

/-- The next free value: the counter moves on, so two uses are two values. -/
def tick (s : State) : State := { s with freeCtr := s.freeCtr + 1 }

end State

/-! ### Clock enables (R420) -/

/-- The bit of CLK_EN that clocks a kind of page. -/
def clkBit : Kind → Nat
  | .dev => 0 | .clk => 1 | .pwr => 2 | .therm => 3 | .ledger => 4 | .host => 5 | .time => 6 | .link => 7
  | .wear => 8 | .xform => 9 | .act => 10 | .ucode => 11 | .di => 12 | .dio => 13 | .ao => 14 | .ai => 15
  | .moist => 16 | .cell => 17 | .loop => 18 | .fan => 19 | .gnss => 20 | .gnssCh => 20 | .rootSeg => 21 | .rootMain => 21

def clkEnAddr : Nat := 0x1040

namespace State

/-- CLK_EN bit of a kind. -/
def clocked (s : State) (k : Kind) : Bool := s.bit clkEnAddr (clkBit k)

/-- PAGE_CTRL EN of a page. -/
def en (s : State) (base : Nat) : Bool := s.bit (base + 8) 0

/-- A clock fault is in progress. -/
def clockFault (s : State) : Bool := s.clk.fault != 0

/-- Domain `n` of R398 is powered. -/
def powered (s : State) (n : Nat) : Bool := s.pwr.powered.testBit n

/-- RUN or CONSTRAINED. -/
def running (s : State) : Bool := s.sup.mode == .run || s.sup.mode == .constrained

end State

/-- ENF_LEVEL: the highest level of any sensor in ENFORCE, or 0 (R433). -/
def Stage.level : Stage → Nat
  | .enforce n => n
  | _ => 0

def State.enfLevel (s : State) : Nat := s.sensors.toList.foldl (fun m x => max m x.stage.level) 0

/-- THR_REQUEST (R433). -/
def State.thrRequest (s : State) : Bool := s.sensors.toList.any fun x => x.stage == .request

end Sys2Proof.Machine
end

