-- ==== Sys2Proof/Machine/Operands.lean ====
section
/-!
DEFINITION. Heartwood's counter from one instant of the module's own time to another, its changes, and the conversions
between instants of the module and instants of Heartwood, in which requests and stamps are given.
-/
namespace Sys2Proof.Machine

/-- The Heartwood counter after `n` edges of its 125 MHz clock (R348). -/
def Heart.ticks (h : Heart) (n : Nat) : Heart :=
  if h.run then { h with cnt := h.cnt + n * h.addend } else h

/-- The counter at an earlier edge, from the present edge back through its changes. -/
def Heart.at_ (h : Heart) (now edge : Nat) : Nat :=
  match (h.past.takeWhile fun g => decide (edge < g.edge)).getLast? with
  | some g => if g.run then g.cnt - (g.edge - edge) * g.addend else g.cnt
  | none => if h.run then h.cnt - (now - edge) * h.addend else h.cnt

/-- SHDN_T as the two strap lines give it: a linked line reads 1 (R455). -/
def Straps.shdnT (x : Straps) : Nat := b2n x.shdnT0 + 2 * b2n x.shdnT1

namespace State

/-- Heartwood in nanoseconds, 64 bits (R5, R348). -/
def hwNs (s : State) : Nat := s.heart.cnt / 2 ^ 28 % 2 ^ 64

/-- The module instant at which Heartwood reads `hw` (or now, if that is past). -/
def atHw (s : State) (hw : Nat) : Nat := s.now + (hw - s.hwNs)

/-- The Heartwood instant that lay at a module instant not later than now, as Heartwood counted then. -/
def hwAt (s : State) (t : Nat) : Nat := s.heart.at_ (s.now / 8) (t / 8) / 2 ^ 28 % 2 ^ 64

/-- Heartwood changes at this instant; how it counted until now is kept for ten seconds. -/
def changeHeart (s : State) (f : Heart → Heart) : State :=
  let h := s.heart
  let e := s.now / 8
  { s with heart := { f h with past := ⟨e, h.run, h.cnt, h.addend⟩ :: h.past.filter fun g => decide (e ≤ g.edge + 1250000000) } }

end State
end Sys2Proof.Machine
end

