-- ==== Sys2Proof/Machine/Flags.lean ====
section
/-!
DEFINITION. The event flags of a page and the event log (R54, R66, R77, R474).
-/
namespace Sys2Proof.Machine

/-- What an event-log entry carries beside its page, stamp and number. -/
structure Entry where
  code : Nat
  cls : Nat
  data : Nat
  sess : Nat
  deriving DecidableEq, Repr

/-- The default entry of flag `n` (R474). -/
def Entry.default (n : Nat) : Entry := ⟨n, 0, 0, 0xFF⟩

namespace State

/-- Marks a class in every session's beacon summary (R54). -/
def mark (s : State) (cls : Nat) : State := { s with summary := s.summary.map fun m => m ||| 2 ^ cls }

/-- Writes an event-log entry (R66, R77): it is stamped, numbered and marks the beacon summaries. -/
def addLog (s : State) (page flags : Nat) (e : Entry) : State :=
  let n := s.log.newest + 1
  let ent : LogEntry := ⟨s.hwNs, n, page, flags, e.code, e.sess, e.cls, e.data⟩
  { s with log := { s.log with ring := (ent :: s.log.ring).take 16384, newest := n, unarchived := s.log.unarchived + 1 } }.mark e.cls

/-- The flags the hardware has set in the present fabric cycle (R9). -/
def freshFlags (s : State) : List (Nat × Nat) := if s.log.freshAt = s.now / 8 then s.log.fresh else []

/-- Notes that flag `n` of a page was set in the present cycle. -/
def noteFresh (s : State) (base n : Nat) : State :=
  { s with log := { s.log with freshAt := s.now / 8, fresh := (base, n) :: s.freshFlags } }

/-- The note of a state as another state has it: what a request sets comes in later cycles. -/
def keepFresh (s old : State) : State := { s with log := { s.log with freshAt := old.log.freshAt, fresh := old.log.fresh } }

/-- Sets PAGE_EVT bit `n` of a page and counts the set (R77), without a log entry. -/
def flagOnly (s : State) (base n : Nat) : State :=
  (((s.wr (base + 0x10) (s.rd (base + 0x10) ||| fieldAt n n 1)).count (base + 0x18))).noteFresh base n

/-- Flags `n` on a page; with its enable set, the given entry is written (R77, R474). -/
def flagWith (s : State) (base n : Nat) (e : Entry) : State :=
  let s := s.flagOnly base n
  if s.bit (base + 0x14) n then s.addLog base (2 ^ n) e else s

/-- Flags `n` on a page, with the default entry. -/
def flag (s : State) (base n : Nat) : State := s.flagWith base n (Entry.default n)

/-- Flags `n` on a page; the given entry is written whatever the enable. -/
def flagForced (s : State) (base n : Nat) (e : Entry) : State :=
  (s.flagOnly base n).addLog base (2 ^ n) e

/-- Flags `n` if `c`. -/
def flagIf (s : State) (c : Bool) (base n : Nat) : State := if c then s.flag base n else s

end State

end Sys2Proof.Machine
end

