-- ==== Sys2Proof/Machine/Claims.lean ====
section
/-!
DEFINITION. Claims and sessions as other blocks see them (R57, R61–R63): who holds a page or a sub-resource.
-/
namespace Sys2Proof.Machine
namespace State

def sess (s : State) (i : Nat) : Option Sess := if h : i < 8 then s.can.sess[i] else none

/-- The claim of exactly a resource. -/
def claimOf (s : State) (page sub : Nat) : Option Claim := s.can.claims.find? fun c => c.page == page && c.sub == sub

/-- The claim that governs a resource: the page's, else its own. -/
def governing (s : State) (page sub : Nat) : Option Claim := (s.claimOf page 0xFF).orElse fun _ => s.claimOf page sub

/-- The open session that holds a resource, by the page's claim or by its own. -/
def holder (s : State) (page sub : Nat) : Option Nat :=
  match s.governing page sub with
  | some c => if c.orphan then none else some c.owner
  | none => none

/-- The role of an open session. -/
def roleOfSess (s : State) (i : Nat) : Option Role := (s.sess i).map (·.role)

/-- An ENGINEER or SERVICE session holds the resource. -/
def engineerHolds (s : State) (page sub : Nat) : Bool :=
  match s.holder page sub with
  | some i => match s.roleOfSess i with | some r => r == .engineer || r == .service | none => false
  | none => false

/-- Another session, or an orphaned claim, holds the resource against a session (R63). -/
def heldByOther (s : State) (me page sub : Nat) : Bool :=
  match s.governing page sub with
  | some c => c.orphan || c.owner != me
  | none => false

/-- The claims of a page. -/
def pageClaims (s : State) (page : Nat) : List Claim := s.can.claims.filter fun c => c.page == page

/-- A claim is put in place of the one on the same resource. -/
def putClaim (s : State) (c : Claim) : State :=
  { s with can := { s.can with claims := c :: s.can.claims.filter fun x => !(x.page == c.page && x.sub == c.sub) } }

/-- The claim on exactly a resource goes. -/
def dropClaim (s : State) (page sub : Nat) : State :=
  { s with can := { s.can with claims := s.can.claims.filter fun x => !(x.page == page && x.sub == sub) } }

/-- Something sent on a line, now. -/
def send (s : State) (l : Line) (bs : List Byte) : State := { s with sent := ⟨s.now, l, bs⟩ :: s.sent }

end State
end Sys2Proof.Machine
end

