-- ==== Sys2Proof/Machine/Engine32.lean ====
section
/-!
DEFINITION. Binary32 arithmetic of the loop engine and the fan speed loop (R243): every operation rounded separately to
nearest even, a subnormal operand taken as zero of its sign, a subnormal result flushed to zero of its sign.
-/
namespace Sys2Proof.Machine.E32

def add (a b : F32) : F32 := F32.flush (F32.add (F32.flush a) (F32.flush b))
def sub (a b : F32) : F32 := F32.flush (F32.sub (F32.flush a) (F32.flush b))
def mul (a b : F32) : F32 := F32.flush (F32.mul (F32.flush a) (F32.flush b))
def div (a b : F32) : F32 := F32.flush (F32.div (F32.flush a) (F32.flush b))
def lt (a b : F32) : Bool := F32.lt (F32.flush a) (F32.flush b)
def le (a b : F32) : Bool := F32.le (F32.flush a) (F32.flush b)
def max (a b : F32) : F32 := if lt a b then b else a
def min (a b : F32) : F32 := if lt b a then b else a
def abs (a : F32) : F32 := F32.abs (F32.flush a)
/-- A value held between two limits. -/
def clamp (lo hi x : F32) : F32 := if lt hi x then hi else if lt x lo then lo else x
def ofNat (n : Nat) : F32 := F32.flush (F32.ofInt n)
def ofInt (i : Int) : F32 := F32.flush (F32.ofInt i)
/-- A quotient of two whole numbers, rounded once. -/
def ofRat (n d : Nat) : F32 := F32.flush (F32.ofRat false n d)

/-- A binary32 number to the nearest whole number, halves away from zero; 0 for one that is not finite. -/
def toInt (a : F32) : Int := ((F32.val (F32.flush a)).roundAway).getD 0

end Sys2Proof.Machine.E32
end

