-- ==== Sys2Proof/Machine/LoopCore.lean ====
section
/-!
DEFINITION. The loop engine, what other blocks and the passing of time rest on: a loop's settings, its boundaries, which
loops are enabled, whether the engine runs, and the end of a tune.
-/
namespace Sys2Proof.Machine

def loopBase (l : Nat) : Nat := pageBase .loop l

namespace State

def loop (s : State) (l : Fin 256) : Loop := s.loops[l]
def updLoop (s : State) (l : Fin 256) (f : Loop → Loop) : State := { s with loops := s.loops.set l (f s.loops[l]) }

/-! ### Settings -/

def law (s : State) (l : Nat) : Nat := s.fld (loopBase l + 0x40) 17 16
def loopDir (s : State) (l : Nat) : Nat := s.fld (loopBase l + 0x40) 0 0
def loopNX (s : State) (l : Nat) : Nat := s.fld (loopBase l + 0x40) 31 28
def loopNY (s : State) (l : Nat) : Nat := s.fld (loopBase l + 0x40) 26 24
def loopNU (s : State) (l : Nat) : Nat := if s.law l = 2 then s.fld (loopBase l + 0x40) 20 20 + 1 else 1
def period (s : State) (l : Nat) : Nat := s.fld (loopBase l + 0x44) 31 16
def phaseMs (s : State) (l : Nat) : Nat := s.fld (loopBase l + 0x44) 15 0
def selKind (s : State) (l i : Nat) : Nat := s.fld (loopBase l + 0x50 + 0x10 * i) 31 24
def selInst (s : State) (l i : Nat) : Nat := s.fld (loopBase l + 0x50 + 0x10 * i) 23 16
def selItem (s : State) (l i : Nat) : Nat := s.fld (loopBase l + 0x50 + 0x10 * i) 15 8
def cmode (s : State) (l : Nat) : Nat := s.fld (loopBase l + 0xA4) 1 0
def schedEn (s : State) (l : Nat) : Bool := s.bit (loopBase l + 0xB8) 8
def setSel (s : State) (l : Nat) : Nat := s.fld (loopBase l + 0xB8) 2 0
def outKind (s : State) (l k : Nat) : Nat := s.fld (loopBase l + 0xC0 + 0x20 * k) 31 24
def outInst (s : State) (l k : Nat) : Nat := s.fld (loopBase l + 0xC0 + 0x20 * k) 23 16
def plEn (s : State) (l : Nat) : Bool := s.bit (loopBase l + 0x100) 0
def loopEn (s : State) (l : Nat) : Bool := s.en (loopBase l)
def tsOf (s : State) (l : Nat) : F32 := E32.ofRat (s.period l) 1000

/-- The address of byte offset `off` of set `t` of a loop (R248). -/
def setAddr (s : State) (l t off : Nat) : Nat :=
  if s.law l = 2 then loopBase (l + t / 2) + 0x800 + 0x400 * (t % 2) + off else loopBase l + 0x800 + 0x100 * t + off

def coef (s : State) (l t off : Nat) : F32 := s.rd (s.setAddr l t off)

/-! ### Boundaries (R238, R254) -/

/-- Boundaries at or before an instant in ns, since the epoch. -/
def boundsTo (s : State) (l ns : Nat) : Nat :=
  let ms := ns / 1000000
  if ms < s.phaseMs l then 0 else (ms - s.phaseMs l) / max 1 (s.period l) + 1

/-- Boundaries in [a, b]. -/
def boundsIn (s : State) (l a b : Nat) : Nat :=
  if b < a then 0 else s.boundsTo l b - (if a = 0 then 0 else s.boundsTo l (a - 1))

/-- The latest boundary at or before an instant; none before the first. -/
def boundAt (s : State) (l ns : Nat) : Option Nat :=
  let n := s.boundsTo l ns
  if n = 0 then none else some ((s.phaseMs l + (n - 1) * max 1 (s.period l)) * 1000000)

/-- SAMPLE_CNT brought up to an instant (R254): every boundary once, whatever EN and the mode. -/
def syncCnt (s : State) (l : Fin 256) (hw : Nat) : State :=
  let x := s.loop l
  s.updLoop l fun y => { y with cnt := (x.cnt + s.boundsIn l x.mark hw) % 2 ^ 32, mark := max x.mark (hw + 1) }

/-- The first boundary at or after an instant. -/
def boundFrom (s : State) (l ns : Nat) : Nat :=
  (s.phaseMs l + (if ns = 0 then 0 else s.boundsTo l (ns - 1)) * max 1 (s.period l)) * 1000000

/-- The boundary of a loop that waits for the engine: its oldest that has not been executed, skipped or stepped over. -/
def pendingB (s : State) (l : Fin 256) : Option Nat :=
  let x := s.loop l
  let b := x.jumps.foldl (fun b j => if j.1 < b ∧ b < j.2 then s.boundFrom l j.2 else b) (s.boundFrom l x.done)
  if b ≤ s.hwNs then some b else none

/-! ### The engine -/

/-- The enabled loops, in rising order: EN stands in the register file, its reset value is 0. -/
def enabledLoops (s : State) : List (Fin 256) :=
  s.regs.filterMap fun x =>
    let i := (x.1 - loopBase 0) / 0x1000
    if h : i < 256 then if x.1 = loopBase i + 8 ∧ x.2.getLsbD 0 then some ⟨i, h⟩ else none else none

/-- The engine runs (R252, R260). -/
def engineRuns (s : State) : Bool :=
  s.powered 2 && s.clocked .loop && !s.clockFault &&
    (match s.sup.mode with
     | .standby | .commission | .run | .constrained | .safeHold => true
     | _ => false)

/-! ### Modes and tunes -/

/-- The module mode permits output of the loop. -/
def modePermits (s : State) (l : Nat) : Bool :=
  match s.sup.mode with
  | .run | .constrained => true
  | .commission => match s.claimOf (loopBase l) 0xFF with
    | some c => c.role == .engineer || c.role == .service
    | none => false
  | _ => false

/-- The tune ends with a STATE; LSTATE returns to CMODE, the model restarts, an AUTO return presets to U_C (R283). -/
def tuneEnd (s : State) (l : Fin 256) (st : Nat) : State :=
  match (s.loop l).tune with
  | none => s
  | some t =>
    let s := s.updLoop l fun y => { y with tune := none, plRestart := true, uRef := if t.started then some t.uc else none }
    let s := s.setFld (loopBase l + 0x130) 2 0 st
    if st = 2 then s.flag (loopBase l) 12 else if st = 3 then s.flag (loopBase l) 13 else s

/-- 4,096 samples, executed or skipped, without a change of RELAY end the tune FAILED (R281). -/
def tuneQuiet (s : State) (l : Fin 256) : State :=
  match (s.loop l).tune with
  | some t => if 4096 ≤ t.quiet then s.tuneEnd l 3 else s
  | none => s

/-- The mode has changed: a tune of a loop whose output it no longer permits ends FAILED (R281). -/
def tunesJudge (s : State) : State :=
  if s.loops.toList.all fun x => x.tune.isNone then s else
    (List.finRange 256).foldl (fun s l => if (s.loop l).tune.isSome && !s.modePermits l then s.tuneEnd l 3 else s) s

end State
end Sys2Proof.Machine
end

