-- ==== Sys2Proof/Machine/Epoch.lean ====
section
/-!
DEFINITION. The configuration epoch and the configuration store (R75, R76).
-/
namespace Sys2Proof.Machine

def hostBase : Nat := pageBase .host 0

namespace State

/-- CONFIG_EPOCH. -/
def epoch (s : State) : Word := s.rd (hostBase + 0x40)

/-- The epoch after one: it counts from 1 and wraps to 1 (R75). -/
def epochNext (e : Word) : Word := if e = 0xFFFFFFFF#32 then 1 else e + 1

/-- One change took effect on the given pages: CONFIG_EPOCH once, PAGE_EPOCH of each page (R75). -/
def bumpEpoch (s : State) (pages : List Nat) : State :=
  let e := epochNext s.epoch
  pages.foldl (fun s p => s.wrKept (p + 0x20) e) (s.wrKept (hostBase + 0x40) e)

end State
end Sys2Proof.Machine
end

