-- ==== Sys2Proof/Machine/Iec.lean ====
section
/-!
DEFINITION. The sensor formulas of R169–R171 (also used by the cell RTD, R136): the IEC 60751 conversion and the
Steinhart–Hart equation, in binary64, each operation rounded to nearest even.
-/
namespace Sys2Proof.Machine.Iec

def a : F64 := F64.dec 39083 7
def b : F64 := F64.dec (-5775) 10
def c : F64 := F64.dec (-4183) 15
def two : F64 := F64.ofNat 2

/-- The closed root: (−A + √(A² − 4B(1 − R/Rn))) / (2B). -/
def root (r rn : F64) : F64 :=
  let d := F64.sub (F64.mul a a) (F64.mul (F64.mul (F64.ofNat 4) b) (F64.sub F64.one (F64.div r rn)))
  F64.div (F64.add (F64.neg a) (F64.sqrt d)) (F64.mul two b)

/-- One Newton step on 1 + A·T + B·T² + C·(T − 100)·T³ = R/Rn. -/
def newtonStep (q t : F64) : F64 :=
  let t2 := F64.mul t t
  let t3 := F64.mul t2 t
  let f := F64.sub (F64.add (F64.add (F64.add F64.one (F64.mul a t)) (F64.mul b t2))
    (F64.mul c (F64.mul (F64.sub t (F64.ofNat 100)) t3))) q
  let f' := F64.add (F64.add a (F64.mul (F64.mul two b) t))
    (F64.mul c (F64.sub (F64.mul (F64.ofNat 4) t3) (F64.mul (F64.ofNat 300) t2)))
  F64.sub t (F64.div f f')

/-- Newton iteration until a step is smaller than 0.0001 °C. -/
def newton (q : F64) : Nat → F64 → F64
  | 0, t => t
  | n + 1, t =>
    let u := newtonStep q t
    if F64.lt (F64.abs (F64.sub u t)) (F64.dec 1 4) then u else newton q n u

/-- T in °C of a resistance, both in Ω (R171). -/
def temp (r rn : F64) : F64 :=
  if F64.le rn r then root r rn else newton (F64.div r rn) 32 (root r rn)

/-- T in °C of an NTC by Steinhart–Hart (R170). -/
def ntc (r sa sb sc : F64) : F64 :=
  let l := F64.ln r
  F64.sub (F64.div F64.one (F64.add (F64.add sa (F64.mul sb l)) (F64.mul sc (F64.mul (F64.mul l l) l)))) (F64.dec 27315 2)

end Sys2Proof.Machine.Iec
end

