-- ==== Sys2Proof/Machine/Afe.lean ====
section
/-!
DEFINITION. The analog island (spec/06_general_analog_front_end.md): readings of the AI converters from gate end to
posted span, wire breaks, ranges, lead measurement, command frames, the outputs and their readback.
-/
namespace Sys2Proof.Machine

def aiBase (c : Nat) : Nat := pageBase .ai c
def aoBase : Nat := pageBase .ao 0

/-- Base of the configuration registers of channel k of converter c. -/
def aiCfg (c k : Nat) : Nat := aiBase c + 0x80 + 0x20 * k
/-- Base of its result span. -/
def aiRes (c k : Nat) : Nat := aiBase c + 0x200 + 0x40 * k

def AiReading.word (r : AiReading) (i : Nat) : Word := r.cfg.getD i 0
def AiReading.typ (r : AiReading) : Nat := fieldOf (r.word 0) 3 0
def AiReading.pt1000 (r : AiReading) : Bool := bitOf (r.word 0) 12
def AiReading.gateMs (r : AiReading) : Nat := fieldOf (r.word 1) 9 0
/-- From the reading start to the gate start, ns (R172). -/
def AiReading.lead0 (r : AiReading) : Nat := 2000 + fieldOf (r.word 1) 18 10 * 1000 + fieldOf (r.word 1) 31 20 * 10000
/-- The swap of an RTD3 reading, ns. -/
def AiReading.swap (r : AiReading) : Nat := 2000 + fieldOf (r.word 1) 31 20 * 10000

/-- The figures of a reading: R169–R171, R176, R178; one of a lead measurement subtracts nothing (R175). -/
structure AiFigures where
  freq : F64
  value : F64
  lead : F64
  /-- R without subtraction, for a lead measurement. -/
  raw : F64
  ovr : Bool
  opened : Bool
  short : Bool
  deriving DecidableEq, Repr

namespace AiReading

/-- Gate length of one phase in seconds. -/
def gateS (r : AiReading) : F64 :=
  match r.short with
  | some ns => F64.div (F64.ofNat ns) (F64.ofNat 1000000000)
  | none => F64.div (F64.ofNat r.gateMs) (F64.ofNat (if r.typ = 4 then 2000 else 1000))

/-- FREQ = COUNT / (8 × GATE_S). -/
def freqOf (r : AiReading) (n : Nat) : F64 := F64.div (F64.ofNat n) (F64.mul (F64.ofNat 8) r.gateS)

/-- Q = FREQ / 2,000,000 Hz − 1. -/
def qOf (r : AiReading) (n : Nat) : F64 := F64.sub (F64.div (r.freqOf n) (F64.ofNat 2000000)) F64.one

/-- REF_CAL of the reading: Pt100, Pt1000 or NTC reference. -/
def rref (r : AiReading) : F64 := F32.widen (Config.refCal r.conv (if r.typ = 6 then 2 else if r.pt1000 then 1 else 0))

/-- The input current of a CURR reading, A. -/
def amps (r : AiReading) : F64 :=
  F64.div (F64.mul (r.qOf r.count) (F64.dec 264 2)) (F64.ofNat (100 * 10 ^ r.range))

def figures (r : AiReading) : AiFigures :=
  let q := r.qOf r.count
  let full := F64.mul (F64.ofNat 2) r.rref
  let raw := F64.mul full q
  let lead2 := if r.lead then F64.zero else F32.widen (r.word 2)
  let rn := F64.ofNat (if r.pt1000 then 1000 else 100)
  let low := F64.ofNat (if r.pt1000 then 150 else 15)
  let rtd := fun (x lead : F64) (f : F64) =>
    (⟨f, Iec.temp x rn, lead, raw, r.ovr, r.short.isSome || F64.lt full x, F64.lt x low⟩ : AiFigures)
  let brk := r.short.isSome
  match r.typ with
  | 1 => ⟨r.freqOf r.count, F64.mul (F64.dec 125 1) q, F64.zero, raw, r.ovr, false, false⟩
  | 2 => ⟨r.freqOf r.count, r.amps, F64.zero, raw, r.ovr, false, false⟩
  | 3 => rtd (F64.sub raw lead2) lead2 (r.freqOf r.count)
  | 4 =>
    let ca := r.countA.getD r.count
    let qa := r.qOf ca
    rtd (F64.mul full (F64.sub qa q)) (F64.mul full q) (r.freqOf ca)
  | 5 => rtd raw F64.zero (r.freqOf r.count)
  | 6 =>
    let x := F64.sub raw lead2
    ⟨r.freqOf r.count, Iec.ntc x (F32.widen (r.word 3)) (F32.widen (r.word 4)) (F32.widen (r.word 5)), lead2, raw, r.ovr,
      brk || F64.lt (F64.ofNat 240000) x, F64.lt x (F64.ofNat 50)⟩
  | _ => ⟨r.freqOf r.count, F64.mul (F64.ofNat 32) q, F64.zero, raw, r.ovr, brk, r.exc⟩

/-- The flags of a reading: OVR, OPEN, SHORT, CLK_FB (R178). -/
def flags (r : AiReading) : Nat :=
  let f := r.figures
  b2n f.ovr + 2 * b2n f.opened + 4 * b2n f.short + 8 * b2n r.clkFb

/-- RANGE_NEXT of a CURR channel under RANGE_MODE 0 (R176). -/
def rangeNext (r : AiReading) : Nat :=
  let fs := F64.mul (F64.dec 11 1) (F64.div (F64.ofNat 24) (F64.ofNat (1000 * 10 ^ r.range)))
  let i := F64.abs r.amps
  if r.ovr then r.range - 1
  else if F64.lt (F64.mul (F64.dec 9 1) fs) i && decide (0 < r.range) then r.range - 1
  else if F64.lt i (F64.mul (F64.dec 8 2) fs) && decide (r.range < 3) then r.range + 1
  else r.range

end AiReading

namespace State

def conv (s : State) (c : Fin 8) : AiConv := s.afe.conv[c]
def updConv (s : State) (c : Fin 8) (f : AiConv → AiConv) : State :=
  { s with afe := { s.afe with conv := s.afe.conv.set c (f s.afe.conv[c]) } }

/-- The logic side of the AI pages runs. -/
def aiRuns (s : State) : Bool := s.powered 6 && s.clocked .ai && !s.clockFault

/-- CHk_CFG and CHk_TIME of a channel as the island holds them. -/
def islandCfg (s : State) (c : Fin 8) (k : Nat) : Word × Word := if h : k < 4 then (s.conv c).cfg[k] else (0, 0)

/-- The channels converter c reads: CH_EN = 1 and TYPE not 0, under EN (R172), by the configuration the island holds. -/
def aiChans (s : State) (c : Fin 8) : List Nat :=
  if (s.conv c).en then (List.range 4).filter fun k => bitOf (s.islandCfg c k).1 31 && fieldOf (s.islandCfg c k).1 3 0 != 0 else []

/-- The configuration that the AI pages hold. -/
def aiConfig (s : State) : AiConfig :=
  Vector.ofFn fun (c : Fin 8) => (s.en (aiBase c), Vector.ofFn fun (k : Fin 4) => (s.rd (aiCfg c k), s.rd (aiCfg c k + 4)))

/-- The configuration that the island holds. -/
def islandConfig (s : State) : AiConfig := s.afe.conv.map fun (x : AiConv) => (x.en, x.cfg)

/-- A configuration frame goes out, while the island can receive command frames (R165, R166). -/
def sendCfg (s : State) : State :=
  if !s.aiRuns || s.afe.onRc then s else { s with afe := { s.afe with cfgOut := some s.aiConfig } }

/-- A configuration that the island does not hold, and that is not on its way, goes out again: it supersedes a frame that was
discarded (R164). -/
def resendCfg (s : State) : State := if s.afe.cfgOut.isNone && s.aiConfig != s.islandConfig then s.sendCfg else s

/-- A lead measurement runs on the channel. -/
def leadRuns (s : State) (c : Fin 8) (k : Nat) : Bool := if h : k < 4 then (s.conv c).lead[k].isSome else false

/-- The range of the next reading of a channel (R176). -/
def nextRange (s : State) (c : Fin 8) (k : Nat) : Nat :=
  let w := (s.islandCfg c k).1
  if fieldOf w 3 0 = 2 then
    let m := fieldOf w 18 16
    if m = 0 then (if h : k < 4 then (s.conv c).rangeNext[k] else 0) else m - 1
  else 0

/-- A reading of channel k starts now (R172, R173). -/
def startReading (s : State) (c : Fin 8) (k : Nat) : State :=
  let r : AiReading :=
    ⟨c, k, [(s.islandCfg c k).1, (s.islandCfg c k).2, s.rd (aiCfg c k + 8), s.rd (aiCfg c k + 0xC), s.rd (aiCfg c k + 0x10),
      s.rd (aiCfg c k + 0x14), s.rd (aiCfg c k + 0x18), s.rd (aiCfg c k + 0x1C)], s.nextRange c k, s.now, 0, none, 0, none,
      false, false, s.afe.onRc, s.leadRuns c k⟩
  (s.updConv c fun x => { x with busy := some r, onRc := s.afe.onRc, justEn := if h : k < 4 then x.justEn.set k false else x.justEn }).setFld (aiBase c + 0xC) 5 4 k

/-- The converter goes on after channel `k`: the next enabled channel in ascending order, or none. -/
def nextReading (s : State) (c : Fin 8) (k : Nat) : State :=
  let l := s.aiChans c
  match (l.filter fun j => k < j) ++ l with
  | [] => s.updConv c fun x => { x with busy := none }
  | j :: _ => s.startReading c j

/-- A converter with nothing in progress starts at its lowest enabled channel. -/
def kickAi (s : State) (c : Fin 8) : State :=
  if s.aiRuns && (s.conv c).busy.isNone then
    match s.aiChans c with
    | [] => s
    | j :: _ => s.startReading c j
  else s

/-- A lead measurement ends ABORTED (R175). -/
def abortLead (s : State) (c : Fin 8) (k : Fin 4) : State :=
  if (s.conv c).lead[k].isSome then
    (s.updConv c fun x => { x with lead := x.lead.set k none }).setFld (aiBase c + 0x104 + 0x10 * k) 2 0 4
  else s

/-- Every lead measurement ends ABORTED. -/
def abortLeads (s : State) : State :=
  (List.finRange 8).foldl (fun s c => (List.finRange 4).foldl (fun s k => s.abortLead c k) s) s

/-- What follows a write to an AI page: a cleared CH_EN ends a lead measurement and the next reading of a channel just
enabled takes range 0; the configuration goes to the island. -/
def aiWritten (s : State) (c : Fin 8) (k : Fin 4) (wasEn : Bool) : State :=
  let now := s.bit (aiCfg c k) 31
  let s := if wasEn && !now then s.abortLead c k else s
  let s := if !wasEn && now then
      s.updConv c fun x => { x with rangeNext := x.rangeNext.set k 0, justEn := x.justEn.set k true }
    else s
  s.sendCfg

/-- The reading in progress has ended its gate: it goes to AFE_RX, the range of the next reading is decided (R176), and
the next reading starts. -/
def endGate (s : State) (c : Fin 8) (r : AiReading) : State :=
  let k := r.ch
  let auto := r.typ == 2 && fieldOf (r.word 0) 18 16 == 0 && !(if h : k < 4 then (s.conv c).justEn[k] else false)
  let s := if h : k < 4 then
      (if auto then
        let n := r.rangeNext
        let s := s.flagIf (n != r.range) (aiBase c) 4
        s.updConv c fun x => { x with rangeNext := x.rangeNext.set k n }
      else s) else s
  let s := { s with afe := { s.afe with rx := if s.afe.rx.length < 32 then s.afe.rx ++ [AfeFrame.ai r] else s.afe.rx } }
  s.nextReading c k

/-- AI_PHASE_SWAP (R172): phase A of an RTD3 reading of converter c ends with a count. -/
def aiPhaseSwap (s : State) (c : Fin 8) (count : Nat) : State :=
  match (s.conv c).busy with
  | some r =>
    if s.powered 6 && r.typ == 4 && r.countA.isNone && decide (r.start + r.lead0 < s.now) then
      s.updConv c fun x => { x with busy := some { r with countA := some (count % 2 ^ 32), clkFb := r.clkFb || s.afe.onRc } }
    else s
  | none => s

/-- AI_GATE_END (R172): COUNT is latched. `ovr`: the integrator left its range (R176); `exc`: BRIDGE excitation above
15 mA (R178). -/
def aiGateEnd (s : State) (c : Fin 8) (count : Nat) (ovr exc : Bool) : State :=
  match (s.conv c).busy with
  | some r =>
    let g0 := r.start + r.lead0
    if !s.powered 6 || s.now ≤ g0 || (r.typ == 4 && r.countA.isNone) then s else
      s.endGate c { r with count := count % 2 ^ 32, ovr := ovr, exc := exc && r.typ == 7, clkFb := r.clkFb || s.afe.onRc || (s.conv c).onRc,
                           stamp := s.hwAt (g0 + (s.now - g0) / 2) }
  | none => s

/-- AI_WIRE_BREAK (R177, R178): the converter ends the gate; the count of the shortened gate is a free value within the
converter's range. VOLT and CURR inputs have no open detection. -/
def aiWireBreak (s : State) (c : Fin 8) : State :=
  match (s.conv c).busy with
  | some r =>
    let g0 := r.start + r.lead0
    if !s.powered 6 || s.now ≤ g0 || decide (r.typ < 3) then s else
      let len := s.now - g0
      let n := (Config.freeWord s.freeCtr).toNat % (8 * 4000000 * len / 1000000000 + 1)
      s.tick.endGate c { r with count := n, countA := none, short := some len, clkFb := r.clkFb || s.afe.onRc || (s.conv c).onRc,
                                stamp := s.hwAt (g0 + len / 2) }
  | none => s

/-- A reading is posted (R172, R178). -/
def postReading (s : State) (r : AiReading) : State :=
  let f := r.figures
  let fl := r.flags
  let nan : F32 := 0x7FC00000#32
  let k64 := F32.widen (r.word 6)
  let d64 := F32.widen (r.word 7)
  let v := if fl = 0 then F64.narrow f.value else nan
  let sc := if fl = 0 then F64.narrow (F64.add (F64.mul k64 f.value) d64) else nan
  let s := s.post (aiRes r.conv r.ch) (fieldAt 21 20 r.range ||| fieldAt 3 0 fl)
    [loWord r.stamp, hiWord r.stamp, toWord (r.countA.getD r.count), F64.narrow f.freq, v, sc, F64.narrow f.lead]
  let b := aiBase r.conv
  let s := s.flag b 0
  let s := s.flagIf f.ovr b 1
  let s := s.flagIf f.opened b 2
  let s := s.flagIf f.short b 3
  s.flagIf r.clkFb b 5

/-- One more discarded island frame (R164): LINK_ERR_CNT of the whole island. -/
def islandErr (s : State) (n : Nat) : State :=
  (List.range 8).foldl (fun s c => s.wr (aiBase c + 0x4C) (satAdd (s.rd (aiBase c + 0x4C)) n)) s

/-- A good result frame brings the island's report of the command frames it has discarded (R164). -/
def islandReport (s : State) : State :=
  if s.afe.cmdErr = 0 then s else { s.islandErr s.afe.cmdErr with afe := { s.afe with cmdErr := 0 } }

/-- A readback frame leaves AFE_RX: AO_RBn is posted, or the frame is discarded and counted (R163, R164, R180). -/
def takeAo (s : State) (n : Fin 8) (code : Nat) (opened short : Bool) (stamp : Nat) (good : Bool) : State :=
  if !good then s.islandErr 1 else
    let a := aoBase + 0x80 + 4 * n
    let was := s.rd a
    let s := s.islandReport
    let s := { s with afe := { s.afe with ao := s.afe.ao.set n { s.afe.ao[n] with stamp := stamp } } }
    let s := s.post a (fieldAt 17 17 (b2n short) ||| fieldAt 16 16 (b2n opened) ||| fieldAt 15 0 (satU 16 code)) []
    (s.flagIf (opened && !bitOf was 16) aoBase 0).flagIf (short && !bitOf was 17) aoBase 1

/-- A reading leaves AFE_RX (R164): it is posted, or counts for a lead measurement; a discarded one is lost. -/
def takeAi (s : State) (r : AiReading) (good : Bool) : State :=
  if !s.clocked .ai then s
  else if h : r.conv < 8 then
    let c : Fin 8 := ⟨r.conv, h⟩
    if !good then ((s.islandErr 1).flag (aiBase c) 9).flag (aiBase c) 6
    else
      let s := s.islandReport.updConv c fun x => { x with linkOk := true }
      if hk : r.ch < 4 then
        match (s.conv c).lead[r.ch] with
        | some l =>
          if r.lead && decide (l.n < 8) then
            s.updConv c fun x => { x with lead := x.lead.set r.ch (some ⟨l.n + 1, F64.add l.sum r.figures.raw, l.flagged || r.flags != 0⟩) }
          else s
        | none => if r.lead then s else s.postReading r
      else s
  else s

/-- The readback frames at the head of AFE_RX are taken as they come; what stands behind a reading waits. -/
def takeAos : State → List AfeFrame → State
  | s, .ao n code op sh stamp good :: l => takeAos (s.takeAo n code op sh stamp good) l
  | s, l => { s with afe := { s.afe with rx := l } }

/-- AFE_RESULT_FRAME (R164): the oldest frame leaves AFE_RX; `good`: its CRC holds. -/
def afeResultFrame (s : State) (good : Bool) : State :=
  if !s.powered 6 || s.clockFault then s else
    match s.afe.rx with
    | .ai r :: l => (s.takeAi r good).takeAos l
    | l => s.takeAos l

/-- AFE_CLOCK_STOP (R166): the island switches to its RC. -/
def afeClockStop (s : State) : State :=
  if !s.powered 6 || s.afe.onRc then s else
    let s := { s with afe := { s.afe with onRc := true, conv := s.afe.conv.map fun (x : AiConv) => { x with onRc := true } } }
    s.flag aoBase 3

/-- AFE_CLOCK_RETURN (R166): each converter switches back at its next reading start; command frames resume. -/
def afeClockReturn (s : State) : State := ({ s with afe := { s.afe with onRc := false, muxRc := false } }).sendCfg

/-! ### Lead measurement (R175) -/

/-- LEAD_CMD MEASURE, already judged. -/
def leadStart (s : State) (c : Fin 8) (k : Fin 4) : State :=
  (s.updConv c fun x => { x with lead := x.lead.set k (some ⟨0, F64.zero, false⟩) }).setFld (aiBase c + 0x104 + 0x10 * k) 2 0 1

/-- LEAD_CMD STORE, already judged: LEAD_MEAS goes into LEAD2, which the configuration store keeps. -/
def leadStore (s : State) (c k : Nat) : State := s.wrKept (aiCfg c k + 8) (s.rd (aiBase c + 0x108 + 0x10 * k))

/-- LEAD_MEASURE_DONE (R175): the mean of 8 readings. -/
def leadDone (s : State) (c : Fin 8) (k : Fin 4) : State :=
  match (s.conv c).lead[k] with
  | some l =>
    if l.n < 8 then s else
      let a := aiBase c + 0x104 + 0x10 * k
      let mean := F64.div l.sum (F64.ofNat 8)
      let bad := l.flagged || F64.lt (F64.ofNat 50) mean
      let s := s.updConv c fun x => { x with lead := x.lead.set k none }
      if bad then (s.setFld a 2 0 3).flag (aiBase c) 8
      else (s.post a 2#32 [F64.narrow mean]).flag (aiBase c) 7
  | none => s

/-! ### Outputs -/

/-- Rows 4–6 of R181: the code output n must drive. -/
def aoTarget (s : State) (n : Nat) : Nat :=
  let set_ := s.fld (aoBase + 0x40 + 4 * n) 15 0
  let safe := s.fld (aoBase + 0x60 + 4 * n) 15 0
  if !s.en aoBase then safe
  else match s.sup.mode with
    | .run | .constrained => set_
    | .commission => if s.engineerHolds aoBase 0xFF then set_ else safe
    | _ => safe

/-- Rows 1–3 of R181: the code output n drives. -/
def aoDriven (s : State) (n : Fin 8) : Nat :=
  let o := s.afe.ao[n]
  if !s.powered 6 then 0 else if s.sup.safeNet || s.afe.refreshTo then o.safe else o.code

/-- AFE_CMD_FRAME (R165): the codes go out, and a configuration that the island lacks. -/
def afeCmdFrame (s : State) : State :=
  (if s.powered 6 && s.clocked .ao && !s.clockFault then
    { s with afe := { s.afe with
        cmd := some ((List.range 8).map s.aoTarget, (List.range 8).map fun n => s.fld (aoBase + 0x60 + 4 * n) 15 0) } }
  else s).resendCfg

/-- The island takes a configuration frame: the converters hold it, and those with nothing in progress start (R172). -/
def takeConfig (s : State) (cfg : AiConfig) : State :=
  let s := { s with afe := { s.afe with cfgOut := none, conv := Vector.zipWith (fun (x : AiConv) y => { x with en := y.1, cfg := y.2 }) s.afe.conv cfg } }
  (List.finRange 8).foldl (fun s c => s.kickAi c) s

/-- ISLAND_CMD_RECEIVE (R164, R179): a configuration frame on its way arrives, else the frame of the codes; one whose CRC fails is
discarded and counted; nothing arrives while the clock channel stands. -/
def islandCmdReceive (s : State) (good : Bool) : State :=
  if !s.powered 6 || s.afe.onRc then s else
  match s.afe.cfgOut, s.afe.cmd with
  | some cfg, _ => if good then s.takeConfig cfg else { s with afe := { s.afe with cfgOut := none, cmdErr := s.afe.cmdErr + 1 } }
  | none, none => s
  | none, some (codes, safes) =>
    if !good then { s with afe := { s.afe with cmd := none, cmdErr := s.afe.cmdErr + 1 } }
    else
      { s with afe := { s.afe with
          cmd := none, refreshTo := false, lastCmd := s.now
          ao := Vector.ofFn fun n => { s.afe.ao[n] with code := codes.getD n 0, safe := safes.getD n 0 } } }

/-- AO_REFRESH_TIMEOUT (R179): 50 ms ±5 % without a valid command frame. -/
def aoRefreshTimeout (s : State) : State :=
  if s.powered 6 && !s.afe.refreshTo && decide (s.afe.lastCmd + 47500000 ≤ s.now) then
    ({ s with afe := { s.afe with refreshTo := true } }).flag aoBase 2
  else s

/-- A readback flag after one judgement of its condition: it sets after 10 ms of the condition, clears after 10 ms
without it; `since` is the instant at which the condition last changed its answer. -/
def judge10 (now : Nat) (cond old : Bool) (since : Option Nat) : Bool × Option Nat :=
  if cond = old then (old, none)
  else
    let t := since.getD now
    if t + 10000000 ≤ now then (cond, none) else (old, some t)

/-- AO_READBACK (R180): the current of output n, 0.4 µA, and whether its compliance voltage is at 22.0 V or more. The result frame
passes AFE_RX; `good`: its CRC holds on arrival. -/
def aoReadback (s : State) (n : Fin 8) (code : Nat) (high good : Bool) : State :=
  if !s.powered 6 || s.clockFault then s else
    let o := s.afe.ao[n]
    let d := s.aoDriven n
    let (op, oAt) := judge10 s.now (high && decide (code + 250 < d)) o.openF o.openAt
    let (sh, sAt) := judge10 s.now (decide (d + 1250 < code)) o.shortF o.shortAt
    let o' : AoOut := { o with openF := op, shortF := sh, openAt := oAt, shortAt := sAt }
    let s := { s with afe := { s.afe with ao := s.afe.ao.set n o' } }
    s.takeAos (s.afe.rx ++ (if s.afe.rx.length < 32 then [AfeFrame.ao n code op sh s.hwNs good] else []))

/-! ### Power and clock -/

/-- The AFE loses or gains its supply: readings and codes are gone. -/
def afeReset (s : State) : State :=
  { s with afe :=
    { s.afe with rx := [], onRc := false, refreshTo := false, lastCmd := s.now, cmd := none, cfgOut := none, muxRc := false, cmdErr := 0
                 conv := s.afe.conv.map fun (_ : AiConv) => ⟨false, Vector.replicate 4 (0, 0), none, Vector.replicate 4 0, false, false, Vector.replicate 4 none, Vector.replicate 4 false⟩
                 ao := s.afe.ao.map fun (_ : AoOut) => ⟨0, 0, false, false, none, none, 0⟩ } }

/-- A clock fault on the AFE (R166, R175): the logic side is in reset, the island on its RC. -/
def afeFault (s : State) : State :=
  let s := s.abortLeads
  { s with afe := { s.afe with rx := [], cmd := none, cfgOut := none, onRc := true
                               conv := s.afe.conv.map fun (x : AiConv) => { x with busy := none, linkOk := false } } }

/-- The clock returns: each converter restarts at its lowest enabled channel. -/
def afeReturn (s : State) : State := (List.finRange 8).foldl (fun s c => s.kickAi c) s.sendCfg

end State
end Sys2Proof.Machine
end

