-- ==== Sys2Proof/Machine/ModeOps.lean ====
section
/-!
DEFINITION. A mode change (R81) and what every mode change does: DEV_MODE and PREV, the MODE_CHANGE flag, the life wave
of R3 and R97, and the saved set of R89.
-/
namespace Sys2Proof.Machine

def devBase : Nat := pageBase .dev 0

/-- The base address of every register page. -/
def allPages : List Nat := pageMap.flatMap fun p => (List.range p.count).map fun i => pageBase p.kind i

namespace State

/-- The life wave runs in RUN and CONSTRAINED while the supervisor sees the core alive and the sentinel runs (R3, R425). -/
def settleLife (s : State) : State :=
  { s with sup := { s.sup with lifeWave := s.running && s.sup.coreAlive && !s.sup.sentStopped && !s.sup.sentLatch } }

/-- The set of R89: CLK_EN and the pages whose EN is 1. -/
def saveSet (s : State) : State :=
  { s with sup := { s.sup with saved := some (s.rd clkEnAddr, allPages.filter fun b => s.en b) } }

/-- The module changes to mode `m`, which is not THERMAL_OFF (R81): DEV_MODE, MODE_CHANGE, the saved set at an entry to RUN, or
to CONSTRAINED from another mode than RUN; SYS_SHDN_N is asserted only in THERMAL_OFF (R98). A relay tune
that the mode no longer permits ends (R281). -/
def setMode (s : State) (m : Mode) : State :=
  if s.sup.mode = m then s else
    let old := s.sup.mode
    let s := { s with sup := { s.sup with mode := m, prev := old, shdnLow := false } }
    let s := if m = .run ∨ (m = .constrained ∧ old ≠ .run) then s.saveSet else s
    ((s.settleLife).flag devBase 0).tunesJudge

/-- RUN and CONSTRAINED follow THR_ENFORCE and ENERGY_LIMIT (R81). -/
def settleMode (s : State) : State :=
  let lim := decide (0 < s.enfLevel) || s.led.energyLimit
  if s.sup.mode = .run ∧ lim then s.setMode .constrained
  else if s.sup.mode = .constrained ∧ !lim then s.setMode .run
  else s

end State
end Sys2Proof.Machine
end

