-- ==== Sys2Proof/Machine/Crc.lean ====
section
/-!
DEFINITION. The checksums and digests the spec names: CRC-32 (R39), the CRC-16 of the Rootline and DIO/AFE frames
(R164, R291, R323), SHA-256 (R45, R87) and HMAC-SHA-256 (R48, R51).
-/
namespace Sys2Proof.Machine

/-- Eight steps of a reflected CRC-32 register (R39: polynomial 0x04C1_1DB7, input and output reflected). -/
def crc32Bits : Nat → Word → Word
  | 0, r => r
  | k + 1, r => crc32Bits k (if r.getLsbD 0 then (r >>> 1) ^^^ 0xEDB88320#32 else r >>> 1)

def crc32Byte (r : Word) (b : Byte) : Word := crc32Bits 8 (r ^^^ b.setWidth 32)

/-- The CRC-32 of R39 over bytes. -/
def crc32 (bs : List Byte) : Word := (bs.foldl crc32Byte 0xFFFFFFFF#32) ^^^ 0xFFFFFFFF#32

/-- Eight steps of a CRC-16 register with polynomial 0x1021, most significant bit first. -/
def crc16Bits : Nat → BitVec 16 → BitVec 16
  | 0, r => r
  | k + 1, r => crc16Bits k (if r.getLsbD 15 then (r <<< 1) ^^^ 0x1021#16 else r <<< 1)

def crc16Byte (r : BitVec 16) (b : Byte) : BitVec 16 := crc16Bits 8 (r ^^^ (b.setWidth 16 <<< 8))

/-- The CRC-16 with polynomial 0x1021 and initial value 0xFFFF over bytes. -/
def crc16 (bs : List Byte) : BitVec 16 := bs.foldl crc16Byte 0xFFFF#16

/-- One bit of a CRC-16 register with polynomial 0x1021, for frames that are no whole number of bytes. -/
def crc16Bit (r : BitVec 16) (b : Bool) : BitVec 16 :=
  if r.getLsbD 15 != b then (r <<< 1) ^^^ 0x1021#16 else r <<< 1

/-- The round constants of SHA-256. -/
def shaK : List Word :=
  [0x428a2f98#32, 0x71374491#32, 0xb5c0fbcf#32, 0xe9b5dba5#32, 0x3956c25b#32, 0x59f111f1#32, 0x923f82a4#32, 0xab1c5ed5#32,
   0xd807aa98#32, 0x12835b01#32, 0x243185be#32, 0x550c7dc3#32, 0x72be5d74#32, 0x80deb1fe#32, 0x9bdc06a7#32, 0xc19bf174#32,
   0xe49b69c1#32, 0xefbe4786#32, 0x0fc19dc6#32, 0x240ca1cc#32, 0x2de92c6f#32, 0x4a7484aa#32, 0x5cb0a9dc#32, 0x76f988da#32,
   0x983e5152#32, 0xa831c66d#32, 0xb00327c8#32, 0xbf597fc7#32, 0xc6e00bf3#32, 0xd5a79147#32, 0x06ca6351#32, 0x14292967#32,
   0x27b70a85#32, 0x2e1b2138#32, 0x4d2c6dfc#32, 0x53380d13#32, 0x650a7354#32, 0x766a0abb#32, 0x81c2c92e#32, 0x92722c85#32,
   0xa2bfe8a1#32, 0xa81a664b#32, 0xc24b8b70#32, 0xc76c51a3#32, 0xd192e819#32, 0xd6990624#32, 0xf40e3585#32, 0x106aa070#32,
   0x19a4c116#32, 0x1e376c08#32, 0x2748774c#32, 0x34b0bcb5#32, 0x391c0cb3#32, 0x4ed8aa4a#32, 0x5b9cca4f#32, 0x682e6ff3#32,
   0x748f82ee#32, 0x78a5636f#32, 0x84c87814#32, 0x8cc70208#32, 0x90befffa#32, 0xa4506ceb#32, 0xbef9a3f7#32, 0xc67178f2#32]

/-- The eight working words of SHA-256. -/
structure Sha where
  a : Word
  b : Word
  c : Word
  d : Word
  e : Word
  f : Word
  g : Word
  h : Word
  deriving DecidableEq, Repr

def shaInit : Sha :=
  ⟨0x6a09e667#32, 0xbb67ae85#32, 0x3c6ef372#32, 0xa54ff53a#32, 0x510e527f#32, 0x9b05688c#32, 0x1f83d9ab#32, 0x5be0cd19#32⟩

def rotr (w : Word) (n : Nat) : Word := (w >>> n) ||| (w <<< (32 - n))

/-- One round over the schedule window (the next 16 schedule words). -/
def shaRound (s : Sha) (k w : Word) : Sha :=
  let s1 := rotr s.e 6 ^^^ rotr s.e 11 ^^^ rotr s.e 25
  let ch := (s.e &&& s.f) ^^^ (~~~ s.e &&& s.g)
  let t1 := s.h + s1 + ch + k + w
  let s0 := rotr s.a 2 ^^^ rotr s.a 13 ^^^ rotr s.a 22
  let mj := (s.a &&& s.b) ^^^ (s.a &&& s.c) ^^^ (s.b &&& s.c)
  ⟨t1 + (s0 + mj), s.a, s.b, s.c, s.d + t1, s.e, s.f, s.g⟩

/-- The next word of the message schedule from the window of the last 16. -/
def shaNext (win : List Word) : Word :=
  let g := fun i => win.getD i 0
  let a := g 1
  let b := g 14
  (rotr b 17 ^^^ rotr b 19 ^^^ (b >>> 10)) + g 9 + (rotr a 7 ^^^ rotr a 18 ^^^ (a >>> 3)) + g 0

def shaRounds : List Word → List Word → Sha → Sha
  | [], _, s => s
  | k :: ks, win, s =>
    shaRounds ks (win.drop 1 ++ [shaNext win]) (shaRound s k (win.getD 0 0))

def shaBlock (s : Sha) (win : List Word) : Sha :=
  let r := shaRounds shaK win s
  ⟨s.a + r.a, s.b + r.b, s.c + r.c, s.d + r.d, s.e + r.e, s.f + r.f, s.g + r.g, s.h + r.h⟩

/-- The big-endian words of a block. -/
def beWords : List Byte → List Word
  | a :: b :: c :: d :: r => (a ++ b ++ c ++ d) :: beWords r
  | _ => []

/-- The blocks of a padded message, `n` of them. -/
def shaBlocks : Nat → List Byte → Sha → Sha
  | 0, _, s => s
  | n + 1, bs, s => shaBlocks n (bs.drop 64) (shaBlock s (beWords (bs.take 64)))

/-- SHA-256 (FIPS 180-4; the spec names it and gives no text of its own, assumption 8). -/
def sha256 (m : List Byte) : List Byte :=
  let pad := 64 - (m.length + 9) % 64
  let pad := if pad = 64 then 0 else pad
  let p := m ++ (0x80#8 :: List.replicate pad 0#8) ++ beBytes 8 (8 * m.length)
  let s := shaBlocks (p.length / 64) p shaInit
  [s.a, s.b, s.c, s.d, s.e, s.f, s.g, s.h].flatMap fun w => beBytes 4 w.toNat

/-- HMAC-SHA-256 (RFC 2104; assumption 8). -/
def hmac (key m : List Byte) : List Byte :=
  let k := if key.length > 64 then sha256 key else key
  let k := k ++ List.replicate (64 - k.length) 0#8
  let i := k.map fun b => b ^^^ 0x36#8
  let o := k.map fun b => b ^^^ 0x5C#8
  sha256 (o ++ sha256 (i ++ m))

/-- ASCII bytes of a label. -/
def ascii (s : String) : List Byte := s.toList.map fun c => BitVec.ofNat 8 c.toNat

end Sys2Proof.Machine
end

