-- ==== Sys2Proof/Machine/Wear.lean ====
section
/-!
DEFINITION. The wear ledger (R102–R104, spec/03_modes_startup_and_loss.md): the use of each indicator, WARN and END
with their persistence, the clamp energy, the DO cycles, the thermal cycles and the isolator hours.
-/
namespace Sys2Proof.Machine

def wearBase : Nat := pageBase .wear 0

/-- Hours with VL applied since manufacture, in units of 0.1 s (RUN_HOURS). -/
def State.runTenths (s : State) : Nat := s.wear.hours + (s.now - s.sup.hourRef) / 100000000

/-- The highest of a list of uses and its place, the lowest at a tie. -/
def worstOf (l : List Nat) : Nat × Nat :=
  (withIndex l).foldl (fun m x => if m.1 < x.2 then (x.2, x.1) else m) (0, 0)

/-- A cycle of thermal range `d`, 1/64 °C: (ΔT / 60)⁴ (R102). -/
def cycleDamage (d : Nat) : F64 :=
  let x := F64.ofRat false d 3840
  F64.mul (F64.mul x x) (F64.mul x x)

/-- Puts a sample after the turning points: it extends the latest run or begins a new one. -/
def rainPush (x : Int) : List Int → List Int
  | [] => [x]
  | [a] => if x = a then [a] else [x, a]
  | a :: b :: r =>
    if (b < a ∧ a ≤ x) ∨ (a < b ∧ x ≤ a) ∨ x = a then x :: b :: r else x :: a :: b :: r

/-- Closes the cycles of a rainflow count: points left, full ranges and half ranges closed. -/
def rainClose : Nat → List Int → F64 → List Int × F64
  | 0, ps, d => (ps, d)
  | n + 1, x :: y :: z :: r, d =>
    let a := (x - y).natAbs
    let b := (y - z).natAbs
    if b ≤ a then
      match r with
      | [] => ([x, y], F64.add d (F64.mul (F64.ofRat false 1 2) (cycleDamage b)))
      | _ => rainClose n (x :: r) (F64.add d (cycleDamage b))
    else (x :: y :: z :: r, d)
  | _ + 1, ps, d => (ps, d)

namespace State

/-- WARN of an indicator: latched; the first of any indicator sets REPLACE and writes a class 3 entry (R103). -/
def wearWarn (s : State) (i : Fin 8) : State :=
  if s.wear.warn[i] then s else
    let first := !s.wear.replace
    let s := { s with wear := { s.wear with warn := s.wear.warn.set i true, replace := true } }
    s.flagWith wearBase i ⟨i, if first then 3 else 0, 0, 0xFF⟩

/-- END of an indicator: latched, its derating applies (R103). -/
def wearEnd (s : State) (i : Fin 8) : State :=
  if s.wear.ended[i] then s else
    ({ s with wear := { s.wear with ended := s.wear.ended.set i true } }).flag wearBase (8 + i)

/-- A new use of an indicator with the instance it belongs to; `w` and `e` say that WARN and END are due. -/
def wearUse (s : State) (i : Fin 8) (use worst : Nat) (w e : Bool) : State :=
  let s := { s with wear := { s.wear with used := s.wear.used.set i (satU 16 use), worst := s.wear.worst.set i worst } }
  let s := if w then s.wearWarn i else s
  if e then s.wearEnd i else s

/-- A counted indicator: WARN above 9,000, END above 10,000 (R103). -/
def wearCounted (s : State) (i : Fin 8) (use worst : Nat) : State :=
  s.wearUse i use worst (decide (9000 < use)) (decide (10000 < use))

/-- Indicator 0 after a hold-up measurement of `c` µF (R102). -/
def wearHoldup (s : State) (c : Nat) : State :=
  let use := 10000 * (3300 - c) / 825
  let n9 := if 9000 < use then s.wear.hold9 + 1 else 0
  let n10 := if 10000 < use then s.wear.hold10 + 1 else 0
  let s := { s with wear := { s.wear with hold9 := n9, hold10 := n10 } }
  (s.post (wearBase + 0x60) (fieldAt 15 0 (satU 16 c)) []).wearUse 0 use 0 (decide (3 ≤ n9)) (decide (3 ≤ n10))

/-- Indicator 1 after a measurement of converter b: C in 0.1 µF, ESR in mΩ (R102). -/
def wearBoost (s : State) (b : Fin 6) (c esr : Nat) : State :=
  let e0 := max 1 (Config.esr0 b)
  let use := max (10000 * (2200 - c) / 440) (10000 * (esr - e0) / e0)
  let n9 := if 9000 < use then s.wear.boost9[b] + 1 else 0
  let n10 := if 10000 < use then s.wear.boost10[b] + 1 else 0
  let s := { s with wear := { s.wear with
    boostUse := s.wear.boostUse.set b use, boost9 := s.wear.boost9.set b n9, boost10 := s.wear.boost10.set b n10,
    boostEnd := if 3 ≤ n10 then s.wear.boostEnd.set b true else s.wear.boostEnd } }
  let s := s.post (wearBase + 0x64 + 4 * b) (fieldAt 22 12 (satU 11 esr) ||| fieldAt 11 0 (satU 12 c)) []
  let m := worstOf s.wear.boostUse.toList
  s.wearUse 1 m.1 m.2 (decide (3 ≤ n9)) (decide (3 ≤ n10))

/-- Clamp energy of a switch-off of bank n, 0.1 mJ (R102, indicator 2). -/
def wearClamp (s : State) (n : Fin 12) (e : Nat) : State :=
  let s := { s with wear := { s.wear with clampE := s.wear.clampE.set n (s.wear.clampE[n] + e) } }
  let m := worstOf s.wear.clampE.toList
  s.wearCounted 2 (m.1 / 100000000) m.2

/-- One on-off cycle of DO output d (R102, indicator 3). -/
def wearDo (s : State) (d : Fin 32) : State :=
  let s := { s with wear := { s.wear with doCycles := s.wear.doCycles.set d (s.wear.doCycles[d] + 1) } }
  let m := worstOf s.wear.doCycles.toList
  s.wearCounted 3 (m.1 / 5000) m.2

/-- A sample of TS5, 1/64 °C, enters the rainflow count (R102, indicator 4). -/
def wearCycle (s : State) (x : Int) : State :=
  let ps := rainPush x s.wear.rain
  let (ps, d) := rainClose ps.length ps s.wear.cycles
  let s := { s with wear := { s.wear with rain := ps, cycles := d } }
  s.wearCounted 4 (F64.toNatSat (F64.mul d (F64.ofRat false 1 2)) 0x1FFFF) 5

/-- A flash erase of a sector whose count has become `n` (R102, indicator 5). -/
def wearErase (s : State) (sector n : Nat) : State :=
  let s := if s.wear.erases < n then { s with wear := { s.wear with erases := n, sector := sector } } else s
  s.wearCounted 5 (s.wear.erases / 10) (s.wear.sector % 256)

/-- A surge of segment g (R102, indicator 6). -/
def wearSurge (s : State) (g : Fin 16) : State :=
  let s := { s with wear := { s.wear with surges := s.wear.surges.set g (s.wear.surges[g] + 1) } }
  let m := worstOf s.wear.surges.toList
  s.wearCounted 6 (m.1 * 5) m.2

end State

/-- Weight of time at a temperature against 75 °C, Arrhenius with 0.7 eV (R102, indicator 7); k = 8.617333E-5 eV/K. -/
def isoWeight (x : Int) : F64 :=
  let tk := F64.add (F64.div (F64.ofInt x) (F64.ofNat 64)) (F64.dec 27315 2)
  let d := F64.sub (F64.div F64.one (F64.dec 34815 2)) (F64.div F64.one tk)
  F64.exp (F64.mul (F64.div (F64.dec 7 1) (F64.dec 8617333 11)) d)

namespace State

/-- 100 ms at the temperatures of TS2 and TS4, 1/64 °C (R102, indicator 7). -/
def wearIso (s : State) (x2 x4 : Int) : State :=
  let dt := F64.ofRat false 1 36000
  let a := F64.add s.wear.iso2 (F64.mul dt (isoWeight x2))
  let b := F64.add s.wear.iso4 (F64.mul dt (isoWeight x4))
  let s := { s with wear := { s.wear with iso2 := a, iso4 := b } }
  let u := fun h => F64.toNatSat (F64.div (F64.mul h (F64.ofNat 10000)) (F64.ofNat 175200)) 0x1FFFF
  if F64.lt a b then s.wearCounted 7 (u b) 4 else s.wearCounted 7 (u a) 2

/-! ### The rows of the ledger -/

/-- 24 h of operation: the hold-up capacitance in µF is measured (R102). -/
def holdupMeasure (s : State) (c : Nat) : State := if s.sup.mode = .off then s else s.wearHoldup c

/-- The hourly measurement of converter b during recharge (R102). -/
def boostCapMeasure (s : State) (b : Fin 6) (c esr : Nat) : State :=
  if s.powered 8 && s.bit (pageBase .act (2 * b) + 0x44) 16 then s.wearBoost b c esr else s

end State
end Sys2Proof.Machine
end

