-- ==== Sys2Proof/Machine/Act.lean ====
section
/-!
DEFINITION. Actuator banks, shared part (spec/07_actuator_banks.md): events and their queue, the gates of R21, windows,
switch-off, event records, faults and locks, the SAFE net on the bank, and how an event starts its profile.
Bank n is `Fin 12`, channel k of it `Fin 4`.
-/
namespace Sys2Proof.Machine

def actBase (n : Nat) : Nat := pageBase .act n
def ucBase (n : Nat) : Nat := pageBase .ucode n
/-- The address of a register of channel block k (0x100 + 0x40·k). -/
def chAddr (n k off : Nat) : Nat := actBase n + 0x40 * k + off

namespace State

def bank (s : State) (n : Fin 12) : Bank := s.banks[n]
def chan (s : State) (n : Fin 12) (k : Fin 4) : Chan := (s.bank n).ch[k]
def updBank (s : State) (n : Fin 12) (f : Bank → Bank) : State := { s with banks := s.banks.set n (f s.banks[n]) }
def updChan (s : State) (n : Fin 12) (k : Fin 4) (f : Chan → Chan) : State :=
  s.updBank n fun b => { b with ch := b.ch.set k (f b.ch[k]) }
def updCtx (s : State) (n : Fin 12) (k : Fin 4) (f : Ctx → Ctx) : State :=
  s.updChan n k fun c => { c with ctx := f c.ctx }

end State

/-! ### Profiles and channel settings -/

def profAddr (n p : Nat) : Nat := actBase n + 0x200 + 4 * p
def State.winUs (s : State) (n p : Nat) : Nat := s.fld (profAddr n p) 13 0
def State.winClose (s : State) (n p : Nat) : Bool := s.bit (profAddr n p) 15
def State.motExp (s : State) (n p : Nat) : Bool := s.bit (profAddr n p) 14
def State.eboost (s : State) (n p : Nat) : Nat := s.fld (profAddr n p) 31 16

/-- UC_STAT VALID of bank n: the store passed validation. -/
def State.ucValid (s : State) (n : Nat) : Bool := s.bit (ucBase n + 0x44) 0
/-- ENTRYp EN. -/
def State.entryEn (s : State) (n p : Nat) : Bool := s.bit (ucBase n + 0x80 + 4 * p) 31
/-- The word of the store at an address 0–511. -/
def State.storeWord (s : State) (n w : Nat) : Word := s.rd (ucBase n + 0x800 + 4 * (w % 512))

/-- BOOST_V in use of converter b, 0.5 V: limited to 55.0 V once the converter is derated (R189). -/
def State.boostV (s : State) (b : Fin 6) : Nat :=
  let v := s.fld (actBase (2 * b) + 0x44) 7 0
  if s.wear.boostEnd[b] then min v 110 else v
/-- DERATED of converter b (R189): its end of life has passed and the BOOST_V stored is limited. -/
def State.derated (s : State) (b : Fin 6) : Bool := s.wear.boostEnd[b] && decide (110 < s.fld (actBase (2 * b) + 0x44) 7 0)
/-- VRES of converter b as last reported, 0.1 V. -/
def State.vres (s : State) (b : Nat) : Nat := s.fld (actBase (2 * b) + 0x48) 9 0
/-- BOOST_EN of converter b. -/
def State.boostEn (s : State) (b : Nat) : Bool := s.bit (actBase (2 * b) + 0x44) 16

/-- The converter of a bank. -/
def convOf (n : Fin 12) : Fin 6 := ⟨n / 2, by omega⟩

/-- The first whole microsecond of Heartwood at or after an instant (R193). -/
def slotCeil (hw : Nat) : Nat := ceilDiv hw 1000 * 1000

/-- Events of a bank that are queued: those not yet taken, and those waiting for MIN_OFF (R202). -/
def queueLen (b : Bank) : Nat := b.queue.length + (b.ch.toList.filter fun c => c.next.isSome).length

/-! ### Outcomes (R195) -/

/-- The status code an outcome records. -/
def outcomeStatus (o : Nat) : Nat :=
  if o ≤ 2 then 0x00 else if o = 5 ∨ o = 22 then 0x0C else if o = 16 then 0x0E else 0x0F

/-- The class of the log entry of an outcome. -/
def outcomeClass (o : Nat) : Nat := if o = 2 ∨ o = 22 then 0 else if o = 3 then 2 else 1

/-- The entry 0x0101 of an event that ended other than DONE (R196). -/
def outcomeEntry (n : Fin 12) (k : Fin 4) (id o : Nat) : Entry :=
  ⟨0x0101, outcomeClass o, id % 2 ^ 32 + (4 * n + k) * 2 ^ 32 + o * 2 ^ 40 + outcomeStatus o * 2 ^ 48, 0xFF⟩

/-- Sets the state of a held EVENT_ID. -/
def setId (ids : List IdRec) (id est o : Nat) : List IdRec :=
  ids.map fun r => if r.id = id then { r with estate := est, outcome := o } else r

/-- Records a newly accepted EVENT_ID: the last 64 of the channel are held (R65). -/
def pushId (ids : List IdRec) (id : Nat) : List IdRec := (⟨id, 0, 0⟩ :: ids.filter fun r => r.id != id).take 64

/-- What a finished event reports in CHk_EVT. -/
structure EvtRec where
  estate : Nat
  outcome : Nat
  motion : Bool
  delayed : Bool
  start : Nat
  delayUs : Nat
  peakI : Nat
  motT : Nat
  dur : Nat
  eRegen : Nat
  eRes : Nat
  deriving DecidableEq, Repr

namespace State

/-- Writes CHk_EVT, flags EVT_DONE or EVT_DROP, records the outcome under the EVENT_ID, and writes the log entry
of R196 (`forced`: whatever the enable, for the events SAFE_HOLD drops, R93). -/
def endEvent (s : State) (n : Fin 12) (k : Fin 4) (ev : Event) (r : EvtRec) (forced : Bool) : State :=
  let a := chAddr n k 0x114
  let s := s.post a
    (fieldAt 21 20 r.estate ||| fieldAt 19 16 ev.prof ||| fieldAt 15 8 r.outcome ||| fieldAt 2 2 (b2n r.motion)
      ||| fieldAt 1 1 (b2n ev.fromLoop) ||| fieldAt 0 0 (b2n r.delayed))
    [toWord ev.id, loWord r.start, hiWord r.start,
     fieldAt 31 16 (satU 16 r.delayUs) ||| fieldAt 15 0 (satU 16 r.peakI),
     toWord (satU 32 r.motT), toWord (satU 32 r.dur),
     fieldAt 31 16 (satU 16 r.eRegen) ||| fieldAt 15 0 (satU 16 r.eRes)]
  let s := s.updChan n k fun c => { c with ids := setId c.ids ev.id r.estate r.outcome }
  let b := actBase n
  let fl := if r.estate = 2 then 0 else 1
  let e := outcomeEntry n k ev.id r.outcome
  if r.outcome = 1 then s.flagOnly b fl
  else if forced then s.flagForced b fl e
  else s.flagWith b fl e

/-- Requests and grants asked ahead for the channel go. -/
def dropPre (s : State) (n k : Nat) : State :=
  { s with arb := { s.arb with
      grants := s.arb.grants.filter fun g => !(g.bank == n && g.ch == k && g.pre.isSome)
      pending := s.arb.pending.filter fun g => !(g.bank == n && g.ch == k && g.pre.isSome) } }

/-- A queued event is dropped with an outcome (ESTATE 3). -/
def dropEvent (s : State) (n : Fin 12) (ev : Event) (o : Nat) (forced : Bool := false) : State :=
  match (if h : ev.ch < 4 then some (⟨ev.ch, h⟩ : Fin 4) else none) with
  | none => s
  | some k =>
    let s := s.updBank n fun b =>
      { b with queue := b.queue.filter fun x => x.seq != ev.seq,
               wins := if ev.passed4 then b.wins.filter fun w => !(w.ev == ev.seq && w.closeAt.isNone) else b.wins }
    (if ev.pre = 0 then s else s.dropPre n k).endEvent n k ev ⟨3, o, false, false, 0, 0, 0, 0, 0, 0, 0⟩ forced

/-- MOT_CNT, NOMOT_CNT, MOT_MEAN and NO_MOTION at the end DONE of an event (R206). -/
def countMotion (s : State) (n : Fin 12) (k : Fin 4) (r : Running) : State :=
  match r.motT with
  | some t =>
    let s := s.count (chAddr n k 0x138)
    let ms := (t :: (s.chan n k).mots).take 64
    (s.updChan n k fun c => { c with mots := ms, motStamp := r.startHw + 10 * t }).wr (chAddr n k 0x134) (toWord (ms.sum / ms.length))
  | none =>
    if s.motExp n r.ev.prof then (s.count (chAddr n k 0x13C)).flag (actBase n) 10 else s

/-- The running event of a channel ends now with an outcome: record, counts and flags (R196, R206). An event none of whose
phases took effect has no actual start: START, DELAY and DUR are 0. -/
def finish (s : State) (n : Fin 12) (k : Fin 4) (o : Nat) : State :=
  match (s.chan n k).run with
  | none => s
  | some r =>
    let s := s.updChan n k fun c => { c with run := none }
    let dueHw := max r.ev.start r.ev.dueAt
    let s := s.endEvent n k r.ev
      ⟨2, o, r.motT.isSome, r.begun && decide (slotCeil dueHw < r.startHw), if r.begun then r.startHw else 0,
       if r.begun then (r.startHw - r.ev.start) / 1000 else 0, r.peakI, r.motT.getD 0,
       if r.begun then (s.now - r.startAt) / 10 else 0, r.eRegen / 1000000, r.eRes / 1000000⟩ (forced := false)
    if o = 1 then s.countMotion n k r else s

/-! ### Windows and grants -/

/-- Closes the open window of an event (R198). -/
def closeWin (s : State) (n : Fin 12) (seq : Nat) : State :=
  s.updBank n fun b => { b with wins := b.wins.filter fun w => !(w.ev == seq && w.closeAt.isSome) }

/-- Reserves the window of a bank for an event (R199). -/
def reserveWin (s : State) (n : Fin 12) (ev : Event) : State :=
  s.updBank n fun b => { b with wins := ⟨ev.ch, ev.seq, none⟩ :: b.wins.filter fun w => w.ev != ev.seq }

/-- Opens the window of an event at its first-phase boundary (R198, R220). A predecessor's window closes at its own instants only. -/
def openWin (s : State) (n : Fin 12) (ev : Event) (us boundary : Nat) : State :=
  s.updBank n fun b =>
    let ws := b.wins.filter fun w => w.ev != ev.seq
    { b with wins := if us = 0 then ws else ⟨ev.ch, ev.seq, some (boundary + us * 1000)⟩ :: ws }

/-- The running event's own window is open at this instant (R198). -/
def winOpenFor (s : State) (n : Fin 12) (k : Fin 4) : Bool :=
  match (s.chan n k).run with
  | some r => (s.bank n).wins.any fun w => w.ev == r.ev.seq && (match w.closeAt with | some t => decide (s.now < t) | none => false)
  | none => false

/-- A window of the bank is open or reserved (WIN_OPEN). -/
def winOpen (s : State) (n : Fin 12) : Bool := !(s.bank n).wins.isEmpty

/-- A window of the bank is open at this instant, not only reserved (R198, R405): its closing lies ahead, and the boundary at which
it opens has come. -/
def winIsOpen (s : State) (n : Fin 12) : Bool :=
  (s.bank n).wins.any fun w =>
    (match w.closeAt with | some t => decide (s.now < t) | none => false) &&
      !((s.bank n).ch.toList.any fun c => match c.run with
        | some r => r.ev.seq == w.ev && !r.begun && decide (s.now < r.startAt)
        | none => false)

/-- Ends the grants and requests of a channel (R203). -/
def dropGrants (s : State) (n k : Nat) : State :=
  { s with arb := { s.arb with
      grants := s.arb.grants.filter fun g => !(g.bank == n && g.ch == k)
      pending := s.arb.pending.filter fun g => !(g.bank == n && g.ch == k) } }

/-! ### High side and switch-off (R185–R188) -/

/-- Another channel of the bank conducts. -/
def otherConducts (s : State) (n : Fin 12) (k : Fin 4) : Bool :=
  (List.finRange 4).any fun j => decide (j ≠ k) && (s.chan n j).conduct

/-- Clamp energy of the bank has passed its end of life (R102, indicator 2). -/
def bankWorn (s : State) (n : Fin 12) : Bool := decide (10000 < s.wear.clampE[n] / 100000000)

/-- The path a switch-off takes (R188). -/
def effOff (s : State) (n : Fin 12) (k : Fin 4) (m : OffMode) : OffMode :=
  match m with
  | .slow => if s.otherConducts n k then .regen else .slow
  | .fast => if s.bankWorn n then .regen else .fast
  | .regen => .regen

/-- HS_MODE (R185), of the channels in a phase, not in switch-off (R187): 0 off, 1 VFA, 2 BOOST. -/
def hsMode (s : State) (n : Fin 12) : Nat :=
  let on := (List.finRange 4).filter fun k => (s.chan n k).conduct && (s.chan n k).switchOff.isNone
  if on.any fun k => (s.chan n k).ctx.phase == .boost then 2
  else if on.any fun k => (s.chan n k).ctx.phase == .peak || (s.chan n k).ctx.phase == .hold then 1 else 0

/-- Channel k regulates by low-side chopping (R186). -/
def regLs (s : State) (n : Fin 12) (k : Fin 4) : Bool :=
  let c := s.chan n k
  c.conduct && c.switchOff.isNone && (s.otherConducts n k || (s.hsMode n == 2 && c.ctx.phase != .boost))

/-- A phase begins at an instant `at_` (Heartwood `hw`): PHASE, OFFM and ITGT are set, TPH restarts, TGT = 0 (R221); with
the current above ITGT + BAND it begins with an off-interval through the preceding phase's mode (R224). The first phase of an
event to take effect is its actual start (R23, R203). A SLOW switch-off of another channel of the bank, which needs the high
side off, goes on as REGEN (R188). -/
def startPhase (s : State) (n : Fin 12) (k : Fin 4) (ph : Phase) (offm : OffMode) (itgt at_ hw : Nat) : State :=
  let s := s.updBank n fun b => { b with ch := b.ch.map fun c => { c with switchOff := c.switchOff.map fun m => if m = .slow then .regen else m } }
  s.updChan n k fun c =>
    let above := decide (itgt + c.ctx.band < c.i)
    { c with
      conduct := true
      switchOff := none
      run := c.run.map fun r => if r.begun then r else { r with startHw := hw, startAt := at_, begun := true }
      ctx := { c.ctx with
        phase := ph, offm := offm, itgt := itgt, tph0 := some at_, tgt := false, ramp := none, watch := none, offTph := false,
        onInt := !above, intAt := at_, firstOff := if above then some c.ctx.offm else none } }

/-- A decision completes a BST or PK: an ARM timer that ran out meanwhile now takes the context to its address (R228). -/
def armAfter (s : State) (n : Fin 12) (k : Fin 4) : State :=
  match (s.chan n k).ctx.arm with
  | some (t, a) => if t ≤ s.now then s.updCtx n k fun c => { c with arm := none, pc := a } else s
  | none => s

/-- The window of an event closes at its first HOLD phase when WIN_CLOSE = 1 (R198). -/
def holdClosesWin (s : State) (n : Fin 12) (k : Fin 4) : State :=
  match (s.chan n k).run with
  | some r => if s.winClose n r.ev.prof then s.closeWin n r.ev.seq else s
  | none => s

/-- The phase a channel waits to start takes effect once its slot boundary has come (R220, R221): REFUSED = REF_WIN = 0 after
a BST or PK, the window closes at a HOLD, and the context goes on. -/
def ripenChan (s : State) (n : Fin 12) (k : Fin 4) : State :=
  match (s.chan n k).ctx.next with
  | none => s
  | some p =>
    if s.now < p.at_ then s else
    let s := s.startPhase n k p.ph p.offm p.itgt p.at_ p.hw
    let s := s.updCtx n k fun c =>
      { c with next := none, wait := none, pc := (c.pc + 1) % 512,
               refused := c.refused && !p.grant, refWin := c.refWin && !p.grant }
    (if p.grant then s else s.holdClosesWin n k).armAfter n k

/-- Every phase of bank n whose slot boundary has come takes effect. -/
def ripen (s : State) (n : Fin 12) : State := (List.finRange 4).foldl (fun s k => s.ripenChan n k) s

/-- The context of a channel stops: no further instruction, no wait, no ramp, watch or timer (R231). -/
def stopCtx (s : State) (n : Fin 12) (k : Fin 4) : State :=
  (s.updCtx n k fun c => { c with active := false, wait := none, ramp := none, watch := none, arm := none, next := none }).dropGrants n k

/-- A conducting channel begins its switch-off through a mode (R187). -/
def beginOff (s : State) (n : Fin 12) (k : Fin 4) (m : OffMode) : State :=
  let m := s.effOff n k m
  s.updChan n k fun c => { c with switchOff := some m, conduct := true }

/-- The running event ends with outcome `o` through switch-off mode `m`: the context stops; on a conducting channel
the record follows at the end of the switch-off, otherwise at once. -/
def endThrough (s : State) (n : Fin 12) (k : Fin 4) (o : Nat) (m : OffMode) : State :=
  let s := (s.ripenChan n k).stopCtx n k
  if (s.chan n k).conduct then
    (s.updChan n k fun c => { c with run := c.run.map fun r => { r with ending := some (r.ending.getD o) } }).beginOff n k m
  else s.finish n k o

/-- The SAFE net on one channel: into the clamp within 2 µs (R214). The event ends with outcome `o`; where the channel
conducts, its record follows at the end of the switch-off, which DUR counts to. -/
def safeChan (s : State) (n : Fin 12) (k : Fin 4) (o : Nat) : State :=
  let s := (s.ripenChan n k).stopCtx n k
  let s := if (s.chan n k).conduct then
      s.updChan n k fun c => { c with run := c.run.map fun r => { r with ending := some (r.ending.getD o) } }
    else s.finish n k o
  s.updChan n k fun c =>
    { c with conduct := false, switchOff := if c.conduct then some .fast else c.switchOff,
             ctx := { c.ctx with phase := .none } }

/-- Every queued event of a bank (and the events waiting on the OFFTIME path) is dropped with outcome `o`. -/
def dropQueue (s : State) (n : Fin 12) (o : Nat) (forced : Bool) : State :=
  let s := (s.bank n).queue.foldl (fun s ev => s.dropEvent n ev o forced) s
  (List.finRange 4).foldl (fun s k =>
    match (s.chan n k).next with
    | some ev => (s.updChan n k fun c => { c with next := none }).dropEvent n ev o forced
    | none => s) s

/-- The SAFE net on a bank: running events end with ESTATE 2, queued events with ESTATE 3; the windows and requests
go (R214, R93). -/
def safeBank (s : State) (n : Fin 12) (o : Nat) : State :=
  let s := (List.finRange 4).foldl (fun s k => s.safeChan n k o) s
  let s := s.dropQueue n o (forced := o == 5)
  s.updBank n fun b => { b with wins := [], testing := false }

/-- The SAFE net on every bank (R93, R214): outcome SAFE; the boost converters stop. -/
def safeAct (s : State) : State :=
  let s := (List.finRange 12).foldl (fun s n => s.safeBank n 5) s
  { s with arb := { s.arb with rechg := List.replicate 6 0 } }

/-- PAGE_CTRL EN of bank n is cleared: conducting channels switch off through their phase's mode and end DISABLED,
queued events are dropped DISABLED (07, PAGE_CTRL). -/
def disableBank (s : State) (n : Fin 12) : State :=
  let s := (List.finRange 4).foldl (fun s k => s.endThrough n k 21 (s.chan n k).ctx.offm) s
  let s := s.dropQueue n 21 (forced := false)
  s.updBank n fun b => { b with wins := [], testing := false }

/-- The ACT clock enable is cleared: every conducting channel goes into its clamp, events end DISABLED (R215). -/
def stopActClock (s : State) : State :=
  let s := (List.finRange 12).foldl (fun s n => s.safeBank n 21) s
  { s with arb := ⟨[], [], s.arb.inrush, s.arb.inrushHeld, List.replicate 6 0⟩ }

/-- Every event that still runs ends now with the outcome its end has named: the bank loses its supply. -/
def endEvents (s : State) : State :=
  (List.finRange 12).foldl (fun s n => (List.finRange 4).foldl (fun s k =>
    match (s.chan n k).run with
    | some r => s.finish n k (r.ending.getD 21)
    | none => s) s) s

/-! ### Faults and locks (R208–R210) -/

/-- The channel fault `f` sets: log entry 0x0102 under CH_FAULT (ACT code table). -/
def chFault (s : State) (n : Fin 12) (k : Fin 4) (f : Nat) : State :=
  let i := (s.chan n k).i
  let s := s.updChan n k fun c => { c with fault := f }
  s.flagWith (actBase n) 3 ⟨0x0102, 2, k + 4 * n + f * 2 ^ 8 + i * 2 ^ 16, 0xFF⟩

/-- The bank locks with a cause and a located channel (0xF: not located): every context stops, every event ends
FAULT (R231); log entry 0x0103 under BANK_LOCK. -/
def bankLock (s : State) (n : Fin 12) (cause ch : Nat) : State :=
  let s := (List.finRange 4).foldl (fun s k => s.endThrough n k 3 .fast) s
  let s := s.updBank n fun b => { b with lock := true, lockCause := cause, testedSince := false }
  let s := s.wr (actBase n + 0x54) (fieldAt 11 8 ch ||| fieldAt 2 0 cause)
  s.flagWith (actBase n) 4 ⟨0x0103, 2, cause + ch * 2 ^ 8, 0xFF⟩

/-! ### Gates (R21, R194, R407) -/

/-- Gate 3: DEFERRABLE events are held in stage 2 ENFORCE (R216). -/
def gate3 (s : State) (ev : Event) : Bool := !(ev.deferrable && decide (0 < s.enfLevel))

/-- Gate 4: no other channel's window is open or reserved (R198). -/
def gate4 (s : State) (n : Fin 12) (ev : Event) : Bool :=
  s.winUs n ev.prof == 0 || (s.bank n).wins.all fun w =>
    w.ch == ev.ch || (match w.closeAt with | some t => decide (t ≤ s.now) | none => false)

/-- Gate 5 (R407): the start the ledger planned lies at or before the slot at which the event would start. -/
def gate5 (s : State) (n : Fin 12) (ev : Event) (slot : Nat) : Bool :=
  s.clocked .ledger && !s.clockFault
    && (decide (s.pwr.vfaStage < 2) || s.winUs n ev.prof == 0)
    && !s.pwr.vfaOvl && decide (s.fld (actBase n + 0x58) 15 0 ≤ 700)
    && ev.fit && decide (ev.pstart ≤ slot)

/-- Gate 5 holds the event by condition 2, 3 or 5 of R407: this sets ENERGY_LIMIT (R408). While condition 1 fails the
ledger plans nothing and reports nothing (R409). -/
def gate5Limits (s : State) (n : Fin 12) (ev : Event) (slot : Nat) : Bool :=
  s.clocked .ledger && !s.clockFault && !((decide (s.pwr.vfaStage < 2) || s.winUs n ev.prof == 0) && !s.pwr.vfaOvl && ev.fit && decide (ev.pstart ≤ slot))

/-- Replaces a queued event. -/
def putEvent (s : State) (n : Fin 12) (ev : Event) : State :=
  s.updBank n fun b => { b with queue := b.queue.map fun x => if x.seq = ev.seq then ev else x }

/-! ### Starting a profile (R218–R220, R202) -/

/-- The entry state of a context (R218); after a retrigger PHASE HOLD, ITGT and OFFM are kept (R231), and a first off-interval in
progress goes on (R224). -/
def enterCtx (s : State) (n : Fin 12) (k : Fin 4) (ev : Event) (boundary : Nat) (retrig : Bool) : State :=
  let e := s.rd (ucBase n + 0x80 + 4 * ev.prof)
  s.updCtx n k fun c =>
    { active := true, pc := fieldOf e 8 0, v0 := 0, v1 := 0, v2 := 0, v3 := 0, param := ev.param.toNat,
      phase := if retrig then .hold else .none, offm := if retrig then c.offm else .fast,
      itgt := if retrig then c.itgt else 0, band := fieldOf e 23 16, tonMin := 10, toffMin := 10,
      tph0 := if retrig then some boundary else none, tev0 := boundary, refused := false, refWin := false, tgt := false, dip := false,
      arm := none, wait := none, ramp := none, watch := none, onInt := c.onInt, intAt := c.intAt, firstOff := if retrig then c.firstOff else none, next := none, offTph := false }

/-- A BST or PK is refused (R229): REFUSED (and REF_WIN when the window did it), counted and flagged; the context
continues at RADDR; PHASE, ITGT, OFFM and TPH keep their values. -/
def refuse (s : State) (n : Fin 12) (k : Fin 4) (raddr : Nat) (byWin : Bool) : State :=
  let s := s.updCtx n k fun c => { c with refused := true, refWin := byWin, wait := none, pc := raddr }
  ((s.count (ucBase n + 0x190 + 4 * k)).flag (ucBase n) 1).armAfter n k

/-- A grant (R203): the phase starts at its slot boundary, a first phase at the event's, any other at the first boundary after
this decision (R229). -/
def granted (s : State) (r : ArbReq) : State :=
  if h : r.bank < 12 ∧ r.ch < 4 then
    let n : Fin 12 := ⟨r.bank, h.1⟩
    let k : Fin 4 := ⟨r.ch, h.2⟩
    let s := { s with arb := { s.arb with grants := r :: s.arb.grants.filter fun g => !(g.bank == r.bank && g.ch == r.ch) } }
    let hw := if r.first then r.startHw else s.hwNs / 1000 * 1000 + 1000
    let at_ := if r.first then r.startAt else s.atHw hw
    (s.updCtx n k fun c =>
      { c with wait := some .decision,
               next := some ⟨at_, hw, match r.kind with | .boost => .boost | .peak => .peak, offModeOf r.offm, r.target, true⟩ }).ripenChan n k
  else s

/-- The grant request of an event's first phase, for a boundary: its first word is a BST (1) or PK (2) (R203, R220). -/
def firstReq (s : State) (n : Fin 12) (k : Fin 4) (ev : Event) (boundaryHw : Nat) (pre : Option Nat) : Option ArbReq :=
  let boundary := s.atHw boundaryHw
  let w := s.storeWord n (s.fld (ucBase n + 0x80 + 4 * ev.prof) 8 0)
  let op := fieldOf w 31 26
  if op = 1 ∨ op = 2 then
    some ⟨if op = 1 then .boost else .peak, n, k, fieldOf w 23 12, ev.deferrable, boundary, boundary, boundaryHw, true,
      fieldOf w 25 24, fieldOf w 8 0, pre⟩
  else none

/-- Requests and grants of the running event of the channel go; those asked ahead for its successor stay. -/
def dropRun (s : State) (n k : Nat) : State :=
  { s with arb := { s.arb with
      grants := s.arb.grants.filter fun g => !(g.bank == n && g.ch == k && g.pre.isNone)
      pending := s.arb.pending.filter fun g => !(g.bank == n && g.ch == k && g.pre.isNone) } }

/-- The first phase of an event that has entered its channel: an own window that is not open refuses it (R229); a request
made ahead takes effect as decided; else the request goes to the arbiter. -/
def firstPhase (s : State) (n : Fin 12) (k : Fin 4) (ev : Event) (rq : ArbReq) : State :=
  if s.winUs n ev.prof == 0 then (s.dropPre n k).refuse n k rq.raddr true
  else if ev.pre = 2 then (s.dropPre n k).granted rq
  else if ev.pre = 3 then s.refuse n k rq.raddr false
  else
    let s := s.dropPre n k
    { s.updCtx n k fun c => { c with wait := some .decision } with arb := { s.arb with pending := s.arb.pending ++ [rq] } }

/-- The event starts on an idle (or retriggered) channel: the context enters, the window opens at the boundary, the
first phase is prepared (R220): it takes effect at the boundary, an HLD without, a BST or PK with the arbiter's grant. -/
def beginEvent (s : State) (n : Fin 12) (k : Fin 4) (ev : Event) (boundaryHw : Nat) (retrig : Bool) : State :=
  let boundary := s.atHw boundaryHw
  let s := s.updBank n fun b => { b with queue := b.queue.filter fun x => x.seq != ev.seq, testing := false }
  let s := s.openWin n ev (s.winUs n ev.prof) boundary
  let s := s.enterCtx n k ev boundary retrig
  let s := s.updChan n k fun c =>
    { c with run := some ⟨ev, boundaryHw, boundary, false, c.i, none, 0, 0, none⟩, next := none, ids := setId c.ids ev.id 1 0 }
  let b := convOf n
  let s := { s with led := { s.led with conv := s.led.conv.modify b fun x => { x with started := x.started + s.eboost n ev.prof } } }
  let w := s.storeWord n (s.chan n k).ctx.pc
  let op := fieldOf w 31 26
  if op = 3 then
    (s.updCtx n k fun c =>
      { c with wait := some .decision,
               next := some ⟨boundary, boundaryHw, .hold, offModeOf (fieldOf w 25 24), fieldOf w 23 12, false⟩ }).ripenChan n k
  else match s.firstReq n k ev boundaryHw none with
    | some rq => s.firstPhase n k ev rq
    | none => s

/-- An event that passed gates 3–5 takes its channel (R202): at once on an idle channel or a RETRIGGER in HOLD; else
the running event ends PREEMPTED through its switch-off and the new one waits for MIN_OFF. -/
def takeChannel (s : State) (n : Fin 12) (k : Fin 4) (ev : Event) (boundaryHw : Nat) : State :=
  let c := s.chan n k
  if c.ctx.active then
    if s.bit (chAddr n k 0x100) 2 && c.ctx.phase == .hold then
      ((s.dropRun n k).finish n k 2).beginEvent n k ev boundaryHw true
    else
      let ev := { ev with pre := 0 }
      let s := s.updBank n fun b => { b with queue := b.queue.filter fun x => x.seq != ev.seq }
      let s := s.endThrough n k 2 c.ctx.offm
      if (s.chan n k).conduct || (s.chan n k).switchOff.isSome || decide (s.hwNs < (s.chan n k).minOffEnd) then
        s.updChan n k fun c => { c with next := some ev }
      else s.beginEvent n k ev boundaryHw false
  else s.beginEvent n k { ev with pre := 0 } boundaryHw false

end State

end Sys2Proof.Machine
end

