-- ==== Sys2Proof/Machine/Ledger.lean ====
section
/-!
DEFINITION. The energy ledger (R405–R409) and the peak arbiter (R401–R404), spec/15_energy_and_power.md.
Energies are binary64 joules as R405 says; the planning grid of R406 is the 1 µs slot.
-/
namespace Sys2Proof.Machine

def ledBase : Nat := pageBase .ledger 0
def pwrBase : Nat := pageBase .pwr 0

/-- 0.1 mJ units as joules. -/
def mj10 (n : Nat) : F64 := F64.ofRat false n 10000

namespace State

/-- RECHG_BUDGET in use, 0.1 A: cut by ENF_LEVEL under R435, truncated. -/
def rechgBudget (s : State) : Nat :=
  let b := s.fld (ledBase + 0x40) 15 8
  b * (4 - min s.enfLevel 3) / 4

/-- Recharge is refused under R395 or R396. -/
def rechgRefused (s : State) : Bool := decide (1 ≤ s.pwr.vfaStage) || s.pwr.vfaOvl

/-- Converters with BOOST_EN = 1. -/
def nConv (s : State) : Nat := ((List.range 6).filter fun b => s.boostEn b).length

/-- C_b in farads (R405): BOOST_MEASb when VALID, 0.1 µF LSB, else 198.0 µF. -/
def capOf (s : State) (b : Fin 6) : F64 :=
  let a := 0x8064 + 4 * (b : Nat)
  F64.ofRat false (if s.bit a 23 then s.fld a 11 0 else 1980) 10000000

/-- BOOST_V in use, volts. -/
def boostVolts (s : State) (b : Fin 6) : F64 := F64.ofRat false (s.boostV b) 2

/-- V_FLOOR of converter b: BOOST_V × FLOOR / 100. -/
def vFloor (s : State) (b : Fin 6) : F64 :=
  F64.div (F64.mul (s.boostVolts b) (F64.ofNat (s.fld (ledBase + 0x40) 6 0))) (F64.ofNat 100)

/-- ½ × C × (V² − V_FLOOR²). -/
def storedOver (s : State) (b : Fin 6) (v : F64) : F64 :=
  F64.mul (F64.mul (F64.ofRat false 1 2) (s.capOf b)) (F64.sub (F64.mul v v) (F64.mul (s.vFloor b) (s.vFloor b)))

def eMax (s : State) (b : Fin 6) : F64 := s.storedOver b (s.boostVolts b)

/-- E_AVAIL: from VRES reported, 0 if negative. -/
def eAvail (s : State) (b : Fin 6) : F64 := F64.max F64.zero (s.storedOver b (F64.ofRat false (s.vres b) 10))

/-- I_R in amperes: min(RECHG_I, RECHG_BUDGET / N_EN), 0 while recharge is refused. -/
def iR (s : State) (b : Fin 6) : F64 :=
  if s.rechgRefused then F64.zero else
  F64.min (F64.ofRat false (s.fld (actBase (2 * b) + 0x44) 13 8) 10)
    (F64.div (F64.ofRat false s.rechgBudget 10) (F64.ofNat s.nConv))

/-- P_R = 0.80 × VFA × I_R, watts; VFA from the supply span, 10 mV LSB. -/
def pR (s : State) (b : Fin 6) : F64 :=
  F64.mul (F64.mul (F64.dec 80 2) (F64.ofRat false (s.fld (pwrBase + 0x68) 15 0) 100)) (s.iR b)

/-- The banks of a converter. -/
def pairBanks (b : Fin 6) : List (Fin 12) := [⟨2 * b, by omega⟩, ⟨2 * b + 1, by omega⟩]

/-- EBOOST of the events of the pair that have taken their channel up to 1 µs ahead of the boundary at which they start (R203). -/
def startingUnits (s : State) (b : Fin 6) : Nat :=
  ((pairBanks b).flatMap fun n => (List.finRange 4).filterMap fun k =>
    match (s.chan n k).run with
    | some r => if !r.begun && decide (s.now < r.startAt) then some (s.eboost n r.ev.prof) else none
    | none => none).sum

/-- E_RSV: EBOOST of the events of the pair that passed gate 5 and have not started: on the OFFTIME path, asking for their grant ahead
of a takeover, or ahead of their boundary. -/
def eRsvUnits (s : State) (b : Fin 6) : Nat :=
  ((pairBanks b).flatMap fun n =>
    ((List.finRange 4).filterMap fun k => (s.chan n k).next.map fun ev => s.eboost n ev.prof) ++
      ((s.bank n).queue.filter fun ev => ev.pre != 0).map fun ev => s.eboost n ev.prof).sum + s.startingUnits b

/-- Queued events of a pair that have not passed gate 5, with their bank. -/
def pairEvents (s : State) (b : Fin 6) : List (Fin 12 × Event) :=
  (pairBanks b).flatMap fun n => ((s.bank n).queue.filter fun ev => ev.pre == 0).map fun ev => (n, ev)

/-- The due instant of an event (R193), Heartwood ns. -/
def dueOf (s : State) (n : Fin 12) (ev : Event) : Nat :=
  if h : ev.ch < 4 then max ev.start (s.chan n ⟨ev.ch, h⟩).minOffEnd else ev.start

end State

/-- Insertion by a strict order: equal elements keep their order. -/
def insertBy {α : Type} (lt : α → α → Bool) (x : α) : List α → List α
  | [] => [x]
  | y :: ys => if lt x y then x :: y :: ys else y :: insertBy lt x ys

/-- A list in order; equal elements keep the order they stand in. -/
def sortBy {α : Type} (lt : α → α → Bool) (l : List α) : List α := l.foldr (insertBy fun a b => !lt b a) []

/-- A plan entry: slot number (µs of Heartwood) and energy. -/
structure PlanItem where
  slot : Nat
  e : F64
  deriving DecidableEq, Repr

/-- The energy at a slot: E0 at slot0, rising by `p` in each slot, limited to `top`, less each planned start at or
before the slot (R406). Planned items are in rising slot order. -/
def energyAt (e0 p top : F64) (slot0 slot : Nat) : List PlanItem → F64
  | [] => F64.min top (F64.add e0 (F64.mul p (F64.ofNat (slot - slot0))))
  | it :: r =>
    if it.slot ≤ slot then
      let e := F64.min top (F64.add e0 (F64.mul p (F64.ofNat (it.slot - slot0))))
      energyAt (F64.sub e it.e) p top (max slot0 it.slot) slot r
    else F64.min top (F64.add e0 (F64.mul p (F64.ofNat (slot - slot0))))

/-- With the plan, every ESSENTIAL item whose start is later than `slot` finds its energy, what those before it in the order take at
the same slot deducted (R406, pass 2). `prev`: the items before, of the whole list. -/
def laterOk (e0 p top : F64) (slot0 : Nat) (plan : List PlanItem) (slot : Nat) : List PlanItem → List PlanItem → Bool
  | _, [] => true
  | prev, it :: r =>
    (decide (it.slot ≤ slot) ||
      F64.le it.e (energyAt e0 p top slot0 it.slot
        ((plan.filter fun x => decide (x.slot < it.slot)) ++ prev.filter fun x => decide (x.slot = it.slot)))) &&
      laterOk e0 p top slot0 plan slot (prev ++ [it]) r

/-- The first slot at or after `lo` at which the energy reaches `need`: found by bisection over [lo, hi], since E rises
between planned starts and every planned start lies at or before `lo`. -/
def bisectSlot (ok : Nat → Bool) : Nat → Nat → Nat → Nat
  | 0, _, hi => hi
  | k + 1, lo, hi => if hi ≤ lo then hi else
      let m := (lo + hi) / 2
      if ok m then bisectSlot ok k lo m else bisectSlot ok k (m + 1) hi

/-- A slot beyond any latest permitted start: 2^40 µs later. -/
def neverSlot (lo : Nat) : Nat := lo + 2 ^ 40

/-- The first slot in [lo, hi) at which `ok` holds, which once true stays true there; none. -/
def firstIn (ok : Nat → Bool) (lo hi : Nat) : Option Nat :=
  let t := bisectSlot ok 41 lo hi
  if t < hi && ok t then some t else none

/-- The first slot from `lo` on at which `ok` and `later` hold: between two planned starts the energy rises, so that `ok` stays true
once it is, and what `later` asks grows no easier; so each span between planned starts has one candidate. -/
def firstFit (ok later : Nat → Bool) : Nat → List Nat → Option Nat
  | lo, [] => (firstIn ok lo (neverSlot lo)).filter later
  | lo, b :: r =>
    if b ≤ lo then firstFit ok later lo r
    else match (firstIn ok lo b).filter later with
      | some t => some t
      | none => firstFit ok later b r

namespace State

/-- Ordering of R406 (and of R193 with equal due instants): class, due, latest, channel number. -/
def planLt (s : State) (a b : Fin 12 × Event) : Bool :=
  let ka := (b2n a.2.deferrable, s.dueOf a.1 a.2, a.2.latest, 4 * (a.1 : Nat) + a.2.ch)
  let kb := (b2n b.2.deferrable, s.dueOf b.1 b.2, b.2.latest, 4 * (b.1 : Nat) + b.2.ch)
  decide (ka.1 < kb.1 ∨ (ka.1 = kb.1 ∧ (ka.2.1 < kb.2.1 ∨ (ka.2.1 = kb.2.1 ∧
    (ka.2.2.1 < kb.2.2.1 ∨ (ka.2.2.1 = kb.2.2.1 ∧ ka.2.2.2 < kb.2.2.2))))))

/-- The start slot of an event with EBOOST ≠ 0 given the plan so far (R406); none where the energy never suffices. -/
def planSlot (s : State) (n : Fin 12) (ev : Event) (e0 p top : F64) (slot0 : Nat) (plan ess : List PlanItem)
    (prevEss : Nat) : Option Nat :=
  let need := mj10 (s.eboost n ev.prof)
  let due := ceilDiv (s.dueOf n ev) 1000
  let ok := fun t => F64.le need (energyAt e0 p top slot0 t plan)
  if ev.deferrable then
    let with_ := fun t => insertBy (fun a b => decide (a.slot < b.slot)) ⟨t, need⟩ plan
    firstFit ok (fun t => laterOk e0 p top slot0 (with_ t) t [] ess) (max due slot0) (plan.map (·.slot))
  else
    let lo := max (max due slot0) prevEss
    firstIn ok lo (neverSlot lo)

/-- An event with its P_START in ns, none where it has none: FIT, and the instant of the plan that first gave this P_START. -/
def withPlan (s : State) (ev : Event) (t : Option Nat) : Event :=
  let p := t.getD (neverSlot (s.hwNs / 1000) * 1000)
  { ev with pstart := p, fit := t.isSome && decide (p ≤ ev.latest), planned := t.isSome,
            planAt := if ev.planned && ev.pstart == p then ev.planAt else s.hwNs }

/-- Plans a pair: pass 1 over the ESSENTIAL events, pass 2 over the DEFERRABLE ones (R406). The list is in planning
order, so ESSENTIAL events come first. An event with EBOOST = 0 is planned at its due instant and draws nothing; it does not bound the
ESSENTIAL events after it, whose due instants are no earlier. -/
def planGo (s : State) (e0 p top : F64) (slot0 : Nat) :
    List (Fin 12 × Event) → List PlanItem → List PlanItem → Nat → List (Fin 12 × Event)
  | [], _, _, _ => []
  | (n, ev) :: r, plan, ess, prev =>
    if s.eboost n ev.prof = 0 then (n, s.withPlan ev (some (s.dueOf n ev))) :: s.planGo e0 p top slot0 r plan ess prev
    else
      match s.planSlot n ev e0 p top slot0 plan ess prev with
      | none => (n, s.withPlan ev none) :: s.planGo e0 p top slot0 r plan ess prev
      | some t =>
        let it : PlanItem := ⟨t, mj10 (s.eboost n ev.prof)⟩
        let plan' := insertBy (fun a b => decide (a.slot < b.slot)) it plan
        (n, s.withPlan ev (some (t * 1000))) ::
          s.planGo e0 p top slot0 r plan' (if ev.deferrable then ess else ess ++ [it]) (if ev.deferrable then prev else t)

/-- E_ACC at an update (R405): measured while no window of the pair is open, else the previous one, with what has been recharged in the
Heartwood time since and less what has started since. -/
def eAccNew (s : State) (b : Fin 6) : F64 :=
  if (pairBanks b).all fun n => !s.winIsOpen n then s.eAvail b
  else match s.led.conv[(b : Nat)]? with
    | none => s.eAvail b
    | some c =>
      let dt := F64.ofRat false (s.hwNs - c.lastUpdate) 1000000000
      F64.sub (F64.min (s.eMax b) (F64.add c.eAcc (F64.mul (s.pR b) dt))) (mj10 (c.started - s.startingUnits b))

/-- One update of converter b: its energies, its plan, its span (R405, R406). -/
def ledgerConv (s : State) (b : Fin 6) : State :=
  let acc := s.eAccNew b
  let rsv := mj10 (s.eRsvUnits b)
  let evs := sortBy s.planLt (s.pairEvents b)
  let slot0 := ceilDiv s.hwNs 1000
  let planned := s.planGo (F64.sub acc rsv) (F64.div (s.pR b) (F64.ofNat 1000000)) (s.eMax b) slot0 evs [] [] 0
  let s := planned.foldl (fun s x => s.putEvent x.1 x.2) s
  let s := { s with led := { s.led with conv := s.led.conv.set b ⟨acc, rsv, s.hwNs, s.startingUnits b⟩ } }
  let u := fun (x : F64) (k : Nat) => F64.toNatSat (F64.mul x (F64.ofNat k)) 65535
  let a := ledBase + 0x80 + 0x10 * (b : Nat)
  let held := (evs.filter fun x => x.2.held == 5).length
  s.post a (fieldAt 15 8 (satU 8 held) ||| fieldAt 7 0 (satU 8 (planned.filter fun x => x.2.planned).length))
    [fieldAt 31 16 (u rsv 10000) ||| fieldAt 15 0 (u acc 10000),
     fieldAt 31 16 (u (s.eMax b) 10000) ||| fieldAt 15 0 (u (s.vFloor b) 10),
     fieldAt 31 16 (u (s.pR b) 10) ||| fieldAt 15 0 (u (s.capOf b) 10000000)]

/-- A ledger update (R405): it needs its clock enable, and no clock fault in progress (R407, R409). -/
def ledgerUpdate (s : State) : State :=
  if s.clocked .ledger && !s.clockFault then (List.finRange 6).foldl (fun s b => s.ledgerConv b) s else s

/-- The first-ever plan of an event comes with the update at its queuing (R405, R204). -/
def ledgerQueued (s : State) : State := s.ledgerUpdate

/-! ### The queue (R192) -/

/-- An event enters the queue of its bank and its EVENT_ID is held (R65, R192); the ledger plans (R204). -/
def queueEvent (s : State) (n : Fin 12) (k : Fin 4) (prof id start latest : Nat) (param : Word) (fromLoop : Bool) : State :=
  let s := s.updBank n fun b =>
    { b with seq := b.seq + 1,
             queue := b.queue ++ [⟨k, prof, id, start, param, latest, s.bit (chAddr n k 0x100) 0, fromLoop, b.seq, 0, 0, false,
                                   0, false, false, 0, false, 0, s.hwNs⟩] }
  (s.updChan n k fun c => { c with ids := pushId c.ids id }).ledgerQueued

/-! ### The peak arbiter (R402) -/

end State

/-- A request in the order of R29 and R402: class rank, deadline (none last), requester rank. -/
inductive ArbItem where
  | phase (r : ArbReq)
  | recharge (b : Nat) (deadline : Option Nat)
  | inrush (r : Inrush)
  deriving DecidableEq, Repr

def ArbItem.cls : ArbItem → Nat
  | .phase r => if r.deferrable then 2 else 0
  | .recharge .. => 1
  | .inrush _ => 0

def ArbItem.deadline : ArbItem → Option Nat
  | .phase r => some r.deadline
  | .recharge _ d => d
  | .inrush _ => none

def ArbItem.rank : ArbItem → Nat
  | .phase r => r.bank * 4 + r.ch
  | .recharge b _ => 48 + b
  | .inrush r => 54 + r.fan

def ArbItem.lt (a b : ArbItem) : Bool :=
  let d := fun (x : ArbItem) => match x.deadline with | some t => (0, t) | none => (1, 0)
  decide (a.cls < b.cls ∨ (a.cls = b.cls ∧ ((d a).1 < (d b).1 ∨ ((d a).1 = (d b).1 ∧
    ((d a).2 < (d b).2 ∨ ((d a).2 = (d b).2 ∧ a.rank < b.rank))))))

/-- The capacities a pass of the arbiter runs down, and the targets of the PEAK grants made in it, which a later request of any
class sees too (R402). Currents in 10 mA. -/
structure Caps where
  vfa : Int
  vff : Int
  rb : Nat
  peaks : Nat
  deriving DecidableEq, Repr

namespace State

/-- The decision on a request made ahead of a takeover stays with its event until the boundary (R203). -/
def preDecided (s : State) (r : ArbReq) (seq : Nat) (ok : Bool) : State :=
  let s := if ok then { s with arb := { s.arb with grants := r :: s.arb.grants } } else s.count (ledBase + 0x14C)
  if h : r.bank < 12 then
    s.updBank ⟨r.bank, h⟩ fun b => { b with queue := b.queue.map fun x => if x.seq = seq then { x with pre := if ok then 2 else 3 } else x }
  else s

/-- A refusal by the arbiter is also counted in ARB_REFUSE_CNT (R402). -/
def refusedByArb (s : State) (r : ArbReq) : State :=
  if h : r.bank < 12 ∧ r.ch < 4 then
    (s.count (ledBase + 0x14C)).refuse ⟨r.bank, h.1⟩ ⟨r.ch, h.2⟩ r.raddr false
  else s

/-- Targets of the PEAK grants held, 10 mA. -/
def peakHeld (s : State) : Nat := ((s.arb.grants.filter fun g => g.kind == .peak).map (·.target)).sum
/-- Inrush grants held, 10 mA. -/
def inrushHeld (s : State) : Nat := (s.arb.inrushHeld.map fun r => r.amps * 10).sum

/-- A decided request of a bank: its phase starts or is refused; one made ahead waits for its boundary. -/
def phaseDecided (s : State) (r : ArbReq) (ok : Bool) : State :=
  match r.pre with
  | some seq => s.preDecided r seq ok
  | none => if ok then s.granted r else s.refusedByArb r

/-- One decision of the pass (R402). -/
def arbOne (sc : State × Caps) (it : ArbItem) : State × Caps :=
  let (s, c) := sc
  match it with
  | .phase r =>
    match r.kind with
    | .boost =>
      let b : Fin 6 := ⟨r.bank / 2 % 6, Nat.mod_lt _ (by decide)⟩
      let ok := decide (s.boostV b * s.fld (ledBase + 0x40) 6 0 < s.vres b * 20) && decide (s.pwr.vfaStage < 2)
      (s.phaseDecided r ok, c)
    | .peak =>
      let ok := decide ((r.target : Int) ≤ c.vfa - s.peakHeld) && decide (s.pwr.vfaStage < 2)
      (s.phaseDecided r ok, if ok then { c with peaks := c.peaks + r.target } else c)
  | .recharge b _ =>
    if s.rechgRefused then (s, c) else
    let g := min (s.fld (actBase (2 * b) + 0x44) 13 8) (min ((c.vfa - c.peaks) / 10).toNat c.rb)
    if g < 5 then (s, c)
    else ({ s with arb := { s.arb with rechg := s.arb.rechg.set b g } }, { c with vfa := c.vfa - g * 10, rb := c.rb - g })
  | .inrush r =>
    let ok := !s.pwr.vffUv && decide ((r.amps * 10 : Int) ≤ c.vff - s.inrushHeld)
    if ok then
      ({ s with arb := { s.arb with inrush := s.arb.inrush.filter fun x => x.fan != r.fan,
                                     inrushHeld := { r with since := s.now } :: s.arb.inrushHeld } }, c)
    else (s, c)

/-- The planned start of a converter's next planned event: the deadline of its RECHARGE request; none while the ledger does not run
(R402, R409). -/
def rechgDeadline (s : State) (b : Fin 6) : Option Nat :=
  if !s.clocked .ledger || s.clockFault then none else
  (((s.pairEvents b).filter fun x => x.2.planned).map fun x => x.2.pstart).foldl (fun m t => match m with | none => some t | some u => some (min u t)) none

/-- Converters that ask for recharge in this slot: enabled, reservoir below BOOST_V, not stopped by the SAFE net. -/
def rechgAsks (s : State) : List ArbItem :=
  if s.sup.safeNet then [] else
  (List.finRange 6).filterMap fun (b : Fin 6) =>
    if s.boostEn b && decide (s.vres b < s.boostV b * 5) then some (.recharge b (s.rechgDeadline b)) else none

/-- The start and the end of a recharge refusal under R395 or R396: RCUT, ENERGY_LIMIT (R408). -/
def judgeRcut (s : State) (asks : Bool) : State :=
  let ref := s.rechgRefused && asks
  if ref && !s.led.rcut then
    ({ s with led := { s.led with rcut := true, limiting := true, energyLimit := true } }).flag ledBase 2
  else if !ref && s.led.rcut then { s with led := { s.led with rcut := false } }
  else s

/-- The arbiter is clocked: the ACT domain is powered, its clock enable is 1 and no clock fault is in progress (R404). -/
def arbRuns (s : State) : Bool := s.powered 8 && s.clocked .act && !s.clockFault

/-- One slot of the arbiter: every pending request decided in one pass (R402). `iVfa`, `iVff`: mean input currents of
the previous slot, 10 mA. -/
def arbSlot (s : State) (iVfa iVff : Nat) : State :=
  let asks := s.rechgAsks
  let items := sortBy ArbItem.lt ((s.arb.pending.map .phase) ++ asks ++ (s.arb.inrush.map .inrush))
  let iRech := s.arb.rechg.sum * 10
  let caps : Caps := ⟨(s.fld (pwrBase + 0x44) 5 0 * 100 : Nat) - (iVfa : Int) + iRech, (s.fld (pwrBase + 0x48) 4 0 * 100 : Nat) - (iVff : Int),
    s.rechgBudget, 0⟩
  let s := s.judgeRcut (!asks.isEmpty)
  let s := { s with arb := { s.arb with pending := [], rechg := List.replicate 6 0 } }
  (items.foldl arbOne (s, caps)).1

end State

end Sys2Proof.Machine
end

