-- ==== Sys2Proof/Machine/Ucode.lean ====
section
/-!
DEFINITION. The microcode of the bank sequencers (spec/08_actuator_microcode.md): the instruction words of R221, what
each instruction does to its context and channel, waits, ramps, dip watches, the ARM timer, and validation (R235).
A microcode command means: context k of bank n issues the instruction at its PC; nothing happens unless the context is
active, is not waiting, and the word there has that opcode.
-/
namespace Sys2Proof.Machine

/-- The opcodes of R221. -/
inductive UOp where
  | bst | pk | hld | off | endp | band | ramp | dipw | wt | wtr | wi | wp | wd | arm | jmp | bc | bi | btm | bcmp
  | djnz | ldi | ldp | lds | alu | mark | nop
  deriving DecidableEq, Repr

/-- The opcode in [31:26]; every other value is undefined. -/
def uopOf (w : Word) : Option UOp :=
  match fieldOf w 31 26 with
  | 0x01 => some .bst | 0x02 => some .pk | 0x03 => some .hld | 0x04 => some .off | 0x05 => some .endp
  | 0x08 => some .band | 0x09 => some .ramp | 0x0A => some .dipw
  | 0x10 => some .wt | 0x11 => some .wtr | 0x12 => some .wi | 0x13 => some .wp | 0x14 => some .wd
  | 0x18 => some .arm | 0x20 => some .jmp | 0x21 => some .bc | 0x22 => some .bi | 0x23 => some .btm
  | 0x24 => some .bcmp | 0x25 => some .djnz | 0x30 => some .ldi | 0x31 => some .ldp | 0x32 => some .lds
  | 0x33 => some .alu | 0x38 => some .mark | 0x3E => some .nop
  | _ => none

/-- The bits an instruction's fields may use (R221: fields not listed are reserved). -/
def uopMask : UOp → Word
  | .bst | .pk => 0x03FFF1FF#32
  | .hld => 0x03FFF000#32
  | .off | .endp => 0x03000000#32
  | .band => 0x00FFFFFF#32
  | .ramp => 0x00FFFFFF#32
  | .dipw => 0x00001FFF#32
  | .wt => 0x03FFFFFF#32
  | .wtr | .wp => 0x00000003#32
  | .wi => 0x02FFF000#32
  | .wd | .nop => 0#32
  | .arm => 0x03FFFFFF#32
  | .jmp => 0x000001FF#32
  | .bc => 0x03C001FF#32
  | .bi => 0x02FFF1FF#32
  | .btm => 0x030031FF#32
  | .bcmp => 0x03E001FF#32
  | .djnz => 0x030001FF#32
  | .ldi => 0x03FFFFFF#32
  | .ldp => 0x03000000#32
  | .lds => 0x0300000F#32
  | .alu => 0x03FFFFFF#32
  | .mark => 0x000000FF#32

/-- The limits R221 gives to the fields of an instruction (ERR_CODE 3). -/
def uopLimits (op : UOp) (w : Word) : Bool :=
  let f := fieldOf w
  match op with
  | .bst | .pk => decide (f 25 24 ≤ 2) && decide (1 ≤ f 23 12) && decide (f 23 12 ≤ 2000)
  | .hld => decide (f 25 24 ≤ 2) && decide (f 23 12 ≤ 600)
  | .band => decide (10 ≤ f 23 16) && decide (10 ≤ f 15 8)
  | .ramp => decide (f 23 12 ≤ 2000)
  | .dipw => f 12 12 == 0 || decide (1 ≤ f 11 0)
  | .wt => decide (1 ≤ f 25 0)
  | .bc => decide (f 25 22 ≤ 5)
  | .lds => decide (f 3 0 ≤ 4)
  | .alu => decide (f 21 18 ≤ 11) && (decide (f 21 18 < 10) || decide (f 17 0 ≤ 31))
  | _ => true

/-! ### Validation (R235) -/

/-- The successors of a word in the store (R235); the word at 511 has none by fall-through. -/
def uSucc (w : Word) (a : Nat) : List Nat :=
  let nxt := if a < 511 then [a + 1] else []
  let f := fieldOf w
  match uopOf w with
  | none => []
  | some .jmp => [f 8 0]
  | some .endp => []
  | some .bst | some .pk | some .bc | some .bi | some .btm | some .bcmp | some .djnz | some .arm => f 8 0 :: nxt
  | some _ => nxt

/-- The words reachable from a work list; `seen` holds the words already judged; 512 rounds visit every word. -/
def uReach (get : Nat → Word) : Nat → List Nat → List Nat → List Nat
  | 0, seen, _ => seen
  | n + 1, seen, todo =>
    let new := todo.eraseDups.filter fun a => !seen.contains a
    if new.isEmpty then seen else uReach get n (seen ++ new) (new.flatMap fun a => uSucc (get a) a)

/-- The lowest ERR_CODE of a word, 0 for none. -/
def uErr (w : Word) (a : Nat) (isEntry : Bool) : Nat :=
  match uopOf w with
  | none => 1
  | some op =>
    if (w &&& 0x03FFFFFF#32 &&& ~~~ uopMask op) ≠ 0#32 then 2
    else if !uopLimits op w then 3
    else if a = 511 ∧ op ≠ .jmp ∧ op ≠ .endp then 4
    else if isEntry && !(op == .bst || op == .pk || op == .hld) then 5
    else 0

/-- The judgement of VALIDATE over a store and an entry table: none when every check passes, else the first failing
word in address order and its lowest code. -/
def uJudge (get : Nat → Word) (ents : List Nat) : Option (Nat × Nat) :=
  let reach := uReach get 513 [] ents
  (List.range 512).findSome? fun a =>
    if reach.contains a then (let e := uErr (get a) a (ents.contains a); if e = 0 then none else some (a, e)) else none

namespace State

/-- The enabled entries' addresses of bank n. -/
def entryAddrs (s : State) (n : Nat) : List Nat :=
  (List.range 16).filterMap fun p => if s.entryEn n p then some (s.fld (ucBase n + 0x80 + 4 * p) 8 0) else none

def ucJudge (s : State) (n : Nat) : Option (Nat × Nat) := uJudge (s.storeWord n) (s.entryAddrs n)

/-- UC_CRC: CRC-32 over store words 0–511 and then ENTRY0–ENTRY15, little-endian. -/
def ucCrc (s : State) (n : Nat) : Word :=
  crc32 (((List.range 512).flatMap fun w => wordBytes (s.storeWord n w)) ++
    ((List.range 16).flatMap fun p => wordBytes (s.rd (ucBase n + 0x80 + 4 * p))))

/-- VALID changes (flag VALID_CHANGE); UC_CRC reads 0 while VALID = 0. -/
def setUcValid (s : State) (n : Nat) (v : Bool) : State :=
  let was := s.ucValid n
  let s := s.setFld (ucBase n + 0x44) 0 0 (b2n v)
  let s := s.wr (ucBase n + 0x48) (if v then s.ucCrc n else 0)
  if was != v then s.flag (ucBase n) 4 else s

/-- A failed VALIDATE: ERR_ADDR, ERR_CODE and VAL_FAIL. -/
def ucFail (s : State) (n : Nat) (e : Nat × Nat) : State :=
  ((s.setFld (ucBase n + 0x44) 24 16 e.1).setFld (ucBase n + 0x44) 11 8 e.2).flag (ucBase n) 5

/-- A VALIDATE that passes. -/
def ucPass (s : State) (n : Nat) : State :=
  (((s.setFld (ucBase n + 0x44) 24 16 0).setFld (ucBase n + 0x44) 11 8 0).setUcValid n true)

end State

/-! ### The context -/

def Ctx.v (c : Ctx) (i : Nat) : Nat := match i % 4 with | 0 => c.v0 | 1 => c.v1 | 2 => c.v2 | _ => c.v3
def Ctx.setV (c : Ctx) (i x : Nat) : Ctx :=
  match i % 4 with
  | 0 => { c with v0 := x } | 1 => { c with v1 := x } | 2 => { c with v2 := x } | _ => { c with v3 := x }

/-- TPH at an instant: 10 ns since the phase began, saturating; 0 before the first phase. -/
def Ctx.tph (c : Ctx) (now : Nat) : Nat := match c.tph0 with | some t => satU 32 ((now - t) / 10) | none => 0
/-- TEV at an instant. -/
def Ctx.tev (c : Ctx) (now : Nat) : Nat := satU 32 ((now - c.tev0) / 10)
/-- The next word. -/
def Ctx.step (c : Ctx) : Ctx := { c with pc := (c.pc + 1) % 512 }
/-- A branch. -/
def Ctx.goto (c : Ctx) (taken : Bool) (a : Nat) : Ctx := if taken then { c with pc := a } else c.step

namespace State

/-- The word context k of bank n issues, if it is active, not waiting and the word has the opcode. -/
def issue (s : State) (n : Fin 12) (k : Fin 4) (op : UOp) : Option Word :=
  let c := (s.chan n k).ctx
  let w := s.storeWord n c.pc
  if c.active && c.wait.isNone && uopOf w == some op then some w else none

/-- An instruction that changes its context only. -/
def issueCtx (s : State) (n : Fin 12) (k : Fin 4) (op : UOp) (f : Word → Chan → Ctx → Ctx) : State :=
  match s.issue n k op with
  | some w => s.updChan n k fun c => { c with ctx := f w c c.ctx }
  | none => s

/-- BST and PK (R221, R203, R229): inside the event's own open window a grant is requested, for the first slot boundary
after the decision; outside it the phase is refused by the window. A running watch and a ramp end (R225, R227). -/
def issueGrant (s : State) (n : Fin 12) (k : Fin 4) (op : UOp) (kind : ReqKind) : State :=
  match s.issue n k op with
  | none => s
  | some w =>
    let s := s.updCtx n k fun c => { c with watch := none, ramp := none }
    if s.winOpenFor n k then
      let defer := match (s.chan n k).run with | some r => r.ev.deferrable | none => false
      let hw := slotCeil (s.hwNs + 200)
      let st := s.atHw hw
      let rq : ArbReq := ⟨kind, n, k, fieldOf w 23 12, defer, st, st, hw, false, fieldOf w 25 24, fieldOf w 8 0, none⟩
      { s.updCtx n k fun c => { c with wait := some .decision } with arb := { s.arb with pending := s.arb.pending ++ [rq] } }
    else s.refuse n k (fieldOf w 8 0) true

/-- HLD: PHASE = HOLD from VFA with no grant; the window closes if WIN_CLOSE = 1. -/
def issueHold (s : State) (n : Fin 12) (k : Fin 4) : State :=
  match s.issue n k .hld with
  | none => s
  | some w =>
    let s := s.dropGrants n k
    let s := s.startPhase n k .hold (offModeOf (fieldOf w 25 24)) (fieldOf w 23 12) s.now s.hwNs
    (s.updCtx n k Ctx.step).holdClosesWin n k

/-- The mode an OFF or END names: 3 is the present phase's. -/
def namedOff (c : Ctx) (w : Word) : OffMode := if fieldOf w 25 24 = 3 then c.offm else offModeOf (fieldOf w 25 24)

/-- OFF: a conducting channel switches off and the context waits for I < 50 mA; else PHASE = OFF at once. -/
def issueOff (s : State) (n : Fin 12) (k : Fin 4) : State :=
  match s.issue n k .off with
  | none => s
  | some w =>
    let s := s.dropGrants n k
    let m := namedOff (s.chan n k).ctx w
    if (s.chan n k).conduct then
      (s.updCtx n k fun c => { c with phase := .off, offm := m, ramp := none, watch := none, offTph := true, wait := some .offEnd }).beginOff n k m
    else s.updCtx n k fun c => { c.step with phase := .off, offm := m, ramp := none, watch := none, tph0 := some s.now }

/-- END: the profile ends; the event ends DONE at the end of the switch-off, at once on a channel that does not conduct. -/
def issueEnd (s : State) (n : Fin 12) (k : Fin 4) : State :=
  match s.issue n k .endp with
  | none => s
  | some w => s.endThrough n k 1 (namedOff (s.chan n k).ctx w)

/-- The register k of CTX_MARK, the flag and the entry of a MARK (R233). -/
def issueMark (s : State) (n : Fin 12) (k : Fin 4) : State :=
  match s.issue n k .mark with
  | none => s
  | some w =>
    let a := ucBase n + 0x180 + 4 * k
    let pc := (s.chan n k).ctx.pc
    let code := fieldOf w 7 0
    let id := match (s.chan n k).run with | some r => r.ev.id | none => 0
    let s := s.wr a (s.stamped a (fieldAt 16 8 pc ||| fieldAt 7 0 code))
    let s := s.flagWith (ucBase n) 0 ⟨0x0111, 0, id % 2 ^ 32 + (4 * n + k) * 2 ^ 32 + code * 2 ^ 40 + pc * 2 ^ 48, 0xFF⟩
    s.updCtx n k Ctx.step

end State

/-- The value of an ALU function (R221, R222): saturating, never wrapping. -/
def aluFn (fn d v imm : Nat) : Nat :=
  satU 32 (match fn with
    | 0 => v | 1 => d + v | 2 => d - v | 3 => min d v | 4 => max d v | 5 => d + imm | 6 => d - imm
    | 7 => min d imm | 8 => max d imm | 9 => d * imm | 10 => d / 2 ^ imm | _ => d * 2 ^ imm)

/-- The condition of BC. -/
def bcCond (c : Ctx) (cond : Nat) : Bool :=
  match cond with
  | 0 => c.refused | 1 => c.refWin | 2 => c.dip | 3 => !c.dip | 4 => c.tgt | _ => !c.tgt

/-- The target of a ramp at an instant (R225): truncated toward the old value; `none` in the second place when it ended. -/
def rampAt (r : Ramp) (now : Nat) : Nat × Bool :=
  let tau := now - r.at_
  let total := r.tr * 1000
  if total ≤ tau then (r.new, true)
  else if r.old ≤ r.new then (r.old + (r.new - r.old) * tau / total, false)
  else (r.old - (r.old - r.new) * tau / total, false)

/-- One sample of a running dip watch (R227): the watch after it (none: ended) and the dip's TMIN if it was found. -/
def watchSample (w : DipWatch) (i itgt now : Nat) : Option DipWatch × Option Nat :=
  if itgt ≤ i then (none, none)
  else if !w.falling then
    if w.imax < i then (some { w with imax := i }, none)
    else if i + w.depth ≤ w.imax then (some { w with falling := true, imin := i, tmin := now }, none)
    else (some w, none)
  else if i < w.imin then (some { w with imin := i, tmin := now }, none)
  else if w.imin + w.depth ≤ i then (none, some w.tmin)
  else (some w, none)

/-- The wait of an instruction is over (R219). -/
def waitOver (c : Ctx) (conduct : Bool) (i now : Nat) : Wait → Bool
  | .decision => false
  | .until t => decide (t ≤ now)
  | .current le thr => if le then decide (i ≤ thr) else decide (thr ≤ i)
  | .tph x => decide (x ≤ c.tph now)
  | .dip => c.dip
  | .offEnd => !conduct

end Sys2Proof.Machine
end

