-- ==== Sys2Proof/Machine/ActRows.lean ====
section
/-!
DEFINITION. The commands of the actuator banks (spec/07_actuator_banks.md): events falling due, held, dropped and
started, switch-off and MIN_OFF, the off-state test, the monitors, the current samples and the reservoir measurement.
-/
namespace Sys2Proof.Machine

namespace State

/-- ENERGY_LIMIT follows its causes (R408): it sets while an event is held by condition 2, 3 or 5 of gate 5, or while
recharge is refused under R395 or R396, and the instant at which the last of them ended is kept. Where no arbiter runs, no
recharge is refused. -/
def settleLimit (s : State) : State :=
  let s := if s.led.rcut && !(s.rechgRefused && s.arbRuns) then { s with led := { s.led with rcut := false } } else s
  let held := (List.finRange 12).any fun n => (s.bank n).queue.any fun ev => ev.held == 5 && s.gate5Limits n ev s.hwNs
  if held || s.led.rcut then { s with led := { s.led with limiting := true, energyLimit := true } }
  else if s.led.limiting then { s with led := { s.led with limiting := false, limitEnd := s.now } }
  else s

/-- What follows every judgement of events: ENERGY_LIMIT, then RUN or CONSTRAINED. -/
def settle (s : State) : State := s.settleLimit.settleMode

/-- Bank n runs events: domain powered, clock enable set, no clock fault, EN = 1 (R215). -/
def actLive (s : State) (n : Fin 12) : Bool := s.powered 8 && s.clocked .act && !s.clockFault && s.en (actBase n)

/-- The channel number of an event as an index. -/
def evCh (ev : Event) : Fin 4 := ⟨ev.ch % 4, Nat.mod_lt _ (by decide)⟩

/-- An event of the channel can fall due: no other event waits for the channel's off-time, and no switch-off that ends
a finished event is in progress, whose MIN_OFF is still to come (R193, R201). -/
def canDue (s : State) (n : Fin 12) (ev : Event) : Bool :=
  let c := s.chan n (evCh ev)
  c.next.isNone && (c.switchOff.isNone || c.ctx.active)

/-- The order of R193 among events due together: class, latest permitted start, channel, order of queuing. -/
def dueLt (a b : Event) : Bool :=
  let ka := (b2n a.deferrable, a.latest, a.ch, a.seq)
  let kb := (b2n b.deferrable, b.latest, b.ch, b.seq)
  decide (ka.1 < kb.1 ∨ (ka.1 = kb.1 ∧ (ka.2.1 < kb.2.1 ∨ (ka.2.1 = kb.2.1 ∧
    (ka.2.2.1 < kb.2.2.1 ∨ (ka.2.2.1 = kb.2.2.1 ∧ ka.2.2.2 < kb.2.2.2))))))

/-- The event of a bank with an order number, if it is still queued. -/
def queued (s : State) (n : Fin 12) (seq : Nat) : Option Event := (s.bank n).queue.find? fun x => x.seq == seq

/-- The bank knows at least 1 µs ahead the boundary at which an event no gate holds is due (R203): both its queuing and the
end of the switch-off that MIN_OFF runs from lie 1.000 µs before it. -/
def knownAhead (s : State) (n : Fin 12) (ev : Event) : Bool :=
  let c := s.chan n (evCh ev)
  decide (max ev.queuedAt (c.minOffEnd - s.fld (chAddr n (evCh ev) 0x104) 15 0 * 10000) + 1000 ≤ slotCeil (max (s.dueOf n ev) s.hwNs))

/-- The first phase of a word needs a grant: BST or PK, not HLD (R220). -/
def needsGrant (s : State) (n : Fin 12) (ev : Event) : Bool :=
  fieldOf (s.storeWord n (s.fld (ucBase n + 0x80 + 4 * ev.prof) 8 0)) 31 26 != 3

/-- The bank knows 1 µs ahead when an event that only gate 5 holds starts: at the P_START last planned, if that is still to come; gate 5
freed later, by a stage, VFA_OVL or I_AVG, is unforeseen (R203). -/
def foreseen (s : State) (ev : Event) : Bool := ev.held == 5 && decide (ev.planAt + 1000 ≤ ev.pstart) && decide (s.hwNs ≤ ev.pstart)

/-- One judgement of an event by gates 3, 4 and 5 (R194). An event not held yet, or one that only gate 5 holds and
whose P_START was planned at least 1 µs ago, starts at a boundary the bank knew 1 µs ahead; any other starts at the slot boundary of
its passage, one slot later when its first phase needs a grant (R203). -/
def judge (s : State) (n : Fin 12) (ev : Event) : State :=
  let k := evCh ev
  let hw := s.hwNs
  let ahead := s.foreseen ev
  let known := ahead || (ev.held == 0 && s.knownAhead n ev)
  let bound := if ev.held == 0 then slotCeil (max (s.dueOf n ev) hw) else if ahead then slotCeil (max ev.pstart hw) else slotCeil hw
  let slot := if ev.held == 0 then bound else if ahead then hw + 1000 else hw
  if !s.gate3 ev then s.putEvent n { ev with held := 3 }
  else if !(ev.passed4 || s.gate4 n ev) then
    if s.bit (chAddr n k 0x100) 1 then (s.flag (actBase n) 2).dropEvent n ev 17
    else s.putEvent n { ev with held := 4 }
  else
    let ev4 := { ev with passed4 := true }
    let s := if s.winUs n ev.prof == 0 then s else s.reserveWin n ev
    if !s.gate5 n ev4 slot then
      let s := if ev.counted || ev.held != 0 then s else (s.count (ledBase + 0x140)).flag ledBase 0
      (if ev.pre = 0 then s else s.dropPre n k).putEvent n { ev4 with held := 5, counted := true, pre := 0 }
    else
      s.takeChannel n k { ev4 with held := 0 } (if known || !s.needsGrant n ev then bound else bound + 1000)

/-- A channel whose running event is in HOLD and whose NEWCMD is RETRIGGER: a due event takes it over at once (R202). -/
def retriggers (s : State) (n : Fin 12) (k : Fin 4) : Bool :=
  let c := s.chan n k
  c.ctx.active && s.bit (chAddr n k 0x100) 2 && c.ctx.phase == .hold

/-- The grant of an event that will take over its channel is requested 1.000 µs before the boundary (R203): the window is
reserved and the request waits for the arbiter. -/
def preRequest (s : State) (n : Fin 12) (ev : Event) (due : Nat) : State :=
  let k := evCh ev
  match s.firstReq n k ev (slotCeil due) (some ev.seq) with
  | some rq =>
    if ev.pre ≠ 0 || s.winUs n ev.prof == 0 then s
    else
      let s := (s.reserveWin n ev).putEvent n { ev with dueAt := due, passed4 := true, pre := 1 }
      { s with arb := { s.arb with pending := s.arb.pending ++ [rq] } }
  | none => s

/-- An event that is not judged yet, at its due instant: gate 2 drops it on a faulted channel or a locked bank (R209),
gates 3–5 judge it. Up to 1 µs before, it passes on an idle channel if no gate holds it, and on a channel it will take
over in HOLD it asks for its grant: 1.000 µs before its boundary (R203). -/
def takeDue (s : State) (n : Fin 12) (ev : Event) : State :=
  let c := s.chan n (evCh ev)
  let due := s.dueOf n ev
  if due ≤ s.hwNs then
    if (s.bank n).lock || c.fault != 0 then s.dropEvent n ev 20
    else
      let ev := { ev with dueAt := due }
      (s.putEvent n ev).judge n ev
  else if (s.bank n).lock || c.fault != 0 then s
  else if s.knownAhead n ev && s.gate3 ev && (ev.passed4 || s.gate4 n ev) && s.gate5 n ev (slotCeil due) then
    if s.retriggers n (evCh ev) then s.preRequest n ev due else s.judge n { ev with dueAt := due }
  else s

/-- Events of a bank that fall due: at their due instant, or up to 1 µs ahead on a channel that is idle or that they take
over in HOLD. -/
def dueEvents (s : State) (n : Fin 12) : List Event :=
  sortBy dueLt ((s.bank n).queue.filter fun ev =>
    ev.held == 0 && s.canDue n ev &&
      decide (s.dueOf n ev ≤ s.hwNs + (if s.retriggers n (evCh ev) then 1000 else if (s.chan n (evCh ev)).ctx.active || (s.chan n (evCh ev)).conduct then 0 else 1000)))

/-- EVENT_DUE (R193, R194): every event of bank n that falls due is judged, in the order of R193; a test ends (R207). -/
def eventDue (s : State) (n : Fin 12) : State :=
  if !s.actLive n then s else
    let evs := s.dueEvents n
    let s := if evs.isEmpty then s else s.updBank n fun b => { b with testing := false }
    (evs.foldl (fun s ev => match s.queued n ev.seq with | some e => if s.canDue n e then s.takeDue n e else s | none => s) s).settle

/-- A held event's channel has become idle and its off-time would still run at the boundary at which the event could start:
the event waits for the end of MIN_OFF (R201). -/
def restsOff (s : State) (n : Fin 12) (ev : Event) : Bool :=
  let c := s.chan n (evCh ev)
  let ahead := s.foreseen ev
  !c.ctx.active && decide ((if ahead then slotCeil (max ev.pstart s.hwNs) else s.hwNs) < c.minOffEnd)

/-- EVENT_REJUDGE (R194): every event of bank n held at a gate is judged again. -/
def eventRejudge (s : State) (n : Fin 12) : State :=
  if !s.actLive n then s else
    let evs := sortBy dueLt ((s.bank n).queue.filter fun ev => ev.held != 0)
    (evs.foldl (fun s ev => match s.queued n ev.seq with
      | some e => if !s.canDue n e || s.restsOff n e then s
        else if (s.bank n).lock || (s.chan n (evCh e)).fault != 0 then s.dropEvent n e 20 else s.judge n e
      | none => s) s).settle

/-- The outcome of an event still held at its latest permitted start (R194, R195). -/
def heldOutcome (h : Nat) : Nat := if h = 3 then 16 else if h = 4 then 17 else 18

/-- An event dropped at its latest permitted start: by its gate, or OFFTIME when its due instant lies later (R201, R407). -/
def latestDrop (s : State) (n : Fin 12) (ev : Event) : State :=
  if s.hwNs < ev.latest then s
  else if ev.held != 0 then
    let s := if ev.held == 4 then s.flag (actBase n) 2 else s
    let s := if ev.held == 5 then (s.count (ledBase + 0x144)).flag ledBase 1 else s
    s.dropEvent n ev (heldOutcome ev.held)
  else if ev.latest < s.dueOf n ev || !s.canDue n ev then s.dropEvent n ev 19
  else s

/-- The event waiting for MIN_OFF of a channel is dropped OFFTIME once MIN_OFF is known to end too late (R201). -/
def nextDrop (s : State) (n : Fin 12) (k : Fin 4) : State :=
  match (s.chan n k).next with
  | some ev =>
    if ev.latest ≤ s.hwNs && ((s.chan n k).switchOff.isSome || decide (ev.latest < (s.chan n k).minOffEnd)) then
      (s.updChan n k fun c => { c with next := none }).dropEvent n ev 19
    else s
  | none => s

/-- EVENT_LATEST_DROP (R194, R201). -/
def eventLatestDrop (s : State) (n : Fin 12) : State :=
  if !s.actLive n then s else
    let s := (s.bank n).queue.foldl (fun s ev => s.latestDrop n ev) s
    ((List.finRange 4).foldl (fun s k => s.nextDrop n k) s).settle

/-- MAX_DELAY_DROP (R199): an event held at gate 4 under DELAY for MAX_DELAY since its due instant. -/
def maxDelayDrop (s : State) (n : Fin 12) : State :=
  if !s.actLive n then s else
    ((s.bank n).queue.foldl (fun s ev =>
      if ev.held == 4 && decide (ev.dueAt + s.fld (chAddr n (evCh ev) 0x100) 31 16 * 1000 ≤ s.hwNs) then
        (s.flag (actBase n) 2).dropEvent n ev 17 else s) s).settle

/-- SWITCH_OFF_END (R187, R201): the current of channel k has fallen below 50 mA; MIN_OFF starts, an ended event writes
its record, an OFF goes on with TPH from here, even if its context has left the wait (R219, R228). `clampE`: energy the clamp took from the
channel since its last switch-off, first off-intervals of R224 included, 0.1 mJ. -/
def switchOffEnd (s : State) (n : Fin 12) (k : Fin 4) (clampE : Nat) : State :=
  match (s.chan n k).switchOff with
  | none => s
  | some _ =>
    let hw := s.hwNs
    let off := s.fld (chAddr n k 0x104) 15 0 * 10000
    let s := s.updChan n k fun c =>
      { c with switchOff := none, conduct := false, minOffEnd := hw + off,
               ctx := if c.ctx.offTph then { c.ctx with tph0 := some s.now, offTph := false } else c.ctx }
    let s := if clampE ≠ 0 then s.wearClamp n clampE else s
    match (s.chan n k).run with
    | some r => match r.ending with | some o => s.finish n k o | none => s
    | none => s

/-- MIN_OFF_END (R201, R202): the event waiting for the off-time starts at the end of MIN_OFF; its grant is requested
1.000 µs before, or with no MIN_OFF at the slot boundary after the switch-off, for the slot after it (R203). After its latest permitted start it is dropped OFFTIME instead, on a faulted channel or a locked bank
FAULTED (R209). -/
def minOffEnd (s : State) (n : Fin 12) (k : Fin 4) : State :=
  if !s.actLive n then s else
    match (s.chan n k).next with
    | none => s
    | some ev =>
      let c := s.chan n k
      if c.switchOff.isSome || decide (s.hwNs + 1000 < c.minOffEnd) then s
      else if (s.bank n).lock || c.fault != 0 then
        if s.hwNs < c.minOffEnd then s else (s.updChan n k fun c => { c with next := none }).dropEvent n ev 20
      else if ev.latest < c.minOffEnd then s
      else
        let known := decide (c.minOffEnd - s.fld (chAddr n k 0x104) 15 0 * 10000 + 1000 ≤ slotCeil c.minOffEnd)
        let bound := slotCeil (max c.minOffEnd s.hwNs)
        s.beginEvent n k ev (if known || !s.needsGrant n ev then bound else bound + 1000) false

/-- The grant of the phase in progress ends; a request that waits for its decision, and a grant whose phase is still to start,
stay (R203). -/
def endGrant (s : State) (n : Fin 12) (k : Fin 4) : State :=
  if (s.chan n k).ctx.next.isSome then s
  else { s with arb := { s.arb with grants := s.arb.grants.filter fun g => !(g.bank == n.val && g.ch == k.val && g.pre.isNone) } }

/-- PHASE_LIMIT (R230): a BOOST or PEAK phase reaches 2.00 ms: HOLD, with a first off-interval above the band (R224). A ramp
goes on (R225), and the context continues where it is. -/
def phaseLimit (s : State) (n : Fin 12) (k : Fin 4) : State :=
  let c := s.chan n k
  if c.ctx.active && (c.ctx.phase == .boost || c.ctx.phase == .peak) && decide (200000 ≤ c.ctx.tph s.now) then
    let s := s.endGrant n k
    let s := s.updCtx n k fun x =>
      let t := min x.itgt 600
      let above := decide (t + x.band < c.i)
      { x with phase := .hold, itgt := t, firstOff := if above then some x.offm else x.firstOff,
               onInt := x.onInt && !above, intAt := if above && x.onInt then s.now else x.intAt }
    (s.holdClosesWin n k).flag (ucBase n) 2
  else s

/-- WINDOW_EXPIRY (R198): windows whose WIN_US has passed close. -/
def windowExpiry (s : State) (n : Fin 12) : State :=
  s.updBank n fun b => { b with wins := b.wins.filter fun w => match w.closeAt with | some t => decide (s.now < t) | none => true }

/-! ### Current samples -/

/-- The target at a sample: a ramp advances (R225), and HOLD stops at 6.00 A (R226). -/
def stepRamp (s : State) (n : Fin 12) (k : Fin 4) : State :=
  match (s.chan n k).ctx.ramp with
  | none => s
  | some r =>
    let (x, done) := rampAt r s.now
    let hold := (s.chan n k).ctx.phase == .hold
    if hold && decide (600 ≤ x) && decide (600 < r.new) then
      (s.updCtx n k fun c => { c with itgt := 600, ramp := none }).flag (ucBase n) 3
    else s.updCtx n k fun c => { c with itgt := if hold then min x 600 else x, ramp := if done then none else some r }

/-- Hysteretic regulation at a sample (R224): the interval, and the first off-interval of a phase entered above its band. -/
def regulate (c : Ctx) (i now : Nat) : Ctx :=
  let age := (now - c.intAt) / 100
  match c.firstOff with
  | some _ => if i ≤ c.itgt then { c with firstOff := none, onInt := true, intAt := now } else c
  | none =>
    if (c.phase == .boost || c.phase == .peak) && !c.tgt then c
    else if c.onInt && decide (c.itgt + c.band ≤ i) && decide (c.tonMin ≤ age) then { c with onInt := false, intAt := now }
    else if !c.onInt && decide (i + c.band ≤ c.itgt) && decide (c.toffMin ≤ age) then { c with onInt := true, intAt := now }
    else c

/-- The first dip of an event is its MOT_T (R206). -/
def dipFound (s : State) (n : Fin 12) (k : Fin 4) (tmin : Nat) : State :=
  s.updChan n k fun c =>
    { c with ctx := { c.ctx with dip := true },
             run := c.run.map fun r => if r.motT.isSome then r else { r with motT := some ((tmin - r.startAt) / 10) } }

/-- The watch of a channel takes a sample (R227). -/
def stepWatch (s : State) (n : Fin 12) (k : Fin 4) (i : Nat) : State :=
  match (s.chan n k).ctx.watch with
  | none => s
  | some w =>
    let (w', t) := watchSample w i (s.chan n k).ctx.itgt s.now
    let s := s.updCtx n k fun c => { c with watch := w' }
    match t with | some tmin => s.dipFound n k tmin | none => s

/-- Energy drawn from and returned to the reservoir during one 100 ns sample, in units of 1e-10 J. A first off-interval
takes the path of its phase's switch-off mode (R224). -/
def stepEnergy (s : State) (n : Fin 12) (k : Fin 4) (i : Nat) : State :=
  let c := s.chan n k
  let e := s.vres (convOf n) * i
  let draws := c.conduct && c.switchOff.isNone && c.ctx.onInt && s.hsMode n == 2
  let path := match c.ctx.firstOff with
    | some m => s.effOff n k m == .regen
    | none => s.regLs n k
  let returns := c.switchOff == some .regen || (c.conduct && c.switchOff.isNone && !c.ctx.onInt && path)
  s.updChan n k fun c => { c with run := c.run.map fun r =>
    { r with eRes := if draws then r.eRes + e else r.eRes, eRegen := if returns then r.eRegen + e else r.eRegen } }

/-- One current sample of channel k, 10 mA (R219), 12 bits (R184). -/
def sampleChan (s : State) (n : Fin 12) (k : Fin 4) (i : Nat) : State :=
  let i := min i 4095
  let s := s.updChan n k fun c => { c with i := i, run := c.run.map fun r => { r with peakI := max r.peakI i } }
  let c := s.chan n k
  let s := if c.ctx.active then s.stepRamp n k else s
  if !(c.ctx.active && c.conduct && c.switchOff.isNone) then (s.stepWatch n k i).stepEnergy n k i
  else
    let s := s.stepWatch n k i
    let s := s.updCtx n k fun c =>
      let c := if decide (c.itgt ≤ i) then { c with tgt := true } else c
      regulate c i s.now
    s.stepEnergy n k i

/-- The bank current enters I_PEAK and, at each millisecond, the 100 ms mean I_AVG (HS_I). -/
def sampleHs (s : State) (n : Fin 12) (hs : Nat) : State :=
  let b := s.bank n
  let pk := max b.iPeak hs
  if b.lastMs + 1000000 ≤ s.now then
    let ms := (((b.iSum + hs) / (b.iN + 1)) :: b.means).take 100
    (s.updBank n fun b => { b with iSum := 0, iN := 0, iPeak := 0, means := ms, lastMs := s.now, avgStamp := s.hwNs }).wr (actBase n + 0x58)
      (fieldAt 31 16 (satU 16 pk) ||| fieldAt 15 0 (satU 16 (ms.sum / 100)))
  else s.updBank n fun b => { b with iSum := b.iSum + hs, iN := b.iN + 1, iPeak := pk }

/-- CURRENT_SAMPLE (R219): the four channel currents and the high-side current, 10 mA. -/
def currentSample (s : State) (n : Fin 12) (i0 i1 i2 i3 hs : Nat) : State :=
  if !(s.powered 8 && s.clocked .act && !s.clockFault) then s else
    ((((s.sampleChan n 0 i0).sampleChan n 1 i1).sampleChan n 2 i2).sampleChan n 3 i3).sampleHs n hs

/-! ### Off-state test (R207) -/

/-- The conditions of a test: EN and DIAG_EN, DIAG_MS since the last, high side off, every current below 50 mA, no event due
in the next 250 µs, neither from the queue nor at the end of MIN_OFF. -/
def diagReady (s : State) (n : Fin 12) : Bool :=
  s.actLive n && s.bit (actBase n + 0x40) 16 && s.hsMode n == 0 && s.sup.mode != .maintenance
    && (match (s.bank n).lastTest with | some t => decide (t + s.fld (actBase n + 0x40) 9 0 * 1000000 ≤ s.now) | none => true)
    && ((List.finRange 4).all fun k => (s.chan n k).next.isNone || decide (s.hwNs + 250000 < (s.chan n k).minOffEnd))
    && ((List.finRange 4).all fun k => decide ((s.chan n k).i < 5) && !(s.chan n k).conduct)
    && (s.bank n).queue.all fun ev => decide (s.hwNs + 250000 < s.dueOf n ev) || ev.held != 0

/-- DIAG_TEST_START. -/
def diagTestStart (s : State) (n : Fin 12) : State :=
  if s.diagReady n then s.updBank n fun b => { b with testing := true, lastTest := some s.now } else s

/-- The class of ACT_HSn from its voltage, mV: 0 OK, 2 SHORT_GND, 3 SHORT_SUP, 4 UNKNOWN. -/
def hsClassOf (v : Nat) : Nat :=
  if 1500 ≤ v ∧ v ≤ 3500 then 0 else if v ≤ 1000 then 2 else if 4000 ≤ v then 3 else 4

/-- The class of a channel from VU and VD, mV: 0 OK, 1 OPEN, 2 SHORT_GND, 3 SHORT_SUP, 4 UNKNOWN. -/
def chClassOf (vu vd : Nat) : Nat :=
  if 1800 ≤ vd ∧ vu ≤ 3200 then 0 else if 4000 ≤ vu ∧ vd ≤ 1000 then 1
  else if vu ≤ 1000 ∧ vd ≤ 1000 then 2 else if 4000 ≤ vu ∧ 4000 ≤ vd then 3 else 4

/-- The reported class after a test: a class becomes the reported one after two consecutive tests agree. -/
def reported (old last cur : Nat) : Nat := if last = cur then cur else old

/-- The class in force: UNKNOWN leaves the previous one (R207). -/
def inForce (old new : Nat) : Nat := if new = 4 then old else new

/-- A reported class changed: the flag DIAG_CHANGE and its entry 0x0104. -/
def diagChange (s : State) (n : Fin 12) (node old new : Nat) : State :=
  if old = new then s
  else s.flagWith (actBase n) 11 ⟨0x0104, if new = 0 then 0 else 1, node + old * 2 ^ 8 + new * 2 ^ 16, 0xFF⟩

/-- A voltage as a field of 20 mV, saturating at 0xFF. -/
def v20 (mv : Nat) : Nat := satU 8 (mv / 20)

/-- The test result of channel k: CHk_DIAG, the reported class, and the fault of R209 of a short with no load: while ACT_HSn
is shorted too (`hsShort`), the short has its load and only locks the bank. -/
def diagChan (s : State) (n : Fin 12) (k : Fin 4) (vu vd : Nat) (hsShort : Bool) : State :=
  let c := s.chan n k
  let cur := chClassOf vu vd
  let new := reported c.shown c.lastClass cur
  let s := s.updChan n k fun c => { c with lastClass := cur, shown := new, cls := inForce c.cls new }
  let s := s.post (chAddr n k 0x10C) (fieldAt 18 16 new ||| fieldAt 15 8 (v20 vu) ||| fieldAt 7 0 (v20 vd)) []
  let s := s.diagChange n (4 * n + k) c.shown new
  if (new = 2 ∨ new = 3) ∧ !hsShort ∧ c.fault = 0 then s.chFault n k new else s

/-- The test result of ACT_HSn: HS_DIAG, the reported class and the lock of R209. -/
def diagHs (s : State) (n : Fin 12) (v : Nat) : State :=
  let b := s.bank n
  let cur := hsClassOf v
  let new := reported b.hsShown b.hsLast cur
  let s := s.updBank n fun b => { b with hsLast := cur, hsShown := new, hsClass := inForce b.hsClass new }
  let s := s.post (actBase n + 0x50) (fieldAt 18 16 new ||| fieldAt 7 0 (v20 v)) []
  let s := s.diagChange n 0xFF b.hsShown new
  if (new = 2 ∨ new = 3) ∧ b.hsClass ≠ new ∧ !b.lock then s.bankLock n (new - 1) 0xF else s

/-- DIAG_TEST_END: voltages in mV. -/
def diagTestEnd (s : State) (n : Fin 12) (vHs : Nat) (vu vd : Vector Nat 4) : State :=
  if !(s.bank n).testing then s else
    let s := s.updBank n fun b => { b with testing := false, testedSince := true }
    let short := fun c => c == 2 || c == 3
    let hs := short (hsClassOf vHs) || short (s.bank n).hsClass
    let s := (List.finRange 4).foldl (fun s k => s.diagChan n k vu[k] vd[k] hs) s
    s.diagHs n vHs

/-! ### On-state monitors (R208) -/

/-- A channel goes into its clamp and its event ends FAULT (R208, R231). -/
def clampChan (s : State) (n : Fin 12) (k : Fin 4) : State :=
  let s := s.endThrough n k 3 .fast
  s.updChan n k fun c => { c with switchOff := c.switchOff.map fun _ => .fast }

/-- DESAT_LS. -/
def desatLs (s : State) (n : Fin 12) (k : Fin 4) : State :=
  if !(s.chan n k).conduct then s else ((s.clampChan n k).flag (actBase n) 5).chFault n k 4

/-- OVERCURRENT. -/
def overcurrent (s : State) (n : Fin 12) (k : Fin 4) : State :=
  if !(s.chan n k).conduct then s else ((s.clampChan n k).flag (actBase n) 6).chFault n k 5

/-- The conducting channels of a bank. -/
def conducting (s : State) (n : Fin 12) : List (Fin 4) := (List.finRange 4).filter fun k => (s.chan n k).conduct

/-- Every switch of the bank off through the clamps, and the bank locks. -/
def lockOff (s : State) (n : Fin 12) (cause ch : Nat) : State :=
  let s := s.bankLock n cause ch
  (List.finRange 4).foldl (fun s k => s.clampChan n k) s

/-- DESAT_HS: located when exactly one channel conducts. -/
def desatHs (s : State) (n : Fin 12) : State :=
  match s.conducting n with
  | [] => s
  | [k] => (s.flag (actBase n) 5).lockOff n 3 k
  | _ => (s.flag (actBase n) 5).lockOff n 3 0xF

/-- LEAK_GND. -/
def leakGnd (s : State) (n : Fin 12) : State :=
  if (s.conducting n).isEmpty then s else s.lockOff n 4 0xF

/-- NO_CURRENT: flag only. -/
def noCurrent (s : State) (n : Fin 12) (k : Fin 4) : State :=
  let c := s.chan n k
  if c.ctx.active && c.conduct && decide (20 ≤ c.ctx.itgt) && decide (20000 ≤ c.ctx.tph s.now) && decide (c.i < 10) then
    s.flag (actBase n) 14
  else s

/-- PEAK_TO: switch-off through FAST, the event ends FAULT, no channel fault. -/
def peakTo (s : State) (n : Fin 12) (k : Fin 4) : State :=
  if !(s.chan n k).conduct then s else (s.endThrough n k 3 .fast).flag (actBase n) 7

/-- BANK_OVL: every channel ends through its phase's mode, the events end FAULT. -/
def bankOvl (s : State) (n : Fin 12) : State :=
  if (s.conducting n).isEmpty then s else
    ((List.finRange 4).foldl (fun s k => s.endThrough n k 3 (s.chan n k).ctx.offm) s).flag (actBase n) 9

/-- REGEN_OVF (R188): the currents in REGEN of both banks of converter b pass to their clamps. -/
def regenOvf (s : State) (b : Fin 6) : State :=
  (pairBanks b).foldl (fun s n =>
    let hit := (List.finRange 4).any fun k => (s.chan n k).switchOff == some .regen
    let s := (List.finRange 4).foldl (fun s k => s.updChan n k fun c =>
      { c with switchOff := if c.switchOff = some .regen then some .fast else c.switchOff }) s
    s.flagIf hit (actBase n) 12) s

/-- RESERVOIR_MEASURE (R204, R189): VRES of converter b, 0.1 V, in the pages of both banks. -/
def reservoirMeasure (s : State) (b : Fin 6) (v : Nat) : State :=
  if !(s.powered 8 && s.clocked .act && !s.clockFault) then s else
    let ready := decide (s.boostV b * 5 * 98 ≤ v * 100)
    (pairBanks b).foldl (fun s (n : Fin 12) => s.post (actBase n + 0x48) (fieldAt 17 17 (b2n ready) ||| fieldAt 9 0 (satU 10 v)) []) s

/-! ### Clearing (R210) -/

/-- LOCK_CLR may clear: by the reported classes. -/
def lockClears (s : State) (n : Fin 12) : Bool :=
  let b := s.bank n
  b.hsShown == 0 && ((List.finRange 4).all fun k => (s.chan n k).shown != 2 && (s.chan n k).shown != 3)
    && (decide (b.lockCause < 3) || b.testedSince)

/-- The lock clears. -/
def lockClear (s : State) (n : Fin 12) : State :=
  (s.updBank n fun b => { b with lock := false, lockCause := 0 }).wr (actBase n + 0x54) (fieldAt 11 8 0xF)

/-- CHk_FLT_CLR may clear: the reported class is OK or OPEN. -/
def fltClears (s : State) (n : Fin 12) (k : Fin 4) : Bool := decide ((s.chan n k).shown ≤ 1)
def fltClear (s : State) (n : Fin 12) (k : Fin 4) : State := s.updChan n k fun c => { c with fault := 0 }

end State
end Sys2Proof.Machine
end

