-- ==== Sys2Proof/Machine/Thermal.lean ====
section
/-!
DEFINITION. Thermal supervision (R428–R437, spec/17_thermal_and_fans.md): the reading of each sensor, its break, the
two throttle stages and what they log.
-/
namespace Sys2Proof.Machine

def thermBase : Nat := pageBase .therm 0

/-- Temperatures in 1/64 °C: 5 °C and 10 °C. -/
def deg5 : Int := 320
def deg10 : Int := 640

namespace State

def sensor (s : State) (n : Fin 10) : Sensor := s.sensors[n]
def updSensor (s : State) (n : Fin 10) (f : Sensor → Sensor) : State := { s with sensors := s.sensors.set n (f s.sensors[n]) }

def tsCfg (n : Fin 10) : Nat := thermBase + 0x80 + 4 * n
def thrEn (s : State) (n : Fin 10) : Bool := s.bit (tsCfg n) 8
def tsType (s : State) (n : Fin 10) : Nat := s.fld (tsCfg n) 1 0

/-- Lowered under R431: by indicator 4 for every sensor, by indicator 7 for TS2 and TS4; once. -/
def thrLowered (s : State) (n : Fin 10) : Bool := s.wear.ended[4] || (s.wear.ended[7] && (n == 2 || n == 4))

/-- THR_EFF, 1/64 °C. -/
def thrEff (s : State) (n : Fin 10) : Int :=
  let t := signed 16 (s.fld (tsCfg n) 31 16)
  if s.thrLowered n then t - deg10 else t

/-- T_CRIT of the straps, 1 °C. -/
def tCrit (s : State) : Nat := 95 + 10 * s.sup.straps.shdnT

end State

/-! ### A reading -/

/-- The temperature of an NTC in °C, binary64, from R in milliohms less the 10 Ω of its return (R429). -/
def ntcTemp (b milliOhm : Nat) : F64 :=
  let r := F64.ofRat false milliOhm 1000
  F64.sub (F64.div F64.one (F64.add (F64.div F64.one (F64.dec 29815 2))
    (F64.div (F64.ln (F64.div r (F64.ofNat 10000))) (F64.ofNat b)))) (F64.dec 27315 2)

/-- A value of 1/1000 °C in the format of R5, to nearest with halves away from zero, held in 16 bits. -/
def tempOfMilli (m : Int) : Int :=
  let a := roundDiv (m.natAbs * 64) 1000
  max (-32768) (min 32767 (if m < 0 then -(a : Int) else a))

/-- A binary64 temperature in the format of R5. -/
def tempOf64 (x : F64) : Int :=
  max (-32768) (min 32767 (((F64.val (F64.mul x (F64.ofNat 64))).roundAway).getD 32767))

/-- The reading of a sensor of a TYPE, or none for a break (R429, R430). TYPE selects the conversion; an operand of the other kind is
nothing the converter measures then, and counts as a break (log entry 40). -/
def reading (ty b : Nat) : Sensed → Option Int
  | .diode mv milli => if ty = 1 ∧ 200 ≤ mv ∧ mv ≤ 900 then some (tempOfMilli milli) else none
  | .ntc m =>
    let r := m - 10000
    if ty = 2 ∧ 100000 ≤ r ∧ r ≤ 1000000000 then some (tempOf64 (ntcTemp b r)) else none
  | .line => none

def Stage.code : Stage → Nat
  | .none => 0 | .request => 1 | .enforce _ => 2

namespace State

/-- An entry of codes 0x0401–0x0406 with its flag (R434). -/
def thermFlag (s : State) (n : Fin 10) (bit cls : Nat) (st : Stage) : State :=
  s.flagWith thermBase bit
    ⟨0x0401 + bit, cls, n + st.code * 2 ^ 8 + st.level * 2 ^ 16 + wrapS 16 (s.sensor n).temp * 2 ^ 32 + wrapS 16 (s.thrEff n) * 2 ^ 48, 0xFF⟩

/-- A sensor moves to a stage (R432, R434): the flag of the move, the grace, and the 10 s count that restarts. -/
def toStage (s : State) (n : Fin 10) (st : Stage) : State :=
  let old := (s.sensor n).stage
  let s := s.updSensor n fun x => { x with stage := st, lowSince := none, graceAt := s.now }
  match st with
  | .request => s.thermFlag n 0 1 st
  | .enforce _ => match old with | .enforce _ => s.thermFlag n 2 1 st | _ => s.thermFlag n 1 2 st
  | .none => s.thermFlag n 3 0 st

/-- GRACE_CUT, with the stage that follows. -/
def graceCut (s : State) (n : Fin 10) (st : Stage) : State := s.thermFlag n 5 1 st

/-- Four consecutive readings above a limit. -/
def above4 (x : Sensor) (lim : Int) : Bool := decide (x.hist.length = 4) && x.hist.all fun t => decide (lim < t)

/-- Every reading at or below the limit throughout 10 s. -/
def low10 (s : State) (x : Sensor) : Bool := match x.lowSince with | some t => decide (t + 10000000000 ≤ s.now) | none => false

/-- The limit a sensor must stay at or below to fall: B(n) − 5 °C at level n, THR_EFF − 5 °C otherwise. -/
def fallLimit (s : State) (n : Fin 10) : Int :=
  match (s.sensor n).stage with
  | .enforce k => s.thrEff n + deg5 * ((k : Int) - 1) - deg5
  | _ => s.thrEff n - deg5

/-- The stage judgement of one sensor at a sample (R432). -/
def judgeStage (s : State) (n : Fin 10) : State :=
  let x := s.sensor n
  if !s.thrEn n then s
  else if x.broken then
    match x.stage with
    | .enforce 3 => s.updSensor n fun y => { y with lowSince := none }
    | .request => (s.graceCut n (.enforce 3)).toStage n (.enforce 3)
    | _ => s.toStage n (.enforce 3)
  else
    let lim := s.fallLimit n
    let since := if x.temp ≤ lim then some (x.lowSince.getD s.now) else none
    let s := s.updSensor n fun y => { y with lowSince := since }
    let x := s.sensor n
    let e := s.thrEff n
    match x.stage with
    | .none => if above4 x e then s.toStage n .request else s
    | .request =>
      if above4 x (e + deg5) then (s.graceCut n (.enforce 2)).toStage n (.enforce 2)
      else if s.low10 x then s.toStage n .none else s
    | .enforce k =>
      if k < 3 ∧ above4 x (e + deg5 * k) then s.toStage n (.enforce (k + 1))
      else if s.low10 x then (if 1 < k then s.toStage n (.enforce (k - 1)) else s.toStage n .none)
      else s

/-- TSn_RES after a sample. -/
def postSensor (s : State) (n : Fin 10) : State :=
  let x := s.sensor n
  s.post (thermBase + 0x100 + 4 * n)
    (fieldAt 21 20 x.stage.code ||| fieldAt 19 18 x.stage.level ||| fieldAt 17 17 (b2n x.broken) ||| fieldAt 15 0 (wrapS 16 x.temp)) []

/-- One sample of a sensor whose TYPE is not 0 (R429, R430, R432). -/
def sampleSensor (s : State) (n : Fin 10) (v : Sensed) : State :=
  if s.tsType n = 0 then s else
    let b := s.fld (thermBase + 0xB0 + 4 * (n - 6)) 15 0
    let was := (s.sensor n).broken
    let r := reading (s.tsType n) b v
    let t := r.getD 0x7FFF
    let s := s.updSensor n fun x => { x with broken := r.isNone, temp := t, valid := true, stamp := s.hwNs, hist := (t :: x.hist).take 4 }
    let s := if r.isNone && !was then s.thermFlag n 4 2 (if s.thrEn n then .enforce 3 else .none) else s
    (s.judgeStage n).postSensor n

/-- GRACE_EXPIRY (R432): the grace of sensor n has run out in REQUEST. -/
def graceExpiry (s : State) (n : Fin 10) : State :=
  let x := s.sensor n
  if x.stage = .request && s.thrEn n && decide (x.graceAt + s.fld (thermBase + 0x40) 9 0 * 1000000000 ≤ s.now) then
    (s.toStage n (.enforce 1)).settle
  else s

/-- What follows a write of TSn_CFG that changed THR_EN (R432). -/
def thrEnWritten (s : State) (n : Fin 10) (was now : Bool) : State :=
  if was && !now then
    if (s.sensor n).stage = .none then s else (s.toStage n .none).settle
  else if !was && now then s.updSensor n fun x => { x with stage := .none, hist := [], lowSince := none }
  else s

end State
end Sys2Proof.Machine
end

