-- ==== Sys2Proof/Machine/Fan.lean ====
section
/-!
DEFINITION. The fan and pump channels (R440–R450, spec/17_thermal_and_fans.md): targets, skip bands, the speed loop,
starts under an inrush grant, stall and kick, tach loss, overload.
-/
namespace Sys2Proof.Machine

def fanBase (f : Nat) : Nat := pageBase .fan f

/-- A target: a duty in 0.1 % (with or without the skip bands) or a speed in rpm. -/
inductive FanTarget where
  | duty (d : Nat) (skips : Bool)
  | rpm (r : Nat)
  deriving DecidableEq, Repr

/-- The target asks the channel to run. -/
def FanTarget.runs : FanTarget → Bool
  | .duty d _ => d != 0
  | .rpm r => r != 0

namespace State

def fan (s : State) (f : Fin 8) : Fan := s.fans[f]
def updFan (s : State) (f : Fin 8) (g : Fan → Fan) : State := { s with fans := s.fans.set f (g s.fans[f]) }

def fanCfg (s : State) (f : Fin 8) (hi lo : Nat) : Nat := s.fld (fanBase f + 0x40) hi lo
def rpmMax (s : State) (f : Fin 8) : Nat := s.fld (fanBase f + 0x44) 15 0
def ppr (s : State) (f : Fin 8) : Nat := s.fanCfg f 11 8

/-- TEMP of the sensor a curve uses. -/
def fanTemp (s : State) (f : Fin 8) : Int :=
  let n := s.fld (fanBase f + 0x58) 19 16
  if h : n < 10 then (s.sensor ⟨n, h⟩).temp else 0

/-- The curve stops at T ≤ T_LO − 5 °C and starts again above T_LO (R443). -/
def thermStopped (s : State) (f : Fin 8) : Bool :=
  let lo := signed 16 (s.fld (fanBase f + 0x54) 15 0)
  let t := s.fanTemp f
  if t ≤ lo - deg5 then true else if lo < t then false else (s.fan f).thermOff

/-- The THERM curve, 0.1 % (R443). -/
def thermCurve (s : State) (f : Fin 8) : Nat :=
  let lo := signed 16 (s.fld (fanBase f + 0x54) 15 0)
  let hi := signed 16 (s.fld (fanBase f + 0x54) 31 16)
  let t := s.fanTemp f
  let dm := s.fld (fanBase f + 0x58) 9 0
  if s.thermStopped f then 0
  else if hi ≤ t then 1000
  else if t ≤ lo then dm
  else dm + (1000 - dm) * (t - lo).toNat / (hi - lo).toNat

/-- HOST and LOOP channels run in the modes that enable field outputs (R442, row 7). -/
def fanModeOn (s : State) (f : Fin 8) : Bool :=
  match s.sup.mode with
  | .run | .constrained | .safeHold => true
  | .commission => s.engineerHolds (fanBase f) 0xFF
  | _ => false

/-- The latest speed; with TACH_PPR = 0 the channel reports none (R441). -/
def fanSpeed (s : State) (f : Fin 8) : Nat := if s.ppr f = 0 then 0 else (s.fan f).speed

/-- The target of R442; a channel that SHORT_SUP keeps off has none (R449). -/
def fanTarget (s : State) (f : Fin 8) : FanTarget :=
  let x := s.fan f
  if s.sup.safeNet then .duty 1000 false
  else if !s.powered 11 || !s.en (fanBase f) then .duty 0 false
  else if x.overload || x.shortSup then .duty 0 false
  else if x.st = .stallWait then .duty 0 false
  else if x.st = .kick then .duty 1000 false
  else match s.fanCfg f 21 20 with
    | 2 => if 0 < s.enfLevel then .duty 1000 false else .duty (s.thermCurve f) true
    | src =>
      if !s.fanModeOn f then .duty 0 false
      else
        let v := s.fld (fanBase f + (if src = 0 then 0x4C else 0x50)) 15 0
        if s.fanCfg f 16 16 = 0 then .duty v true else .rpm v

/-- A target duty moved out of a skip band (R446): LO < d < HI, by the previous applied duty. -/
def skipBand (prev lo hi d : Nat) : Nat :=
  if lo < d ∧ d < hi then
    if prev ≤ lo then lo else if hi ≤ prev then hi else if d - lo ≤ hi - d then lo else hi
  else d

/-- The duty after the three skip bands. -/
def skipped (s : State) (f : Fin 8) (prev d : Nat) : Nat :=
  (List.range 3).foldl (fun d b =>
    let a := fanBase f + 0x70 + 4 * b
    if s.bit a 31 then skipBand prev (s.fld a 9 0) (s.fld a 25 16) d else d) d

/-- The duty that the speed loop gives for the next period, through the skip bands; SKIP is flagged on a move (R444, R446). -/
def nextDuty (s : State) (f : Fin 8) (d : Nat) : State :=
  let d' := s.skipped f (s.fan f).duty d
  (s.updFan f fun x => { x with next := d' }).flagIf (d' != d) (fanBase f) 7

/-- A duty is applied through the skip bands; SKIP is flagged on a move. -/
def applyDuty (s : State) (f : Fin 8) (d : Nat) (skips : Bool) : State :=
  let d' := if skips then s.skipped f (s.fan f).duty d else d
  (s.updFan f fun x => { x with duty := d' }).flagIf (d' != d) (fanBase f) 7

/-- The channel is off. -/
def fanOff (s : State) (f : Fin 8) (st : FanState) : State :=
  let s := s.updFan f fun x =>
    { x with st := st, duty := 0, next := 0, kickStall := false, waiting := false, on := 0, debt := 0, speed := 0, tachRun := 0, offSince := if x.duty = 0 then x.offSince else s.now }
  { s with arb := { s.arb with inrush := s.arb.inrush.filter fun r => r.fan != f,
                               inrushHeld := s.arb.inrushHeld.filter fun r => r.fan != f } }

/-- FF of the speed loop: 100 % × target / RPM_MAX (R444). -/
def fanFF (s : State) (f : Fin 8) (r : Nat) : F32 := E32.div (E32.mul (E32.ofNat 100) (E32.ofNat r)) (E32.ofNat (s.rpmMax f))

/-- A duty in percent, binary32, as 0.1 %. -/
def pctDuty (p : F32) : Nat := (E32.toInt (E32.mul p (E32.ofNat 10))).toNat
/-- 0.1 % as percent. -/
def dutyPct (d : Nat) : F32 := E32.ofRat d 10

/-- One step of the speed loop toward `r` rpm (R444): P and FF, the limit, the preset, the tach loss, the skip bands. Its duty takes
effect at the end of the period in progress (R440). -/
def speedStep (s : State) (f : Fin 8) (r : Nat) : State :=
  let x := s.fan f
  let ff := s.fanFF f r
  if x.tachLost || s.ppr f = 0 then
    (s.nextDuty f (pctDuty (E32.clamp F32.zero (E32.ofNat 100) ff))).updFan f fun y => { y with preset := true }
  else
    let e := E32.sub (E32.ofNat r) (E32.ofNat x.speed)
    let kpe := E32.mul (s.rd (fanBase f + 0x5C)) e
    let base := E32.add ff kpe
    let i0 := if x.preset then E32.sub (dutyPct x.duty) base else x.integ
    let u := E32.add base i0
    let lim := E32.clamp F32.zero (E32.ofNat 100) u
    let i1 := if lim = u then E32.add i0 (E32.mul (E32.mul (s.rd (fanBase f + 0x60)) (E32.ofRat 1 10)) e) else E32.sub lim base
    let d := pctDuty lim
    let s := s.nextDuty f d
    let d' := (s.fan f).next
    s.updFan f fun y => { y with integ := if d' = d then i1 else E32.sub (dutyPct d') base, preset := false }

/-- The channel is in RUN and keeps its duty until the end of the period in progress, where it takes its target. -/
def toRun (s : State) (f : Fin 8) : State :=
  s.updFan f fun x => { x with st := .run, waiting := false, kickStall := false, next := x.duty }

/-- The channel takes its target at the end of a period: a duty, or what the speed loop has computed; none: off. -/
def takeTarget (s : State) (f : Fin 8) : State :=
  let s := s.updFan f fun x => { x with st := .run, waiting := false, thermOff := s.thermStopped f }
  match s.fanTarget f with
  | .duty d k => if d = 0 then s.fanOff f .off else s.applyDuty f d k
  | .rpm r => if r = 0 then s.fanOff f .off else s.updFan f fun x => { x with duty := x.next }

/-- A request for inrush goes to the arbiter, or waits for the FAN block (R447, R404). -/
def askInrush (s : State) (f : Fin 8) (st : FanState) : State :=
  let s := s.updFan f fun x => { x with st := st, waiting := true, startReq := s.now, waitFlagged := false, kickStall := false }
  { s with arb := { s.arb with inrush := s.arb.inrush ++ [⟨f, s.fld (fanBase f + 0x48) 6 0, s.now⟩] } }

/-- Fans whose request has been granted switch on without a break; a wait above 100 ms is flagged once (R447). -/
def settleInrush (s : State) : State :=
  (List.finRange 8).foldl (fun s f =>
    let x := s.fan f
    if !x.waiting then s
    else if s.arb.inrushHeld.any fun r => r.fan == f then
      s.updFan f fun y => { y with waiting := false, duty := 1000, next := 1000, startReq := s.now }
    else if !x.waitFlagged && decide (x.startReq + 100000000 < s.now) then
      (s.updFan f fun y => { y with waitFlagged := true }).flag (fanBase f) 5
    else s) s

/-- The grant of a fan is released. -/
def releaseInrush (s : State) (f : Fin 8) : State :=
  { s with arb := { s.arb with inrushHeld := s.arb.inrushHeld.filter fun r => r.fan != f } }

/-! ### The rows -/

/-- The FAN block of a channel runs: powered and clocked, no clock fault. -/
def fanLive (s : State) : Bool := s.powered 11 && s.clocked .fan && !s.clockFault

/-- The time between the two edges of a stretch, in µs: none where they do not both fall into the stretch, which ends after 100 ms
(R441). At 100 % duty every edge counts, but for a pause of 1 s, which is a window without tach (R448). -/
def tachGap (duty len : Nat) (gap : Option Nat) : Option Nat :=
  gap.filter fun g => if duty = 1000 then decide (g < 1000000) else decide (g ≤ len) && decide (g ≤ 100000)

/-- TACH_STRETCH (R441): an on-interval has been stretched by `len` µs, at most 100 ms and at 100 % duty not at all, and `gap` is the
time between two falling edges in µs. The length is taken back from the on-intervals of the next 500 ms. -/
def tachStretch (s : State) (f : Fin 8) (gap : Option Nat) (len : Nat) : State :=
  let x := s.fan f
  if !s.fanLive || x.duty = 0 || s.ppr f = 0 then s else
    let n := if x.duty = 1000 then 0 else min len 100000 / 10
    let s := s.updFan f fun y => { y with stretch := n, debt := n }
    match tachGap x.duty len gap with
    | some g =>
      let rpm := if g = 0 then 0xFFFF else satU 16 (60000000 / (s.ppr f * g))
      let run := x.tachRun + 1
      let since := if x.tachRun = 0 then s.now else x.tachSince
      let clear := x.tachLost && (if x.duty = 1000 then decide (since + 1000000000 ≤ s.now) else decide (2 ≤ run))
      s.updFan f fun y => { y with speed := rpm, tachRun := run, tachSince := since, tachLost := y.tachLost && !clear,
                                   preset := y.preset || clear }
    | none => s.updFan f fun y => { y with tachRun := 0 }

/-- FAN_SPEED_LOOP (R444): every 100 ms the speed loop of an RPM channel in RUN, which keeps its duty under VFF_UV (R447); the result
span is posted. -/
def fanSpeedLoop (s : State) (f : Fin 8) (iPeak iMean : Nat) : State :=
  if !s.fanLive then s else
    let s := match s.fanTarget f with
      | .rpm r => if (s.fan f).st == FanState.run && r != 0 && !s.pwr.vffUv then s.speedStep f r else s
      | .duty .. => s
    let s := s.updFan f fun y => { y with stamp := s.hwNs }
    let x := s.fan f
    s.post (fanBase f + 0x100)
      (fieldAt 0 0 (b2n x.tachLost) ||| fieldAt 1 1 (b2n (x.st == FanState.stallWait)) ||| fieldAt 2 2 (b2n x.overload)
        ||| fieldAt 3 3 (b2n x.openFlag) ||| fieldAt 4 4 (b2n (s.ppr f == 0)))
      [fieldAt 31 16 (s.fanSpeed f) ||| fieldAt 15 0 x.duty, fieldAt 31 16 (satU 16 iPeak) ||| fieldAt 15 0 (satU 16 iMean)]

/-- FAN_WINDOW (R448): a 1 s window of a conducting channel, its mean current (10 mA) and whether it saw tach. A STALL within a KICK is
counted once and leaves the KICK its 3.0 s, so that the cycle is RETRY_S + 3 s. -/
def fanWindow (s : State) (f : Fin 8) (i : Nat) (tach : Bool) : State :=
  let x := s.fan f
  if !s.fanLive || s.sup.safeNet || s.pwr.vffUv || x.duty = 0 then s else
    let nom := s.fanCfg f 4 0
    let noTach := !tach || s.ppr f == 0
    let high := decide (15 * nom < i)
    let low := decide (i < 2 * nom)
    let s := if noTach then s.updFan f fun y => { y with tachRun := 0 } else s
    if high && noTach && x.st == FanState.kick then
      if x.kickStall then s else
        ((s.updFan f fun y => { y with kickStall := true, openFlag := false }).count (fanBase f + 0x120)).flag (fanBase f) 0
    else if high && noTach then
      (((s.fanOff f .stallWait).updFan f fun y => { y with stallAt := s.now, openFlag := false }).count (fanBase f + 0x120)).flag (fanBase f) 0
    else
      let s := if !high && !low && noTach && s.ppr f != 0 && !x.tachLost then
          (s.updFan f fun y => { y with tachLost := true }).flag (fanBase f) 1 else s
      let s := s.flagIf (low && noTach && !x.openFlag) (fanBase f) 4
      s.updFan f fun y => { y with openFlag := low && noTach }

/-- FAN_START (R447): the target has risen above 0 % on a channel that has been off for 1 s. -/
def fanStart (s : State) (f : Fin 8) : State :=
  let x := s.fan f
  if s.fanLive && x.st == FanState.off && decide (x.offSince + 1000000000 ≤ s.now) && (s.fanTarget f).runs && !s.sup.safeNet then
    s.askInrush f .starting
  else s

/-- FAN_INRUSH_RELEASE (R447): 20 % of RPM_MAX reached, or 3.0 s; the target follows at the end of the period. -/
def fanInrushRelease (s : State) (f : Fin 8) : State :=
  let x := s.fan f
  if x.st == FanState.starting && !x.waiting && (decide (s.rpmMax f ≤ 5 * s.fanSpeed f) || decide (x.startReq + 3000000000 ≤ s.now)) then
    (s.releaseInrush f).toRun f
  else s

/-- FAN_INRUSH_JUDGE (R404): without an arbiter the FAN block judges each pending inrush against A_VFF, `iVff` in 10 mA. -/
def fanInrushJudge (s : State) (iVff : Nat) : State :=
  if !s.fanLive || s.arbRuns then s.settleInrush else
    let caps : Caps := ⟨0, (s.fld (pwrBase + 0x48) 4 0 * 100 : Nat) - (iVff : Int), 0, 0⟩
    ((s.arb.inrush.foldl (fun sc r => arbOne sc (.inrush r)) (s, caps)).1).settleInrush

/-- STALL_RETRY (R448): RETRY_S after the stall the channel makes a KICK. -/
def stallRetry (s : State) (f : Fin 8) : State :=
  let x := s.fan f
  if s.fanLive && x.st == FanState.stallWait && !x.shortSup && !s.sup.safeNet && decide (x.stallAt + s.fld (fanBase f + 0x44) 25 16 * 1000000000 ≤ s.now) then
    (s.askInrush f .kick).flag (fanBase f) 6
  else s

/-- KICK_END (R448): 3.0 s under the grant; `i` is the current (10 mA) and `tach` says that tach was seen in the last 1 s. Under
VFF_UV it is not judged, and the channel keeps its duty (R447). -/
def kickEnd (s : State) (f : Fin 8) (i : Nat) (tach : Bool) : State :=
  let x := s.fan f
  if x.st == FanState.kick && !x.waiting && !s.pwr.vffUv && decide (x.startReq + 3000000000 ≤ s.now) then
    let nom := s.fanCfg f 4 0
    let s := s.releaseInrush f
    if (tach && s.ppr f != 0) || (s.ppr f == 0 && decide (2 * nom ≤ i) && decide (i ≤ 15 * nom)) then s.toRun f
    else (s.fanOff f .stallWait).updFan f fun y => { y with stallAt := s.now }
  else s

/-- FAN_OVERLOAD (R449): not under the SAFE net (R445). -/
def fanOverload (s : State) (f : Fin 8) : State :=
  if s.sup.safeNet || (s.fan f).duty = 0 then s
  else ((s.fanOff f .off).updFan f fun x => { x with overload := true }).flag (fanBase f) 2

/-- FAN_SHORT_TRIP (R440, R449): it needs no clock and acts under the SAFE net too. -/
def fanShortTrip (s : State) (f : Fin 8) : State :=
  if (s.fan f).duty = 0 then s
  else ((s.fanOff f .off).updFan f fun x => { x with overload := true }).flag (fanBase f) 2

/-- FAN_SHORT_SUP (R449): a channel driven off reports it and stays off, until CLEAR of FAN_FLT_CLR (log entry 107). -/
def fanShortSup (s : State) (f : Fin 8) : State :=
  if (s.fan f).duty = 0 then ((s.fanOff f .off).updFan f fun x => { x with shortSup := true }).flag (fanBase f) 3 else s

/-- The on-interval of the period that begins: duty × period at 10 µs, less what a stretch has still to give back (R440, R441). -/
def fanOnInterval (s : State) (f : Fin 8) : State :=
  let x := s.fan f
  let p := 100000 / max 1 (s.fanCfg f 31 24)
  let on := x.duty * p / 1000
  let back := if x.duty = 1000 then 0 else min x.debt (min on (ceilDiv (x.stretch * p) 50000))
  s.updFan f fun y => { y with on := on - back, debt := x.debt - back }

/-- A new target at the end of a period (R442, R445, R446). A channel that has been off for less than 1 s takes its target with no
inrush; under VFF_UV a running channel keeps its duty (R447). -/
def fanNewTarget (s : State) (f : Fin 8) : State :=
  let x := s.fan f
  if !s.powered 11 || !s.clocked .fan || !s.en (fanBase f) || x.overload || x.shortSup then (if x.st = .off then s else s.fanOff f .off)
  else match x.st with
    | .off =>
      if (s.fanTarget f).runs && decide (s.now < x.offSince + 1000000000) then s.takeTarget f
      else s.updFan f fun y => { y with thermOff := s.thermStopped f }
    | .starting => if (s.fanTarget f).runs then s else s.fanOff f .off
    | .run | .safe => if s.pwr.vffUv then s else s.takeTarget f
    | _ => s

/-- FAN_PERIOD_END (R440): the target in force is applied, and the next on-interval begins; the SAFE net drives without a break. -/
def fanPeriodEnd (s : State) (f : Fin 8) : State := if s.sup.safeNet then s else (s.fanNewTarget f).fanOnInterval f

/-- FAN_FLT_CLR (R449); it also ends what SHORT_SUP holds (log entry 107). -/
def fanFltClear (s : State) (f : Fin 8) : State := s.updFan f fun x => { x with overload := false, shortSup := false }

/-- The SAFE net on every fan channel (R445). -/
def safeFans (s : State) : State :=
  let s := { s with fans := s.fans.map fun (x : Fan) => { x with st := .safe, duty := 1000, next := 1000, kickStall := false, waiting := false, on := 10000, debt := 0 } }
  { s with arb := { s.arb with inrush := [], inrushHeld := [] } }

/-- The SAFE net released: the target of R442 at the next period, the speed loop preset to 100 % (R445). -/
def releaseFans (s : State) : State := { s with fans := s.fans.map fun (x : Fan) => { x with preset := true } }

end State
end Sys2Proof.Machine
end

