-- ==== Sys2Proof/Machine/Dio.lean ====
section
/-!
DEFINITION. Isolated digital inputs and outputs (spec/12_digital_io.md): the group links and their timers, debounced
levels, edge records, counters, what each output drives, its values, faults, readback and field supply. Field groups are
numbered by their field supply: 0–7 the input groups, 8–11 the output groups.
-/
namespace Sys2Proof.Machine

def diBase (g : Nat) : Nat := pageBase .di g
def doBase (g : Nat) : Nat := pageBase .dio g

/-- Base of the register block of output i, 0–31. -/
def outBase (i : Nat) : Nat := doBase (i / 8) + 0x100 + 0x40 * (i % 8)

/-- Group of a digital output. -/
def outGroup (i : Fin 32) : Fin 4 := ⟨i / 8, by omega⟩

/-- Field group of an output group. -/
def dog (g : Fin 4) : Fin 12 := ⟨8 + g, by omega⟩
/-- Field group of an input group. -/
def dig (g : Fin 8) : Fin 12 := ⟨g, by omega⟩

/-- The field side as it powers up (R324). -/
def FieldSide.powerUp (f : FieldSide) : FieldSide :=
  { f with on := true, uv18 := false, uv15 := false, recover := none, silent := true, rcStop := false, silMs := 50,
           cfg := Vector.replicate 8 0, sent := none }

namespace State

def field (s : State) (g : Fin 12) : FieldSide := s.dio.field[g]
def updField (s : State) (g : Fin 12) (f : FieldSide → FieldSide) : State :=
  { s with dio := { s.dio with field := s.dio.field.set g (f s.dio.field[g]) } }
def diGroup (s : State) (g : Fin 8) : DiGroup := s.dio.di[g]
def updDi (s : State) (g : Fin 8) (f : DiGroup → DiGroup) : State :=
  { s with dio := { s.dio with di := s.dio.di.set g (f s.dio.di[g]) } }
def out (s : State) (i : Fin 32) : DoOut := s.dio.out[i]
def updOut (s : State) (i : Fin 32) (f : DoOut → DoOut) : State :=
  { s with dio := { s.dio with out := s.dio.out.set i (f s.dio.out[i]) } }

/-- The logic side of a group runs: DIO powered, its clock enable set, no clock fault, the supervisor not stopped. -/
def dioRuns (s : State) (g : Fin 12) : Bool :=
  s.powered 9 && !s.clockFault && s.clocked (if g.val < 8 then .di else .dio)

/-! ### Inputs -/

/-- Every input of group g is invalid (R330). -/
def diInvalid (s : State) (g : Fin 8) : Bool :=
  let f := s.field (dig g)
  f.repUv15 || !f.linkOk || !s.en (diBase g)

/-- DI_LEVEL after a change of a level or of validity (R330). -/
def settleDi (s : State) (g : Fin 8) : State :=
  let d := s.diGroup g
  let lv := (List.finRange 8).foldl (fun m k => m + b2n d.ch[k].acc * 2 ^ k.val) 0
  let a := diBase g + 0x40
  let old := s.rd a
  let v := (if s.diInvalid g then fieldAt 15 8 0xFF else 0#32) ||| fieldAt 7 0 lv
  let seq := if (old &&& 0xFFFF#32) = v then fieldOf old 31 24 else (fieldOf old 31 24 + 1) % 256
  s.wr a (fieldAt 31 24 seq ||| fieldAt 23 23 (b2n (d.seen && s.en (diBase g))) ||| v)

/-- An edge record (R332), with EDGE flagged. -/
def edgeRecord (s : State) (g : Fin 8) (k : Fin 8) (level pulsed : Bool) (stamp : Nat) : State :=
  let n := (s.rd (diBase g + 0x4C)) + 1
  let s := s.wr (diBase g + 0x4C) n
  (s.wrs (diBase g + 0x800 + 16 * (n.toNat % 128))
    [loWord stamp, hiWord stamp, n, fieldAt 7 0 (8 * g + k) ||| fieldAt 8 8 (b2n level) ||| fieldAt 9 9 (b2n pulsed)]).flag (diBase g) 0

def cntBase (g c : Nat) : Nat := diBase g + 0x100 + 0x20 * c

/-- The counter of a counting channel at an accepted change (R333, R334). -/
def countEdge (s : State) (g : Fin 8) (c : Fin 2) (level : Bool) (stamp : Nat) : State :=
  let edge := s.fld (cntBase g c) 2 1
  if s.bit (cntBase g c) 0 && (edge == 3 || (edge == 1 && level) || (edge == 2 && !level)) then
    let x := (s.diGroup g).cnt[c]
    let y : DiCount := { x with count := (x.count + 1) % 2 ^ 32, k := x.k + 1, tLast := some stamp,
                                tFirst := if x.k = 0 then stamp else x.tFirst }
    (s.updDi g fun d => { d with cnt := d.cnt.set c y }).setFld (cntBase g c + 8) 1 1 0
  else s

/-- The accepted level of a channel becomes `level`, with a stamp (R329). -/
def acceptLevel (s : State) (g k : Fin 8) (level : Bool) (stamp : Nat) : State :=
  let cfg := s.rd (diBase g + 0x80 + 4 * k)
  let s := s.updDi g fun d => { d with ch := d.ch.set k { d.ch[k] with acc := level } }
  let s := s.settleDi g
  let st := fieldOf cfg 9 8
  let s := if st = 3 ∨ (st = 1 ∧ level) ∨ (st = 2 ∧ !level) then s.edgeRecord g k level (s.diGroup g).ch[k].pulsed stamp else s
  if h : k.val < 2 then s.countEdge g ⟨k, h⟩ level stamp else s

/-- DI_ACCEPT (R329): channel k shows `level`. In continuous mode `seen` is the module instant of the first 50 MHz sample
that showed it: the raw level follows at once, and the level is accepted when it has lasted DEB; the stamp lies 240 ns before
that sample (R326). A change that reverts before then leaves nothing. In pulsed mode 1 + ceil(DEB / PERIOD) windows have
shown it. -/
def diAccept (s : State) (g k : Fin 8) (level : Bool) (seen : Nat) : State :=
  let c := (s.diGroup g).ch[k]
  let deb := s.fld (diBase g + 0x80 + 4 * k) 31 16
  if !s.dioRuns (dig g) || !s.en (diBase g) then s
  else if c.pulsed then
    if c.acc ≠ level ∧ c.raw = level ∧ 1 + ceilDiv deb (s.fld (diBase g + 0x48) 13 0) ≤ c.run then s.acceptLevel g k level c.first else s
  else
    let first := if c.raw = level then c.first else max c.first (min seen s.now)
    let s := s.updDi g fun d => { d with ch := d.ch.set k { d.ch[k] with raw := level, first := first } }
    if c.acc ≠ level ∧ first + deb * 1000 ≤ s.now then s.acceptLevel g k level (s.hwAt first - 240) else s

/-- The debounce of channel k restarts now, the accepted level is kept (R331). -/
def restartDeb (s : State) (g k : Fin 8) : State :=
  s.updDi g fun d => { d with ch := d.ch.set k { d.ch[k] with run := 0, first := s.now } }

/-- DI_PULSE_WINDOW (R326): the window instant of the group; `levels` is what the comparators latch 5.10 µs later. A change of
PULSED takes effect at it, and restarts the debounce (R331). -/
def diPulseWindow (s : State) (g : Fin 8) (levels : Nat) : State :=
  if !s.dioRuns (dig g) || !s.en (diBase g) || s.hwNs / 1000 % s.fld (diBase g + 0x48) 13 0 ≠ 0 then s else
    let st := s.hwNs + 5100
    let upd := fun (d : DiGroup) (k : Fin 8) =>
      let c := d.ch[k]
      if s.bit (diBase g + 0x80 + 4 * k) 1 then
        let l := levels.testBit k
        if c.pulsed && c.raw == l && decide (0 < c.run) then { c with stamp := st, run := c.run + 1 }
        else { c with raw := l, stamp := st, run := 1, first := st, pulsed := true }
      else if c.pulsed then { c with pulsed := false, run := 0, first := s.now } else c
    s.updDi g fun d => { d with ch := Vector.ofFn (upd d) }

/-- DI_GATE_END (R334). -/
def diGateEnd (s : State) (g : Fin 8) (c : Fin 2) : State :=
  let a := cntBase g c
  let gate := s.fld a 13 4
  let hw := s.hwNs / 1000000 * 1000000
  if !s.dioRuns (dig g) || !s.bit a 0 || hw / 1000000 % gate ≠ 0 then s else
    let x := (s.diGroup g).cnt[c]
    let sec := fun ns => F64.div (F64.ofNat ns) (F64.ofNat 1000000000)
    let prev := F32.widen (s.rd (a + 0x10))
    let timeout := s.fld a 31 16 * 1000000
    let r : F64 × Bool :=
      match x.tLast with
      | none => (F64.zero, false)
      | some tl =>
        if 1 ≤ x.k ∧ x.tRef.isSome then (F64.div (F64.ofNat x.k) (sec (tl - x.tRef.getD 0)), false)
        else if 2 ≤ x.k then (F64.div (F64.ofNat (x.k - 1)) (sec (tl - x.tFirst)), false)
        else if timeout ≤ hw - tl then (F64.zero, true)
        else (F64.min prev (F64.div F64.one (sec (hw - tl))), false)
    let was := s.bit (a + 8) 1
    let s := s.updDi g fun d => { d with cnt := d.cnt.set c { d.cnt[c] with k := 0, tRef := x.tLast } }
    let s := s.post (a + 8) (fieldAt 1 1 (b2n r.2) ||| fieldAt 0 0 (b2n (s.diInvalid g)))
      [toWord x.count, F64.narrow r.1, loWord hw, hiWord hw]
    s.flagIf (r.2 && !was) (diBase g) 4

/-- A write of CLEAR to CNTc_CLR (R333). -/
def cntClear (s : State) (g : Fin 8) (c : Fin 2) : State :=
  (s.updDi g fun d => { d with cnt := d.cnt.set c { d.cnt[c] with count := 0 } }).wr (cntBase g c + 0xC) 0

/-- CNT_EN of a counter has become 1: its edges so far are forgotten, COUNT is kept. -/
def cntEnabled (s : State) (g : Fin 8) (c : Fin 2) : State :=
  s.updDi g fun d => { d with cnt := d.cnt.set c { d.cnt[c] with k := 0, tLast := none, tRef := none, tFirst := 0 } }

/-- EN of an input group was written: VALID waits for a STATUS frame after EN is set, and validity follows EN (R330). -/
def diEnWritten (s : State) (g : Fin 8) (was now : Bool) : State :=
  (s.updDi g fun d => { d with seen := d.seen && was && now }).settleDi g

/-- The channels of a group whose TYPE a CMD frame changes: it takes effect there, and their debounce restarts (R331). -/
def typesTaken (s : State) (g : Fin 8) (old new : Vector Word 8) : State :=
  (List.finRange 8).foldl (fun s k => if bitOf old[k] 0 = bitOf new[k] 0 then s else s.restartDeb g k) s

/-! ### What an output drives (R336, R337) -/

/-- The level of a drive at the present instant. -/
def driveOn (s : State) : Drive → Bool
  | .steady b => b
  | .wave st p h => decide (p ≠ 0) && decide ((s.now - st) % p < h)

/-- Since when a drive has had its present level. -/
def driveSince (s : State) (since : Nat) : Drive → Nat
  | .steady _ => since
  | .wave st p h => if p = 0 then since else
    let ph := (s.now - st) % p
    if ph < h then s.now - ph else s.now - ph + h

/-- The switch-offs within a wave up to now. -/
def driveFalls (s : State) : Drive → Nat
  | .steady _ => 0
  | .wave st p h => if p = 0 ∨ h = 0 ∨ p ≤ h then 0 else (s.now - st) / p + b2n (decide (h ≤ (s.now - st) % p))

/-- The level of the safe state SAFE (R337), given the level driven when the row began to apply. -/
def safeLevel (safe : Nat) (held : Bool) : Bool := if safe = 1 then true else if safe = 2 then held else false

/-- The output is the one that REPL_CFG selects (R104). -/
def isRepl (s : State) (i : Nat) : Bool := s.bit (wearBase + 0x80) 8 && s.fld (wearBase + 0x80) 4 0 == i

/-- Row 8 applies by mode: RUN and CONSTRAINED; COMMISSION under an ENGINEER or SERVICE claim. -/
def outModeOn (s : State) (i : Fin 32) : Bool :=
  match s.sup.mode with
  | .run | .constrained => true
  | .commission => s.engineerHolds (doBase (i / 8)) (i % 8)
  | _ => false

/-- The logic side's row for an output, 5–8. -/
def laneRow (s : State) (i : Fin 32) : Nat :=
  if s.wear.replace && s.isRepl i then 5
  else match s.sup.mode with
    | .commission => if !s.en (doBase (i / 8)) then 6 else if s.outModeOn i then 8 else 7
    | .off | .boot | .standby | .maintenance => 6
    | _ => if s.en (doBase (i / 8)) then (if s.outModeOn i then 8 else 6) else 6

/-- The field side's row for an output, 1–4, or none. -/
def fieldRow (s : State) (i : Fin 32) : Option Nat :=
  let f := s.field (dog (outGroup i))
  let o := s.out i
  if !f.on || f.uv15 || f.recover.isSome || f.rcStop then some 1
  else if o.overload || o.ot then some 2
  else if s.sup.safeNet then some 3
  else if f.silent then some 4
  else none

/-! ### Values (R338) -/

/-- An output's own use of wear indicator 3 has passed its end (R344). -/
def outEnded (s : State) (i : Fin 32) : Bool := s.wear.ended[3] && decide (10000 < s.wear.doCycles[i] / 5000)

def outMode (s : State) (i : Nat) : Nat := s.fld (outBase i) 21 20
def outSrc (s : State) (i : Nat) : Nat := s.fld (outBase i) 25 24

/-- The top of the value range of output i under its MODE. -/
def doLimit (s : State) (i : Nat) : Nat := match s.outMode i with | 0 => 1 | 1 => 1000000 | _ => 10000

/-- The value SRC selects. A mirror that is invalid, or not yet evaluated, keeps the value last applied (R339). -/
def outValue (s : State) (i : Fin 32) : Nat :=
  let v := match s.outSrc i with
    | 0 => s.fld (outBase i + 4) 23 0
    | 1 => s.fld (outBase i + 8) 23 0
    | _ => if (s.out i).mirInv then (s.out i).value else (s.out i).mir.getD (s.out i).value
  min v (s.doLimit i)

/-- The value after the derating of R344, in units of R338. -/
def deratedValue (s : State) (i : Fin 32) (v : Nat) : Nat :=
  if s.outEnded i && s.outMode i == 1 then min v 1000 else v

/-- The drive of a value begun now. -/
def driveOf (s : State) (i : Fin 32) (v : Nat) : Drive :=
  match s.outMode i with
  | 0 => .steady (decide (1 ≤ v))
  | 1 =>
    if v < 10 then .steady false else
      let n := roundDiv 5000000000 v
      .wave s.now (n * 20) (n / 2 * 20)
  | _ =>
    if v = 0 then .steady false else if 10000 ≤ v then .steady true else
      let ms := s.fld (outBase i + 0xC) 13 0
      let per := if s.outEnded i then max ms 1000 else ms
      .wave s.now (per * 1000000) (roundDiv (v * per * 1000) 10000 * 1000)

/-- A mirrored output whose source is invalid drives its safe state (R339). -/
def mirSafe (s : State) (i : Fin 32) : Bool := s.outSrc i == 2 && (s.out i).mirInv && s.bit (outBase i) 16

/-- Readback is judged: the logic side runs and hears the field side, which is powered. -/
def rbRuns (s : State) (i : Fin 32) : Bool :=
  let f := s.field (dog (outGroup i))
  s.dioRuns (dog (outGroup i)) && f.linkOk && f.on

/-- What the drive of output i since its flags were set ends (R341): SHORT_SUP once it has been driven ON since it was set, RB_FAIL once
it has been driven OFF since. While the link is lost every flag stays as last reported (R323). -/
def endedFlags (s : State) (i : Fin 32) : Bool × Bool :=
  let o := s.out i
  if !s.rbRuns i then (false, false)
  else match o.out with
    | .steady b => (b, !b)
    | .wave _ p h =>
      let on := s.driveOn o.out
      let since := s.driveSince o.since o.out
      (on || (decide (0 < h) && decide (o.supAt < since)), !on || (decide (h < p) && decide (o.rbAt < since)))

/-- The readback flags that the drive has ended are cleared. -/
def settleFlags (s : State) (i : Fin 32) : State :=
  let e := s.endedFlags i
  let s := s.updOut i fun o => { o with shortSup := o.shortSup && !e.1, rbFail := o.rbFail && !e.2 }
  s.wr (outBase i + 0x20)
    (s.rd (outBase i + 0x20) &&& (if e.1 then 0xFFFFFFFD#32 else 0xFFFFFFFF#32) &&& (if e.2 then 0xFFFFFFEF#32 else 0xFFFFFFFF#32))

/-- The drive changes to `d`: the switch-offs up to now are kept for the wear count (R344), flags it ends go (R341), and the
level keeps the instant since which it has lasted. -/
def driveTo (s : State) (i : Fin 32) (d : Drive) (row : Nat) : State :=
  let o := s.out i
  let was := s.driveOn o.out
  let is := s.driveOn d
  if o.out = d then s.updOut i fun o => { o with row := row, held := if o.row = row then o.held else was }
  else
    ((s.settleFlags i).updOut i fun o =>
      { o with out := d, row := row, held := if o.row = row then o.held else was,
               since := if was = is then s.driveSince o.since o.out else s.now,
               offs := o.offs + s.driveFalls o.out + b2n (was && !is) }).settleFlags i

/-- The lane takes the value of row 8 now (R338). -/
def takeOut (s : State) (i : Fin 32) : State :=
  let v := s.deratedValue i (s.outValue i)
  let d := s.driveOf i v
  let derated := s.outEnded i && s.outMode i != 0
  let s := s.flagIf (derated && !(s.out i).derated) (doBase (i / 8)) 11
  let s := s.updOut i fun o => { o with lane := d, value := v, mode := s.outMode i, derated := derated }
  (s.wr (outBase i + 0x24) (toWord v)).setFld (outBase i + 0x20) 7 7 (b2n derated)

/-- The logic side's row, with row 8 of an invalid mirror that drives its safe state as 9. -/
def laneNow (s : State) (i : Fin 32) : Nat := if s.laneRow i = 8 ∧ s.mirSafe i then 9 else s.laneRow i

/-- The drive that rows 5–8 decide on the DRIVE lane: a period in progress goes on to its end (R338), SAFE as it stands holds
while rows 6 and 7 apply (R337). While the logic side is stopped the lane holds its level (R322). -/
def settleLane (s : State) (i : Fin 32) : State :=
  let o := s.out i
  if !s.dioRuns (dog (outGroup i)) then s.updOut i fun o => { o with lane := .steady (s.driveOn o.lane) }
  else
    let r := s.laneNow i
    let new := o.lrow != r
    let s := s.updOut i fun o => { o with lrow := r, lheld := if new then s.driveOn o.out else o.lheld }
    match r with
    | 8 =>
      match o.lane with
      | .wave .. => if new then s.takeOut i else s
      | .steady _ => s.takeOut i
    | 5 => s.updOut i fun o => { o with lane := .steady true }
    | _ => s.updOut i fun o => { o with lane := .steady (safeLevel (s.fld (outBase i) 31 30) o.lheld) }

/-- What output i drives, decided afresh (R336). -/
def settleOut (s : State) (i : Fin 32) : State :=
  let s := s.settleLane i
  let g := dog (outGroup i)
  let k : Fin 8 := ⟨i % 8, Nat.mod_lt _ (by decide)⟩
  let o := s.out i
  match s.fieldRow i with
  | some r =>
    let lvl := if r ≤ 2 then false else
      safeLevel (fieldOf ((s.field g).cfg[k]) 31 30) (if o.row = r then o.held else s.driveOn o.out)
    s.driveTo i (.steady lvl) r
  | none => s.driveTo i o.lane (if s.dioRuns g then s.laneRow i else o.row)

/-- Every output decided afresh. -/
def settleOuts (s : State) : State := (List.finRange 32).foldl settleOut s

/-- What a command makes of a state, with the DO of REPL_CFG driven where it has set REPLACE (R103, R104). -/
def lit (s u : State) : State := if u.wear.replace && !s.wear.replace then u.settleOuts else u

/-! ### Reports of the field side -/

/-- The flags of output i as the logic side last knew them: bits of OUTk_STAT FLAGS. -/
def repBit (s : State) (i : Fin 32) (b : Nat) (v : Bool) (evt : Nat) : State :=
  let was := s.bit (outBase i + 0x20) b
  (s.setFld (outBase i + 0x20) b b (b2n v)).flagIf (v && !was) (doBase (i / 8)) evt

/-- The logic side takes over what a STATUS frame carries (R323): undervoltage, OVERLOAD and OT of each output,
a SILENT spell that is over. It does nothing while the link or the logic side is down. -/
def report (s : State) (g : Fin 12) : State :=
  let f := s.field g
  if !f.linkOk || !s.dioRuns g then s
  else if h : g.val < 8 then
    let gd : Fin 8 := ⟨g, h⟩
    let s := s.flagIf (f.uv18 && !f.repUv18) (diBase g) 1
    let s := s.flagIf (f.uv15 && !f.repUv15) (diBase g) 2
    (s.updField g fun x => { x with repUv18 := f.uv18, repUv15 := f.uv15 }).settleDi gd
  else
    let gd := g.val - 8
    let s := s.flagIf (f.uv18 && !f.repUv18) (doBase gd) 5
    let s := s.flagIf (f.uv15 && !f.repUv15) (doBase gd) 6
    let s := s.flagIf f.silReport (doBase gd) 7
    let s := s.updField g fun x => { x with repUv18 := f.uv18, repUv15 := f.uv15, silReport := false }
    ((List.finRange 32).filter fun (i : Fin 32) => i.val / 8 == gd).foldl
      (fun s i => (s.repBit i 0 (s.out i).overload 0).repBit i 3 (s.out i).ot 3) s

/-! ### The link rows -/

/-- The words a CMD frame carries for the channels of a group (R323). -/
def cmdWords (s : State) (g : Fin 12) : List Word :=
  (List.range 8).map fun k => if g.val < 8 then s.rd (diBase g + 0x80 + 4 * k) else s.rd (outBase ((g - 8) * 8 + k))

/-- DIO_CMD_FRAME (R323): the logic side sends every group its configuration, unless it is held in reset, unpowered or
stopped by its clock. -/
def dioCmdFrame (s : State) : State :=
  (List.finRange 12).foldl (fun s g =>
    if s.dioRuns g then
      let sil := if g.val < 8 then 50 else s.fld (doBase (g - 8) + 0x40) 9 0
      s.updField g fun f => { f with sent := some (s.cmdWords g, sil, f.clears), clears := 0 }
    else s) s

/-- Clears latched overloads of output group g by mask. -/
def clearOver (s : State) (g mask : Nat) : State :=
  ((List.finRange 32).filter fun (i : Fin 32) => i.val / 8 == g && mask.testBit (i % 8)).foldl
    (fun s i => s.updOut i fun o => { o with overload := false }) s

/-- Load currents at switch-off, mA, of the outputs of group g: cycles above 100 mA are counted (R344). -/
def judgeOffs (s : State) (g : Nat) (loads : List Nat) : State :=
  ((List.finRange 32).filter fun (i : Fin 32) => i.val / 8 == g).foldl (fun s i =>
    let o := s.out i
    if o.offs = 0 then s else
      let s := s.updOut i fun o => { o with offs := 0 }
      if 100 < loads.getD (i % 8) 0 then
        (List.range o.offs).foldl (fun s _ => (s.count (outBase i + 0x28)).wearDo i) s
      else s) s

/-- A frame of group g, in either direction, whose CRC fails: counted in LINK_ERR_CNT (R323). -/
def linkErr (s : State) (g : Fin 12) : State :=
  let a := if g.val < 8 then diBase g + 0x50 else doBase (g - 8) + 0x44
  (s.count a).flagIf (decide (g.val < 8)) (diBase g) 5

/-- FIELD_CMD_FRAME (R324): the field side of group g receives the CMD frame sent last; one whose CRC fails (`good` false) is discarded
and counted (R323), and the clears it carried go with the next. `loads` are the load currents (mA) its outputs carried when they
last switched off. -/
def fieldCmdFrame (s : State) (g : Fin 12) (good : Bool) (loads : List Nat) : State :=
  let f := s.field g
  match f.sent with
  | none => s
  | some (ws, sil, clr) =>
    if !f.on then s
    else if !good then (s.updField g fun f => { f with sent := none, clears := f.clears ||| clr }).linkErr g
    else
      let cfg : Vector Word 8 := Vector.ofFn fun k => ws.getD k 0
      let s := s.updField g fun f =>
        { f with sent := none, silent := false, rcStop := false, lastCmd := s.now, silMs := sil, cfg := cfg }
      if h : g.val < 8 then s.typesTaken ⟨g, h⟩ f.cfg cfg else ((s.clearOver (g - 8) clr).judgeOffs (g - 8) loads).settleOuts.report g

/-- STATUS_FRAME (R323): a STATUS frame of group g arrives; one whose CRC fails (`good` false) is discarded and counted.
`limits`: the outputs of the group it reports in current limit, a bit each. -/
def statusFrame (s : State) (g : Fin 12) (good : Bool) (limits : Nat) : State :=
  if !s.dioRuns g || !(s.field g).on then s
  else if !good then s.linkErr g
  else
    let back := !(s.field g).linkOk
    let s := s.updField g fun f => { f with linkOk := true, lastStatus := s.now, rcStop := false }
    let s := if h : g.val < 8 then (if s.en (diBase g) then s.updDi ⟨g, h⟩ fun d => { d with seen := true } else s) else s
    let s := if back then s.updField g fun f =>
        { f with sent := some (s.cmdWords g, if g.val < 8 then 50 else s.fld (doBase (g - 8) + 0x40) 9 0, f.clears), clears := 0 }
      else s
    let s := if g.val < 8 then s else ((List.finRange 32).filter fun (i : Fin 32) => i.val / 8 == g.val - 8).foldl
      (fun s i => (s.updOut i fun o => { o with limit := limits.testBit (i % 8) }).settleFlags i) s
    (s.report g).settleOuts

/-- STATUS_TIMEOUT (R323): no valid STATUS frame for 1 ms. -/
def statusTimeout (s : State) (g : Fin 12) : State :=
  let f := s.field g
  if !s.dioRuns g || !f.linkOk || s.now < f.lastStatus + 900000 then s else
    let s := s.updField g fun f => { f with linkOk := false }
    if h : g.val < 8 then (s.flag (diBase g) 3).settleDi ⟨g, h⟩ else s.flag (doBase (g - 8)) 8

/-- SILENCE (R324): SIL_MS ±10 % without a valid CMD frame. -/
def silence (s : State) (g : Fin 12) : State :=
  let f := s.field g
  if !f.on || f.silent || s.now < f.lastCmd + f.silMs * 900000 then s else
    (s.updField g fun f => { f with silent := true, silReport := true }).settleOuts

/-- RC_STOP (R324): the clockless monitor forces the outputs of the group OFF. -/
def rcStopped (s : State) (g : Fin 12) : State :=
  (s.updField g fun f => { f with rcStop := true }).settleOuts

/-! ### Output faults (R340, R341) -/

/-- The field word of an output, as the field side holds it. -/
def fieldCfg (s : State) (i : Fin 32) : Word := (s.field (dog (outGroup i))).cfg[(⟨i % 8, Nat.mod_lt _ (by decide)⟩ : Fin 8)]

/-- DO_OVERLOAD (R340). -/
def doOverload (s : State) (i : Fin 32) : State :=
  if !s.driveOn (s.out i).out then s else
    let s := s.updOut i fun o => { o with overload := true, overAt := s.now }
    (s.settleOut i).report (dog (outGroup i))

/-- DO_RETRY (R340): with RETRY = 1, every 1 s, while the output is commanded on. -/
def doRetry (s : State) (i : Fin 32) : State :=
  let o := s.out i
  if o.overload && bitOf (s.fieldCfg i) 8 && decide (o.overAt + 900000000 ≤ s.now) then
    let t := (s.updOut i fun o => { o with overload := false }).settleOut i
    if t.driveOn (t.out i).out then t.report (dog (outGroup i)) else s
  else s

/-- DO_OT (R340). -/
def doOt (s : State) (i : Fin 32) : State :=
  ((s.updOut i fun o => { o with ot := true }).settleOut i).report (dog (outGroup i))

/-- DO_OT_CLEAR (R340). -/
def doOtClear (s : State) (i : Fin 32) : State :=
  ((s.updOut i fun o => { o with ot := false }).settleOut i).report (dog (outGroup i))

/-- A write of CLEAR to OUTk_FLT_CLR: it goes with the next CMD frame (R323, R340). -/
def doFltClear (s : State) (i : Fin 32) : State :=
  s.updField (dog (outGroup i)) fun f => { f with clears := f.clears ||| 2 ^ (i.val % 8) }

/-- DO_READBACK_FLAG (R341): 0 SHORT_SUP, 1 RB_FAIL, 2 OPEN. -/
def doReadbackFlag (s : State) (i : Fin 32) (which : Nat) : State :=
  let o := s.out i
  let on := s.driveOn o.out
  let since := s.driveSince o.since o.out
  let s := s.settleFlags i
  if !s.rbRuns i then s
  else match which with
    | 0 => if !on && decide (since + 2000000 ≤ s.now) then (s.updOut i fun o => { o with shortSup := true, supAt := s.now }).repBit i 1 true 1 else s
    | 1 => if on && !o.limit && !o.ot && !(s.field (dog (outGroup i))).uv15 && decide (since + 2000000 ≤ s.now) then
        (s.updOut i fun o => { o with rbFail := true, rbAt := s.now }).repBit i 4 true 4 else s
    | 2 => if on && s.bit (outBase i) 4 && decide (since + 10000000 ≤ s.now) then
        (s.updOut i fun o => { o with opened := true }).repBit i 2 true 2 else s
    | _ => s

/-- DO_READBACK_CLEAR (R341). -/
def doReadbackClear (s : State) (i : Fin 32) (which : Nat) : State :=
  if !s.rbRuns i then s
  else match which with
    | 0 => (s.updOut i fun o => { o with shortSup := false }).repBit i 1 false 1
    | 1 => (s.updOut i fun o => { o with rbFail := false }).repBit i 4 false 4
    | 2 => (s.updOut i fun o => { o with opened := false }).repBit i 2 false 2
    | _ => s

/-- DO_PERIOD_END (R338): the period in progress of output i ends and its value, or a new one, begins afresh. `load` is the load current at
the switch-off of the period, mA (R344). -/
def doPeriodEnd (s : State) (i : Fin 32) (load : Nat) : State :=
  let o := s.out i
  match o.lane with
  | .wave st p h =>
    if !s.dioRuns (dog (outGroup i)) || s.now < st + p then s else
      let s := if o.out == o.lane then
          let s := s.updOut i fun o => { o with out := .steady (decide (p ≤ h)), since := st + h }
          if decide (0 < h) && decide (h < p) && decide (100 < load) then (s.count (outBase i + 0x28)).wearDo i else s
        else s
      let s := (s.updOut i fun o => { o with lane := .steady (decide (p ≤ h)) }).settleFlags i
      s.settleOut i
  | .steady _ => s

/-! ### Field supplies (R343) -/

/-- The LEVEL lanes of a group read low: its field side has stopped (R322). -/
def lanesLow (s : State) (g : Fin 8) : State :=
  s.updDi g fun d => { d with ch := d.ch.map fun (c : DiChan) => if c.pulsed || !c.raw then c else { c with raw := false, first := s.now } }

/-- VFD_UNDERVOLT: field supply g below 18.0 V (0), below 15.0 V (1), or absent (2). -/
def vfdUndervolt (s : State) (g : Fin 12) (which : Nat) : State :=
  let s := s.updField g fun f => { f with
    uv18 := f.uv18 || which == 0, uv15 := f.uv15 || which == 1,
    on := f.on && which != 2, recover := if which = 0 then f.recover else none }
  let s := if h : g.val < 8 ∧ which = 2 then s.lanesLow ⟨g, h.1⟩ else s
  (s.settleOuts).report g

/-- VFD_UV_CLEAR: UV18 (0) or UV15 (1) clears; a field side that had lost its supply powers up (2) (R324), and its
outputs wait for VFD_RECOVER (R343). -/
def vfdUvClear (s : State) (g : Fin 12) (which : Nat) : State :=
  let s := s.updField g fun f =>
    match which with
    | 0 => { f with uv18 := false }
    | 1 => { f with uv15 := false, recover := if f.uv15 then some s.now else f.recover }
    | _ => if f.on then f else { f.powerUp with recover := some s.now }
  (s.settleOuts).report g

/-- VFD_RECOVER: VFD has stayed at 15.5 V or more for 100 ms ±10 %. -/
def vfdRecover (s : State) (g : Fin 12) : State :=
  match (s.field g).recover with
  | some t => if t + 90000000 ≤ s.now then (s.updField g fun f => { f with recover := none }).settleOuts else s
  | none => s

end State
end Sys2Proof.Machine
end

