-- ==== Sys2Proof/Machine/Xform.lean ====
section
/-!
DEFINITION. The transform engine (R25–R27, spec/01_the_module_and_its_work.md): moisture work before GNSS acquisition,
block by block.
-/
namespace Sys2Proof.Machine

def xformBase : Nat := pageBase .xform 0

/-- One 16,384-point transform: 29,696 engine cycles of 250 MHz, in ns (R25). -/
def blockNs : Nat := 118784

namespace State

/-- The engine is powered, and clocked while one of the enables of XFORM, CELL, MOIST and GNSS is 1 (R27). -/
def xfRuns (s : State) : Bool :=
  s.powered 3 && !s.clockFault && (s.clocked .xform || s.clocked .cell || s.clocked .moist || s.clocked .gnss)

def updXf (s : State) (f : Xform → Xform) : State := { s with xf := f s.xf }

/-- The engine takes the next block, if it runs: moisture work first; residual transforms are suspended in ENFORCE (R160). -/
def xfNext (s : State) : State :=
  if !s.xfRuns then s.updXf fun x => { x with work := 0 } else
  let s := if s.enfLevel = 0 then s else
    s.updXf fun x =>
      let q := x.moistQ.filter fun (j : XfJob) => match j with | .scan _ => true | _ => false
      { x with moistQ := q, waitAt := if q.isEmpty then none else x.waitAt }
  if !s.xf.moistQ.isEmpty then
    match s.xf.waitAt with
    | some t =>
      let w := min (s.now - t) 655350 / 10
      let s := s.updXf fun x => { x with work := 1, waitAt := none }
      (if s.fld (xformBase + 0x4C) 15 0 < w then s.wr (xformBase + 0x4C) (toWord w) else s).flag xformBase 0
    | none => s.updXf fun x => { x with work := 1 }
  else if 0 < s.xf.gnss4 then s.updXf fun x => { x with work := 2 }
  else if 0 < s.xf.gnss16 then s.updXf fun x => { x with work := 3 }
  else s.updXf fun x => { x with work := 0 }

/-- `n` blocks of moisture work arrive; what was completed for an earlier job of the same name is void. -/
def xfMoist (s : State) (j : XfJob) (n : Nat) : State :=
  let s := s.updXf fun x => { x with
    moistQ := x.moistQ ++ List.replicate n j, ready := x.ready.filter fun (y : XfJob) => y != j
    waitAt := if 2 ≤ x.work then some (x.waitAt.getD s.now) else x.waitAt }
  if s.xf.work = 0 then s.xfNext else s

/-- `n` blocks of a job have been transformed. -/
def xfDone (s : State) (j : XfJob) (n : Nat) : Bool := decide (n ≤ s.xf.ready.count j)

/-- The transforms of a job are used. -/
def xfUse (s : State) (j : XfJob) : State := s.updXf fun x => { x with ready := x.ready.filter fun (y : XfJob) => y != j }

/-- Bin-blocks of an acquisition pass arrive: `a` of 4,096 points, `b` of 16,384. -/
def xfGnss (s : State) (a b : Nat) : State :=
  let s := s.updXf fun x => { x with gnss4 := x.gnss4 + a, gnss16 := x.gnss16 + b }
  if s.xf.work = 0 then s.xfNext else s

/-- Acquisition work still in the engine. -/
def xfGnssBusy (s : State) : Bool := decide (0 < s.xf.gnss4 + s.xf.gnss16)

/-- Acquisition is abandoned: its queued work goes. -/
def xfGnssDrop (s : State) : State :=
  let s := s.updXf fun x => { x with gnss4 := 0, gnss16 := 0, sub := 0, work := if 2 ≤ x.work then 0 else x.work }
  if s.xf.work = 0 then s.xfNext else s

/-- Engine time of one step of a bin-block of `n` points: a transform costs N·log4(N)/4 + 1,024 cycles, the product N
cycles, of 4 ns (R373). -/
def stepNs (big : Bool) (sub : Nat) : Nat :=
  if sub = 1 then (if big then 65536 else 16384) else (if big then blockNs else 28672)

/-- XFORM_BLOCK_DONE (R25, R375): the step in the engine completes. -/
def xformBlockDone (s : State) : State :=
  if !s.xfRuns then s else
    match s.xf.work with
    | 0 => s
    | 1 => ((s.updXf fun x => { x with moistNs := x.moistNs + blockNs, moistQ := x.moistQ.drop 1, ready := x.ready ++ x.moistQ.take 1 }).count (xformBase + 0x50)).xfNext
    | w =>
      let big := w == 3
      let sub := s.xf.sub
      let s := s.updXf fun x =>
        { x with gnssNs := x.gnssNs + stepNs big sub, sub := if sub = 2 then 0 else sub + 1
                 gnss4 := if sub = 2 && !big then x.gnss4 - 1 else x.gnss4
                 gnss16 := if sub = 2 && big then x.gnss16 - 1 else x.gnss16 }
      (if sub = 1 then s else s.count (xformBase + 0x54)).xfNext

/-- XFORM_USE_POST (R27): every 1 s. -/
def xformUsePost (s : State) : State :=
  if !s.xfRuns then s else
    (s.post (xformBase + 0x40) 0 [toWord (s.xf.moistNs / 1000), toWord (s.xf.gnssNs / 1000)]).updXf
      fun x => { x with moistNs := 0, gnssNs := 0 }

/-- The engine runs again: work resumes from its queues (R424). -/
def xfResume (s : State) : State := if s.xf.work = 0 then s.xfNext else s

/-- The moisture work that a clock fault leaves in the queue: the transform in progress is discarded, and scans and the sweep
have ended; the residuals of readings wait (R138, R161, R424). -/
def xfKept (s : State) : List XfJob :=
  (if s.xf.work = 1 then s.xf.moistQ.drop 1 else s.xf.moistQ).filter fun (j : XfJob) => match j with | .resid _ => true | _ => false

/-- A clock fault discards the transform in progress (R424). -/
def xfFault (s : State) : State :=
  let was := s.xf.work != 0
  let q := s.xfKept
  (s.updXf fun x => { x with
    work := 0, gnss4 := 0, gnss16 := 0, sub := 0, moistQ := q, waitAt := none
    ready := x.ready.filter fun (j : XfJob) => match j with | .resid _ => true | _ => false }).flagIf was xformBase 1

end State
end Sys2Proof.Machine
end

