-- ==== Sys2Proof/Machine/Cell.lean ====
section
/-!
DEFINITION. The moisture cells (spec/04_moisture_cell_measurement.md): the rotation, dwells and their dumps, the posted
readings, range calibration, cable calibration, grain temperature and the interference scan.
-/
namespace Sys2Proof.Machine

def cellBase (n : Nat) : Nat := pageBase .cell n
def moistBase : Nat := pageBase .moist 0

/-- The converter of a cell. -/
def cellConv (n : Fin 16) : Fin 4 := ⟨n / 4, by omega⟩
/-- The cell of converter c in slot j. -/
def cellOf (c : Fin 4) (j : Nat) : Fin 16 := ⟨4 * c + j % 4, by omega⟩

/-- Range for the next reading (R122). -/
def rangeRule (range peak : Nat) (ovr : Bool) : Nat :=
  if ovr then range - 1
  else if 29491 < peak ∧ 0 < range then range - 1
  else if peak < 2621 ∧ range < 3 then range + 1
  else range

/-- The phases of the reset plan (R114, R159). -/
def resetPhases : List Nat := [0, 63, 250, 563, 0, 563, 250, 63]

namespace State

def cell (s : State) (n : Fin 16) : CellSt := s.cells.cell[n]
def updCell (s : State) (n : Fin 16) (f : CellSt → CellSt) : State :=
  { s with cells := { s.cells with cell := s.cells.cell.set n (f s.cells.cell[n]) } }
def grp (s : State) (c : Fin 4) : CellGrp := s.cells.grp[c]
def updGrp (s : State) (c : Fin 4) (f : CellGrp → CellGrp) : State :=
  { s with cells := { s.cells with grp := s.cells.grp.set c (f s.cells.grp[c]) } }

/-- The rotation runs (R116, R138, R139). -/
def cellRuns (s : State) : Bool :=
  s.powered 7 && s.clocked .cell && !s.clockFault &&
    (match s.sup.mode with
     | .standby | .commission | .run | .constrained | .safeHold => true
     | _ => false)

/-! ### Plans and corrections -/

def planTones (s : State) (n : Nat) : List Nat :=
  let a := cellBase n
  [s.fld (a + 0x48) 4 0, s.fld (a + 0x48) 12 8, s.fld (a + 0x48) 20 16, s.fld (a + 0x48) 28 24,
   s.fld (a + 0x4C) 4 0, s.fld (a + 0x4C) 12 8, s.fld (a + 0x4C) 20 16, s.fld (a + 0x4C) 28 24]

def planAmps (s : State) (n : Nat) : List Nat :=
  let a := cellBase n
  [s.fld (a + 0x50) 7 0, s.fld (a + 0x50) 15 8, s.fld (a + 0x50) 23 16, s.fld (a + 0x50) 31 24,
   s.fld (a + 0x54) 7 0, s.fld (a + 0x54) 15 8, s.fld (a + 0x54) 23 16, s.fld (a + 0x54) 31 24]

def planPhases (s : State) (n : Nat) : List Nat :=
  let a := cellBase n
  [s.fld (a + 0x58) 9 0, s.fld (a + 0x58) 19 10, s.fld (a + 0x58) 29 20, s.fld (a + 0x5C) 9 0,
   s.fld (a + 0x5C) 19 10, s.fld (a + 0x5C) 29 20, s.fld (a + 0x60) 9 0, s.fld (a + 0x60) 19 10]

/-- A plan that satisfies R112. -/
def planOk (s : State) (n : Nat) : Bool :=
  let t := s.planTones n
  let a := s.planAmps n
  t.all (fun x => decide (x < 24)) && decide t.Nodup && a.all (fun x => decide (1 ≤ x) && decide (x ≤ 250)) &&
    decide (a.sum ≤ 1000) && (s.planPhases n).all fun x => decide (x ≤ 999)

/-- G(r, i) of a group. -/
def gOf (s : State) (c : Fin 4) (r i : Nat) : Cx := (s.grp c).g.getD (24 * r + i) Cx.one

/-- A binary32 pair of a register table as a complex number. -/
def cxAt (s : State) (a : Nat) : Cx := ⟨F32.widen (s.rd a), F32.widen (s.rd (a + 4))⟩

/-- The stored standards of a cell at catalogue index i. -/
def stdAt (s : State) (n std i : Nat) : Cx := s.cxAt (cellBase n + 0x400 + 0x18 * i + 8 * std)

/-- True load admittance at index i: LOAD_G + jω·LOAD_C. -/
def loadY (s : State) (n i : Nat) : Cx :=
  ⟨F64.ofRat false (s.fld (cellBase n + 0x6C) 23 0) 100000000,
   F64.mul (omega i) (F64.ofRat false (s.fld (cellBase n + 0x68) 23 0) 100000000000000)⟩

end State

/-- The open-short correction F of R130, from Yo and Ys. -/
def openShort (yo ys y : Cx) : Cx :=
  let zs := Cx.inv ys
  let yO := Cx.inv (Cx.sub (Cx.inv yo) zs)
  Cx.sub (Cx.inv (Cx.sub (Cx.inv y) zs)) yO

/-- The load factor K of R130. -/
def loadFactor (yo ys yl load : Cx) : Cx := Cx.div load (openShort yo ys yl)

/-- The checks of R131 for one standard at one index: OPEN, SHORT, LOAD. -/
def stdOk (std i : Nat) (yo ys yl load : Cx) : Bool :=
  match std with
  | 0 => F64.le yo.abs (F64.mul (omega i) (F64.ofRat false 50 1000000000000))
  | 1 => F64.le (Cx.inv ys).abs (F64.ofNat 50)
  | _ =>
    let k := (loadFactor yo ys yl load).abs
    F64.le (F64.dec 5 1) k && F64.le k (F64.ofNat 2)

namespace State

/-- The stored table of a cell passes R131 at every index. -/
def tableOk (s : State) (n : Nat) : Bool :=
  (List.range 24).all fun i => (List.range 3).all fun std =>
    stdOk std i (s.stdAt n 0 i) (s.stdAt n 1 i) (s.stdAt n 2 i) (s.loadY n i)

/-- Yk from Ymk (R130). -/
def corrected (s : State) (n i : Nat) (ym : Cx) : Cx :=
  Cx.mul (loadFactor (s.stdAt n 0 i) (s.stdAt n 1 i) (s.stdAt n 2 i) (s.loadY n i))
    (openShort (s.stdAt n 0 i) (s.stdAt n 1 i) ym)

/-! ### Dumps -/

/-- The accumulators of a window under a dwell's plan. -/
def accOf (d : Dwell) (w : Window) : List (Int × Int) :=
  (d.tones.zip d.phases).map fun tp => demod (catN tp.1) tp.2 w.samples

/-- OVR of a window (R121). -/
def ovrOf (w : Window) : Bool := w.trip || decide (32640 ≤ peakOf w.samples)

/-- Ym of each tone of a dwell. -/
def ymOf (s : State) (c : Fin 4) (d : Dwell) (acc : List (Int × Int)) (n : Nat) (unit : Bool) : List Cx :=
  (acc.zip (d.tones.zip d.amps)).map fun x =>
    admittance x.1 n x.2.2 d.range (if unit then Cx.one else s.gOf c d.range x.2.1)

/-- The range the cell's next reading takes (TIA_NEXT): the fixed one, or the one R122 has decided. -/
def tiaNextOf (s : State) (n : Fin 16) : Nat :=
  let m := s.fld (cellBase n + 0x40) 2 0
  if m = 0 then (s.cell n).tiaNext else m - 1

/-- The range the cell's next reading takes after a dump (R122); one that EN or TIA_MODE has set since stands. -/
def setNext (s : State) (n : Fin 16) (range peak : Nat) (ovr : Bool) : State :=
  if s.fld (cellBase n + 0x40) 2 0 ≠ 0 ∨ (s.cell n).rangeSet then s else
    let r := rangeRule range peak ovr
    (s.flagIf (r != range) (cellBase n) 8).updCell n fun x => { x with tiaNext := r }

/-- The measurement after one more reading of its slot (R129, R131): the range is sought until two consecutive readings agree
on it, then four readings are averaged. -/
def calStep (r : CalRun) (ym : List Cx) (peak : Nat) (ovr : Bool) : CalRun :=
  let r := { r with bad := r.bad || ovr }
  if r.ranging then
    if r.last = some r.range then { r with ranging := false, last := none }
    else { r with last := some r.range, range := rangeRule r.range peak ovr }
  else
    let sums := if r.n = 0 then ym else List.zipWith Cx.add r.sums ym
    if r.n + 1 < 4 then { r with n := r.n + 1, sums := sums }
    else { r with n := 0, sums := [], grp := r.grp + 1, ranging := decide (r.std ≠ 1),
                  done := r.done ++ sums.map fun y => Cx.unscale y (F64.ofNat 4) }

/-- MOIST gives this reading of a cell a residual (R160): every 64th, with RESID_EN, while MOIST computes for the cell. -/
def residWanted (s : State) (n : Fin 16) : Bool :=
  s.bit (moistBase + 0x40 + 4 * n) 17 && s.bit (moistBase + 0x40 + 4 * n) 7 && s.clocked .moist && s.en moistBase &&
    ((s.cell n).residN + 1) % 64 == 0 && s.enfLevel == 0

/-- The dump at the end of a dwell. -/
def dump (s : State) (c : Fin 4) (d : Dwell) (w : Window) : State :=
  let n := d.cell
  let acc := accOf d w
  let peak := peakOf w.samples
  let ovr := ovrOf w
  match d.kind with
  | .read =>
    let x := s.cell n
    let due := s.residWanted n
    let blocks := match d.tones, d.phases with
      | t :: _, p :: _ => demodBlocks (catN t) p w.samples
      | _, _ => []
    let dn : CellDone :=
      ⟨d, acc, blocks, peak, ovr, w.exc, w.guard, x.rtd, s.bit (cellBase n + 0x40) 8, s.hwAt (d.start + 10500000), due⟩
    let s := s.updGrp c fun g => { g with done := some dn }
    let s := s.updCell n fun y => { y with residN := y.residN + 1, rtd := none
                                           residCap := if due then some (d.tones, w.samples.take 16384) else none }
    let s := if due then s.xfMoist (.resid n) 1 else s
    s.setNext n d.range peak ovr
  | .cal _ =>
    match (s.cell n).cal with
    | some r => s.updCell n fun y => { y with cal := some (calStep r (s.ymOf c d acc 950000 false) peak ovr) }
    | none => s
  | .scan =>
    let xs := w.samples.take 16384
    (s.updCell n fun y => { y with scan := false, scanCap := some (xs, w.trip || decide (32640 ≤ peakOf xs)) }).xfMoist (.scan n) 1
  | .lost => s
  | .rcal _ => s.updGrp c fun g => { g with run := g.run ++ s.ymOf c d acc 950000 true, slots := g.slots + 1 }
  | .sweep _ =>
    let s := { s with moist := { s.moist with sweep := s.moist.sweep.map fun (x : Sweep) => { x with cap := some (d, w) } } }
    (if s.enfLevel = 0 then s.xfMoist .sweep 57 else s).setNext n d.range peak ovr

/-! ### Dwells -/

/-- Catalogue indices of a group of R127. -/
def groupTones (g : Nat) : List Nat := (List.range 8).map fun k => 8 * g + k

/-- What cell n takes its slot for, if anything. The phases of calibration tones: log entry 100. -/
def dwellOf (s : State) (c : Fin 4) (n : Fin 16) : Option Dwell :=
  let g := s.grp c
  let x := s.cell n
  let us := s.fld (cellBase n + 0x40) 23 16
  if g.rcal = 1 ∧ g.slots < 12 then
    some ⟨n, .rcal g.slots, groupTones (g.slots % 3), List.replicate 8 8000, List.replicate 8 0, 0, g.slots / 3, s.now, us⟩
  else if !s.en (cellBase n) then none
  else match x.cal with
    | some r =>
      if r.grp < 3 then
        some ⟨n, .cal r.grp, groupTones r.grp, List.replicate 8 (if r.std = 1 then 125 else 8000), resetPhases, 0, r.range, s.now, us⟩
      else none
    | none =>
      if x.scan then some ⟨n, .scan, s.planTones n, List.replicate 8 0, s.planPhases n, 0, 3, s.now, us⟩
      else
        let r := s.tiaNextOf n
        let plan : Dwell := ⟨n, .read, s.planTones n, (s.planAmps n).map (· * 64), s.planPhases n, s.fld (cellBase n + 0x44) 15 0, r, s.now, us⟩
        match s.moist.sweep with
        | some w =>
          if w.cell = n then
            if w.cap.isSome then none
            else some ⟨n, .sweep w.grp, groupTones w.grp, List.replicate 8 8000, resetPhases, 0, r, s.now, us⟩
          else some plan
        | none => some plan

/-- The next dwell of converter c begins in slot j, for its cell or for an RCAL. -/
def startDwell (s : State) (j : Nat) (c : Fin 4) : State :=
  let n := cellOf c j
  let s := s.updGrp c fun g => { g with dwell := s.dwellOf c n }
  if (s.grp c).dwell.isSome then s.updCell n fun x => { x with rangeSet := false } else s

/-- A dwell of cell n in progress, and a reading of it not yet posted, come to nothing. -/
def loseDwell (s : State) (n : Fin 16) : State :=
  s.updGrp (cellConv n) fun g => { g with
    dwell := g.dwell.map fun (d : Dwell) => if d.cell = n then { d with kind := .lost } else d
    done := g.done.filter fun (d : CellDone) => d.dwell.cell != n }

/-! ### Excitation and multiplexer (R109, R117, R124) -/

/-- What converter c does now: a break of 2 µs, the discharge of DISCH_US, the settling, the window from 1 ms on. -/
def dwellPhase (s : State) (c : Fin 4) : DwellPhase :=
  match (s.grp c).dwell with
  | none => .idle
  | some d =>
    let t := s.now - d.start
    if t < 2000 then .break_ else if t < 2000 + 1000 * d.disch then .discharging else if t < 1000000 then .settling else .integrating

/-- The code of converter c's DAC now: the dwell's plan from the slot start on, counted in samples of 20 ns from the window's
first; 0 in an idle slot. -/
def dacOut (s : State) (c : Fin 4) : Int :=
  match (s.grp c).dwell with
  | none => 0
  | some d => dacCode ((d.tones.map catN).zip (d.amps.zip d.phases)) (((s.now - d.start) / 20 : Nat) - (50000 : Int))

/-- The voltage that drives the electrode: the DAC's, once the excitation is applied; none while the port is bled or tied to
PGND, and none at a clock fault, which mutes the buffers. -/
def excitation (s : State) (c : Fin 4) : Int :=
  match s.dwellPhase c with
  | .settling | .integrating => if s.clockFault then 0 else s.dacOut c
  | _ => 0

/-- IDLE_CYC of an enforcement level (R435). -/
def idleCyc : Nat → Nat
  | 0 => 0 | 1 => 1 | 2 => 3 | _ => 7

/-- A cycle starts: whether it is idle (R119). -/
def cycleStart (s : State) : State :=
  let k := idleCyc s.enfLevel
  let left := min s.cells.idleLeft k
  let s := (List.range 16).foldl (fun s n => s.setFld (cellBase n + 0x84) 15 8 k) s
  { s with cells := { s.cells with idle := decide (0 < left), idleLeft := if 0 < left then left - 1 else k } }

/-- CELL_SLOT_START (R117): the dump of every dwell in progress with what its converter saw, then the next dwells. -/
def cellSlotStart (s : State) (ws : Vector Window 4) : State :=
  if !s.cellRuns then s else
    let s := (List.finRange 4).foldl (fun s c =>
      match (s.grp c).dwell with
      | some d => (s.dump c d ws[c]).updGrp c fun g => { g with dwell := none }
      | none => s) s
    let j := s.cells.slot
    let s := if j = 0 then s.cycleStart else s
    let s := if s.cells.idle then s else
      (List.finRange 4).foldl (startDwell · j) s
    { s with cells := { s.cells with slot := (j + 1) % 4 } }

/-- RTD_GATE_END (R135): the RTD of the cell dwelling on converter c. -/
def rtdGateEnd (s : State) (c : Fin 4) (r : F64) (brk : Bool) : State :=
  match (s.grp c).dwell with
  | some d =>
    if s.cellRuns && d.kind == DwellKind.read && s.bit (cellBase d.cell + 0x40) 8 then s.updCell d.cell fun x => { x with rtd := some ⟨r, brk⟩ } else s
  | none => s

/-! ### Posting -/

/-- GRAIN_T, RTD_OPEN and RTD_SHORT (R135, R136). -/
def grainT (d : CellDone) : Nat × Bool × Bool :=
  match d.rtdEn, d.rtd with
  | true, some r =>
    if r.brk || F64.lt (F64.ofNat 1700) r.r then (0x8000, true, false)
    else if F64.lt r.r (F64.ofNat 800) then (0x8000, false, true)
    else
      let t := Iec.temp r.r (F64.ofNat 1000)
      (satS 16 (((F64.val (F64.mul t (F64.ofNat 64))).roundAway).getD 0), false, false)
  | _, _ => (0x8000, false, false)

/-- CELL_POST (R117, R125, R134): the reading dumped last on converter c is computed and posted. -/
def cellPost (s : State) (c : Fin 4) : State :=
  match (s.grp c).done with
  | none => s
  | some d =>
    if !s.cellRuns then s else
      let n := d.dwell.cell
      let b := cellBase n
      let s := s.updGrp c fun g => { g with done := none }
      let rc := !(s.grp c).g.isEmpty
      let cv := (s.cell n).calValid
      let fix := fun (i : Nat) (y : Cx) => if cv then s.corrected n i y else y
      let ym := s.ymOf c d.dwell d.acc 950000 false
      let yc := (d.dwell.tones.zip ym).map fun x => fix x.1 x.2
      let raw := !cv || s.bit (b + 8) 1
      let t0 := d.dwell.tones.headD 0
      let a0 := d.dwell.amps.headD 1
      let openC := F64.ofRat false (s.fld (b + 0x64) 23 0) 100000000000000
      let low := fun (y : Cx) => F64.lt (F64.div y.im (omega t0)) openC
      let blk := d.blocks.map fun a => fix t0 (admittance a 50000 a0 d.dwell.range (s.gOf c d.dwell.range t0))
      let y0 := yc.headD Cx.zero
      let cellOpen := rc && (low y0 || blk.any low)
      let cellShort := rc && F64.lt (F64.dec 50 3) y0.abs
      let (gt, ro, rs) := grainT d
      let bad := d.ovr || cellOpen || cellShort || d.exc || d.guard || !rc
      let fl := b2n d.ovr + 2 * b2n cellOpen + 4 * b2n cellShort + 8 * b2n d.exc + 16 * b2n d.guard + 32 * b2n (!rc || !cv)
        + 64 * b2n ro + 128 * b2n rs + 256 * b2n raw
      let nan : F32 := 0x7FC00000#32
      let words := (if raw then ym else yc).flatMap fun y => if bad then [nan, nan] else [F64.narrow y.re, F64.narrow y.im]
      let rest := fieldAt 21 20 d.dwell.range ||| fieldAt 9 0 fl
      let s := s.post (b + 0x100) rest ([loWord d.stamp, hiWord d.stamp] ++ words.take 8)
      let s := s.post (b + 0x140) rest ([toWord gt, fieldAt 31 16 d.dwell.planId ||| fieldAt 15 0 d.peak] ++ words.drop 8)
      let s := s.count (b + 0x88)
      let s := if d.ovr then s.count (b + 0x8C) else s
      let s := s.flag b 0
      let s := ((((s.flagIf d.ovr b 1).flagIf cellOpen b 2).flagIf cellShort b 3).flagIf d.exc b 4).flagIf d.guard b 5
      let s := (s.flagIf ro b 6).flagIf rs b 7
      let at_ := fun (o : Nat) => (List.range 11).map fun j => s.rd (b + o + 4 * j)
      let m : MoistCell := { s.moist.cell[n] with due := some ⟨d.dwell.tones, at_ 0x100 ++ at_ 0x140, d.resid⟩ }
      { s with moist := { s.moist with cell := s.moist.cell.set n m } }

/-! ### Range calibration (R127, R128) -/

/-- An RCAL of a group starts. -/
def rcalStart (s : State) (c : Fin 4) : State :=
  s.updGrp c fun g => { g with rcal := 1, run := [], slots := 0 }

/-- TIA_MODE was written: a fixed range is the one that auto starts from (R122). -/
def tiaModeWritten (s : State) (n : Fin 16) (old : Word) : State :=
  let was := fieldOf old 2 0
  let m := s.fld (cellBase n + 0x40) 2 0
  if m ≠ 0 then s.updCell n fun x => { x with tiaNext := m - 1, rangeSet := true }
  else if was ≠ 0 then s.updCell n fun x => { x with tiaNext := was - 1, rangeSet := true }
  else s

/-- EN of a cell has been written: the first enable of the group since BOOT starts an RCAL, the first reading takes range
0, a cleared EN abandons a cable calibration (R116, R122, R128, R133). -/
def cellEnWritten (s : State) (n : Fin 16) (was now : Bool) : State :=
  if !was && now then
    let s := s.updCell n fun x => { x with tiaNext := 0, rangeSet := true }
    let g := s.grp (cellConv n)
    if g.started then s else
      let s := s.updGrp (cellConv n) fun x => { x with started := true }
      if g.rcal = 1 then s else s.rcalStart (cellConv n)
  else if was && !now then
    if (s.cell n).cal.isSome then
      ((s.updCell n fun x => { x with cal := none, pend := Vector.replicate 3 none }).wr (cellBase n + 0x74) 4#32).loseDwell n
    else s
  else s

/-- RCAL_DONE (R127): G(r, i) = Ym(r, i) / Yref(r, i); it fails above 0.20 at any range and frequency. -/
def rcalDone (s : State) (c : Fin 4) : State :=
  let g := s.grp c
  if g.rcal ≠ 1 ∨ g.slots < 12 then s else
    let ys := (withIndex g.run).map fun x => Cx.div x.2 ⟨Config.yrefRe (4 * c + x.1 / 24) (x.1 % 24), Config.yrefIm (4 * c + x.1 / 24) (x.1 % 24)⟩
    let ok := ys.all fun y => F64.le (Cx.sub y Cx.one).abs (F64.dec 2 1)
    if ok then s.updGrp c fun x => { x with rcal := 2, g := ys, run := [], slots := 0 }
    else s.updGrp c fun x => { x with rcal := 3, run := [], slots := 0 }

/-! ### Cable calibration (R129–R133) -/

/-- MEAS_OPEN, MEAS_SHORT or MEAS_LOAD, already judged. Range seeking begins at range 0 (log entry 60). -/
def calStart (s : State) (n : Fin 16) (std : Nat) : State :=
  ((s.updCell n fun x => { x with cal := some ⟨std, 0, 0, decide (std ≠ 1), none, 0, [], false, []⟩ }).setFld (cellBase n + 0x74) 2 0 1).loseDwell n

/-- CAL_VALID of a cell changes, in both registers that show it. -/
def setCalValid (s : State) (n : Fin 16) (v : Bool) : State := s.updCell n fun x => { x with calValid := v }

/-- CAL_MEAS_DONE (R131): a measurement is judged and held pending, or fails. What LOAD is judged with, and what a failure leaves
pending: log entry 102. -/
def calMeasDone (s : State) (n : Fin 16) : State :=
  match (s.cell n).cal with
  | none => s
  | some r =>
    if r.grp < 3 then s else
      let a := cellBase n + 0x74
      let x := s.cell n
      let held := fun (std : Fin 3) (i : Nat) => match x.pend[std] with | some l => l.getD i Cx.zero | none => s.stdAt n std i
      let ok := (withIndex r.done).all fun y =>
        match r.std with
        | 0 => stdOk 0 y.1 y.2 Cx.zero Cx.zero Cx.zero
        | 1 => stdOk 1 y.1 Cx.zero y.2 Cx.zero Cx.zero
        | _ => stdOk 2 y.1 (held 0 y.1) (held 1 y.1) y.2 (s.loadY n y.1)
      let fail := if r.bad then 1 else if ok then 0 else 2 + r.std
      let s := s.updCell n fun y => { y with cal := none }
      if fail ≠ 0 then ((s.setFld a 2 0 3).setFld a 11 8 fail).flag (cellBase n) 10
      else
        let std : Fin 3 := ⟨r.std % 3, Nat.mod_lt _ (by decide)⟩
        let s := s.updCell n fun y => { y with pend := y.pend.set std (some r.done) }
        ((((s.setFld a 2 0 2).setFld a 11 8 0).setFld a (4 + std) (4 + std) 1)).flag (cellBase n) 9

/-- COMMIT, already judged: the pending standards go into the table, which the configuration store keeps. They are pending no longer
(log entry 102). -/
def calCommit (s : State) (n : Fin 16) : State :=
  let x := s.cell n
  let s := (List.finRange 3).foldl (fun s std =>
    match x.pend[std] with
    | some l => (withIndex l).foldl (fun s iy =>
        let a := cellBase n + 0x400 + 0x18 * iy.1 + 8 * std
        (s.wrKept a (F64.narrow iy.2.re)).wrKept (a + 4) (F64.narrow iy.2.im)) s
    | none => s) s
  ((s.updCell n fun y => { y with pend := Vector.replicate 3 none }).setFld (cellBase n + 0x74) 6 4 0).setCalValid n true

/-- DISCARD. -/
def calDiscard (s : State) (n : Fin 16) : State :=
  (s.updCell n fun y => { y with pend := Vector.replicate 3 none }).setFld (cellBase n + 0x74) 6 4 0

/-- VALIDATE. -/
def calValidate (s : State) (n : Fin 16) : State := s.setCalValid n (s.tableOk n)

/-- The measurements in progress are abandoned (R133). -/
def calAbort (s : State) : State :=
  (List.finRange 16).foldl (fun s n =>
    if (s.cell n).cal.isSome then
      ((s.updCell n fun x => { x with cal := none, pend := Vector.replicate 3 none }).wr (cellBase n + 0x74) 4#32).loseDwell n
    else s) s

/-! ### Scan (R137) and clock faults (R138) -/

/-- SCAN_DONE (R137): XFORM has transformed the capture; NOISE of every catalogue frequency is posted. -/
def scanDone (s : State) (n : Fin 16) : State :=
  match (s.cell n).scanCap with
  | none => s
  | some (xs, ovr) =>
    if !(s.cellRuns && s.xfDone (.scan n) 1) then s else
      let s := (s.updCell n fun x => { x with scanCap := none }).xfUse (.scan n)
      let ws := (List.range 12).map fun j => fieldAt 31 16 (noisePa xs (2 * j + 1)) ||| fieldAt 15 0 (noisePa xs (2 * j))
      (s.post (cellBase n + 0x700) (fieldAt 0 0 (b2n ovr)) ws).flag (cellBase n) 11

/-- The cell chain stops: the rotation will start at slot 0, what was being measured ends (R116, R133). -/
def cellStop (s : State) : State :=
  let s := (List.finRange 4).foldl (fun s c =>
    s.updGrp c fun g => { g with dwell := none, done := none, run := [], slots := 0, rcal := if g.rcal = 1 then (if g.g.isEmpty then 0 else 2) else g.rcal }) s
  let s := s.calAbort
  let s := { s with cells := { s.cells with cell := s.cells.cell.map fun (x : CellSt) => { x with scan := false, scanCap := none, residCap := none } } }
  { s with cells := { s.cells with slot := 0, idle := false, idleLeft := 0 } }

/-- A clock fault: the dwells are lost (R138). Captures whose residual transform is done or still waits are kept (R424). -/
def cellFault (s : State) : State :=
  let kept := s.xfKept ++ s.xf.ready
  let caps := s.cells.cell.mapIdx fun i (x : CellSt) => if kept.any fun (j : XfJob) => match j with | .resid n => n.val == i | _ => false then x.residCap else none
  let s := ((List.finRange 4).foldl (fun (s : State) (c : Fin 4) =>
    match (s.grp c).dwell with | some d => s.flag (cellBase d.cell) 12 | none => s) s).cellStop
  { s with cells := { s.cells with cell := Vector.zipWith (fun (x : CellSt) r => { x with residCap := r }) s.cells.cell caps } }

end State
end Sys2Proof.Machine
end

