-- ==== Sys2Proof/Machine/Moist.lean ====
section
/-!
DEFINITION. MOIST (spec/05_moisture_computation_and_calibration.md): permittivity, ψ, interpolation, density, flags,
averages, captures, sweeps, residuals, and the grain-type tables of the calibration window.
-/
namespace Sys2Proof.Machine

/-- Start of the calibration window, and of grain type g's block. -/
def calWindow : Nat := 0x01200000
def gtBase (g : Nat) : Nat := calWindow + g * 0x2000
def moistRes (n : Nat) : Nat := moistBase + 0x400 + 0x40 * n
def moistCap (n : Nat) : Nat := moistBase + 0x800 + 0x20 * n
def mcfg (n : Nat) : Nat := moistBase + 0x40 + 4 * n

/-- Rounded to the nearest whole number, halves away from zero. -/
def F64.nearest (x : F64) : Int := ((F64.val x).roundAway).getD 0

namespace State

def moistCell (s : State) (n : Fin 16) : MoistCell := s.moist.cell[n]
def updMoist (s : State) (n : Fin 16) (f : MoistCell → MoistCell) : State :=
  { s with moist := { s.moist with cell := s.moist.cell.set n (f s.moist.cell[n]) } }

/-- MOIST computes: clocked, EN = 1, in the modes of the cells (R141, R161); what the cells do meanwhile does not matter. -/
def moistRuns (s : State) : Bool :=
  s.powered 1 && s.clocked .moist && s.en moistBase && !s.clockFault &&
    (match s.sup.mode with
     | .standby | .commission | .run | .constrained | .safeHold => true
     | _ => false)

/-- The module with a posted reading of cell n as its CELL page showed it. -/
def withReading (s : State) (n : Fin 16) (r : CellRead) : State :=
  (s.wrs (cellBase n + 0x100) (r.words.take 11)).wrs (cellBase n + 0x140) (r.words.drop 11)

/-! ### Grain-type tables (R148, R149, R152) -/

def gtPlan (s : State) (g : Nat) : Nat := s.fld (gtBase g) 31 16
def gtCatL (s : State) (g : Nat) : Nat := s.fld (gtBase g + 4) 7 0
def gtCatH (s : State) (g : Nat) : Nat := s.fld (gtBase g + 4) 15 8
def gtNK (s : State) (g : Nat) : Nat := s.fld (gtBase g + 4) 23 16
def gtFormat (s : State) (g : Nat) : Nat := s.fld (gtBase g + 4) 31 24
def gtW (s : State) (g : Nat) : F32 := s.rd (gtBase g + 8)
def gtDA (s : State) (g : Nat) : F32 := s.rd (gtBase g + 12)
def gtDB (s : State) (g : Nat) : F32 := s.rd (gtBase g + 16)
/-- Knot i: its X. -/
def knotX (s : State) (g i : Nat) : F32 := s.rd (gtBase g + 128 + 32 * i)
/-- Moisture at knot i and temperature Tj. -/
def knotM (s : State) (g i j : Nat) : Nat :=
  let a := gtBase g + 128 + 32 * i + 4 + 2 * j
  if a % 4 = 0 then s.fld a 15 0 else s.fld (a - 2) 31 16

/-- The words of a window from an address, as bytes. -/
def bytesAt (s : State) (a n : Nat) : List Byte := (List.range n).flatMap fun i => wordBytes (s.rd (a + 4 * i))

/-- A grain-type block passes (R152). -/
def gtOk (s : State) (g : Nat) : Bool :=
  let nk := s.gtNK g
  let xs := (List.range nk).map fun i => s.knotX g i
  s.gtFormat g == 1 && decide (s.gtCatL g < 24) && decide (s.gtCatH g < 24) && s.gtCatL g != s.gtCatH g &&
    decide (2 ≤ nk) && decide (nk ≤ 252) && F32.isFinite (s.gtW g) && F32.isFinite (s.gtDA g) && F32.isFinite (s.gtDB g) &&
    F32.lt F32.zero (s.gtDA g) && xs.all F32.isFinite && (xs.zip (xs.drop 1)).all (fun p => F32.lt p.1 p.2) &&
    toWord (crc32 (s.bytesAt (gtBase g) 31 ++ s.bytesAt (gtBase g + 128) (8 * nk))).toNat == s.rd (gtBase g + 124)

/-- Bit g of GT_VALID; a change is flagged. -/
def setGtValid (s : State) (g : Nat) (v : Bool) : State :=
  let w := withField s.moist.gtValid g g (b2n v)
  ({ s with moist := { s.moist with gtValid := w } }).flagIf (w != s.moist.gtValid) moistBase 7

/-- VALIDATE of GT_CMD. -/
def gtValidate (s : State) (g : Nat) : State := s.setGtValid g (s.gtOk g)

/-! ### A result (R143–R154) -/

end State

/-- What one computation yields. -/
structure MoistOut where
  flags : Nat
  temp : Nat
  /-- ε′L, ε″L, ε′H, ε″H. -/
  eps : Option (F64 × F64 × F64 × F64)
  psi : Option F64
  moist : Nat
  density : Nat
  deriving DecidableEq, Repr

/-- The permittivity pair of R143 from a posted admittance, tone index and C0. -/
def permittivity (re im : F64) (i : Nat) (c0 : F64) : F64 × F64 :=
  let d := F64.mul (F64.mul (omega i) c0) (F64.dec 1 12)
  (F64.div im d, F64.div re d)

/-- The largest knot index i ≤ NK − 2 with X[i] ≤ ψ. -/
def knotIndex (xs : List F64) (psi : F64) : Nat :=
  ((List.range (xs.length - 1)).filter fun i => F64.le (xs.getD i F64.zero) psi).foldl max 0

namespace State

/-- Bilinear interpolation of R150: the unrounded m. -/
def interpolate (s : State) (g : Nat) (xs : List F64) (psi : F64) (temp : Nat) : F64 :=
  let t := F64.div (F64.ofNat temp) (F64.ofNat 64)
  let i := knotIndex xs psi
  let j := min 12 (temp / 448)
  let x0 := xs.getD i F64.zero
  let v := F64.div (F64.sub psi x0) (F64.sub (xs.getD (i + 1) F64.zero) x0)
  let u := F64.div (F64.sub t (F64.mul (F64.ofNat 7) (F64.ofNat j))) (F64.ofNat 7)
  let m := fun a b => F64.ofNat (s.knotM g a b)
  let m0 := F64.add (m i j) (F64.mul v (F64.sub (m (i + 1) j) (m i j)))
  let m1 := F64.add (m i (j + 1)) (F64.mul v (F64.sub (m (i + 1) (j + 1)) (m i (j + 1))))
  F64.add m0 (F64.mul u (F64.sub m1 m0))

/-- Where tone k's posted admittance stands in the CELL page. -/
def toneAddr (n k : Nat) : Nat := if k < 4 then cellBase n + 0x10C + 8 * k else cellBase n + 0x14C + 8 * (k - 4)

/-- Position of a catalogue index in a plan. -/
def toneOf (tones : List Nat) (cat : Nat) : Option Nat := tones.findIdx? fun x => x == cat

/-- The result of cell n from its posted reading (R141–R154). -/
def moistCompute (s : State) (n : Fin 16) (tones : List Nat) : MoistOut :=
  let b := cellBase n
  let cf := s.fld (b + 0x100) 9 0
  let g := s.fld (mcfg n) 4 0
  let t16 := if s.bit (mcfg n) 16 then s.fld (moistBase + 0x80 + 4 * n) 15 0 else s.fld (b + 0x144) 15 0
  let tInv := !s.bit (mcfg n) 16 && (fieldOf (s.rd (b + 0x100)) 7 6 != 0 || t16 == 0x8000)
  let tRange := !tInv && (decide (signed 16 t16 < 0) || decide (91 * 64 < signed 16 t16))
  let tf := 64 * b2n tInv + 128 * b2n tRange
  let temp := if tInv then 0x8000 else t16
  let c0w := s.rd (moistBase + 0xC0 + 4 * n)
  let none1 := fun (f : Nat) => (⟨f + tf, temp, none, none, 0, 0⟩ : MoistOut)
  if cf &&& 0x13F ≠ 0 then none1 1
  else if !s.moist.gtValid.getLsbD g then none1 2
  else match toneOf tones (s.gtCatL g), toneOf tones (s.gtCatH g) with
    | some kl, some kh =>
      if s.fld (b + 0x148) 31 16 ≠ s.gtPlan g then none1 4
      else if (c0w &&& 0x7FFFFFFF#32) = 0 then none1 8
      else
        let c0 := F32.widen c0w
        let y := fun k => s.cxAt (toneAddr n k)
        let el := permittivity (y kl).re (y kl).im (s.gtCatL g) c0
        let eh := permittivity (y kh).re (y kh).im (s.gtCatH g) c0
        let eps := some (el.1, el.2, eh.1, eh.2)
        let inc := F64.sub eh.1 F64.one
        if F64.lt inc (F32.widen (s.rd (moistBase + 0x148))) then ⟨16 + tf, temp, eps, none, 0, 0⟩
        else
          let psi := F64.div (F64.add (F64.sub el.1 eh.1) (F64.mul (F32.widen (s.gtW g)) el.2)) inc
          let xs := (List.range (s.gtNK g)).map fun i => F32.widen (s.knotX g i)
          if F64.lt psi (xs.headD F64.zero) || F64.lt (xs.getLastD F64.zero) psi then ⟨32 + tf, temp, eps, some psi, 0, 0⟩
          else if tf ≠ 0 then ⟨tf, temp, eps, some psi, 0, 0⟩
          else
            let m := s.interpolate g xs psi t16
            let mp := F64.div m (F64.ofNat 1000)
            let den := F64.add (F32.widen (s.gtDA g)) (F64.mul (F32.widen (s.gtDB g)) mp)
            let rho := F64.div inc den
            let r10 := F64.mul rho (F64.ofNat 10)
            let dens := if F64.le den F64.zero || F64.lt (F64.ofNat 65535) r10 then 0 else F64.toNatSat r10 0xFFFF
            ⟨0, temp, eps, some psi, F64.toNatSat m 0xFFFF, dens⟩
    | _, _ => none1 4

/-- What the averaging window belongs to (R156). -/
def winKey (s : State) (n : Fin 16) : Nat :=
  (s.rd (mcfg n) &&& 0x00017F9F#32).toNat + 2 ^ 32 * s.fld (cellBase n + 0x148) 31 16

/-- STATE, MODE and COUNT of a capture record. -/
def capState (s : State) (n : Fin 16) (st mode count : Nat) : State :=
  ((s.setFld (moistCap n) 18 16 st).setFld (moistCap n) 9 8 mode).setFld (moistCap n) 7 0 count

/-- One more reading, of state `v`, reaches a running capture; `posted`: MOIST has posted a result for it (R158). -/
def capStep (s v : State) (n : Fin 16) (r : MoistOut) (tones : List Nat) (posted : Bool) : State :=
  match (s.moistCell n).cap with
  | none => s
  | some c =>
    if c.mode = 1 && !posted then s else
      let b := cellBase n
      let t0 := tones.headD 0
      let g := s.fld (mcfg n) 4 0
      let okEmpty := v.fld (b + 0x100) 9 0 &&& 0x13F == 0
      let cref := F64.div (v.cxAt (toneAddr n 0)).im (F64.mul (omega t0) (F64.dec 1 12))
      let c : Capture := { c with posted := c.posted + 1 }
      let c : Capture :=
        if c.mode = 1 then
          match r.psi, r.eps with
          | some p, some e =>
            if (r.flags = 0 ∨ r.flags = 32) ∧ s.moist.gtValid.getLsbD g then
              { c with accepted := c.accepted + 1, psi := F64.add c.psi p, epsH := F64.add c.epsH e.2.2.1,
                       temp := c.temp + signed 16 r.temp }
            else c
          | _, _ => c
        else if okEmpty then { c with accepted := c.accepted + 1, cref := F64.add c.cref cref }
        else c
      let k := F64.ofNat c.accepted
      if c.accepted = c.target then
        let mean := fun (x : F64) => F64.narrow (F64.div x k)
        let tm := roundDiv c.temp.natAbs c.accepted
        let s := s.updMoist n fun m => { m with cap := none }
        (s.post (moistCap n) (fieldAt 18 16 2 ||| fieldAt 9 8 c.mode ||| fieldAt 7 0 c.accepted)
          [v.rd (b + 0x104), v.rd (b + 0x108), if c.mode = 1 then mean c.psi else 0, if c.mode = 1 then mean c.epsH else 0,
           if c.mode = 1 then 0 else mean c.cref,
           if c.mode = 1 then toWord (wrapS 16 (if c.temp < 0 then -(tm : Int) else tm)) else 0]).flag moistBase 2
      else if 2 * c.target ≤ c.posted then
        ((s.updMoist n fun m => { m with cap := none }).capState n 3 c.mode c.accepted).flag moistBase 3
      else (s.updMoist n fun m => { m with cap := some c }).capState n 1 c.mode c.accepted

/-- The result of a reading, of state `v`, is posted with its averages and its residual (R141, R155, R160). -/
def moistPost (s v : State) (n : Fin 16) (r : MoistOut) (resid : Option (Int × Bool)) : State :=
  let avgN := s.fld (mcfg n) 14 8
  let m := s.moistCell n
  let k := v.winKey n
  let old := if m.key = k then m.win else []
  let win := ((if r.flags = 0 then some r.moist else none) :: old).take avgN
  let good := win.filterMap id
  let cnt := good.length
  let av := decide ((avgN + 1) / 2 ≤ cnt)
  let avg := if av then min 65535 (roundDiv good.sum cnt) else 0
  let s := s.updMoist n fun y => { y with win := win, key := k }
  let nan : F32 := 0x7FC00000#32
  let w := fun (x : Option F64) => match x with | some v => F64.narrow v | none => nan
  let res := match resid with
    | some (x, noisy) => fieldAt 17 17 1 ||| fieldAt 16 16 (b2n noisy) ||| fieldAt 15 0 (satS 16 x)
    | none => 0#32
  let b := cellBase n
  let s := s.post (moistRes n) (fieldAt 20 16 (s.fld (mcfg n) 4 0) ||| fieldAt 7 0 r.flags)
    [v.rd (b + 0x104), v.rd (b + 0x108), fieldAt 31 16 avg ||| fieldAt 15 0 r.moist,
     fieldAt 8 8 (b2n av) ||| fieldAt 7 0 cnt, fieldAt 31 16 r.temp ||| fieldAt 15 0 r.density, w r.psi,
     w (r.eps.map fun e => e.1), w (r.eps.map fun e => e.2.1), w (r.eps.map fun e => e.2.2.1), w (r.eps.map fun e => e.2.2.2),
     fieldAt 31 16 (v.fld (b + 0x148) 31 16) ||| fieldAt 7 0 (v.fld (b + 0x100) 31 24), res]
  let noisy := match resid with | some (_, y) => y | none => false
  ((s.flag moistBase 0).flagIf (r.flags != 0) moistBase 1).flagIf noisy moistBase 6

/-- A reading waits for its residual: the transform is queued or its result not yet taken, and not suspended (R160). -/
def residWaits (s : State) (n : Fin 16) (d : CellRead) : Bool :=
  d.resid && (s.cell n).residCap.isSome && s.xfRuns && s.enfLevel == 0

/-- MOIST_RESULT (R141): the result of the reading posted last, once its residual is there. -/
def moistResult (s : State) (n : Fin 16) : State :=
  match (s.moistCell n).due with
  | none => s
  | some d =>
    if s.moistRuns && s.residWaits n d then s else
      let resid := if d.resid && s.enfLevel == 0 then (s.moistCell n).resid else none
      let s := s.updMoist n fun m => { m with due := none, resid := none }
      if !s.moistRuns then s else
        let v := s.withReading n d
        let r := v.moistCompute n d.tones
        let men := s.bit (mcfg n) 7
        let s := if men then s.moistPost v n r resid else s
        s.capStep v n r d.tones men

/-! ### Commands and their ends -/

/-- CAPTURE_GRAIN (1) or CAPTURE_EMPTY (2), already judged. -/
def captureStart (s : State) (n : Fin 16) (mode : Nat) : State :=
  (s.updMoist n fun m => { m with cap := some ⟨mode, s.fld (mcfg n) 31 24, 0, 0, F64.zero, F64.zero, F64.zero, 0⟩ }).capState n 1 mode 0

/-- A capture ends ABORTED. -/
def captureAbort (s : State) (n : Fin 16) : State :=
  match (s.moistCell n).cap with
  | some c => (s.updMoist n fun m => { m with cap := none }).capState n 4 c.mode c.accepted
  | none => s

/-- SWEEP, already judged. -/
def sweepStart (s : State) (n : Fin 16) : State :=
  (({ s with moist := { s.moist with sweep := some ⟨n, 0, 0, none, [], []⟩ } }).setFld (moistBase + 0x150) 2 0 1).setFld (moistBase + 0x150) 19 16 n

/-- A sweep ends FAILED (3) or ABORTED (4). -/
def sweepEnd (s : State) (st : Nat) : State :=
  (({ s with moist := { s.moist with sweep := none } }).setFld (moistBase + 0x150) 2 0 st).flagIf (st == 3) moistBase 5

/-- The mean residual of the 57 blocks of a sweep slot, 0.1 dB. -/
def sweepResid (tones : List Nat) (xs : List Code) : Int :=
  F64.nearest (F64.div ((List.range 57).foldl (fun a b => F64.add a (residual tones ((xs.drop (16384 * b)).take 16384))) F64.zero) (F64.ofNat 57))

/-- RESID_LIM, signed, 0.1 dB. -/
def residLim (s : State) : Int := signed 16 (s.fld (moistBase + 0x14C) 15 0)

/-- SWEEP_SLOT_DONE (R159, R160): the slot's transforms are done or suspended; a group overloaded is repeated up to three times; after the third group the results post. -/
def sweepSlotDone (s : State) : State :=
  match s.moist.sweep with
  | none => s
  | some w =>
    match w.cap with
    | none => s
    | some (d, win) =>
      if !s.cellRuns || (s.xf.moistQ.contains .sweep && s.xfRuns && s.enfLevel == 0) then s
      else if ovrOf win then
        if w.retries < 3 then { s with moist := { s.moist with sweep := some { w with cap := none, retries := w.retries + 1 } } }
        else s.sweepEnd 3
      else
        let c := cellConv w.cell
        let c0 := F32.widen (s.rd (moistBase + 0xC0 + 4 * w.cell))
        let ys := s.ymOf c d (accOf d win) 950000 false
        let eps := (d.tones.zip ys).map fun x =>
          let y := s.corrected w.cell x.1 x.2
          permittivity y.re y.im x.1 c0
        let r := if s.enfLevel = 0 ∧ s.xfDone .sweep 57 then some (sweepResid d.tones win.samples) else none
        let s := s.xfUse .sweep
        let noisy := match r with | some x => decide (s.residLim < x) | none => false
        let s := s.flagIf noisy moistBase 6
        let eps := w.eps ++ eps
        let rs := w.resid ++ [r]
        if w.grp < 2 then { s with moist := { s.moist with sweep := some { w with grp := w.grp + 1, retries := 0, cap := none, eps := eps, resid := rs } } }
        else
          let s := { s with moist := { s.moist with sweep := none } }
          let s := (withIndex eps).foldl (fun s x =>
            (s.wr (moistBase + 0xC00 + 8 * x.1) (F64.narrow x.2.1)).wr (moistBase + 0xC04 + 8 * x.1) (F64.narrow x.2.2)) s
          let s := (withIndex rs).foldl (fun s x =>
            match x.2 with
            | some v => s.wr (moistBase + 0xCC0 + 4 * x.1) (toWord (satS 16 v))
            | none => s) s
          (s.post (moistBase + 0x150) (fieldAt 19 16 w.cell ||| fieldAt 2 0 2) []).flag moistBase 4

/-- RESIDUAL_DONE (R160): XFORM has transformed the capture of a reading; the residual posts with the reading's result. -/
def residualDone (s : State) (n : Fin 16) : State :=
  match (s.cell n).residCap with
  | none => s
  | some (tones, xs) =>
    if !s.xfDone (.resid n) 1 then s else
      let s := (s.updCell n fun x => { x with residCap := none }).xfUse (.resid n)
      if !s.moistRuns || s.enfLevel != 0 then s else
        let r := F64.nearest (residual tones xs)
        s.updMoist n fun m => { m with resid := some (r, decide (s.residLim < r)) }

/-- The averaging window of a cell empties (R156). -/
def winClear (s : State) (n : Fin 16) : State := s.updMoist n fun m => { m with win := [] }

/-- MCFGn was written: a change of GTYPE, TSRC, AVG_N or MEN empties the window, a change of GTYPE ends a capture. -/
def mcfgWritten (s : State) (n : Fin 16) (old : Word) : State :=
  let new := s.rd (mcfg n)
  let s := if (new &&& 0x00017F9F#32) = (old &&& 0x00017F9F#32) then s else s.winClear n
  if fieldOf new 4 0 = fieldOf old 4 0 then s else s.captureAbort n

/-- MOIST EN was cleared: captures and the sweep end ABORTED. -/
def moistOff (s : State) : State :=
  let s := (List.finRange 16).foldl (fun s n => s.captureAbort n) s
  if s.moist.sweep.isSome then s.sweepEnd 4 else s

/-- MOIST at a clock fault (R161): captures and the sweep end ABORTED, the averaging windows empty; a reading already posted
still gets its result. -/
def moistFault (s : State) : State :=
  let s := s.moistOff
  (List.finRange 16).foldl (fun s n => s.updMoist n fun m => { m with win := [] }) s

end State
end Sys2Proof.Machine
end

