-- ==== Sys2Proof/Machine/Root.lean ====
section
/-!
DEFINITION. Rootline (spec/11_rootline_probe_bus.md): segment power, beacon periods, rounds, enumeration, host commands,
directory, readings and aggregates.
-/
namespace Sys2Proof.Machine

def segBase (g : Nat) : Nat := pageBase .rootSeg g
def rootBase : Nat := pageBase .rootMain 0

/-! ### Frames (R290–R294) -/

/-- A downlink frame: CMD and LEN, TN, the payload, its CRC (R293, R292). -/
def downFrame (cmd tn : Nat) (payload : List Byte) : List Byte :=
  let body := BitVec.ofNat 8 (cmd * 16 + payload.length) :: BitVec.ofNat 8 tn :: payload
  body ++ beBytes 2 (crc16 body).toNat

/-- A byte's eight line bits, most significant first. -/
def byteBits (b : Byte) : List Bool := (List.range 8).map fun i => b.getLsbD (7 - i)

/-- The two halves of a downlink bit: 1 is low then high, 0 high then low (R289). -/
def downBit (b : Bool) : List Bool := [!b, b]

/-- The line levels of a downlink frame in halves of 8 µs (R290): eight 0 bits, the start delimiter of 24 µs low and 24 µs
high, the bytes most significant bit first. -/
def downLevels (frame : List Byte) : List Bool :=
  (List.replicate 8 false).flatMap downBit ++ [false, false, false, true, true, true] ++ (frame.flatMap byteBits).flatMap downBit

/-- How long a frame with `len` payload bytes lasts, ns (R290). -/
def frameNs (len : Nat) : Nat := 16000 * (11 + 8 * (len + 4))

/-- How long an exchange with an answer lasts, ns: the frame, 64 µs, one slot (R296). -/
def exchangeNs (len : Nat) : Nat := frameNs len + 64000 + 1216000

/-- The value of an uplink bit: current in the second half only is 1, in the first half only 0 (R289). -/
def UpBit.val (b : UpBit) : Option Bool := if b.first = b.second then none else some b.second

/-- The receiver's judgement of a slot: the preamble 1, 0, 1, 0, then 64 bits, most significant first (R291); current in both
halves is a collision, in neither a missing bit (R289). A collision in a bit of the preamble is one too (R300). -/
def upJudge (rx : List UpBit) : Uplink :=
  if (rx.take 4).any fun b => b.first && b.second then .pre
  else if (rx.take 4).map UpBit.val ≠ [some true, some false, some true, some false] then .none
  else
    let bs := (List.range 64).map fun i => rx.getD (4 + i) ⟨false, false⟩
    let v := BitVec.ofNat 64 (bs.foldl (fun a b => 2 * a + b2n b.second) 0)
    let gap := bs.any fun b => !b.first && !b.second
    match bs.findIdx? fun b => b.first && b.second with
    | some c => .coll v c gap
    | none => if gap then .missing else .frame v

/-- The receiver sees current in the slot. -/
def upCurrent (rx : List UpBit) : Bool := rx.any fun b => b.first || b.second

/-- Bits `[hi:lo]` of an uplink frame. -/
def upField (f : BitVec 64) (hi lo : Nat) : Nat := f.toNat / 2 ^ lo % 2 ^ (hi - lo + 1)

/-- The CRC of an uplink frame holds (R292). -/
def upOk (f : BitVec 64) : Bool := (crc16 (beBytes 6 (f.toNat / 65536))).toNat == upField f 15 0

/-- A serial as payload, most significant byte first. -/
def serialBytes (x : BitVec 64) : List Byte := beBytes 8 x.toNat

/-! ### Slot maps -/

/-- The entry of a slot in a map that rises by slot. -/
def slotGet {α : Type} (l : List (Nat × α)) (k : Nat) : Option α := (l.find? fun e => e.1 == k).map (·.2)

/-- A map with an entry put at its place. -/
def slotPut {α : Type} (l : List (Nat × α)) (k : Nat) (v : α) : List (Nat × α) :=
  (l.filter fun e => decide (e.1 < k)) ++ (k, v) :: l.filter fun e => decide (k < e.1)

/-- A map without a slot. -/
def slotDel {α : Type} (l : List (Nat × α)) (k : Nat) : List (Nat × α) := l.filter fun e => e.1 != k

def RdEntry.empty : RdEntry := ⟨0, 0, 0, 0, false, false, false, false, false, 0⟩

namespace State

def seg (s : State) (g : Fin 16) : Seg := s.root.seg[g]
def updSeg (s : State) (g : Fin 16) (f : Seg → Seg) : State :=
  { s with root := { s.root with seg := s.root.seg.set g (f s.root.seg[g]) } }

def segCfg (s : State) (g hi lo : Nat) : Nat := s.fld (segBase g + 0x40) hi lo
def cmdRetry (s : State) (g : Nat) : Nat := s.segCfg g 9 8

/-- The Rootline logic side runs. -/
def rootRuns (s : State) : Bool := s.powered 10 && s.clocked .rootSeg && !s.clockFault

/-- Rounds and commands run: not in MAINTENANCE, BOOT or without power (R313, R320). -/
def rootMode (s : State) : Bool :=
  match s.sup.mode with
  | .standby | .commission | .run | .constrained | .safeHold => true
  | _ => false

/-- Highest assigned slot + 1 (R299). -/
def segSpan (s : State) (g : Fin 16) : Nat := (s.seg g).dir.foldl (fun m e => max m (e.1 + 1)) 0

/-- The directory entry of a serial on a segment. -/
def dirFind (s : State) (g : Fin 16) (x : BitVec 64) : Option (Nat × DirEntry) := (s.seg g).dir.find? fun e => e.2.serial == x

def updDir (s : State) (g : Fin 16) (k : Nat) (e : DirEntry) : State := s.updSeg g fun x => { x with dir := slotPut x.dir k e }
def updRd (s : State) (g : Fin 16) (k : Nat) (f : RdEntry → RdEntry) : State :=
  s.updSeg g fun x => { x with rd := slotPut x.rd k (f ((slotGet x.rd k).getD RdEntry.empty)) }

/-- The TN of a new SAMPLE or addressed command; the counter advances (R307). -/
def takeTn (s : State) (g : Fin 16) : Nat × State :=
  ((s.seg g).tn, s.updSeg g fun x => { x with tn := (x.tn + 1) % 256 })

/-- A downlink frame goes out on a segment from Heartwood instant `from_`; the line is free again `last` ns after it. -/
def down (s : State) (g : Fin 16) (cmd tn : Nat) (payload : List Byte) (from_ last : Nat) : State :=
  let f := downFrame cmd tn payload
  (s.send (.seg g) f).updSeg g fun x => { x with line := downLevels f, lineAt := from_, busyTo := from_ + last }

/-- An exchange whose answer slot ends now: its frame went out that long before (R296). -/
def exchange (s : State) (g : Fin 16) (cmd tn : Nat) (payload : List Byte) : State :=
  s.down g cmd tn payload (s.hwNs - exchangeNs payload.length) (exchangeNs payload.length)

/-! ### Ends of rounds, enumerations and commands -/

/-- The ROOT main round span, once no segment is left in the round (R302). -/
def rootMainDone (s : State) : State :=
  if (List.finRange 16).any fun g => (s.seg g).round.isSome then s
  else if s.root.part = 0 then s
  else
    let r := s.root
    let s := s.post (rootBase + 0x44) (fieldAt 16 16 (b2n r.aborted) ||| fieldAt 15 0 r.part)
      [toWord r.round, loWord r.stamp, hiWord r.stamp, fieldAt 15 0 (satU 16 r.longest)]
    let s := { s with root := { s.root with part := 0, aborted := false, longest := 0 } }
    if r.aborted then (s.count (rootBase + 0x68)).flag rootBase 3 else s.flag rootBase 1

/-- The newest entry of a segment's round history (R302). -/
def pushHistory (s : State) (g : Fin 16) (num stamp nOk : Nat) (aborted : Bool) : State :=
  let a := segBase g + 0x140
  let old := (List.range 28).map fun i => s.rd (a + 4 * i)
  s.wrs a ([toWord num, loWord stamp, hiWord stamp, fieldAt 16 16 (b2n aborted) ||| fieldAt 15 0 nOk] ++ old)

/-- The round span of a segment is posted; VALID says that a round has been completed, which one that ends early does not (R302). -/
def postRound (s : State) (g : Fin 16) (r : Round) (aborted : Bool) : State :=
  let ms := (s.now - r.startAt) / 1000000
  let was := s.bit (segBase g + 0x100) 23
  let s := s.post (segBase g + 0x100) (fieldAt 16 16 (b2n aborted))
    [toWord r.num, loWord r.stamp, hiWord r.stamp, fieldAt 31 16 r.missed.length ||| fieldAt 15 0 r.nOk, fieldAt 15 0 (satU 16 ms)]
  let s := s.setFld (segBase g + 0x100) 23 23 (b2n (was || !aborted))
  { s with root := { s.root with longest := max s.root.longest ms } }

/-- A segment's round ends early (R302). -/
def abortRound (s : State) (g : Fin 16) : State :=
  match (s.seg g).round with
  | none => s
  | some r =>
    let s := s.updSeg g fun x => { x with round := none }
    let s := { s with root := { s.root with aborted := true } }
    ((((s.postRound g r true).pushHistory g r.num r.stamp r.nOk true).flag (segBase g) 12)).rootMainDone

/-- The command result span (R314). -/
def postCmd (s : State) (g : Fin 16) (code result last found assigned : Nat) : State :=
  let s := s.post (segBase g + 0x90) (fieldAt 18 16 2 ||| fieldAt 11 8 code ||| fieldAt 2 0 result)
    [toWord (last / 2 ^ 48 % 2 ^ 16), toWord (last / 2 ^ 16), fieldAt 31 16 found ||| fieldAt 15 0 assigned]
  s.flag (segBase g) (if result = 0 then 9 else 10)

/-- An enumeration or command of a segment ends ABORTED (R288, R314); what an enumeration has changed in the directory is saved
(R313). -/
def abortWork (s : State) (g : Fin 16) : State :=
  let x := s.seg g
  let s := s.updSeg g fun x => { x with enum := none, cmd := none, saved := if x.enum.isSome then x.dir else x.saved }
  match x.cmd, x.enum with
  | some c, _ => s.postCmd g c.code 4 c.last 0 0
  | none, some e => if e.host then s.postCmd g (if e.all then 2 else 1) 4 e.last e.nFound e.nAssigned else s
  | none, none => s

/-- A segment stops what it does and its switch opens, in state `p`. -/
def segOff (s : State) (g : Fin 16) (p : Nat) : State :=
  ((s.abortRound g).abortWork g).updSeg g fun x => { x with pwr := p, faultAt := s.now, syncAt := none, autoDue := false }

/-- The switch closes (R288). -/
def segOn (s : State) (g : Fin 16) : State :=
  s.updSeg g fun x => { x with pwr := 1, onAt := s.now, checked := false, syncAt := none, autoDue := false }

/-- EN of a segment page was written (R288). A segment that kept its power through a reset goes on as it stands (R320). -/
def segEnWritten (s : State) (g : Fin 16) (was now : Bool) : State :=
  if !was && now then
    (if (s.seg g).pwr ≠ 0 then s else if s.root.vrLow then s.updSeg g fun x => { x with pwr := 4 } else s.segOn g)
  else if was && !now then s.segOff g 0
  else s

/-- START_CHECK (R288): 200 ms after switch-on; `high`: the line reached the high level less 2 V. -/
def startCheck (s : State) (g : Fin 16) (high : Bool) : State :=
  let x := s.seg g
  if x.pwr ≠ 1 || x.checked || s.now < x.onAt + 200000000 then s
  else if high then s.updSeg g fun y => { y with checked := true }
  else (s.segOff g 3).flag (segBase g) 13

/-- SEG_OVERLOAD (R315), outside the blanking of R288. -/
def segOverload (s : State) (g : Fin 16) : State :=
  let x := s.seg g
  if (x.pwr == 2 || (x.pwr == 1 && x.checked)) then (s.segOff g 3).flag (segBase g) 5 else s

/-- SEG_SHORT (R286, R315), outside the blanking of R288: it needs no clock. -/
def segShort (s : State) (g : Fin 16) : State :=
  let x := s.seg g
  if (x.pwr == 2 || (x.pwr == 1 && x.checked)) then (s.segOff g 3).flag (segBase g) 6 else s

/-- SEG_RESTART (R315): RESTART_S after FAULT_OFF; while VR is low the segment waits for VR_RESTORE (R317). -/
def segRestart (s : State) (g : Fin 16) : State :=
  let x := s.seg g
  if x.pwr == 3 && s.en (segBase g) && s.rootRuns && decide (x.faultAt + s.fld (segBase g + 0x44) 11 0 * 1000000000 ≤ s.now) then
    (if s.root.vrLow then s.updSeg g fun x => { x with pwr := 4 } else s.segOn g)
  else s

/-- SURGE (R316). -/
def surge (s : State) (g : Fin 16) : State := ((s.count (segBase g + 0x50)).wearSurge g).flag (segBase g) 7

/-- VR_UV (R317): every RUNNING or STARTING segment switches off. -/
def vrUv (s : State) : State :=
  let s := { s with root := { s.root with vrLow := true } }
  let s := (List.finRange 16).foldl (fun s g => if (s.seg g).pwr == 1 || (s.seg g).pwr == 2 then s.segOff g 4 else s) s
  s.flag rootBase 4

/-- VR_RESTORE (R317): segments with EN = 1 restart. -/
def vrRestore (s : State) : State :=
  let s := { s with root := { s.root with vrLow := false } }
  (List.finRange 16).foldl (fun s g =>
    if (s.seg g).pwr == 4 then (if s.en (segBase g) then s.segOn g else s.updSeg g fun x => { x with pwr := 0 }) else s) s

/-! ### Enumeration (R303–R306) -/

/-- An enumeration starts; ENUM_ALL restarts the quarantine list. -/
def enumStart (s : State) (g : Fin 16) (all host : Bool) : State :=
  let s := if all then
      (((s.updSeg g fun x => { x with quar := [], quarFull := false }).wr (segBase g + 0x54) 0).wrs (segBase g + 0x200) (List.replicate 64 0))
    else s
  let s := s.updSeg g fun x => { x with
    enum := some ⟨all, host, .search [(0, 0)] [], 0, 0, 0, 0, 0, false⟩
    dir := x.dir.map fun e => (e.1, { e.2 with new_ := false }) }
  if host then (s.setFld (segBase g + 0x90) 18 16 1).setFld (segBase g + 0x90) 11 8 (if all then 2 else 1) else s

/-- The order of R304: CABLE_ID, POS_CM, serial. -/
def foundLt (a b : Found) : Bool :=
  decide (a.cable < b.cable ∨ (a.cable = b.cable ∧ (a.pos < b.pos ∨ (a.pos = b.pos ∧ a.serial.toNat < b.serial.toNat))))

/-- Insertion in that order. -/
def insertFound (x : Found) : List Found → List Found
  | [] => [x]
  | y :: r => if foundLt x y then x :: y :: r else y :: insertFound x r

def sortFound (l : List Found) : List Found := l.foldl (fun acc x => insertFound x acc) []

/-- The assignments of R304 steps 3, 4 and 6: nodes with their slots, kept entries first; and whether a node found none. -/
def planSlots (s : State) (g : Fin 16) (all : Bool) (ok : List Found) : List (Found × Nat × Bool) × Bool :=
  let slotOf := fun (f : Found) => if all then (s.dirFind g f.serial).map (·.1) else none
  let kept := ok.filterMap fun f => (slotOf f).map fun k => (f, k, false)
  let fresh := sortFound (ok.filter fun f => (slotOf f).isNone)
  let used := (s.seg g).dir.map (·.1)
  let free := (List.range 4096).filter fun k => !used.contains k
  (kept ++ (fresh.zip free).map (fun x => (x.1, x.2, true)), decide (free.length < fresh.length))

/-- The end of an enumeration: the directory is saved, ENUM_DONE is flagged, a host command has its result. -/
def enumDone (s : State) (g : Fin 16) (e : EnumRun) : State :=
  let s := (s.updSeg g fun x => { x with enum := none, saved := x.dir }).flag (segBase g) 8
  if e.host then s.postCmd g (if e.all then 2 else 1) (if e.full then 3 else 0) e.last e.nFound e.nAssigned else s

/-- Steps 3 and 4 of R304. -/
def enumAssignPhase (s : State) (g : Fin 16) (e : EnumRun) (ok : List Found) : State :=
  let known := ok.map (·.serial) ++ (s.seg g).quar
  let s := if e.all then
      s.updSeg g fun x => { x with dir := x.dir.map fun d => (d.1, { d.2 with missing := !known.contains d.2.serial }) }
    else s
  let (l, full) := s.planSlots g e.all ok
  let e := { e with phase := .assign l, tries := 0, full := full }
  match l with
  | [] => s.enumDone g e
  | _ => s.updSeg g fun x => { x with enum := some e }

/-- The enumeration moves on when the work of its phase is done. -/
def enumGo (s : State) (g : Fin 16) (e : EnumRun) : State :=
  match e.phase with
  | .search [] found =>
    let e := { e with phase := .info found found [], tries := 0, nFound := found.length }
    match found with
    | [] => s.enumAssignPhase g e []
    | _ => s.updSeg g fun x => { x with enum := some e }
  | .info [] _ ok => s.enumAssignPhase g e ok
  | .assign [] => s.enumDone g e
  | _ => s.updSeg g fun x => { x with enum := some e }

/-- An exchange with `len` payload bytes may end now in command space (R296, R297): the segment is RUNNING, its SYNC was sent
in this period, no slot of a READ period is left to judge; its frame began 64 µs or more after the previous frame or slot,
and it ends by 99,000 µs. -/
def cmdSpace (s : State) (g : Fin 16) (len : Nat) : Bool :=
  let x := s.seg g
  let bound := s.hwNs / 100000000 * 100000000
  s.rootRuns && s.rootMode && x.pwr == 2 && x.syncAt == some bound
    && decide (x.busyTo + 64000 + exchangeNs len ≤ s.hwNs) && decide (s.hwNs ≤ bound + 99000000)
    && (match x.round with | some r => r.sampled && decide (r.limit ≤ r.next) | none => true)

/-- Command space that the round leaves to enumerations and host commands: what is left of a READ period before the last, or after the
last, once no READ_ROUND is due any more (R301, R305). -/
def workSpace (s : State) (g : Fin 16) (len : Nat) : Bool :=
  s.cmdSpace g len &&
    (match (s.seg g).round with
     | some r => decide (80 * r.periods < r.span) || r.retry.isEmpty || decide (s.segCfg g 23 16 ≤ r.sent)
     | none => true)

/-- The high `n` bits of a word, the others 0. -/
def prefixBits (b : BitVec 64) (n : Nat) : BitVec 64 := if n = 0 then 0 else if 64 ≤ n then b else (b >>> (64 - n)) <<< (64 - n)

/-- ENUM_EXCHANGE (R303): an answer with missing bits, or with a collision in its preamble, is asked for again, and then taken as no
node's. -/
def enumExchange (s : State) (g : Fin 16) (rx : Uplink) : State :=
  match (s.seg g).enum with
  | some e =>
    match e.phase with
    | .search ((p, n) :: rest) found =>
      if !s.workSpace g 10 then s else
        let s := s.exchange g 4 (s.seg g).tn
          (BitVec.ofNat 8 (b2n e.all) :: BitVec.ofNat 8 n :: serialBytes (prefixBits p n))
        let again := fun (s : State) =>
          if e.tries < s.cmdRetry g then s.updSeg g fun x => { x with enum := some { e with tries := e.tries + 1 } }
          else s.enumGo g { e with phase := .search rest found, tries := 0 }
        match rx with
        | .none => s.enumGo g { e with phase := .search rest found, tries := 0 }
        | .missing | .pre | .coll _ _ true => again s
        | .frame b => s.enumGo g { e with phase := .search rest (found ++ [b]), tries := 0, last := b.toNat }
        | .coll b c false =>
          let q := prefixBits b c
          let one := q ||| (BitVec.ofNat 64 (2 ^ (63 - c)))
          s.enumGo g { e with phase := .search ((q, c + 1) :: (one, c + 1) :: rest) found, tries := 0 }
    | _ => s
  | none => s

/-- A node of another major version is listed and counted once (R306). -/
def quarantine (s : State) (g : Fin 16) (f : Found) : State :=
  let x := s.seg g
  let s := s.flag (segBase g) 4
  if x.quar.contains f.serial then s else
    let n := x.quar.length
    let s := (s.updSeg g fun y => { y with quar := y.quar ++ [f.serial] }).count (segBase g + 0x54)
    if n < 16 then
      s.wrs (segBase g + 0x200 + 0x10 * n) [loWord f.serial.toNat, hiWord f.serial.toNat, fieldAt 15 8 f.kind ||| fieldAt 7 0 f.version, 0]
    else if x.quarFull then s
    else (s.updSeg g fun y => { y with quarFull := true }).flag (segBase g) 15

/-- The TN of the frame in hand: taken new on the first try, repeated afterwards (R307). -/
def enumTn (s : State) (g : Fin 16) (e : EnumRun) : Nat × State := if e.tries = 0 then s.takeTn g else (e.tn, s)

/-- No valid answer: another try, or the serial is discarded. -/
def infoMiss (s : State) (g : Fin 16) (e : EnumRun) (rest found : List (BitVec 64)) (ok : List Found) : State :=
  if e.tries < s.cmdRetry g then s.updSeg g fun x => { x with enum := some { e with tries := e.tries + 1 } }
  else s.enumGo g { e with phase := .info rest found ok, tries := 0 }

/-- ENUM_READ_INFO (R304): READ_INFO page 0 to the next serial found. -/
def enumReadInfo (s : State) (g : Fin 16) (rx : Uplink) : State :=
  match (s.seg g).enum with
  | some e =>
    match e.phase with
    | .info (x :: rest) found ok =>
      if !s.workSpace g 9 then s else
        let (tn, s) := s.enumTn g e
        let s := s.exchange g 7 tn (serialBytes x ++ [0])
        match rx with
        | .frame b =>
          if upOk b then
            let e := { e with last := b.toNat }
            let f : Found := ⟨x, upField b 63 56, upField b 55 48, upField b 47 32, upField b 31 16⟩
            if f.version / 16 = 1 then s.enumGo g { e with phase := .info rest found (ok ++ [f]), tries := 0 }
            else (s.quarantine g f).enumGo g { e with phase := .info rest found ok, tries := 0 }
          else s.infoMiss g { e with tn := tn } rest found ok
        | _ => s.infoMiss g { e with tn := tn } rest found ok
    | _ => s
  | none => s

/-- The entry of a node just assigned. -/
def dirEntryOf (f : Found) (fresh : Bool) (old : Option DirEntry) : DirEntry :=
  match old with
  | some d => { d with serial := f.serial, pos := f.pos, kind := f.kind, version := f.version, new_ := fresh, missing := false }
  | none => ⟨f.serial, f.pos, f.kind, false, false, fresh, false, 0, f.version⟩

/-- An ACK that answers command `cmd` with transaction number `tn` (R294). -/
def ackOf (cmd tn : Nat) (b : BitVec 64) : Bool := upOk b && upField b 59 56 == cmd && upField b 55 48 == tn

/-- No valid ACK: another try, or the node stays unassigned. -/
def assignMiss (s : State) (g : Fin 16) (e : EnumRun) (rest : List (Found × Nat × Bool)) : State :=
  if e.tries < s.cmdRetry g then s.updSeg g fun x => { x with enum := some { e with tries := e.tries + 1 } }
  else s.enumGo g { e with phase := .assign rest, tries := 0 }

/-- ENUM_ASSIGN (R304): ASSIGN_SLOT to the next node placed. -/
def enumAssign (s : State) (g : Fin 16) (rx : Uplink) : State :=
  match (s.seg g).enum with
  | some e =>
    match e.phase with
    | .assign ((f, k, fresh) :: rest) =>
      if !s.workSpace g 10 then s else
        let (tn, s) := s.enumTn g e
        let s := s.exchange g 5 tn (serialBytes f.serial ++ beBytes 2 k)
        let e := { e with tn := tn, last := match rx with | .frame b => if upOk b then b.toNat else e.last | _ => e.last }
        match rx with
        | .frame b =>
          if ackOf 5 tn b then
            if upField b 31 24 = 0 then
              let old := if fresh then none else slotGet (s.seg g).dir k
              let s := s.updDir g k (dirEntryOf f fresh old)
              let s := s.flagIf fresh (segBase g) 2
              s.enumGo g { e with phase := .assign rest, tries := 0, nAssigned := e.nAssigned + b2n fresh }
            else s.enumGo g { e with phase := .assign rest, tries := 0 }
          else s.assignMiss g e rest
        | _ => s.assignMiss g e rest
    | _ => s
  | none => s

/-! ### Host commands (R313, R314) -/

/-- CMD_SER. -/
def cmdSerial (s : State) (g : Nat) : BitVec 64 :=
  BitVec.ofNat 64 ((s.rd (segBase g + 0x84)).toNat + 2 ^ 32 * (s.rd (segBase g + 0x88)).toNat)

/-- What a write of CMD returns: 0 OK, BUSY or RANGE. -/
def rootCmdStatus (s : State) (g : Fin 16) (code : Nat) : Nat :=
  let x := s.seg g
  if x.enum.isSome || x.cmd.isSome || x.pwr != 2 || !s.rootMode then 0x0B
  else
    let e := s.dirFind g (s.cmdSerial g)
    match code with
    | 6 => if e.isNone || (slotGet x.dir (s.fld (segBase g + 0x8C) 11 0)).isSome then 0x06 else 0
    | 7 => if e.isNone then 0x06 else 0
    | _ => 0

/-- A write of CMD 1–7, already judged. -/
def rootCmdStart (s : State) (g : Fin 16) (code : Nat) : State :=
  if code ≤ 2 then s.enumStart g (code == 2) true
  else
    ((s.updSeg g fun x => { x with cmd := some ⟨code, s.cmdSerial g, (s.rd (segBase g + 0x8C)).toNat, 0, 0, 0⟩ }).setFld
      (segBase g + 0x90) 18 16 1).setFld (segBase g + 0x90) 11 8 code

/-- The downlink command of a host command, and what follows the serial. -/
def cmdFrame (c : RootCmd) : Nat × List Byte :=
  match c.code with
  | 3 => (6, [BitVec.ofNat 8 c.arg])
  | 4 => (7, [BitVec.ofNat 8 (c.arg % 2)])
  | 5 => (8, BitVec.ofNat 8 (c.arg / 65536) :: beBytes 2 c.arg)
  | 6 => (5, beBytes 2 (c.arg % 4096))
  | _ => (5, beBytes 2 0xFFFF)

/-- The directory region goes to flash. -/
def saveDir (s : State) (g : Fin 16) : State := s.updSeg g fun x => { x with saved := x.dir }

/-- What an accepted host command changes in the directory, which is then saved. -/
def cmdEffect (s : State) (g : Fin 16) (c : RootCmd) : State :=
  match s.dirFind g c.serial with
  | none => s
  | some (k, d) =>
    match c.code with
    | 3 => s.updDir g k { d with identUntil := if c.arg % 256 = 0 then 0 else s.now + c.arg % 256 * 1000000000 }
    | 5 => if c.arg / 65536 % 256 = 1 then (s.updDir g k { d with pos := c.arg % 65536 }).saveDir g else s
    | 6 =>
      let n := c.arg % 4096
      let s := s.updSeg g fun x => { x with
        dir := slotPut (slotDel x.dir k) n d
        rd := match slotGet x.rd k with | some r => slotPut (slotDel x.rd k) n r | none => slotDel x.rd n }
      s.saveDir g
    | 7 => (s.updSeg g fun x => { x with dir := slotDel x.dir k }).saveDir g
    | _ => s

/-- ADDRESSED_EXCHANGE (R314): the command in hand has been sent, its answer is judged; a frame whose CRC fails is discarded
(R292). -/
def addressedExchange (s : State) (g : Fin 16) (rx : Uplink) : State :=
  match (s.seg g).cmd with
  | none => s
  | some c =>
    let (dc, tail) := cmdFrame c
    if !s.workSpace g (8 + tail.length) then s else
      let (tn, s) := if c.tries = 0 then s.takeTn g else (c.tn, s)
      let s := s.exchange g dc tn (serialBytes c.serial ++ tail)
      let last := match rx with | .frame b => if upOk b then b.toNat else c.last | _ => c.last
      let c := { c with tn := tn, last := last }
      let done := fun (s : State) (r : Nat) => (s.updSeg g fun x => { x with cmd := none }).postCmd g c.code r last 0 0
      let miss := fun (s : State) =>
        if c.tries < s.cmdRetry g then s.updSeg g fun x => { x with cmd := some { c with tries := c.tries + 1 } } else done s 1
      match rx with
      | .frame b =>
        if dc = 7 then (if upOk b then done s 0 else miss s)
        else if ackOf dc tn b then (if upField b 31 24 = 0 then done (s.cmdEffect g c) 0 else done s 2)
        else miss s
      | _ => miss s

/-! ### Rounds (R298–R302) and beacons (R296, R297) -/

/-- T_s mod (ROUND_INT × RATE_DIV) = 0 at the whole second just reached. -/
def startInstant (s : State) : Bool :=
  s.hwNs % 1000000000 < 100000000 &&
    s.hwNs / 1000000000 % (max 1 (s.fld (rootBase + 0x40) 11 0 * s.fld (rootBase + 0xC) 19 16)) == 0

/-- RATE_DIV of an enforcement level (R435). -/
def rateDiv : Nat → Nat
  | 0 => 1 | 1 => 2 | 2 => 4 | _ => 8

/-- RATE_DIV takes effect at a round start instant. -/
def settleRate (s : State) : State :=
  let d := rateDiv s.enfLevel
  if s.fld (rootBase + 0xC) 19 16 = d then s else (s.setFld (rootBase + 0xC) 19 16 d).flag rootBase 5

/-- SYNC of a period boundary, once: READ with FIRST and NSLOT, or a command period. -/
def sync (s : State) (g : Fin 16) (bound : Nat) (read : Option (Nat × Nat)) : State :=
  if (s.seg g).syncAt = some bound then s else
    let (info, n) := match read with | some (f, n) => (0x8000 + f, n) | none => (0, 0)
    (s.down g 1 (s.seg g).tn (beBytes 2 s.root.round ++ beBytes 2 info ++ [BitVec.ofNat 8 n, 0x10#8]) bound (frameNs 6)).updSeg g
      fun x => { x with syncAt := some bound }

/-- PERIOD_BOUNDARY (R288, R296, R297): a whole 100 ms of Heartwood. `prepared`: the scheduler prepared the SYNCs; `vr`
(0.1 V) and `meas` (1 mA, 0.1 V per segment) are the measurements of the period. A step or a relock within a period carries no frame
before the next boundary. A round whose period 0 the scheduler missed
has sent no SAMPLE: it ends for the segment with ROUND_ABORT. -/
def periodBoundary (s : State) (prepared : Bool) (vr : Nat) (meas : Vector (Nat × Nat) 16) : State :=
  if !s.rootRuns then s else
    let bound := s.hwNs / 100000000 * 100000000
    let s := s.post (rootBase + 0x60) (fieldAt 9 0 vr) []
    (List.finRange 16).foldl (fun s g =>
      let x := s.seg g
      let s := s.post (segBase g + 0x48) (fieldAt 22 12 meas[g].1 ||| fieldAt 9 0 meas[g].2) []
      if !(prepared && decide (s.root.resumeAt ≤ bound)) then s
      else
        let s := if x.pwr == 1 && x.checked && decide (x.onAt + 300000000 ≤ s.now) then
            s.updSeg g fun y => { y with pwr := 2, autoDue := s.bit (segBase g + 0x40) 0 }
          else s
        let x := s.seg g
        if x.pwr != 2 then s
        else match x.round with
          | some r =>
            if r.sampled && decide (r.limit ≤ r.next) && decide (80 * r.periods < r.span) && s.rootMode then
              let f := 80 * r.periods
              let n := min 80 (r.span - f)
              (s.sync g bound (some (f, n))).updSeg g fun y => { y with round := some { r with periods := r.periods + 1, next := f, limit := f + n } }
            else if !r.sampled && decide (r.startHw < bound) then (s.abortRound g).sync g bound none
            else s.sync g bound none
          | none =>
            let s := s.sync g bound none
            if x.autoDue && s.startInstant && s.rootMode && x.enum.isNone && x.cmd.isNone then
              (s.updSeg g fun y => { y with autoDue := false }).enumStart g true false
            else s) s

/-- ROUND_START (R298, R299): every RUNNING segment that is not enumerating and has had its ENUM_ALL begins a round, with the
SYNC of period 0 if the scheduler prepared it (R297). -/
def roundStart (s : State) (prepared : Bool) : State :=
  if !s.rootRuns || !s.rootMode || !s.en rootBase || !s.startInstant || s.root.part != 0 then s else
    let bound := s.hwNs / 100000000 * 100000000
    if bound < s.root.resumeAt then s else
    let takes := (List.finRange 16).filter fun g => (s.seg g).pwr == 2 && (s.seg g).enum.isNone && !(s.seg g).autoDue
    if takes.isEmpty then s.settleRate else
      let n := (s.root.round + 1) % 2 ^ 32
      let s := { s with root := { s.root with round := n, part := takes.foldl (fun m (g : Fin 16) => m + 2 ^ g.val) 0, aborted := false,
                                              longest := 0, stamp := bound + 2720000 } }
      let r := fun (s : State) (g : Fin 16) => (⟨n, s.now, bound, bound + 2720000, false, s.segSpan g, 0, 0, 0, [], 0, [], 0⟩ : Round)
      let s := takes.foldl (fun s g => (if prepared then s.sync g bound none else s).updSeg g fun x => { x with round := some (r s g) }) s
      (s.flag rootBase 0).settleRate

/-- SEND_SAMPLE (R299): the SAMPLE of a segment in its round, 1,520 µs into period 0, if that period carries its SYNC (R297). -/
def sendSample (s : State) (g : Fin 16) : State :=
  match (s.seg g).round with
  | some r =>
    if r.sampled || !s.rootRuns || (s.seg g).syncAt != some r.startHw || s.hwNs < r.startHw + 1520000 || r.startHw + 100000000 ≤ s.hwNs then s else
      let (tn, s) := s.takeTn g
      (s.down g 2 tn (beBytes 4 r.num) (r.startHw + 1520000) (frameNs 4)).updSeg g fun x => { x with round := some { r with sampled := true } }
  | none => s

/-- ROUND_OVERRUN (R298): a start instant passes during a round. -/
def roundOverrun (s : State) : State :=
  if s.rootRuns && s.rootMode && s.en rootBase && s.startInstant && s.root.part != 0 then ((s.count (rootBase + 0x64)).flag rootBase 2).settleRate else s

/-- A slot counted as missed. -/
def missSlot (s : State) (g : Fin 16) (k : Nat) (mis coll : Bool) : State :=
  s.updRd g k fun e => { e with missed := true, roundMis := mis, coll := coll, retried := false }

/-- A valid READING of the round is stored (R300). MISSES waits for the end of the round (R302). -/
def storeReading (s : State) (g : Fin 16) (k round : Nat) (b : BitVec 64) (retried : Bool) : State :=
  s.updRd g k fun e => ⟨upField b 63 48, upField b 47 32, round, upField b 31 24, true, false, false, retried, false, e.misses⟩

/-- The end of slot k of the READ period in progress (R296), Heartwood ns. -/
def slotEnd (s : State) (g : Fin 16) (r : Round) (k : Nat) : Nat :=
  (s.seg g).syncAt.getD 0 + 2736000 + 1216000 * (k - 80 * (r.periods - 1))

/-- READ_SLOT (R300): the next slot of the READ period in progress ends. `current`: the receiver saw current in it. -/
def readSlot (s : State) (g : Fin 16) (rx : Uplink) (current : Bool) : State :=
  match (s.seg g).round with
  | some r =>
    if !s.rootRuns || r.limit ≤ r.next || s.hwNs < s.slotEnd g r r.next then s else
      let k := r.next
      let r := { r with next := k + 1 }
      let put := fun (s : State) (r' : Round) => s.updSeg g fun x => { x with round := some r', busyTo := s.slotEnd g r k }
      if (slotGet (s.seg g).dir k).isNone then
        if current then ((put s r).count (segBase g + 0x64)).flag (segBase g) 14 else put s r
      else
        let lost := { r with missed := r.missed ++ [k], retry := r.retry ++ [k] }
        match rx with
        | .frame b =>
          if upOk b then
            if upField b 23 16 = r.num % 256 then put (s.storeReading g k r.num b false) { r with nOk := r.nOk + 1 }
            else put (s.missSlot g k true false) lost
          else put ((s.missSlot g k false false).count (segBase g + 0x58)) lost
        | .pre | .coll _ _ _ => ((put (s.missSlot g k false true) { r with missed := r.missed ++ [k] }).count (segBase g + 0x60)).flag (segBase g) 11
        | _ => put (s.missSlot g k false false) lost
  | none => s

/-- READ_ROUND (R301): the next missed node is asked once, within RD_RETRY. -/
def readRound (s : State) (g : Fin 16) (rx : Uplink) : State :=
  match (s.seg g).round with
  | some r =>
    match r.retry with
    | k :: rest =>
      if !s.cmdSpace g 9 || decide (80 * r.periods < r.span) || s.segCfg g 23 16 ≤ r.sent then s else
        match slotGet (s.seg g).dir k with
        | none => s.updSeg g fun x => { x with round := some { r with retry := rest } }
        | some d =>
          let (tn, s) := s.takeTn g
          let s := s.exchange g 3 tn (serialBytes d.serial ++ [BitVec.ofNat 8 r.num])
          let r := { r with retry := rest, sent := r.sent + 1 }
          let put := fun (s : State) (r : Round) => s.updSeg g fun x => { x with round := some r }
          match rx with
          | .frame b =>
            if upOk b then
              if upField b 23 16 = r.num % 256 then
                put (s.storeReading g k r.num b true) { r with nOk := r.nOk + 1, missed := r.missed.filter fun j => j != k }
              else put (s.updRd g k fun e => { e with roundMis := true }) r
            else put (s.count (segBase g + 0x58)) r
          | _ => put s r
    | [] => s
  | none => s

/-! ### Aggregates (R311) and the end of a round (R302) -/

/-- A signed 16-bit mean, halves away from zero. -/
def meanAway (sum : Int) (n : Nat) : Int :=
  let m := roundDiv sum.natAbs n
  if sum < 0 then -(m : Int) else m

/-- The aggregates of one group: MAX, MEAN, N_TEMP, N_VALID. -/
def aggregate (s : State) (g : Fin 16) (round first last minN : Nat) : Nat × Nat × Nat × Nat :=
  let nodes := (s.seg g).dir.filter fun e => decide (first ≤ e.1) && decide (e.1 ≤ last) && decide (0x10 ≤ e.2.kind) && decide (e.2.kind ≤ 0x1F)
  let vals := nodes.filterMap fun e =>
    match slotGet (s.seg g).rd e.1 with
    | some r => if r.valid && !r.missed && r.round == round && r.status % 2 == 0 then some (signed 16 r.v0) else none
    | none => none
  let n := vals.length
  if n < minN then (0x8000, 0x8000, nodes.length, n)
  else (wrapS 16 (vals.foldl max (-32768)), wrapS 16 (meanAway vals.sum n), nodes.length, n)

/-- GRPg_AGG of every enabled group. -/
def postAggregates (s : State) (g : Fin 16) (round : Nat) : State :=
  (List.range 256).foldl (fun s i =>
    let w := s.rd (segBase g + 0x400 + 4 * i)
    if bitOf w 31 then
      let (mx, mean, nt, nv) := s.aggregate g round (fieldOf w 11 0) (fieldOf w 23 12) (fieldOf w 30 24)
      s.wrs (segBase g + 0x800 + 8 * i) [fieldAt 31 16 mx ||| fieldAt 15 0 mean, fieldAt 31 16 nt ||| fieldAt 15 0 nv]
    else s) s

/-- MISSES, SEEN and LOST of every assigned node at the end of a completed round. -/
def settleNodes (s : State) (g : Fin 16) (r : Round) : State :=
  let s := s.updSeg g fun x => { x with rd := x.rd.map fun e =>
    (e.1, if e.2.valid && !e.2.missed && e.2.round == r.num then { e.2 with misses := 0 } else e.2) }
  let s := r.missed.foldl (fun s k => s.updRd g k fun e => { e with misses := satU 16 (e.misses + 1) }) s
  let lostN := s.segCfg g 31 24
  let dir := (s.seg g).dir.map fun e =>
    let rd := (slotGet (s.seg g).rd e.1).getD RdEntry.empty
    (e.1, { e.2 with seen := rd.valid && !rd.missed && rd.round == r.num, lost := decide (lostN ≤ rd.misses) })
  let newly := (dir.zip (s.seg g).dir).any fun p => p.1.2.lost && !p.2.2.lost
  (s.updSeg g fun x => { x with dir := dir }).flagIf newly (segBase g) 3

/-- ROUND_END (R302): the last slot or retry of a segment's round has ended. -/
def roundEnd (s : State) (g : Fin 16) : State :=
  match (s.seg g).round with
  | some r =>
    let retried := r.retry.isEmpty || decide (s.segCfg g 23 16 ≤ r.sent)
    if !s.rootRuns || !r.sampled || decide (80 * r.periods < r.span) || r.next < r.limit || !retried then s else
      let s := s.updSeg g fun x => { x with round := none }
      let s := (s.settleNodes g r).postAggregates g r.num
      let s := s.wr (segBase g + 0x5C) (satAdd (s.rd (segBase g + 0x5C)) r.missed.length)
      let s := (s.postRound g r false).pushHistory g r.num r.stamp r.nOk false
      ((s.flag (segBase g) 0).flagIf (!r.missed.isEmpty) (segBase g) 1).rootMainDone
  | none => s

/-! ### Clock faults, steps and resets (R297, R319, R320) -/

/-- Every round in progress ends early. -/
def abortRounds (s : State) : State := (List.finRange 16).foldl abortRound s

/-- Heartwood has stepped by `d` ns to `new`: every round ends early, and periods resume at the next boundary (R297). The instants of a
frame on a line move with the counter. -/
def rootStepped (s : State) (d : Int) (new : Nat) : State :=
  let s := s.abortRounds
  let mv := fun (t : Nat) => ((t : Int) + d).toNat
  { s with root := { s.root with resumeAt := new, seg := s.root.seg.map fun (x : Seg) =>
      { x with syncAt := none, lineAt := mv x.lineAt, busyTo := mv x.busyTo } } }

/-- The bytes of a downlink frame that are whole after `n` halves of its bits (R290). -/
def wholeBytes (n : Nat) : Nat := (n - 22) / 16

/-- A frame in progress on a line is cut off, and the line is at the high level (R319); a record of its own says what had left. -/
def cutFrame (s : State) (g : Fin 16) : State :=
  let x := s.seg g
  let n := (s.hwNs - x.lineAt) / 8000
  if x.line.length ≤ n then s
  else
    let whole := match s.sent.find? fun m => m.line == .seg g with | some m => m.bytes.take (wholeBytes n) | none => []
    (s.updSeg g fun y => { y with line := y.line.take n, busyTo := s.hwNs }).send (.segCut g) whole

/-- A clock fault: frames stop, rounds and commands end ABORTED, the lines stay powered at the high level (R319). -/
def rootFault (s : State) : State :=
  let s := (List.finRange 16).foldl (fun s g => ((s.abortRound g).abortWork g).cutFrame g) s
  { s with root := { s.root with seg := s.root.seg.map fun (x : Seg) => { x with syncAt := none } } }

/-- After a relock SYNC and rounds resume at their next instants (R319). -/
def rootReturn (s : State) : State := { s with root := { s.root with resumeAt := s.hwNs } }

/-- Every segment is switched off (R320, R398). -/
def rootOff (s : State) : State :=
  { s with root := { s.root with part := 0, aborted := false, seg := s.root.seg.map fun (x : Seg) =>
    { x with pwr := 0, syncAt := none, round := none, enum := none, cmd := none, autoDue := false } } }

/-- A reset that leaves AON running: segments keep their power without frames; readings are empty, the directory is the
saved one (R307, R309, R310, R320). -/
def rootReset (s : State) : State :=
  { s with root := { s.root with part := 0, aborted := false, seg := s.root.seg.map fun (x : Seg) =>
    { x with syncAt := none, round := none, enum := none, cmd := none, dir := x.saved, rd := [], quar := [], quarFull := false } } }

/-- The module reaches STANDBY or SAFE_HOLD after a reset: a segment whose EN is 0 is switched off, one whose EN is 1 and
that is off is switched on (R320). -/
def rootBoot (s : State) : State :=
  (List.finRange 16).foldl (fun (s : State) (g : Fin 16) =>
    if !s.en (segBase g) then s.updSeg g fun x => { x with pwr := 0 }
    else if (s.seg g).pwr = 0 then s.segOn g else s) s

end State
end Sys2Proof.Machine
end

