-- ==== Sys2Proof/Machine/LoopIn.lean ====
section
/-!
DEFINITION. The sources a selector names by KIND, INST and ITEM (R240, R241, R312): the raw value in binary32, the stamp
in Heartwood ns, and whether the result is valid and free of its block's fault flags.
-/
namespace Sys2Proof.Machine

namespace State

/-- The 64-bit stamp at an address. -/
def stampAt (s : State) (a : Nat) : Nat := (s.rd a).toNat + (s.rd (a + 4)).toNat * 2 ^ 32

/-- VALID of a result. -/
def valid (s : State) (a : Nat) : Bool := s.bit a 23

/-- A signed quotient rounded once to binary32. -/
def ratS (i : Int) (d : Nat) : F32 := F32.flush (F32.ofRat (decide (i < 0)) i.natAbs d)

def srcAi (s : State) (inst item : Nat) : Option Source :=
  if 32 ≤ inst ∨ 2 ≤ item then none else
    let a := aiRes (inst / 4) (inst % 4)
    some ⟨s.rd (a + (if item = 0 then 0x14 else 0x18)), s.stampAt (a + 4), s.valid a && s.fld a 3 0 == 0, false⟩

def srcMoist (s : State) (inst item : Nat) : Option Source :=
  if 16 ≤ inst ∨ 5 ≤ item then none else
    let a := moistRes inst
    let ok := s.valid a && s.fld a 7 0 == 0
    let raw := match item with
      | 0 => E32.ofRat (s.fld (a + 0xC) 15 0) 1000
      | 1 => E32.ofRat (s.fld (a + 0xC) 31 16) 1000
      | 2 => E32.ofRat (s.fld (a + 0x14) 15 0) 10
      | 3 => ratS (signed 16 (s.fld (a + 0x14) 31 16)) 64
      | _ => s.rd (a + 0x18)
    some ⟨raw, s.stampAt (a + 4), ok && (item != 1 || s.bit (a + 0x10) 8), false⟩

def srcDi (s : State) (inst item : Nat) : Option Source :=
  if h : inst < 64 then
    let g : Fin 8 := ⟨inst / 8, by omega⟩
    let k : Fin 8 := ⟨inst % 8, by omega⟩
    if item = 0 then
      let c := (s.diGroup g).ch[k]
      some ⟨if c.acc then F32.one else F32.zero, if c.pulsed then c.stamp else s.hwNs,
            (s.diGroup g).seen && !s.diInvalid g, !c.pulsed⟩
    else if item < 3 ∧ inst % 8 < 2 then
      let a := cntBase g (inst % 8) + 8
      some ⟨if item = 1 then E32.ofNat (s.rd (a + 4)).toNat else s.rd (a + 8), s.stampAt (a + 0xC),
            s.valid a && !s.bit a 0, false⟩
    else none
  else none

def srcAo (s : State) (inst item : Nat) : Option Source :=
  if h : inst < 8 then
    if item ≠ 0 then none else
      let a := aoBase + 0x80 + 4 * inst
      some ⟨E32.ofRat (s.fld a 15 0 * 4) 10000, s.afe.ao[inst].stamp, s.valid a && s.fld a 17 16 == 0, false⟩
  else none

def srcAct (s : State) (inst item : Nat) : Option Source :=
  if h : inst < 48 then
    let n : Fin 12 := ⟨inst / 4, by omega⟩
    let k : Fin 4 := ⟨inst % 4, by omega⟩
    match item with
    | 0 =>
      let a := chAddr n k 0x114
      let mot := (s.rd (a + 0x14)).toNat
      some ⟨E32.ofRat mot 100, s.stampAt (a + 8) + 10 * mot, s.valid a && s.bit a 2, false⟩
    | 1 =>
      let c := s.chan n k
      some ⟨E32.ofRat (s.rd (chAddr n k 0x134)).toNat 100, c.motStamp, !c.mots.isEmpty, false⟩
    | 2 => some ⟨E32.ofRat (s.fld (actBase n + 0x58) 15 0) 100, (s.bank n).avgStamp, s.clocked .act && s.powered 8, false⟩
    | _ => none
  else none

def srcFan (s : State) (inst item : Nat) : Option Source :=
  if h : inst < 8 then
    if 2 ≤ item then none else
      let a := fanBase inst + 0x100
      let ok := s.valid a && s.fld a 3 1 == 0
      let w := a + 4
      some ⟨if item = 0 then E32.ofNat (s.fld w 31 16) else E32.ofRat (s.fld w 15 0) 10, (s.fan ⟨inst, h⟩).stamp,
            ok && (item != 0 || (!s.bit a 0 && !s.bit a 4)), false⟩
  else none

/-- R312: MAX (`mean = false`) or MEAN of a cable group. -/
def srcRoot (s : State) (mean : Bool) (inst item : Nat) : Option Source :=
  if 16 ≤ inst ∨ 256 ≤ item then none else
    let b := segBase inst
    let w := s.rd (b + 0x800 + 8 * item)
    let v := if mean then fieldOf w 15 0 else fieldOf w 31 16
    some ⟨ratS (signed 16 v) 64, s.stampAt (b + 0x108),
          v != 0x8000 && bitOf (s.rd (b + 0x400 + 4 * item)) 31 && s.valid (b + 0x100), false⟩

def srcTherm (s : State) (inst item : Nat) : Option Source :=
  if h : inst < 10 then
    if item ≠ 0 then none else
      let x := s.sensor ⟨inst, h⟩
      some ⟨ratS x.temp 64, x.stamp, x.valid && !x.broken, false⟩
  else none

def srcLoop (s : State) (inst item : Nat) : Option Source :=
  if 256 ≤ inst ∨ 2 ≤ item then none else
    let a := pageBase .loop inst + 0x200
    some ⟨s.rd (a + 0x18 + 4 * item), s.stampAt (a + 4), s.valid a, false⟩

/-- The source a KIND, INST and ITEM name; none for KIND 0 and for what R240 does not list. -/
def source (s : State) (kind inst item : Nat) : Option Source :=
  match kind with
  | 1 => s.srcAi inst item
  | 2 => s.srcMoist inst item
  | 3 => s.srcDi inst item
  | 4 => s.srcAo inst item
  | 5 => s.srcAct inst item
  | 6 => s.srcFan inst item
  | 7 => s.srcRoot false inst item
  | 8 => s.srcRoot true inst item
  | 9 => s.srcTherm inst item
  | 10 => s.srcLoop inst item
  | _ => none

end State

/-- KIND, INST and ITEM name something of R240, NONE included. -/
def selOk (kind inst item : Nat) : Bool :=
  match kind with
  | 0 => true
  | 1 => decide (inst < 32) && decide (item < 2)
  | 2 => decide (inst < 16) && decide (item < 5)
  | 3 => decide (inst < 64) && (item == 0 || (decide (item < 3) && decide (inst % 8 < 2)))
  | 4 => decide (inst < 8) && item == 0
  | 5 => decide (inst < 48) && decide (item < 3)
  | 6 => decide (inst < 8) && decide (item < 2)
  | 7 => decide (inst < 16)
  | 8 => decide (inst < 16)
  | 9 => decide (inst < 10) && item == 0
  | 10 => decide (item < 2)
  | _ => false

end Sys2Proof.Machine
end

