-- ==== Sys2Proof/Machine/Servo.lean ====
section
/-!
DEFINITION. The rate at which Heartwood is steered (R348, R361): what has been removed of the phase error at an instant, and
ADDEND before and after a slew ends.
-/
namespace Sys2Proof.Machine

def timeBase : Nat := pageBase .time 0

/-- 2³¹ × (10¹⁰ + d) / (10¹⁰ + f) to the nearest whole number: ADDEND for FREQ_EST f and a departure d, 0.1 ppb. -/
def addendOf (f d : Int) : Nat := roundDiv (2147483648 * (10000000000 + d).toNat) (10000000000 + f).toNat

/-- The phase steered by the servo up to an instant, 1e-10 ns: by the departure in force until a slew ends and by the one after
it from then on. -/
def Time.steered (x : Time) (now : Nat) : Int :=
  match x.turn with
  | none => x.phase + x.dep * (now - x.depAt : Nat)
  | some (e, d) => x.phase + x.dep * (min now e - x.depAt : Nat) + d * (now - e : Nat)

/-- SLEWING: the slew of more than 1 µs goes on. -/
def Time.slewing (x : Time) (now : Nat) : Bool := match x.turn with | some (e, _) => decide (now < e) | none => false

/-- The counter with another ADDEND from a 125 MHz edge on; how it counted until then is kept for ten seconds. -/
def Heart.turned (h : Heart) (edge addend : Nat) : Heart :=
  { h with addend := addend, past := ⟨edge, h.run, h.cnt, h.addend⟩ :: h.past.filter fun g => decide (edge ≤ g.edge + 1250000000) }

namespace State

def updTime (s : State) (f : Time → Time) : State := { s with time := f s.time }

/-- E_REM at this instant, ns: what the latest update left to remove, less what has been steered since (R361). -/
def eRemNow (s : State) : Int := s.time.eRem - (s.time.steered s.now - s.time.phase) / 10000000000

/-- Heartwood's counter at instant t: where a slew ends on the way, ADDEND changes there (R361). -/
def heartTo (s : State) (t : Nat) : Heart :=
  match s.time.turn with
  | some (e, d) =>
    if s.now < e ∧ e ≤ t then
      ((s.heart.ticks (e / 8 - s.now / 8)).turned (e / 8) (addendOf s.time.freq d)).ticks (t / 8 - e / 8)
    else s.heart.ticks (t / 8 - s.now / 8)
  | none => s.heart.ticks (t / 8 - s.now / 8)

end State
end Sys2Proof.Machine
end

