-- ==== Sys2Proof/Machine/Advance.lean ====
section
/-!
DEFINITION. What happens as time passes up to the instant of a command: Heartwood counts on, and at each boundary of an
enabled loop the loop engine latches the loop's inputs (R18, R239, R256).
-/
namespace Sys2Proof.Machine

namespace State

/-- What the selectors of a loop name at this instant (R240). -/
def selSources (s : State) (l : Nat) : Vector (Option Source) 5 :=
  Vector.ofFn fun i => s.source (s.selKind l i) (s.selInst l i) (s.selItem l i)

/-- The latches of the boundaries in (old, new], Heartwood ns: nothing has posted since `old`, so one latch serves them
all. Those of boundaries already executed or skipped go. -/
def latchesTo (s : State) (old new : Nat) : List LoopLatch :=
  if old / 1000000 = new / 1000000 ∨ !s.engineRuns then s.heart.latched
  else
    (s.heart.latched.filter fun x => if h : x.loop < 256 then decide ((s.loop ⟨x.loop, h⟩).done ≤ x.hi) else false) ++
      (s.enabledLoops.filter fun (l : Fin 256) => decide (0 < s.boundsIn l (old + 1) new)).map fun l => ⟨l, old, new, s.selSources l⟩

/-- The module at instant `t` of its own time, before anything else happens: Heartwood has counted on, and the loop engine
has latched the inputs of every boundary passed. -/
def advance (s : State) (t : Nat) : State :=
  if t ≤ s.now then s else
    let h := s.heartTo t
    { s with now := t, heart := { h with latched := s.latchesTo s.hwNs (h.cnt / 2 ^ 28 % 2 ^ 64) } }

/-- The module at instant `t` for a command of bank n: the phases whose boundaries have come have taken effect. -/
def atBank (s : State) (t : Nat) (n : Fin 12) : State := (s.advance t).ripen n

end State
end Sys2Proof.Machine
end

