-- ==== Sys2Proof/Machine/Fire.lean ====
section
/-!
DEFINITION. What a FIRE and a loop event are judged by before they are queued (R21 gates 1 and 2, R64, R65, R192, R216,
R236). A status is a Canopy status code; 0 is OK.
-/
namespace Sys2Proof.Machine
namespace State

/-- The EVENT_ID record a channel holds. -/
def heldId (s : State) (n : Fin 12) (k : Fin 4) (id : Nat) : Option IdRec := (s.chan n k).ids.find? fun r => r.id == id

/-- Gate 2: bank lock, channel fault; EN = 0 is DENIED as PAGE_CTRL says. -/
def gate2Status (s : State) (n : Fin 12) (k : Fin 4) : Nat :=
  if !s.en (actBase n) || (s.bank n).lock || (s.chan n k).fault != 0 then 0x0F else 0

/-- The checks after gate 2: duplicate (R65), profile (R236), times and room (R192). -/
def queueStatus (s : State) (n : Fin 12) (k : Fin 4) (id prof start latest : Nat) (immediate : Bool) : Nat :=
  if (s.heldId n k id).isSome then 0x01
  else if !(s.ucValid n && s.entryEn n prof) then 0x06
  else if !immediate && decide (latest < s.hwNs) then 0x06
  else if s.hwNs + 60000000000 < start then 0x06
  else if 64 ≤ queueLen (s.bank n) then 0x0B
  else 0

end State
end Sys2Proof.Machine
end

