-- ==== Sys2Proof/Machine/LoopLaw.lean ====
section
/-!
DEFINITION. The control laws as functions of numbers (R243–R246, spec/09_loop_engine.md): compensator, state feedback,
output stage. `c` reads a coefficient by its byte offset in the set in use.
-/
namespace Sys2Proof.Machine.Law

open E32

/-- Σ from the lowest index, one term at a time (R243). -/
def sum (n : Nat) (f : Nat → F32) : F32 :=
  match n with
  | 0 => F32.zero
  | n + 1 => (List.range n).foldl (fun acc j => add acc (f (j + 1))) (f 0)

/-- The error by DIR. -/
def err (dir : Nat) (sp y : F32) : F32 := if dir = 0 then sub sp y else sub y sp

/-- What step 4 leaves for step 5: p_k, the integrator increments, the new filter words. -/
structure Mid where
  p : Vector F32 2
  inc : Vector F32 2
  w1 : F32
  w2 : F32
  s1 : F32
  s2 : F32
  /-- nu_m of R246. -/
  nu : Vector F32 4

/-- Step 4 of a COMP loop (R244). -/
def comp (l : Loop) (c : Nat → F32) (intEn notch : Bool) (dir : Nat) (sp y0 ff ts : F32) : Mid :=
  let e := err dir sp y0
  let en := if notch then add (mul (c 0x24) e) l.w1 else e
  let w1 := if notch then add (sub (mul (c 0x28) e) (mul (c 0x30) en)) l.w2 else l.w1
  let w2 := if notch then sub (mul (c 0x2C) e) (mul (c 0x34) en) else l.w2
  let f := add (mul (c 0x10) en) l.s1
  let s1 := add (sub (mul (c 0x14) en) (mul (c 0x1C) f)) l.s2
  let s2 := sub (mul (c 0x18) en) (mul (c 0x20) f)
  let inc := if intEn then mul (mul (c 0x0C) ts) en else F32.zero
  ⟨#v[add f (mul (c 0x38) ff), F32.zero], #v[inc, F32.zero], w1, w2, s1, s2, #v[F32.zero, F32.zero, F32.zero, F32.zero]⟩

/-- Element i of a vector of state words, 0 beyond it. -/
def at8 (v : Vector F32 8) (i : Nat) : F32 := v.toList.getD i F32.zero
def at4 (v : Vector F32 4) (i : Nat) : F32 := v.toList.getD i F32.zero
def at2 (v : Vector F32 2) (i : Nat) : F32 := v.toList.getD i F32.zero

/-- Step 4 of an SFB loop (R246). -/
def sfb (l : Loop) (c : Nat → F32) (intEn : Bool) (dir nx ny : Nat) (sp : F32) (y : Vector F32 4) (ts : F32) : Mid :=
  let x := at8 l.xh
  let nu := fun m => if m < ny then sub (at4 y m) (sum nx fun j => mul (c (0x180 + 0x20 * m + 4 * j)) (x j)) else F32.zero
  let p := fun k => sub (mul (c (0x14 + 4 * k)) sp) (sum nx fun j => mul (c (0x280 + 0x20 * k + 4 * j)) (x j))
  let e0 := err dir sp (at4 y 0)
  let inc := fun k => if intEn then mul (mul (c (0x0C + 4 * k)) ts) e0 else F32.zero
  ⟨#v[p 0, p 1], #v[inc 0, inc 1], l.w1, l.w2, l.s1, l.s2, #v[nu 0, nu 1, nu 2, nu 3]⟩

/-- The estimate after the sample, driven by the outputs applied (R246). -/
def observer (l : Loop) (c : Nat → F32) (nx ny nu : Nat) (n : Vector F32 4) (u : Vector F32 2) : Vector F32 8 :=
  let x := at8 l.xh
  Vector.ofFn fun (i : Fin 8) =>
    if (i : Nat) < nx then
      add (add (sum nx fun j => mul (c (0x40 + 0x20 * i + 4 * j)) (x j)) (sum nu fun k => mul (c (0x140 + 8 * i + 4 * k)) (at2 u k)))
        (sum ny fun m => mul (c (0x200 + 0x10 * i + 4 * m)) (at4 n m))
    else l.xh[i]

/-- What the output stage gives. -/
structure Stage where
  u : F32
  i : F32
  sat : Bool
  slew : Bool

/-- The output stage of R245 applied to v: limits, anti-windup, slew from the last applied output. -/
def stage (intEn : Bool) (umin umax slew ts up i p v : F32) : Stage :=
  let hi := lt umax v
  let w := if hi then umax else v
  let lo := lt w umin
  let w := if lo then umin else w
  let sat := hi || lo
  let i := if sat && intEn then sub w p else i
  if lt F32.zero slew then
    let d := mul slew ts
    let top := add up d
    let bot := sub up d
    let s1 := lt top w
    let w := if s1 then top else w
    let s2 := lt w bot
    ⟨if s2 then bot else w, i, sat, s1 || s2⟩
  else ⟨w, i, sat, false⟩

/-- Every word of a list is finite. -/
def finite (l : List F32) : Bool := l.all F32.isFinite

end Sys2Proof.Machine.Law
end

