-- ==== Sys2Proof/Machine/LoopRows.lean ====
section
/-!
DEFINITION. The loop engine (chapters 09 and 10): boundaries, scheduling and admission, a sample step by step, outputs,
tracking and presets, regions, plausibility, relay tuning.
-/
namespace Sys2Proof.Machine

namespace State

/-! ### Cascades, cost, load (R257, R258, R261) -/

/-- Loop m takes the output of loop l. -/
def takes (s : State) (m l : Nat) : Bool := (List.range 5).any fun i => s.selKind m i == 10 && s.selInst m i == l

/-- The loops whose output a loop takes. -/
def loopSources (s : State) (l : Nat) : List Nat :=
  (List.range 5).filterMap fun i => if s.selKind l i = 10 then some (s.selInst l i) else none

/-- Cascade depth; more than 3 where the rule is broken. -/
def depthGo (s : State) : Nat → Nat → Nat
  | 0, _ => 9
  | n + 1, l => (s.loopSources l).foldl (fun m j => max m (s.depthGo n j + 1)) 0

def depth (s : State) (l : Nat) : Nat := s.depthGo 5 l

/-- Enabled loops that take a loop's output directly. -/
def consumers (s : State) (l : Nat) : List (Fin 256) := s.enabledLoops.filter fun m => s.takes m l

/-- Enabled loops that take a loop's output, directly or through other enabled loops. -/
def consumersAll (s : State) : Nat → Nat → List (Fin 256)
  | 0, _ => []
  | n + 1, l => (s.consumers l).flatMap fun m => m :: s.consumersAll n m

/-- The deadline of a loop after its boundary, µs. -/
def dlUs (s : State) (l : Nat) : Nat :=
  let d := s.fld (loopBase l + 0x48) 25 0
  if d = 0 then 1000 * s.period l else d

/-- DMIN of R258, µs. -/
def dminUs (s : State) (l : Nat) : Nat := (s.consumersAll 4 l).foldl (fun m (c : Fin 256) => min m (s.dlUs c)) (s.dlUs l)

/-- COST of R257, cycles. -/
def cost (s : State) (l : Nat) : Nat :=
  let sels := ((List.range 5).filter fun i => s.selKind l i != 0).length
  let notch := (List.range 8).any fun t => s.bit (s.setAddr l t 0) 1
  let nx := s.loopNX l
  let ny := s.loopNY l
  let lawCost := match s.law l with
    | 1 => 120 + (if notch then 40 else 0)
    | 2 => 60 + nx * (nx + ny + 4)
    | _ => 0
  let outs := ((List.range (s.loopNU l)).map fun k => match s.outKind l k with | 0 => 0 | 2 => 320 | _ => 200).sum
  240 + 160 * sels + lawCost + outs + (if s.plEn l then 40 else 0) + (if s.schedEn l then 30 else 0)

/-- LOAD as a fraction (R258): Σ COST × 4 ns / DMIN. -/
def load (s : State) : Nat × Nat :=
  s.enabledLoops.foldl (fun q (l : Fin 256) =>
    let d := 1000 * s.dminUs l
    let n := q.1 * d + 4 * s.cost l * q.2
    let m := q.2 * d
    let g := max 1 (Nat.gcd n m)
    (n / g, m / g)) (0, 1)

/-- LOAD in 0.01 %, rounded up (ENG_LOAD). -/
def loadPct (s : State) : Nat := satU 16 (ceilDiv (s.load.1 * 10000) (max 1 s.load.2))

/-- LOAD within 0.800. -/
def loadOk (s : State) : Bool := decide (s.load.1 * 10 ≤ s.load.2 * 8)

/-! ### Scheduling (R256) -/

/-- The deadline of a boundary. -/
def deadline (s : State) (l b : Nat) : Nat := b + s.dlUs l * 1000

/-- The effective deadline: the earliest among the loop and every loop due at the same boundary that takes its output. -/
def effDeadline (s : State) (l : Fin 256) (b : Nat) : Nat :=
  (s.consumersAll 4 l).foldl (fun m (c : Fin 256) => if s.boundAt c b = some b then min m (s.deadline c b) else m) (s.deadline l b)

/-- Loops ready at this instant with the key of R256: effective deadline, depth, number. -/
def readyLoops (s : State) : List (Fin 256 × Nat × Nat) :=
  s.enabledLoops.filterMap fun l => match s.pendingB l with | some b => some (l, s.effDeadline l b, s.depth l) | none => none

/-- The loop the engine takes next. -/
def loopNext (s : State) : Option (Fin 256) :=
  match s.readyLoops with
  | [] => none
  | x :: xs => some (xs.foldl (fun m y => if y.2.1 < m.2.1 ∨ (y.2.1 = m.2.1 ∧ y.2.2 < m.2.2) then y else m) x).1

/-! ### Outputs (R253–R255) -/

/-- A page and sub-resource an output acts on. -/
def outTarget (s : State) (l k : Nat) : Option (Nat × Nat) :=
  let i := s.outInst l k
  match s.outKind l k with
  | 1 => some (pageBase .ao 0, 0xFF)
  | 2 => some (pageBase .act (i / 4), i % 4)
  | 3 => some (pageBase .dio (i / 8), i % 8)
  | 4 => some (pageBase .fan i, 0xFF)
  | _ => none

/-- Ownership of R255 and R275: both claims of one opening of a session, or both unowned and no ACT channel. -/
def outOwned (s : State) (l k : Nat) : Bool :=
  match s.outTarget l k with
  | none => true
  | some (p, sub) =>
    match s.claimOf (loopBase l) 0xFF, s.governing p sub with
    | some a, some b => a.gen == b.gen && a.owner == b.owner
    | none, none => s.outKind l k != 2
    | _, _ => false

def outClk (s : State) (l k : Nat) : Bool :=
  match s.outKind l k with
  | 1 => s.clocked .ao | 2 => s.clocked .act | 3 => s.clocked .dio | 4 => s.clocked .fan | _ => true

/-- Gates 1 and 2 of output k before its value is known; 0: OK. -/
def outGate (s : State) (l k : Nat) : Nat :=
  if !s.outClk l k then (if s.outKind l k = 2 then 0x0F else 0x02)
  else if !s.outOwned l k then 0x03
  else match s.outKind l k with
    | 2 =>
      let i := s.outInst l k
      if h : i < 48 then s.gate2Status ⟨i / 4, by omega⟩ ⟨i % 4, by omega⟩ else 0x06
    | 3 => if s.wear.replace && s.bit (wearBase + 0x80) 8 && s.fld (wearBase + 0x80) 4 0 == s.outInst l k then 0x05 else 0
    | _ => 0

/-- Where a KIND 1, 3 or 4 target holds its value, the field's top bit, and its limit. -/
def outField (s : State) (l k : Nat) : Option (Nat × Nat × Nat) :=
  let i := s.outInst l k
  match s.outKind l k with
  | 1 => some (pageBase .ao 0 + 0x40 + 4 * i, 15, 60000)
  | 3 => some (pageBase .dio (i / 8) + 0x108 + 0x40 * (i % 8), 23, s.doLimit i)
  | 4 => some (pageBase .fan i + 0x50, 15, if s.fld (pageBase .fan i + 0x40) 16 16 = 0 then 1000 else s.fld (pageBase .fan i + 0x44) 15 0)
  | _ => none

def outGain (s : State) (l k : Nat) : F32 := s.rd (loopBase l + 0xC4 + 0x20 * k)
def outOfs (s : State) (l k : Nat) : F32 := s.rd (loopBase l + 0xC8 + 0x20 * k)

/-- The target's present value, scaled back (R263). -/
def targetBack (s : State) (l k : Nat) (up : F32) : F32 :=
  match s.outField l k with
  | some (a, hi, _) =>
    let g := s.outGain l k
    if E32.le (E32.abs g) F32.zero then up else E32.div (E32.sub (E32.ofNat (s.fld a hi 0)) (s.outOfs l k)) g
  | none => up

/-- q of R253. -/
def outQ (s : State) (l k : Nat) (u : F32) : F32 := E32.add (E32.mul (s.outGain l k) u) (s.outOfs l k)

/-- q rounded to the nearest whole number, halves away from zero, and held within 0 and a limit; whether it lay outside. An
infinite q lies beyond its limit; of one that is no number the spec gives no nearest whole number: a free value. -/
def clip (s : State) (q : F32) (lim : Nat) : Nat × Bool :=
  let r := fun (i : Int) => (min lim i.toNat, decide (i < 0) || decide ((lim : Int) < i))
  match (F32.val (F32.flush q)).roundAway with
  | some i => r i
  | none => if F32.isNan q then r (Config.freeWord s.freeCtr).toNat else if F32.lt q F32.zero then (0, true) else (lim, true)

/-- The event an ACT output issues at boundary b with PARAM q (R254): bank, channel, profile, EVENT_ID, START, latest start. -/
structure LoopEvent where
  n : Fin 12
  c : Fin 4
  prof : Nat
  id : Nat
  start : Nat
  latest : Nat

def loopEvent (s : State) (l : Fin 256) (k b : Nat) : Option LoopEvent :=
  let i := s.outInst l k
  let start := b + s.fld (loopBase l + 0xCC + 0x20 * k) 19 0 * 1000
  if h : i < 48 then
    some ⟨⟨i / 4, by omega⟩, ⟨i % 4, Nat.mod_lt _ (by decide)⟩, s.fld (loopBase l + 0xC0 + 0x20 * k) 11 8,
      0x80000000 + l * 0x800000 + (s.loop l).cnt % 0x800000, start, start + s.fld (loopBase l + 0xD0 + 0x20 * k) 19 0 * 1000⟩
  else none

/-- The status a write or an event of output k meets, whatever its value: gates 1 and 2, and for an event R192 and R236. -/
def outStatus (s : State) (l : Fin 256) (k b : Nat) : Nat :=
  let g := s.outGate l k
  if g ≠ 0 ∨ s.outKind l k ≠ 2 then g
  else match s.loopEvent l k b with
    | some e => s.queueStatus e.n e.c e.id e.prof e.start e.latest false
    | none => 0x06

/-- What applying an output came to: it wrote or issued something, or tried to; the status; OCLIP. -/
structure Applied where
  tried : Bool
  st : Nat
  clip : Bool

/-- Output k of a sample at boundary b is applied (R253, R254): a write at every sample, an event unless PARAM is 0. -/
def applyOut (s : State) (l : Fin 256) (k b : Nat) (u : F32) : State × Applied :=
  let st := s.outStatus l k b
  let q := s.outQ l k u
  let go := fun lim => (s.clip q lim, if F32.isNan q then s.tick else s)
  match s.outKind l k with
  | 0 => (s, ⟨false, 0, false⟩)
  | 2 =>
    let ((q, clipped), s) := go 0xFFFFFFFF
    if q = 0 then (s, ⟨false, 0, clipped⟩)
    else match s.loopEvent l k b with
      | some e =>
        if st = 0 then (s.queueEvent e.n e.c e.prof e.id e.start e.latest (toWord q) true, ⟨true, 0, clipped⟩)
        else (s.flagIf (st == 0x0B) (actBase e.n) 13, ⟨true, st, clipped⟩)
      | none => (s, ⟨true, 0x06, clipped⟩)
  | _ =>
    match s.outField l k with
    | some (a, hi, lim) =>
      let ((q, clipped), s) := go lim
      if st ≠ 0 then (s, ⟨true, st, clipped⟩)
      else
        let s := s.setFld a hi 0 q
        (if h : s.outKind l k = 3 ∧ s.outInst l k < 32 then s.settleOut ⟨s.outInst l k, h.2⟩ else s, ⟨true, 0, clipped⟩)
    | none => (s, ⟨false, 0, false⟩)

/-! ### Inputs -/

/-- The inputs latched for a sample. -/
structure Latched where
  x : Vector F32 5
  ok : Vector Bool 5

/-- X = GAIN × raw + OFS of each selector as latched, its validity and age judged (R240, R241); an invalid one keeps its last X. -/
def latch (s : State) (l : Fin 256) (b : Nat) (old : LoopLatch) : Latched :=
  let one := fun (i : Fin 5) =>
    let a := loopBase l + 0x50 + 0x10 * i
    match old.src[i] with
    | some r =>
      let fresh := r.live || decide (b ≤ r.stamp + s.fld (a + 4) 15 0 * 1000000)
      if r.ok && fresh then (E32.add (E32.mul (s.rd (a + 8)) r.raw) (s.rd (a + 0xC)), true) else ((s.loop l).lastX[i], false)
    | none => ((s.loop l).lastX[i], false)
  ⟨Vector.ofFn fun i => (one i).1, Vector.ofFn fun i => (one i).2⟩

/-- What was latched for loop l at boundary b: none if the engine was not running then. -/
def latchOf (s : State) (l : Fin 256) (b : Nat) : Option LoopLatch :=
  s.heart.latched.find? fun x => x.loop == l && decide (x.lo < b) && decide (b ≤ x.hi)

/-- Loop j has posted its sample of boundary b: every loop due at that boundary that takes its output takes this U, whatever j posts
before that loop runs (R261). -/
def cascade (s : State) (j b : Nat) : State :=
  let fresh := s.enabledLoops.filterMap fun (m : Fin 256) =>
    if s.takes m j && s.boundAt m b == some b && decide ((s.loop m).done ≤ b) then
      (s.latchOf m b).map fun x => (⟨m, b - 1, b, Vector.ofFn fun i =>
        if s.selKind m i = 10 ∧ s.selInst m i = j then s.source 10 j (s.selItem m i) else x.src[i]⟩ : LoopLatch)
    else none
  { s with heart := { s.heart with latched := fresh ++ s.heart.latched } }

/-- The selectors a law uses (R242). -/
def usedSels (s : State) (l : Nat) : List (Fin 5) :=
  let meas : List (Fin 5) := if s.law l = 2 then (List.finRange 5).filter fun i => decide ((i : Nat) < s.loopNY l)
    else if s.selKind l 1 = 0 then [0] else [0, 1]
  if s.selKind l 4 = 0 then meas else meas ++ [4]

/-! ### State decision (R251, R252, R267) -/

/-- LSTATE in a loop's latest posted result. -/
def postedState (s : State) (l : Nat) : Nat := s.fld (loopBase l + 0x200) 18 16

/-- The lowest-numbered enabled consumer through SEL4 that is not in AUTO. -/
def badConsumer (s : State) (l : Nat) : Option (Fin 256) :=
  s.enabledLoops.find? fun m => s.selKind m 4 == 10 && s.selInst m 4 == l && s.postedState m != 2

/-! ### Plausibility (R272, R273) -/

def plDelay (s : State) (l : Nat) : Nat := s.fld (loopBase l + 0x10C) 15 0 / max 1 (s.period l)

/-- a of the model, with TS of R243. -/
def plA (s : State) (l : Nat) : F32 :=
  F64.narrow (F64.exp (F64.neg (F64.div (F32.widen (s.tsOf l)) (F32.widen (s.rd (loopBase l + 0x108))))))

/-- One run of the model at step 3a, with the present input and measurement. -/
def plausStep (s : State) (l : Fin 256) (um yc : F32) : State :=
  let x := s.loop l
  let a := s.plA l
  let g := s.rd (loopBase l + 0x104)
  if x.plRestart || x.hist.isEmpty then
    let ym := E32.mul g um
    s.updLoop l fun y => { y with hist := List.replicate 32 um, ym := ym, plB := E32.sub yc ym, plR := F32.zero, plCnt := 0, plOk := 0,
                                  plFault := false, plRun := true, plRestart := false }
  else
    let a1 := E32.sub F32.one a
    let ym := E32.add (E32.mul a x.ym) (E32.mul a1 (E32.mul g (x.hist.getD (s.plDelay l) um)))
    let r := E32.sub yc (E32.add ym x.plB)
    let out := E32.lt (s.rd (loopBase l + 0x110)) (E32.abs r)
    let n := s.fld (loopBase l + 0x100) 15 8
    let cnt := if out then min 255 (x.plCnt + 1) else 0
    let b := if !out && !x.plFault then E32.add x.plB (E32.mul a1 r) else x.plB
    let set := !x.plFault && decide (n ≤ cnt)
    let ok := if x.plFault && cnt == 0 then x.plOk + 1 else 0
    let clear := x.plFault && decide (n ≤ ok)
    (s.updLoop l fun y => { y with ym := ym, plB := b, plR := r, plCnt := cnt, plOk := if clear then 0 else ok,
                                   plFault := (x.plFault || set) && !clear, plRun := true }).flagIf set (loopBase l) 11

/-! ### Regions (R269) -/

/-- The set after a region decision, and NO_REGION. -/
def regionOf (s : State) (l : Nat) (cur : Nat) (x : F32) : Nat × Bool :=
  let lo := fun t => s.coef l t 4
  let hi := fun t => s.coef l t 8
  let h := s.rd (loopBase l + 0xBC)
  let cand := fun t => E32.lt (lo t) (hi t)
  if cand cur && E32.le (E32.sub (lo cur) h) x && E32.lt x (E32.add (hi cur) h) then (cur, false)
  else match (List.range 8).find? fun t => cand t && E32.le (lo t) x && E32.lt x (hi t) with
    | some t => (t, false)
    | none => (cur, true)

/-! ### Tuning (R279–R284) -/

/-- The suggestion of R282 from KU and TU: S_KI, S_B0, S_B1, S_B2, S_A1, S_A2. -/
def suggest (ku tu ts : F64) : List F32 :=
  let kp := F64.div ku (F64.dec 22 1)
  let ti := F64.mul (F64.dec 22 1) tu
  let td := F64.div tu (F64.dec 63 1)
  let tf := F64.div td (F64.ofNat 10)
  let al := F64.div tf (F64.add tf ts)
  let c := F64.div (F64.mul kp td) (F64.add tf ts)
  [F64.narrow (F64.div kp ti), F64.narrow (F64.add kp c), F64.narrow (F64.neg (F64.add (F64.mul kp al) c)), F32.zero,
   F64.narrow (F64.neg al), F32.zero]

/-- A word of a set written by the module itself, kept in the configuration store. -/
def writeSet (s : State) (l t off : Nat) (w : Word) : State := s.wrKept (s.setAddr l t off) w

/-- AUTOAPPLY (R284): the suggestion goes into set TSET as one RWC change; a swap is due if TSET is in use. -/
def autoApply (s : State) (l : Fin 256) (ws : List F32) : State :=
  let t := s.fld (loopBase l + 0x120) 10 8
  let g := fun i => ws.getD i F32.zero
  let s := ((((((s.writeSet l t 0x0C (g 0)).writeSet l t 0x10 (g 1)).writeSet l t 0x14 (g 2)).writeSet l t 0x18 (g 3)).writeSet l t 0x1C
    (g 4)).writeSet l t 0x20 (g 5))
  let s := s.writeSet l t 0 (s.rd (s.setAddr l t 0) ||| 1)
  let s := s.bumpEpoch [loopBase l]
  s.updLoop l fun y => { y with swapDue := y.swapDue || y.set_ == t }

/-- The evaluated spans are complete: DONE with its result, or FAILED (R281, R282). The spans are CYCLES, or more where CYCLES has been
lowered meanwhile (log entry 101). -/
def tuneJudge (s : State) (l : Fin 256) (t : Tune) : State :=
  let hyst := F32.widen (s.rd (loopBase l + 0x128))
  let amp := F32.widen (s.rd (loopBase l + 0x124))
  let ts := F32.widen (s.tsOf l)
  let tu := F64.div (F64.ofRat false (t.tLast - t.tFirst) 1000000000) (F64.ofNat (max 1 (t.ups - 2)))
  let ay := F64.div (F64.sub (F32.widen t.ymax) (F32.widen t.ymin)) (F64.ofNat 2)
  if F64.le ay hyst || F64.lt tu (F64.mul (F64.ofNat 8) ts) then s.tuneEnd l 3
  else
    let ku := F64.div (F64.mul (F64.ofNat 4) amp) (F64.mul F64.pi (F64.sqrt (F64.sub (F64.mul ay ay) (F64.mul hyst hyst))))
    let ws := suggest ku tu ts
    let s := s.post (loopBase l + 0x130) (fieldAt 2 0 2) (F64.narrow ku :: F64.narrow tu :: ws)
    let s := s.tuneEnd l 2
    if s.bit (loopBase l + 0x120) 0 then s.autoApply l ws else s

/-- The relay at a tune sample (R280), with the up-switches and extremes of R281. -/
def tuneStep (t : Tune) (e hyst y : F32) (b : Nat) : Tune :=
  let neg := F32.neg hyst
  let high := if !t.started then !E32.lt e neg else if E32.lt hyst e then true else if E32.lt e neg then false else t.high
  let up := t.started && high && !t.high
  let ups := if up then t.ups + 1 else t.ups
  let first := up && ups == 2
  let quiet := if t.started && high == t.high then t.quiet + 1 else 0
  { t with
    high := high, started := true, ups := ups, quiet := quiet
    tFirst := if first then b else t.tFirst
    tLast := if up then b else t.tLast
    ymax := if first then y else if 2 ≤ ups then E32.max t.ymax y else t.ymax
    ymin := if first then y else if 2 ≤ ups then E32.min t.ymin y else t.ymin }

/-! ### A sample -/

/-- A pending START takes effect at the next executed sample: U_C and SP_T are frozen once, STATE reads RUNNING (R279). -/
def tuneFreeze (s : State) (l : Fin 256) (sp : F32) : State :=
  match (s.loop l).tune with
  | some t =>
    if t.frozen then s
    else (s.updLoop l fun y => { y with tune := some { t with uc := y.up[0], spT := sp, frozen := true } }).setFld (loopBase l + 0x130) 2 0 1
  | none => s

/-- The state of R251 before step 4. INV_ACT and PL_ACT act only where the state would otherwise be AUTO. -/
structure Decided where
  lst : Nat
  /-- INV_ACT or PL_ACT = MANUAL: MAN_OUT := U_PREV, CMODE := MANUAL. -/
  toManual : Bool
  /-- INV_ACT or PL_ACT = SAFE: SAFE latches. -/
  toSafe : Bool

def decideState (s : State) (l : Fin 256) (usedOk : Bool) : Decided :=
  let x := s.loop l
  let act := fun (a : Nat) => if a = 0 then (⟨3, false, false⟩ : Decided) else if a = 1 then ⟨1, true, false⟩ else ⟨4, false, true⟩
  if !s.modePermits l || (s.badConsumer l).isSome then ⟨5, false, false⟩
  else if x.latch = 1 ∨ x.latch = 3 then ⟨4, false, false⟩
  else if x.latch = 2 then ⟨3, false, false⟩
  else if x.tune.isSome then ⟨6, false, false⟩
  else if s.cmode l = 1 then ⟨1, false, false⟩
  else if !usedOk then act (s.fld (loopBase l + 0x40) 9 8)
  else if s.plEn l && x.plFault then act (s.fld (loopBase l + 0x100) 17 16)
  else ⟨2, false, false⟩

/-- U_TRK_k of R263 and R267. -/
def trackOut (s : State) (l : Fin 256) (lst k : Nat) (tuneOut : F32) : F32 :=
  let up := Law.at2 (s.loop l).up k
  match lst with
  | 1 => s.rd (loopBase l + 0xA8 + 4 * k)
  | 4 => s.rd (loopBase l + 0xB0 + 4 * k)
  | 6 => if k = 0 then tuneOut else up
  | _ =>
    match s.badConsumer l with
    | some c =>
      let g := s.rd (loopBase c + 0x98)
      if k ≠ 0 then up
      else if E32.le (E32.abs g) F32.zero then up
      else E32.div (E32.sub (s.loop c).lastX[0] (s.rd (loopBase c + 0x9C))) g
    | none => s.targetBack l k up

/-- What an output of a sample came to. -/
structure OutRes where
  u : F32
  i : F32
  sat : Bool
  slew : Bool

/-- Step 5b and 5c of output k (R263, R264): in a preset sample v_k is U_REF_k itself. -/
def outStep (s : State) (l : Fin 256) (lst k : Nat) (m : Law.Mid) (preset : Bool) (trk : F32) : OutRes :=
  let x := s.loop l
  let i0 := Law.at2 x.i k
  let up := Law.at2 x.up k
  let p := Law.at2 m.p k
  let t := x.set_
  if lst = 2 then
    let ref := if k = 0 then x.uRef.getD up else up
    let i := if preset then E32.sub ref p else E32.add i0 (Law.at2 m.inc k)
    let sfb := s.law l = 2
    let a := if sfb then 0x1C + 0xC * k else 0x3C
    let st := Law.stage (s.bit (s.setAddr l t 0) 0) (s.coef l t a) (s.coef l t (a + 4)) (s.coef l t (a + 8)) (s.tsOf l) up i p
      (if preset then ref else E32.add i p)
    ⟨st.u, st.i, st.sat, st.slew⟩
  else ⟨trk, E32.sub trk p, false, false⟩

/-- Output k after its write or event was refused: a TRACK sample of that output (R276). -/
def refusedOut (s : State) (l : Fin 256) (k : Nat) (m : Law.Mid) : OutRes :=
  let u := s.targetBack l k (Law.at2 (s.loop l).up k)
  ⟨u, E32.sub u (Law.at2 m.p k), false, false⟩

/-- No output of the loop has UMIN > UMAX in the set in use (R243). -/
def limitsOk (s : State) (l : Fin 256) : Bool :=
  (List.range (s.loopNU l)).all fun k =>
    let a := if s.law l = 2 then 0x1C + 0xC * k else 0x3C
    !E32.lt (s.coef l (s.loop l).set_ (a + 4)) (s.coef l (s.loop l).set_ a)

/-- The sample makes the first accepted write of output k after refusals (R276): judged as the preset sample it then is; an event with
PARAM 0 is none (log entry 101). -/
def writesAgain (s : State) (l : Fin 256) (k b : Nat) : Bool :=
  let x := s.loop l
  let up := Law.at2 x.up k
  x.refused.toList.getD k false && decide (k < s.loopNU l) && s.outKind l k != 0 && s.outStatus l k b == 0 &&
    (s.outKind l k != 2 || (s.clip (s.outQ l k (if k = 0 then x.uRef.getD up else up)) 0xFFFFFFFF).1 != 0)

/-- The law's step 4 with the set in use. -/
def lawStep (s : State) (l : Fin 256) (sp : F32) (v : Latched) : Law.Mid :=
  let x := s.loop l
  let c := fun off => s.coef l x.set_ off
  let intEn := s.bit (s.setAddr l x.set_ 0) 0
  if s.law l = 2 then
    Law.sfb x c intEn (s.loopDir l) (s.loopNX l) (s.loopNY l) sp #v[v.x[0], v.x[1], v.x[2], v.x[3]] (s.tsOf l)
  else
    Law.comp x c intEn (s.bit (s.setAddr l x.set_ 0) 1) (s.loopDir l) sp v.x[0] (if s.selKind l 1 = 0 then F32.zero else v.x[1]) (s.tsOf l)

/-- Step 3a: the plausibility model, in samples whose state will be MANUAL, AUTO, HOLD or SAFE (R273). A sample in which um or yc is
invalid runs it with the last valid X and restarts it at the next. -/
def step3a (s : State) (l : Fin 256) (lst : Nat) (v : Latched) : State :=
  if !s.plEn l then s.updLoop l fun y => { y with plRun := false }
  else
    let comp := s.law l != 2
    let useUm := comp && s.selKind l 2 != 0
    let useYc := comp && s.selKind l 3 != 0
    let um := if useUm then v.x[2] else (s.loop l).up[0]
    let yc := if useYc then v.x[3] else v.x[0]
    let ok := (if useUm then v.ok[2] else true) && (if useYc then v.ok[3] else v.ok[0])
    if lst = 5 ∨ lst = 6 then s.updLoop l fun y => { y with plRun := false, plRestart := true }
    else (s.plausStep l um yc).updLoop l fun y => { y with plRestart := y.plRestart || !ok }

/-- Step 3, part b: the coefficient set that the schedule or SET asks for (R269); the first decision after SCHED_EN was set
starts from SET_SEL. -/
def step3b (s : State) (l : Fin 256) (v : Latched) : State × Nat :=
  let x := s.loop l
  if s.schedEn l then
    let i : Fin 5 := ⟨s.fld (loopBase l + 0xB8) 5 4 % 5, Nat.mod_lt _ (by decide)⟩
    let cur := if x.schedNew then s.setSel l else x.set_
    if !v.ok[i] then (s.updLoop l fun y => { y with xInvalid := true, schedNew := false, noRegion := false }, cur)
    else
      let r := s.regionOf l cur v.x[i]
      (s.updLoop l fun y => { y with xInvalid := false, schedNew := false, noRegion := r.2, region := if r.2 then y.region else r.1 }, r.1)
  else (s, s.setSel l)

/-- Steps 3b and 3c: the region decision and the swap, outside HOLD (R249, R269, R270): W1 = W2 = 0 where NOTCH_EN differs
from that of the set as last taken. -/
def step3bc (s : State) (l : Fin 256) (v : Latched) : State × Bool :=
  let x := s.loop l
  let q := s.step3b l v
  let s := q.1
  let want := q.2
  if want = x.set_ ∧ !x.swapDue then (s, false)
  else
    let notch := s.bit (s.setAddr l want 0) 1
    let clear := s.law l != 2 && notch != x.notch
    let s := s.updLoop l fun y =>
      { y with set_ := want, swapDue := false, notch := notch, w1 := if clear then F32.zero else y.w1,
               w2 := if clear then F32.zero else y.w2 }
    (s.flag (loopBase l) 10, true)

/-- Step 7: the result span (R239), PAGE_EVT flags and counters of a sample. -/
def postSample (s : State) (l : Fin 256) (b lst : Nat) (sp y0 : F32) (u : Vector F32 2) (inInv sat slew oclip refused numeric swap : Bool)
    (drops inv outSt : Nat) : State :=
  let drop := decide (0 < drops)
  let base := loopBase l
  let x := s.loop l
  let fl := b2n inInv + 2 * b2n sat + 4 * b2n slew + 8 * b2n oclip + 16 * b2n refused + 32 * b2n drop + 64 * b2n numeric + 128 * b2n swap
  let s := s.post (base + 0x200) (fieldAt 18 16 lst ||| fieldAt 10 8 x.set_ ||| fieldAt 7 0 fl)
    [loWord b, hiWord b, toWord x.cnt, sp, y0, u[0], u[1], x.i[0], x.i[1], fieldAt 4 0 inv, fieldAt 15 0 outSt]
  let s := ((((((s.flagIf inInv base 2).flagIf sat base 3).flagIf slew base 4).flagIf oclip base 5).flagIf refused base 6).flagIf drop base 7).flagIf
    numeric base 8
  let s := s.flagIf (lst != x.lst) base 9
  let s := if inInv then s.count (base + 0x248) else s
  let s := s.wr (base + 0x24C) (satAdd (s.rd (base + 0x24C)) drops)
  s.updLoop l fun y => { y with lst := lst }

/-- Outputs are applied in every state but TRACK (R251). -/
def applyAll (s : State) (l : Fin 256) (b : Nat) (u : Vector F32 2) : State × Applied × Applied :=
  let (s, a0) := s.applyOut l 0 b u[0]
  if s.loopNU l = 2 then
    let (s, a1) := s.applyOut l 1 b u[1]
    (s, a0, a1)
  else (s, a0, ⟨false, 0, false⟩)

/-- Step 6 for the outputs, which a loop that TRACKs (`off`) does not drive. -/
def applyUnless (s : State) (off : Bool) (l : Fin 256) (b : Nat) (u : Vector F32 2) : State × Applied × Applied :=
  if off then (s, ⟨false, 0, false⟩, ⟨false, 0, false⟩) else s.applyAll l b u

/-- The write of output k was refused (TGT_REFUSED), or its event was (EVT_DROP). -/
def writeRefused (s : State) (l k : Nat) (a : Applied) : Bool := a.st != 0 && s.outKind l k != 2
def eventRefused (s : State) (l k : Nat) (a : Applied) : Bool := a.st != 0 && s.outKind l k == 2

/-- Step 5d: the model input um of this sample is recorded (R262, R272). -/
def recordUm (s : State) (l : Fin 256) (v : Latched) : State :=
  let um := if s.law l != 2 && s.selKind l 2 != 0 then v.x[2] else (s.loop l).up[0]
  s.updLoop l fun y => { y with hist := um :: y.hist.take 31 }

/-- Samples without a change of RELAY count toward the 4,096 of a tune (R281). -/
def quietMore (s : State) (l : Fin 256) (n : Nat) : State :=
  (s.updLoop l fun y => { y with tune := y.tune.map fun t => if t.frozen then { t with quiet := t.quiet + n } else t }).tuneQuiet l

/-- A NUMERIC sample (R243, R266): HOLD by NUMERIC latches, nothing new is applied or written, the state words stay; a tune counts it,
with RELAY unchanged (R281). -/
def numericSample (s : State) (l : Fin 256) (b : Nat) (v : Latched) (oldX : Vector F32 5) (sp : F32) (lst inv : Nat)
    (usedOk swap : Bool) : State :=
  let s := (s.updLoop l fun y => { y with latch := if y.latch = 1 ∨ y.latch = 3 then 3 else 2, lastX := oldX }).recordUm l v
  (s.postSample l b (if lst = 5 ∨ lst = 4 then lst else 3) sp v.x[0] (s.loop l).up (!usedOk) false false false false true swap 0 inv 0).quietMore l 1

/-- The rest of a sample once its state is decided (steps 4 to 7). `oldX`: the last valid X words before this sample. -/
def runSample (s : State) (l : Fin 256) (b : Nat) (v : Latched) (oldX : Vector F32 5) (sp : F32) (lst : Nat) (usedOk swap : Bool) : State :=
  let x := s.loop l
  let base := loopBase l
  let inv := ((List.finRange 5).map fun (i : Fin 5) => if s.selKind l i != 0 && !v.ok[i] then 2 ^ (i : Nat) else 0).sum
  let tn := x.tune.map fun t =>
    if lst = 6 then tuneStep t (Law.err (s.loopDir l) t.spT v.x[0]) (s.rd (base + 0x128)) v.x[0] b
    else if t.frozen then { t with quiet := t.quiet + 1 } else t
  let amp := s.rd (base + 0x124)
  let tuneOut := match tn with
    | some t => E32.add t.uc (E32.mul (if t.high then F32.one else F32.neg F32.one) amp)
    | none => x.up[0]
  let m := s.lawStep l sp v
  let nu := s.loopNU l
  let back := (List.range 2).any fun k => s.writesAgain l k b
  let preset := lst == 2 && (x.lst != 2 || swap || x.presetDue || back)
  let hold := lst == 3
  -- what the state gives before any refusal: in HOLD nothing moves
  let r := fun (k : Nat) =>
    if hold then (⟨Law.at2 x.up k, Law.at2 x.i k, false, false⟩ : OutRes) else s.outStep l lst k m preset (s.trackOut l lst k tuneOut)
  let vec := fun (q : Nat → OutRes) => ((#v[(q 0).u, if nu = 2 then (q 1).u else x.up[1]] : Vector F32 2),
    (#v[(q 0).i, if nu = 2 then (q 1).i else x.i[1]] : Vector F32 2))
  let est := fun (u : Vector F32 2) =>
    if s.law l = 2 && !hold then Law.observer x (fun off => s.coef l x.set_ off) (s.loopNX l) (s.loopNY l) nu m.nu u else x.xh
  let words := fun (u i : Vector F32 2) =>
    (if hold then [] else [m.w1, m.w2, m.s1, m.s2]) ++ v.x.toList ++ (est u).toList ++ u.toList ++ i.toList
  let (u, i) := vec r
  if !Law.finite (words u i) || !s.limitsOk l then s.numericSample l b v oldX sp lst inv usedOk swap
  else
    let (t, a0, a1) := s.applyUnless (lst == 5) l b u
    -- a refused output makes the sample a TRACK sample of that output (R276)
    let q := fun (k : Nat) => if (if k = 0 then a0.st else a1.st) ≠ 0 then s.refusedOut l k m else r k
    let (u, i) := vec q
    if !Law.finite (words u i) then s.numericSample l b v oldX sp lst inv usedOk swap
    else
      let xh := est u
      let s := t.updLoop l fun y =>
        { y with w1 := if hold then y.w1 else m.w1, w2 := if hold then y.w2 else m.w2, s1 := if hold then y.s1 else m.s1
                 s2 := if hold then y.s2 else m.s2, xh := xh, i := i, up := u, presetDue := y.presetDue && hold
                 uRef := if hold ∨ lst = 6 then y.uRef else none, tune := tn
                 refused := #v[if a0.tried then a0.st != 0 else y.refused[0], if a1.tried then a1.st != 0 else y.refused[1]] }
      let s := s.recordUm l v
      let w := s.writeRefused l 0 a0 || s.writeRefused l 1 a1
      let s := s.postSample l b lst sp v.x[0] u (!usedOk) ((q 0).sat || (nu == 2 && (q 1).sat)) ((q 0).slew || (nu == 2 && (q 1).slew))
        (a0.clip || a1.clip) w false swap (b2n (s.eventRefused l 0 a0) + b2n (s.eventRefused l 1 a1)) inv (a0.st + 256 * a1.st)
      match tn with
      | none => s
      | some t =>
        if lst = 6 ∧ a0.st ≠ 0 then s.tuneEnd l 3
        else if lst = 6 ∧ s.fld (base + 0x120) 19 16 + 2 ≤ t.ups then s.tuneJudge l t
        else s.tuneQuiet l

/-- A sample of loop l at its boundary, with what was latched there (R239, R262). -/
def sampleLoop (s : State) (l : Fin 256) (b : Nat) (old : LoopLatch) : State :=
  let v := s.latch l b old
  let oldX := (s.loop l).lastX
  let s := s.updLoop l fun y => { y with lastX := Vector.ofFn fun i => v.x[i] }
  let sp := if s.selKind l 4 = 0 then s.rd (loopBase l + 0xA0) else v.x[4]
  let usedOk := (s.usedSels l).all fun i => v.ok[i]
  let s := if (s.loop l).tune.isSome && (!s.modePermits l || (!v.ok[0] && (s.decideState l usedOk).lst == 6)) then s.tuneEnd l 3 else s
  let s := s.tuneFreeze l sp
  let pre := s.decideState l usedOk
  let s := s.step3a l pre.lst v
  let d := s.decideState l usedOk
  let (s, swap) := if d.lst = 3 then (s, false) else s.step3bc l v
  let s := if d.toSafe then s.updLoop l fun y => { y with latch := 1 } else s
  let s := if d.toManual then
      let x := s.loop l
      let s := ((s.wr (loopBase l + 0xA8) x.up[0]).setFld (loopBase l + 0xA4) 1 0 1).updLoop l fun y => { y with plRestart := true }
      if s.loopNU l = 2 then s.wr (loopBase l + 0xAC) x.up[1] else s
    else s
  s.runSample l b v oldX sp d.lst usedOk swap

/-- A boundary is done: executed or skipped. -/
def doneB (s : State) (l : Fin 256) (b : Nat) : State :=
  (s.syncCnt l b).updLoop l fun y => { y with done := b + 1, jumps := y.jumps.filter fun j => decide (b < j.2) }

/-- A boundary passed without a sample: SAMPLE_CNT has counted it, the boundary is done. -/
def passB (s : State) (l : Fin 256) (b : Nat) : State := (s.doneB l b).quietMore l 1

/-- The boundary passed without the engine running: SKIP (R260). -/
def skipB (s : State) (l : Fin 256) (b : Nat) : State := ((s.passB l b).count (loopBase l + 0x244)).flag (loopBase l) 1

/-- LOOP_SAMPLE (R256, R259): the engine runs the sample of the loop it takes next, no earlier than 1 µs after its
boundary; a sample that would end after its deadline is skipped, and one whose boundary passed while the engine was not
running (R260). -/
def loopSample (s : State) (l : Fin 256) : State :=
  if !s.engineRuns || s.loopNext != some l then s else
    match s.pendingB l with
    | none => s
    | some b =>
      if s.hwNs < b + 1000 then s
      else match s.latchOf l b with
        | none => s.skipB l b
        | some old =>
          if s.deadline l b < s.hwNs + s.cost l * 4 then
            ((s.passB l b).count (loopBase l + 0x240)).flag (loopBase l) 0
          else
            ((s.doneB l b).sampleLoop l b old).cascade l b

/-- LOOP_SKIP (R260): a boundary of an enabled loop passes while the engine is not running. -/
def loopSkip (s : State) (l : Fin 256) : State :=
  if s.engineRuns || !s.powered 2 || !s.loopEn l then s else
    match s.pendingB l with
    | none => s
    | some b => s.skipB l b

/-- `n` boundaries of a loop are skipped at once (R260). -/
def skipN (s : State) (l : Fin 256) (n : Nat) : State :=
  let a := loopBase l + 0x244
  ((s.wr a (satAdd (s.rd a) n)).flag (loopBase l) 1).quietMore l n

/-- Heartwood stepped from `old` to `new`: every enabled loop skips the boundaries stepped over; one that was ready before waits
on (R260). -/
def loopsStepped (s : State) (old new : Nat) : State :=
  if !s.powered 2 then s else
    s.enabledLoops.foldl (fun s (l : Fin 256) =>
      let x := s.loop l
      let n := s.boundsIn l (max (old + 1) x.done) (new - 1)
      if n = 0 then s
      else
        let wait := decide (s.boundFrom l x.done ≤ old)
        (s.updLoop l fun y => if wait then { y with jumps := y.jumps ++ [(old, new)] } else { y with done := max y.done new }).skipN l n) s

/-- The engine runs again, Heartwood at `new`: every boundary before it that was not executed has passed without the engine (R260). -/
def loopsPassed (s : State) (new : Nat) : State :=
  if !s.powered 2 then s else
    s.enabledLoops.foldl (fun s (l : Fin 256) =>
      let n := s.boundsIn l (s.loop l).done (new - 1)
      if n = 0 then s else (s.updLoop l fun y => { y with done := max y.done new, jumps := [] }).skipN l n) s

/-- The module leaves for RUN (R96, R265): every enabled loop is marked, its first executed AUTO sample is a preset sample. -/
def markLoops (s : State) : State := s.enabledLoops.foldl (fun s (l : Fin 256) => s.updLoop l fun y => { y with presetDue := true }) s

/-! ### Host actions -/

/-- EN from 0 to 1 may take effect (R250, R258, R261), judged on the state that would result. -/
def loopAdmits (s : State) (l : Fin 256) : Bool :=
  let s' := s.setFld (loopBase l + 8) 0 0 1
  let below := s'.consumersAll 5 l
  let plOk := !s.plEn l || (decide (s.plDelay l ≤ 31) && E32.lt F32.zero (s.rd (loopBase l + 0x108)) &&
    Law.finite [s.rd (loopBase l + 0x104), s.rd (loopBase l + 0x108), s.rd (loopBase l + 0x110)])
  s.law l != 0 && plOk && decide (s'.depth l ≤ 3) && (below.all fun m => decide (s'.depth m ≤ 3)) && s'.loadOk &&
    !(s.law l == 2 && s.loopNU l == 2 && s.outKind l 0 == 2 && s.outKind l 1 == 2 && s.outInst l 0 == s.outInst l 1)

/-- EN has been set: the model restarts, boundaries count from now; the set in use stays, and a swap that is due takes place in the
next executed sample (R249, R269, R270). -/
def loopEnabled (s : State) (l : Fin 256) : State :=
  (s.syncCnt l s.hwNs).updLoop l fun y => { y with plRestart := true, done := max y.done (s.hwNs + 1), jumps := [] }

/-- EN has been cleared: LSTATE is OFF, a running tune is ABORTED (R251, R281). -/
def loopDisabled (s : State) (l : Fin 256) : State :=
  let s := s.tuneEnd l 4
  let s := s.flagIf ((s.loop l).lst != 0) (loopBase l) 9
  s.updLoop l fun y => { y with lst := 0, plRun := false, plRestart := true }

/-- A write to CMODE: latches go, a tune is ABORTED, the model restarts, a NUMERIC release clears the state words (R251,
R266, R273). -/
def cmodeWritten (s : State) (l : Fin 256) : State :=
  let s := s.tuneEnd l 4
  s.updLoop l fun y =>
    let y := { y with plRestart := true }
    if 2 ≤ y.latch then
      { y with latch := 0, presetDue := true, w1 := F32.zero, w2 := F32.zero, s1 := F32.zero, s2 := F32.zero
               i := Vector.replicate 2 F32.zero, xh := Vector.replicate 8 F32.zero }
    else { y with latch := 0 }

/-- The status of a START (R279). -/
def tuneStartStatus (s : State) (l : Fin 256) : Nat :=
  let b := loopBase l
  let amp := s.rd (b + 0x124)
  let hy := s.rd (b + 0x128)
  let x := s.loop l
  let lo := s.coef l x.set_ 0x3C
  let hi := s.coef l x.set_ 0x40
  if !(s.law l == 1 && s.loopEn l) then 0x06
  else if !(F32.isFinite amp && F32.isFinite hy && E32.lt F32.zero amp && E32.le F32.zero hy) then 0x06
  else if !(E32.le (E32.add x.up[0] amp) hi && E32.le lo (E32.sub x.up[0] amp)) then 0x06
  else if x.tune.isSome then 0x0B
  else if !(s.modePermits l && (x.lst == 1 || x.lst == 2)) then 0x05
  else if 0 < s.enfLevel then 0x0E
  else 0

/-- A START takes effect at the next executed sample. -/
def tuneStart (s : State) (l : Fin 256) : State :=
  s.updLoop l fun y => { y with tune := some ⟨y.up[0], F32.zero, false, false, 0, 0, 0, F32.zero, F32.zero, 0, false⟩ }

/-- A claim with LOSS = SAFE on a LOOP page is lost (R277): MAN_OUT = SAFE_OUT, and CMODE = MANUAL with all a write of it does. -/
def loopSafe (s : State) (l : Fin 256) : State :=
  let b := loopBase l
  (((s.wr (b + 0xA8) (s.rd (b + 0xB0))).wr (b + 0xAC) (s.rd (b + 0xB4))).setFld (b + 0xA4) 1 0 1).cmodeWritten l

/-- A claim on a LOOP page that ends under R57 (R277); a tune is aborted (R281). -/
def loopClaimLost (s : State) (l : Fin 256) (loss : Nat) : State := if loss = 1 then s.loopSafe l else s.tuneEnd l 4

/-- Every running tune is aborted: a clock fault (R281). -/
def tunesAbort (s : State) : State := (List.finRange 256).foldl (fun s l => s.tuneEnd l 4) s

end State
end Sys2Proof.Machine
end

