-- ==== Sys2Proof/Machine/Time.lean ====
section
/-!
DEFINITION. Heartwood: sources, trust, servo, steps, TP_OUT (R347–R367, spec/13_heartwood_time.md). PTP's messages
stand in Ptp.lean.
-/
namespace Sys2Proof.Machine

/-- The ordinary clock knows no master and is none. -/
def Ptp.cleared (x : Ptp) : Ptp :=
  { x with parent := none, syncAt := none, pend := none, last := none, dreq := none, mpd := none, master := false, rival := none }

/-- A better master keeps the clock PASSIVE. -/
def Ptp.passive (x : Ptp) : Bool := x.rival.isSome

/-- The square root of the mean square deviation from the mean of a list of whole numbers, to the next lower whole number. -/
def rmsOf (l : List Int) : Nat :=
  let n := l.length
  if n = 0 then 0 else
    let sum := l.sum
    let sq := (l.map fun x => x * x).sum
    Fmt.isqrt (((n : Int) * sq - sum * sum).toNat / (n * n))

/-- 1 − e^(−Δ/τ): the weight of a measurement Δ ns after the one before it, τ in s. -/
def lagWeight (dt tau : Nat) : F64 :=
  F64.sub F64.one (F64.exp (F64.neg (F64.div (F64.ofNat dt) (F64.ofNat (tau * 1000000000)))))

/-- FREQ_EST f moved toward the frequency m measured over the Δ ns since the measurement before, with time constant τ s (R361);
to the nearest 0.1 ppb (log entry 25). -/
def freqAfter (f m : Int) (dt tau : Nat) : Int :=
  f + ((F64.val (F64.mul (F64.ofInt (m - f)) (lagWeight dt tau))).roundAway).getD 0

namespace State

def src (s : State) : SrcId → TimeSrc
  | .ptp => s.time.ptpS
  | .gnss => s.time.gnssS
def updSrc (s : State) (i : SrcId) (f : TimeSrc → TimeSrc) : State :=
  match i with
  | .ptp => s.updTime fun x => { x with ptpS := f x.ptpS }
  | .gnss => s.updTime fun x => { x with gnssS := f x.gnssS }
def updPtp (s : State) (f : Ptp → Ptp) : State := s.updTime fun x => { x with ptp := f x.ptp }

/-- The TIME page measures and steers: clock enable and EN set, no clock fault (R350). -/
def timeOn (s : State) : Bool := s.clocked .time && s.en timeBase && !s.clockFault && s.powered 1

/-- The enable bit of a source. -/
def srcEn (s : State) : SrcId → Bool
  | .ptp => s.bit (timeBase + 0x60) 8
  | .gnss => s.bit (timeBase + 0x60) 9

def slewLim (s : State) : Nat := s.fld (timeBase + 0x64) 23 16
def servoTau (s : State) : Nat := s.fld (timeBase + 0x64) 9 0
def rms (s : State) (i : SrcId) : Nat := rmsOf (s.src i).filt
/-- The latest filtered offset. -/
def offset (s : State) (i : SrcId) : Int := (s.src i).filt.headD 0

/-- TIME_STATE (R360): 0 FREERUN, 1 LOCKED_PTP, 2 LOCKED_GNSS, 3 HOLDOVER. -/
def timeState (s : State) : Nat :=
  match s.time.active with
  | some .ptp => 1
  | some .gnss => 2
  | none => if s.time.ever then 3 else 0

/-- BOUND (R360), ns. -/
def bound (s : State) : Nat :=
  satU 32 (match s.time.active with
    | some .ptp => s.eRemNow.natAbs + 3 * s.rms .ptp + s.fld (timeBase + 0x70) 15 0
    | some .gnss => s.eRemNow.natAbs + 3 * s.rms .gnss + s.fld (timeBase + 0x70) 31 16
    | none => if s.time.ever then s.time.entryBound + s.fld (timeBase + 0x68) 15 0 * (s.now - s.time.holdAt) / 1000000000
        else 0xFFFFFFFF)

/-! ### ADDEND -/

/-- FREQ_EST, the phase error to remove and the departure in force from now, with the end of a slew: the phase steered so far
is kept, ADDEND follows (R361). -/
def setRate (s : State) (freq e dep : Int) (turn : Option (Nat × Int) := none) : State :=
  let s := s.updTime fun x => { x with phase := x.steered s.now, depAt := s.now, eRem := e, freq := freq, dep := dep, turn := turn }
  if s.heart.addend = addendOf freq dep then s else s.changeHeart fun h => { h with addend := addendOf freq dep }

/-- The phase the servo has steered so far, 1e-10 ns. -/
def phaseNow (s : State) : Int := s.time.steered s.now

/-- The departure for a phase error (R361), 0.1 ppb: SLEW_LIM above 1 µs, the error over SERVO_TAU within it. -/
def departure (s : State) (e : Int) : Int :=
  let lim : Int := (s.slewLim : Int) * 10000
  if 1000 < e.natAbs then (if e < 0 then -lim else lim)
  else max (-lim) (min lim ((e * 10) / (max 1 s.servoTau : Nat)))

/-- The end of a slew that begins now on an error (R361): when 1 µs is left, the servo goes on from there. -/
def slewEnd (s : State) (e : Int) : Option (Nat × Int) :=
  let dep := s.departure e
  if 1000 < e.natAbs ∧ dep ≠ 0 then
    some (s.now + ceilDiv ((e.natAbs - 1000) * 10000000000) dep.natAbs, s.departure (if e < 0 then -1000 else 1000))
  else none

/-! ### Steps (R362, R363) -/

/-- No actuator event is queued or running. -/
def noEvents (s : State) : Bool :=
  s.banks.toList.all fun b => b.queue.isEmpty && b.ch.toList.all fun c => c.run.isNone && c.next.isNone

/-- The latches of boundaries that a step to `new` leaves due: after a step back the later ones are latched anew (R260). -/
def latchesBefore (new : Nat) (xs : List LoopLatch) : List LoopLatch :=
  (xs.map fun x => { x with hi := min x.hi new }).filter fun x => decide (x.lo < x.hi)

/-- Heartwood steps to `new` ns: STEPPED, STEP with entry 0x0701, the loops and Rootline as R260 and R297 say. The times
the banks count in Heartwood, and the sources' offsets, move with it. `sess` is the session concerned (R66): the one whose
TIME_CMD steps, 0xFF for a step the module makes itself. -/
def stepTo (s : State) (new sess : Nat) : State :=
  let old := s.hwNs
  let s := s.flagForced timeBase 7 ⟨0x0701, 1, old, sess⟩
  let d : Int := (new : Int) - (old : Int)
  let mv := fun (x : TimeSrc) => { x with raw := x.raw.map fun o => o - d, filt := x.filt.map fun o => o - d }
  let s := s.updTime fun x => { x with ptpS := mv x.ptpS, gnssS := mv x.gnssS, stepped := true, eRem := 0, dep := 0, phase := x.steered s.now, depAt := s.now, turn := none, stepDue := false }
  let s := s.changeHeart fun h => { h with cnt := new * 2 ^ 28, latched := latchesBefore new h.latched }
  let mvConv := fun (x : LedgerConv) => { x with lastUpdate := ((x.lastUpdate : Int) + d).toNat }
  let s := { s with
    led := { s.led with conv := s.led.conv.map mvConv }
    banks := s.banks.map fun (b : Bank) =>
      { b with ch := b.ch.map fun (c : Chan) => { c with minOffEnd := ((c.minOffEnd : Int) + d).toNat } } }
  { (s.loopsStepped old new).rootStepped d new with gnss := s.gnss.stepped old new }

/-- Heartwood steps onto a source. -/
def stepToSource (s : State) (i : SrcId) (sess : Nat := 0xFF) : State :=
  (s.stepTo ((s.hwNs : Int) + s.offset i).toNat sess).setRate s.time.freq 0 0

/-! ### The servo -/

/-- The servo takes the latest measurement of the active source (R361), with the frequency it gave and the time since the one
before, if there was one. While the start-up step waits nothing is slewed. -/
def servo (s : State) (meas : Option (Int × Nat) := none) : State :=
  match s.time.active with
  | none => s
  | some i =>
    let e := s.offset i
    if s.time.stepDue && !s.bit (timeBase + 0x90) 0 then
      if s.noEvents then s.stepToSource i else s.setRate s.time.freq e 0
    else
      let s := s.updTime fun x => { x with stepDue := false }
      let f := match meas with
        | some (m, dt) => freqAfter s.time.freq m dt s.servoTau
        | none => s.time.freq
      s.setRate f e (s.departure e) (s.slewEnd e)

/-- The start-up step that waited is taken once the bank queues are empty; it lapses when TP_OUT runs (R362). -/
def settleStep (s : State) : State :=
  if s.time.stepDue && s.noEvents then
    match s.time.active with
    | some i => if s.bit (timeBase + 0x90) 0 then s.updTime fun x => { x with stepDue := false } else s.stepToSource i
    | none => s
  else s

/-- UTC_OFS as the active source announces it (R348). -/
def settleUtc (s : State) : State :=
  match s.time.active with
  | none => s
  | some i =>
    match (s.src i).utc with
    | some o => s.wr (timeBase + 0x78) (fieldAt 31 31 1 ||| fieldAt 17 16 (if i = .ptp then 1 else 2) ||| fieldAt 15 0 (wrapS 16 o))
    | none => s

/-! ### Trust (R357, R358) -/

/-- The source of higher rank among those trusted. -/
def ranked (s : State) : Option SrcId :=
  let p := s.time.ptpS.trusted
  let g := s.time.gnssS.trusted
  if s.bit (timeBase + 0x60) 0 then (if g then some .gnss else if p then some .ptp else none)
  else (if p then some .ptp else if g then some .gnss else none)

/-- The active source follows trust and rank: STATE_CHANGE, SRC_CHANGE, HOLDOVER with its entry bound, the servo on the
source that became active. -/
def settleActive (s : State) : State :=
  let old := s.time.active
  let st := s.timeState
  let b := s.bound
  let new := s.ranked
  if old = new then s else
    let s := s.updTime fun x =>
      { x with active := new, ever := x.ever || new.isSome, everBoot := x.everBoot || new.isSome
               entryBound := if new.isNone then b else x.entryBound
               holdAt := if new.isNone then s.now else x.holdAt
               gnssHeld := if new.isNone then old == some .gnss else x.gnssHeld
               stepDue := new.isSome && x.stepDue }
    let s := s.flag timeBase 1
    let s := s.flagIf (s.timeState != st) timeBase 0
    match new with
    | none => s.setRate s.time.freq s.eRemNow 0
    | some _ => s.servo.settleUtc

/-- A source loses its trust and its qualification. -/
def distrust (s : State) (i : SrcId) : State := (s.updSrc i fun x => { x with trusted := false, qualAt := none }).settleActive

/-- Qualification starts, or starts again, if the source is present and passes its checks. -/
def qualify (s : State) (i : SrcId) : State :=
  s.updSrc i fun x => { x with qualAt := if x.trusted then x.qualAt else if x.present && x.pass then some (x.qualAt.getD s.now) else none }

/-- A source is lost: PTP_LOST or GNSS_LOST when it was present. -/
def srcLost (s : State) (i : SrcId) : State :=
  let was := (s.src i).present
  let s := (s.flagIf was timeBase (if i = .ptp then 3 else 4)).distrust i
  s.updSrc i fun x => { x with present := false, raw := [], filt := [], srcAt := none }

/-- A source fails a check: trust and qualification go. -/
def srcFails (s : State) (i : SrcId) : State := (s.updSrc i fun x => { x with pass := false }).distrust i

/-- Neither source is measured any longer (R350). -/
def timeOff (s : State) : State :=
  let lose := fun (x : TimeSrc) => { x with trusted := false, qualAt := none }
  let drop := fun (x : TimeSrc) => { x with present := false, raw := [], filt := [], srcAt := none }
  let s := (s.updTime fun x => { x with ptpS := lose x.ptpS, gnssS := lose x.gnssS, xfail := 0 }).settleActive
  s.updTime fun x => { x with
    ptpS := drop x.ptpS, gnssS := drop x.gnssS
    ptp := x.ptp.cleared }

/-- SRC_CFG has been written over `old`: a source switched off is neither measured nor trusted, RANK decides anew (R358); the
ordinary clock begins to listen where PTP_EN has changed (R353). -/
def srcCfgWritten (s : State) (old : Word) : State :=
  let lose := fun (s : State) (i : SrcId) => if s.srcEn i then s else s.updSrc i fun x => { x with trusted := false, qualAt := none }
  let drop := fun (s : State) (i : SrcId) =>
    if s.srcEn i then s else s.updSrc i fun x => { x with present := false, raw := [], filt := [], srcAt := none }
  let s := drop (drop (lose (lose s .ptp) .gnss).settleActive .ptp) .gnss
  if bitOf old 8 = s.srcEn .ptp then s
  else s.updPtp fun x => { x.cleared with listenAt := s.now }

/-! ### Measurements -/

/-- The measurement span is posted. -/
def postMeas (s : State) : State :=
  let w := fun (i : SrcId) => fieldAt 31 0 (satS 32 (s.offset i))
  s.post (timeBase + 0xA0) 0
    [w .ptp, w .gnss, fieldAt 31 16 (satU 16 (s.rms .gnss)) ||| fieldAt 15 0 (satU 16 (s.rms .ptp)),
     fieldAt 31 0 (satS 32 (s.time.ptp.mpd.getD 0)), fieldAt 31 0 (satS 32 s.eRemNow)]

/-- A raw offset of a source is taken: filtered, judged for JUMP net of what the servo steered meanwhile (R355), and
given to the servo if the source is active, with the frequency of XREF relative to the source since the measurement before:
the module's time that has passed against the source's, 0.1 ppb. A jump takes the trust and restarts qualification; the source
passes its checks again with the next measurement. -/
def measured (s : State) (i : SrcId) (o : Int) : State :=
  let x := s.src i
  let raw := (o :: x.raw).take 16
  let f := Config.ofsFilter s.freeCtr raw
  let s := s.tick
  let steered := (s.phaseNow - x.phaseAt) / 10000000000
  let jump := i == .ptp && (match x.filt with | p :: _ => decide (10000 < (f - p + steered).natAbs) | [] => false)
  let ph := s.phaseNow
  let st : Int := (s.hwNs : Int) + f
  let meas : Option (Int × Nat) := match x.srcAt with
    | some (s0, t0) => if s0 < st then some ((((s.now - t0 : Nat) : Int) - (st - s0)) * 10000000000 / (st - s0), s.now - t0) else none
    | none => none
  let s := s.updSrc i fun x => { x with raw := raw, filt := (f :: x.filt).take 16, phaseAt := ph, srcAt := some (st, s.now) }
  let s := if jump then (s.flag timeBase 5).distrust i else s.qualify i
  let s := if s.time.active = some i then (s.servo meas).settleUtc else s
  s.postMeas

/-- SOURCE_TRUSTED (R357): 60 s of qualification have passed without interruption, and the source has given an offset (log
entry 88). -/
def sourceTrusted (s : State) (i : SrcId) : State :=
  let x := s.src i
  let due := match x.qualAt with | some t => decide (t + 59900000000 ≤ s.now) | none => false
  if !(s.timeOn && s.srcEn i && x.present && x.pass && !x.trusted && due && !x.filt.isEmpty) then s else
    let far := decide (s.bound < (s.offset i).natAbs)
    let first := !s.time.everBoot && !s.bit (timeBase + 0x90) 0
    let s := s.flagIf far timeBase 9
    let s := s.updTime fun t => { t with stepDue := t.stepDue || first }
    (s.updSrc i fun x => { x with trusted := true, qualAt := none }).settleActive

/-- CROSS_CHECK (R359): once per second, both sources present and at least one of them trusted. -/
def crossCheck (s : State) : State :=
  let p := s.time.ptpS
  let g := s.time.gnssS
  if !(s.timeOn && s.srcEn .ptp && s.srcEn .gnss && p.present && g.present && (p.trusted || g.trusted)) then s else
    let d := (s.offset .ptp - s.offset .gnss).natAbs
    if d ≤ s.fld (timeBase + 0x6C) 15 0 then s.updTime fun x => { x with xfail := 0 }
    else
      let n := s.time.xfail + 1
      if n < 10 then s.updTime fun x => { x with xfail := n }
      else
        let s := (s.updTime fun x => { x with xfail := 0 }).flag timeBase 2
        let s := s.updTime fun x => { x with
          ptpS := { x.ptpS with trusted := false, qualAt := some s.now }, gnssS := { x.gnssS with trusted := false, qualAt := some s.now } }
        ((s.qualify .ptp).qualify .gnss).settleActive

/-! ### TP_OUT (R364) -/

/-- TP_OUT pulses: TP_EN, EN and the clock enable are 1 and there is no clock fault. -/
def tpRuns (s : State) : Bool := s.timeOn && s.bit (timeBase + 0x90) 0

/-- TP_PULSE: a pulse instant is reached (on its 8 ns tick), 2 ms or more after the write that let TP_OUT run. -/
def tpPulse (s : State) : State :=
  let per := s.fld (timeBase + 0x94) 31 16 * 1000000
  let ph := s.fld (timeBase + 0x94) 15 0 * 1000000
  let hw := s.hwNs
  if s.tpRuns && decide (s.time.tpAt + 2000000 ≤ s.now) && decide (ph ≤ hw) && decide ((hw - ph) % max 1 per < 9) then
    s.updTime fun x => { x with pulse := some (s.now + s.fld (timeBase + 0x98) 18 0 * 1000) }
  else s

/-- TP_PULSE_END: TP_WIDTH has passed. -/
def tpPulseEnd (s : State) : State :=
  match s.time.pulse with
  | some e => if e ≤ s.now then s.updTime fun x => { x with pulse := none } else s
  | none => s

/-- The level of TP_OUT. -/
def tpLevel (s : State) : Bool := s.time.pulse.isSome != s.bit (timeBase + 0x90) 1

/-- A write has set one of TP_EN, EN and the clock enable: the first pulse is 2 ms or more from now. -/
def tpStart (s : State) : State := s.updTime fun x => { x with tpAt := s.now }

/-- The TIME page comes on: the first pulse is 2 ms or more from now, and the ordinary clock begins to listen (R353). -/
def timeStart (s : State) : State := s.tpStart.updPtp fun x => { x with listenAt := s.now }

/-! ### TIME_CMD (R362) -/

/-- The status of STEP_TO_SOURCE (1) and SET (2). -/
def timeCmdStatus (s : State) (c : Nat) : Nat :=
  if c = 0 then 0
  else if 2 < c then 0x06
  else if s.bit (timeBase + 0x90) 0 then 0x05
  else if !s.noEvents then 0x0B
  else if c = 1 then (if s.time.active.isSome then 0 else 0x06)
  else (if s.time.active.isNone then 0 else 0x06)

/-- The command, already judged. -/
def timeCmd (s : State) (c sess : Nat) : State :=
  match c with
  | 1 => match s.time.active with | some i => s.stepToSource i sess | none => s
  | 2 =>
    let st := s.timeState
    let s := s.stepTo ((s.rd (timeBase + 0x84)).toNat + (s.rd (timeBase + 0x88)).toNat * 2 ^ 32) sess
    (s.updTime fun x => { x with ever := false }).flagIf (st != 0) timeBase 0
  | _ => s

/-! ### Clock fault and boot (R349, R366) -/

/-- The root family stops (R366, R422): the counter stops, TP_OUT goes idle, both sources lose their trust. -/
def timeFault (s : State) : State :=
  let b := s.bound
  let s := s.timeOff
  let s := { s.updTime fun x => { x with pulse := none, entryBound := b, holdAt := s.now } with heart := (s.changeHeart fun h => { h with run := false }).heart }
  if s.bit (timeBase + 0x90) 0 then (s.setFld (timeBase + 0x90) 0 0 0).flag timeBase 8 else s

/-- The root has relocked after `dur` ns (as counted): the counter resumes (R366). -/
def timeReturn (s : State) (dur : Nat) : State :=
  let s := s.updTime fun x => { x with
    entryBound := satU 32 (x.entryBound + dur * 3 / 100 + 1000), depAt := s.now, holdAt := s.now }
  let s := s.changeHeart fun h => { h with run := true, cnt := h.cnt + dur * 2 ^ 28, latched := [] }
  (s.loopsPassed s.hwNs).updPtp fun x => { x with listenAt := s.now }

/-- The counter starts from 0 (R349), FREQ_EST from flash if stored within 720 h of RUN_HOURS (`hours`, in ms). -/
def timeBoot (s : State) (runMs : Nat) : State :=
  let f := match s.time.saved with
    | some (f, at_) => if runMs ≤ at_ + 720 * 3600000 then f else 0
    | none => 0
  { s.updTime fun x => { x with freq := f, dep := 0, depAt := s.now, phase := 0, turn := none } with
    heart := ⟨true, 0, addendOf f 0, [], []⟩ }.timeStart

end State
end Sys2Proof.Machine
end

