-- ==== Sys2Proof/Machine/Ptp.lean ====
section
/-!
DEFINITION. PTP: the ordinary clock's messages, the best master, the peer delays, the transparent clock (R352–R355,
spec/13_heartwood_time.md). Frames sent carry the IEEE 1588 header (PRESUMED from the standard the rules name).
-/
namespace Sys2Proof.Machine

/-- clockIdentity: EUI-64 of the Ethernet address (R352), byte 0 first. -/
def clockIdBytes : List Byte :=
  [Config.mac 0, Config.mac 1, Config.mac 2, 0xFF#8, 0xFE#8, Config.mac 3, Config.mac 4, Config.mac 5]
def clockId : Nat := ofBe clockIdBytes

/-- A number in two's complement, most significant byte first. -/
def beSigned (k : Nat) (i : Int) : List Byte := beBytes k (wrapS (8 * k) i)

/-- A PTP timestamp of 10 bytes: seconds and nanoseconds. -/
def ptpStamp (ns : Nat) : List Byte := beBytes 6 (ns / 1000000000) ++ beBytes 4 (ns % 1000000000)

/-- A PTP message: header of 34 bytes and body. `typ`: messageType; `ctl`: controlField. -/
def ptpFrame (typ domain flags : Nat) (corr : Int) (portNum seq ctl : Nat) (log : Int) (body : List Byte) : List Byte :=
  [BitVec.ofNat 8 typ, 0x12#8] ++ beBytes 2 (34 + body.length) ++ [BitVec.ofNat 8 domain, 0x00#8] ++ beBytes 2 flags ++
    beSigned 8 corr ++ beBytes 4 0 ++ clockIdBytes ++ beBytes 2 portNum ++ beBytes 2 seq ++ [BitVec.ofNat 8 ctl] ++ beSigned 1 log ++ body

/-- The Ethernet frame around a PTP message (R352): Annex E's multicast address, that of the peer-delay messages for them, the
module's own address, and the ethertype. -/
def ptpEther (peer : Bool) (msg : List Byte) : List Byte :=
  (if peer then [0x01#8, 0x80#8, 0xC2#8, 0x00#8, 0x00#8, 0x0E#8] else [0x01#8, 0x1B#8, 0x19#8, 0x00#8, 0x00#8, 0x00#8]) ++
    (List.range 6).map Config.mac ++ [0x88#8, 0xF7#8] ++ msg

/-- The first difference of two lists of numbers decides; the lower is better. -/
def lexLt : List Nat → List Nat → Bool
  | x :: xs, y :: ys => if x = y then lexLt xs ys else decide (x < y)
  | _, _ => false

/-- The data a comparison of masters runs down. -/
def Announce.key (a : Announce) : List Nat := [a.prio1, a.cls, a.acc, a.var, a.prio2, a.gm, a.steps]

/-- clockAccuracy: the smallest enumerated value that covers a bound in ns (R353). -/
def accuracyOf (b : Nat) : Nat :=
  (([(1, 0x1D), (2, 0x1E), (10, 0x1F), (25, 0x20), (100, 0x21), (250, 0x22), (1000, 0x23), (2500, 0x24), (10000, 0x25), (25000, 0x26),
     (100000, 0x27), (250000, 0x28), (1000000, 0x29), (2500000, 0x2A), (10000000, 0x2B), (25000000, 0x2C), (100000000, 0x2D),
     (250000000, 0x2E), (1000000000, 0x2F), (10000000000, 0x30)] : List (Nat × Nat)).find? fun x => decide (b ≤ x.1)).elim 0x31 (·.2)

/-- 2^log seconds, in ns. -/
def intervalNs (log : Int) : Nat := if 0 ≤ log then 1000000000 * 2 ^ log.toNat else 1000000000 / 2 ^ (-log).toNat

namespace State

def ptpCfg (s : State) (hi lo : Nat) : Nat := s.fld (timeBase + 0xC0) hi lo
def ptpInt (s : State) (hi lo : Nat) : Nat := s.fld (timeBase + 0xC4) hi lo
def slaveOnly (s : State) : Bool := s.ptpCfg 9 9 == 1
def p2p (s : State) : Bool := s.ptpCfg 8 8 == 1
def asym (s : State) (p : Fin 2) : Int := signed 32 (s.rd (timeBase + 0xC8 + 4 * p)).toNat
/-- The ordinary clock takes part in PTP. -/
def ptpOn (s : State) : Bool := s.timeOn && s.srcEn .ptp
/-- The ports measure their link delay (R353): the transparent clock's own work, whatever PTP_EN holds. -/
def peerOn (s : State) : Bool := s.timeOn && s.p2p
/-- P1 and P2 can transmit and receive: LINK powered, XREF present (R55, R418), EN of the LINK page 1 (R77). -/
def portsRun (s : State) : Bool := s.powered 5 && !s.clk.xrefGone && s.en (pageBase .link 0)

/-- PTP frames pass a port in both directions. -/
def ptpUp (s : State) (p : Fin 2) : Bool := s.portsRun && s.can.net.link[p]
/-- A frame of the module's own leaves by a port. -/
def ptpOut (s : State) (p : Fin 2) (peer : Bool) (msg : List Byte) : State := if s.ptpUp p then s.send (.ptp p) (ptpEther peer msg) else s
/-- LOG_SYNC, signed. -/
def logSync (s : State) : Int := signed 4 (s.ptpInt 3 0)

/-- The module's own data set as a master (R353). -/
def ownAnnounce (s : State) : Announce :=
  let cls := match s.time.active with
    | some .gnss => 6
    | some .ptp => 248
    | none => if s.timeState = 3 && s.time.gnssHeld then 7 else 248
  ⟨s.ptpCfg 23 16, cls, accuracyOf s.bound, Config.ptpVariance, s.ptpCfg 31 24, clockId, 0, false, none⟩

/-- portState of PTP_STAT. -/
def portState (s : State) : Nat :=
  if !s.timeOn then 1
  else if !s.srcEn .ptp then 3
  else if s.time.ptp.master then 6
  else if s.time.ptp.passive then 7
  else match s.time.ptp.parent with
    | none => 4
    | some _ => if s.time.ptpS.present then 9 else 8

/-- The measurement of a Sync: master time plus path delay plus asymmetry, less its stamp (R354). -/
def ptpOffset (s : State) (p : Fin 2) (master : Int) (t2 : Nat) : State :=
  let s := s.updPtp fun x => { x with last := some (master, t2) }
  let delay := if s.p2p then s.time.ptp.pd[p].delay else s.time.ptp.mpd
  match delay with
  | none => s
  | some d =>
    let s := if s.p2p then s.updPtp fun x => { x with mpd := some d } else s
    s.measured .ptp (master + d + s.asym p - t2)

/-- A message of the master the clock follows. -/
def fromParent (s : State) (p : Fin 2) (m : PtpMsg) : Bool :=
  match s.time.ptp.parent with
  | some q => q.port == p && q.clock == m.clock && q.portNum == m.portNum && m.domain == s.ptpCfg 7 0
  | none => false

/-- PTP_SYNC (R354): stamped on arrival; the source whose Announce and Sync arrive is present, and a one-step Sync gives an
offset. -/
def ptpSync (s : State) (p : Fin 2) (m : PtpMsg) : State :=
  if !s.ptpOn || !s.ptpUp p || !s.fromParent p m then s else
    let t2 := s.hwNs
    let s := s.updPtp fun x => { x with syncAt := some s.now, logSync := m.logInt }
    let s := (s.updSrc .ptp fun x => { x with present := true }).qualify .ptp
    if m.twoStep then s.updPtp fun x => { x with pend := some (m.seq, m.corr, t2) }
    else (s.updPtp fun x => { x with pend := none }).ptpOffset p ((m.ts : Int) + m.corr / 65536) t2

/-- PTP_FOLLOW_UP (R354): completes the two-step Sync of its sequence. -/
def ptpFollowUp (s : State) (p : Fin 2) (m : PtpMsg) : State :=
  if !s.ptpOn || !s.ptpUp p || !s.fromParent p m then s else
    match s.time.ptp.pend with
    | some (seq, corr, t2) =>
      if seq ≠ m.seq then s
      else (s.updPtp fun x => { x with pend := none }).ptpOffset p ((m.ts : Int) + (corr + m.corr) / 65536) t2
    | none => s

/-- As E2E master the clock answers a slave's Delay_Req, stamped on arrival, with a Delay_Resp (R352). -/
def ptpDelayAnswer (s : State) (p : Fin 2) (m : PtpMsg) : State :=
  if !s.ptpOn || s.p2p || !s.time.ptp.master || m.domain ≠ s.ptpCfg 7 0 || m.clock = clockId then s else
    s.ptpOut p false
      (ptpFrame 9 (s.ptpCfg 7 0) 0 m.corr 1 m.seq 3 (s.ptpInt 27 24) (ptpStamp s.hwNs ++ beBytes 8 m.clock ++ beBytes 2 m.portNum))

/-- At its interval the clock sends a Delay_Req and stamps it; with P2P, each port whose link is up a Pdelay_Req (R353). -/
def ptpDelaySend (s : State) : State :=
  if !(s.ptpOn || s.peerOn) then s else
    let dom := s.ptpCfg 7 0
    let hw := s.hwNs
    if s.p2p then
      let q := (s.time.ptp.seqP + 1) % 65536
      let s := s.updPtp fun x => { x with seqP := q }
      (List.finRange 2).foldl (fun s p =>
        if s.ptpUp p then
          (s.ptpOut p true (ptpFrame 2 dom 0 0 (p + 1) q 5 0 (List.replicate 20 0#8))).updPtp fun x =>
            { x with pd := x.pd.set p { x.pd[p] with sent := some (q, hw), resp := none } }
        else s) s
    else match s.time.ptp.parent with
      | none => s
      | some par =>
        let q := (s.time.ptp.seqD + 1) % 65536
        (s.ptpOut par.port false (ptpFrame 1 dom 0 0 1 q 1 0x7F (ptpStamp 0))).updPtp fun x => { x with seqD := q, dreq := some (q, hw) }

/-- PTP_DELAY_REQ (R352): the clock sends its own, or one of a slave's arrives on a port. -/
def ptpDelayReq (s : State) (rx : Option (Fin 2 × PtpMsg)) : State :=
  match rx with
  | none => s.ptpDelaySend
  | some (p, m) => s.ptpDelayAnswer p m

/-- A path delay is known: JUMP when it changed by more than 1 µs, which takes the trust and restarts qualification (R355). -/
def newDelay (s : State) (d : Int) : State :=
  let jump := match s.time.ptp.mpd with | some o => decide (1000 < (d - o).natAbs) | none => false
  let s := s.updPtp fun x => { x with mpd := some d }
  if jump then (s.flag timeBase 5).distrust .ptp else s

/-- PTP_DELAY_RESP (R354): completes a path-delay measurement. -/
def ptpDelayResp (s : State) (p : Fin 2) (m : PtpMsg) : State :=
  if !s.ptpOn || s.p2p || !s.ptpUp p || !s.fromParent p m || m.reqClock ≠ clockId then s else
    match s.time.ptp.dreq, s.time.ptp.last with
    | some (q, t3), some (t1, t2) =>
      if q ≠ m.seq then s
      else
        let t4 : Int := (m.ts : Int) - m.corr / 65536
        (s.updPtp fun x => { x with dreq := none }).newDelay ((((t2 : Int) - t1) + (t4 - t3)) / 2)
    | _, _ => s

/-- The announced data fail the source's own checks (R355). -/
def annFails (s : State) (a : Announce) : Bool := decide (s.ptpInt 23 16 < a.cls) || a.arb || decide (15 < a.steps)

/-- CLASS_MAX has been written: a present source is judged by it at once (R355). -/
def rejudgePtp (s : State) : State :=
  match s.time.ptp.parent with
  | none => s
  | some q =>
    if s.annFails q.ann then s.srcFails .ptp
    else (s.updSrc .ptp fun x => { x with pass := true }).qualify .ptp

/-- The clock takes a master, or another one: MASTER_CHANGE and a new qualification when the grandmaster changes. A source
present stays so for three sync intervals of the new master without a Sync (R354). -/
def setParent (s : State) (q : Parent) : State :=
  let changed := match s.time.ptp.parent with | some o => o.ann.gm != q.ann.gm | none => false
  let moved := match s.time.ptp.parent with | some o => !(o.clock == q.clock && o.portNum == q.portNum && o.port == q.port) | none => true
  let s := s.updPtp fun x => { x with
    parent := some q, annAt := s.now, master := false, rival := none
    syncAt := if moved then (if s.time.ptpS.present then some s.now else none) else x.syncAt, pend := if moved then none else x.pend, last := if moved then none else x.last
    dreq := if moved then none else x.dreq, mpd := if moved then none else x.mpd }
  let s := s.updSrc .ptp fun x => { x with pass := !s.annFails q.ann, utc := if q.ann.utc.isSome then q.ann.utc else x.utc }
  if changed then (s.flag timeBase 6).distrust .ptp else s

/-- PTP_ANNOUNCE (R353–R355): the best master is chosen among the module's own data set and the best other clock heard (the one
followed, or the one that keeps the clock PASSIVE), presence and the source's own checks are judged. -/
def ptpAnnounce (s : State) (p : Fin 2) (m : PtpMsg) (a : Announce) : State :=
  if !s.ptpOn || !s.ptpUp p || m.domain ≠ s.ptpCfg 7 0 || m.clock = clockId then s else
    let q : Parent := ⟨p, m.clock, m.portNum, a, m.logInt⟩
    let own := s.ownAnnounce
    let same := s.fromParent p m
    let best := match s.time.ptp.parent with | some o => some o | none => s.time.ptp.rival
    let better := match best with
      | some o => lexLt (a.key ++ [m.clock, m.portNum]) (o.ann.key ++ [o.clock, o.portNum])
      | none => true
    let held := same || (match s.time.ptp.rival with | some o => o.port == p && o.clock == m.clock && o.portNum == m.portNum | none => false)
    if !s.slaveOnly && lexLt own.key a.key then
      if held || best.isNone then
        let s := s.updPtp fun x => { x with parent := none, master := true, rival := none }
        s.srcLost .ptp
      else s
    else if !s.slaveOnly && decide (own.cls ≤ 127) then
      if held || better then
        (s.updPtp fun x => { x with parent := none, master := false, rival := some q, listenAt := s.now }).srcLost .ptp
      else s
    else if held || better then
      let s := s.setParent q
      if s.annFails a then s.srcFails .ptp else (s.qualify .ptp).settleUtc
    else s

/-- PTP_PDELAY_REQ (R353): answered with a Pdelay_Resp and its Follow_Up, sent `turn` ns after the request. -/
def ptpPdelayReq (s : State) (p : Fin 2) (m : PtpMsg) (turn : Nat) : State :=
  if !s.peerOn then s else
    let dom := s.ptpCfg 7 0
    let who := beBytes 8 m.clock ++ beBytes 2 m.portNum
    let s := s.ptpOut p true (ptpFrame 3 dom 0x0200 0 (p + 1) m.seq 5 0x7F (ptpStamp s.hwNs ++ who))
    s.ptpOut p true (ptpFrame 10 dom 0 m.corr (p + 1) m.seq 5 0x7F (ptpStamp (s.hwNs + turn) ++ who))

/-- The link delay of a port is known. -/
def setPdelay (s : State) (p : Fin 2) (d : Int) : State :=
  let s := s.updPtp fun x => { x with pd := x.pd.set p { x.pd[p] with delay := some d, sent := none, resp := none } }
  let s := s.wr (timeBase + 0xE4 + 4 * p) (fieldAt 31 0 (satS 32 d))
  match s.time.ptp.parent with
  | some q => if q.port = p then s.newDelay d else s
  | none => s

/-- PTP_PDELAY_RESP (R353). -/
def ptpPdelayResp (s : State) (p : Fin 2) (m : PtpMsg) : State :=
  if !s.peerOn || !s.ptpUp p || m.reqClock ≠ clockId || m.reqPort ≠ p + 1 then s else
    match s.time.ptp.pd[p].sent with
    | some (q, t1) =>
      if q ≠ m.seq then s
      else
        let t4 := s.hwNs
        if m.twoStep then s.updPtp fun x => { x with pd := x.pd.set p { x.pd[p] with resp := some (q, m.ts, m.corr, t4) } }
        else s.setPdelay p (((t4 : Int) - t1 - m.corr / 65536) / 2)
    | none => s

/-- PTP_PDELAY_RESP_FOLLOW_UP (R353). -/
def ptpPdelayFollowUp (s : State) (p : Fin 2) (m : PtpMsg) : State :=
  if !s.peerOn || !s.ptpUp p || m.reqClock ≠ clockId || m.reqPort ≠ p + 1 then s else
    match s.time.ptp.pd[p].sent, s.time.ptp.pd[p].resp with
    | some (_, t1), some (q, t2, corr, t4) =>
      if q ≠ m.seq then s
      else s.setPdelay p ((((t4 : Int) - t1) - (((m.ts : Int) - t2) + (corr + m.corr) / 65536)) / 2)
    | _, _ => s

/-- PTP_MASTER_SEND (R353): Sync (0), Follow_Up (1) or Announce (2), on both ports. -/
def ptpMasterSend (s : State) (kind : Nat) : State :=
  if !s.ptpOn || !s.time.ptp.master then s else
    let dom := s.ptpCfg 7 0
    let both := fun (s : State) (bs : List Byte) =>
      (List.finRange 2).foldl (fun s p => s.ptpOut p false bs) s
    match kind with
    | 0 =>
      let q := (s.time.ptp.seqS + 1) % 65536
      (both s (ptpFrame 0 dom 0x0200 0 1 q 0 s.logSync (ptpStamp 0))).updPtp fun x => { x with seqS := q, syncTx := some s.hwNs }
    | 1 =>
      match s.time.ptp.syncTx with
      | some t => (both s (ptpFrame 8 dom 0 0 1 s.time.ptp.seqS 2 s.logSync (ptpStamp t))).updPtp fun x => { x with syncTx := none }
      | none => s
    | _ =>
      let q := (s.time.ptp.seqA + 1) % 65536
      let a := s.ownAnnounce
      let utc := s.rd (timeBase + 0x78)
      let flags := 0x0008 + (if bitOf utc 31 then 0x0004 else 0)
      let src := match s.time.active with | some .gnss => 0x20 | some .ptp => 0x40 | none => 0xA0
      (both s (ptpFrame 11 dom flags 0 1 q 5 (s.ptpInt 7 4)
        (ptpStamp 0 ++ beBytes 2 (fieldOf utc 15 0) ++ [0#8] ++ beBytes 1 a.prio1 ++ beBytes 1 a.cls ++ beBytes 1 a.acc ++ beBytes 2 a.var ++
          beBytes 1 a.prio2 ++ clockIdBytes ++ beBytes 2 0 ++ beBytes 1 src))).updPtp fun x => { x with seqA := q }

/-- PTP_TC_FORWARD (R353): an event message of `typ` goes from P1 to P2 or back after `residence` ns; `udp`: 0 for IEEE
802.3, 1 for UDP over IPv4, 2 for UDP over IPv6; `msg` is the PTP message, its correctionField in bytes 8–15. A message
of IPv4 is given with its UDP checksum in the two bytes before it. -/
def ptpForward (s : State) (p : Fin 2) (udp residence : Nat) (msg : List Byte) : State :=
  let out : Fin 2 := if p = 0 then 1 else 0
  if !(s.ptpUp p && s.ptpUp out) then s
  else if !s.timeOn || s.ptpCfg 10 10 = 0 || udp = 2 then s.send (.tc out) msg
  else
    let off := if udp = 1 then 2 else 0
    let body := msg.drop off
    let c := signed 64 (ofBe (slice body 8 8))
    let sync := decide ((body.headD 0).toNat % 16 = 0)
    let link := if s.p2p && sync then s.time.ptp.pd[p].delay.getD 0 else 0
    let c' := c + ((residence : Int) + link) * 65536
    let body := body.take 8 ++ beSigned 8 c' ++ body.drop 16
    (s.send (.tc out) (List.replicate off 0#8 ++ body)).count (timeBase + 0xEC)

/-- PTP_LOSS (R354): the announce or sync timeout of the master has passed; without a master and with SLAVE_ONLY = 0 the
clock becomes master. -/
def ptpLoss (s : State) : State :=
  if !s.ptpOn then s else
    let tmo := s.ptpInt 11 8
    match s.time.ptp.parent with
    | some q =>
      let noAnn := decide (s.time.ptp.annAt + tmo * intervalNs q.logAnn ≤ s.now)
      let noSync := match s.time.ptp.syncAt with
        | some t => decide (t + 3 * intervalNs s.time.ptp.logSync ≤ s.now)
        | none => false
      if noAnn then
        (s.srcLost .ptp).updPtp fun x => { x with parent := none, syncAt := none, pend := none, last := none, dreq := none, mpd := none,
                                                  listenAt := s.now }
      else if noSync then (s.srcLost .ptp).updPtp fun x => { x with syncAt := none, pend := none, last := none }
      else s
    | none =>
      let ival := match s.time.ptp.rival with | some q => intervalNs q.logAnn | none => intervalNs (s.ptpInt 7 4)
      if !s.slaveOnly && !s.time.ptp.master && decide (s.time.ptp.listenAt + tmo * ival ≤ s.now) then
        s.updPtp fun x => { x with master := true, rival := none }
      else s

/-- The link of a port has gone down: the source behind it is lost (R354). -/
def ptpLinkDown (s : State) (p : Fin 2) : State :=
  match s.time.ptp.parent with
  | some q =>
    if q.port = p then
      (s.srcLost .ptp).updPtp fun x => { x with parent := none, syncAt := none, pend := none, last := none, dreq := none, mpd := none,
                                                listenAt := s.now }
    else s
  | none =>
    match s.time.ptp.rival with
    | some q => if q.port = p then s.updPtp fun x => { x with rival := none, listenAt := s.now } else s
    | none => s

end State
end Sys2Proof.Machine
end

