-- ==== Sys2Proof/Machine/Mirror.lean ====
section
/-!
DEFINITION. The mirror of a digital output (R339): its source re-evaluated at a whole millisecond of Heartwood.
-/
namespace Sys2Proof.Machine
namespace State

/-- X of the mirror as a value of R338, and whether it lay above the range: X in Hz below 0.1 Hz is a steady OFF. Of an X that
is no number the spec gives no value: a free one. -/
def mirrorValue (s : State) (i : Fin 32) (x : F32) : Nat × Bool :=
  let lim := s.doLimit i
  let top := E32.ofNat (if s.outMode i = 0 then 1 else lim / 100)
  let clip := E32.lt top x
  if F32.isNan x then (min lim (Config.freeWord s.freeCtr).toNat, false)
  else if clip then (lim, true)
  else match s.outMode i with
    | 0 => (if E32.le 0x3F000000#32 x then 1 else 0, false)
    | m => (if m = 1 ∧ E32.lt x 0x3DCCCCCD#32 then 0 else min lim (E32.toInt (E32.mul x (E32.ofNat 100))).toNat, false)

/-- MIRROR_EVAL (R339). -/
def mirrorEval (s : State) (i : Fin 32) : State :=
  let b := outBase i
  let a := s.rd (b + 0x10)
  if s.outSrc i ≠ 2 || !s.dioRuns (dog (outGroup i)) then s else
    let read := s.source (fieldOf a 31 24) (fieldOf a 23 16) (fieldOf a 15 8)
    let base := doBase (i / 8)
    let good := match read with
      | some r => if r.ok && decide (s.hwNs ≤ r.stamp + s.fld (b + 0x14) 15 0 * 1000000) then some r else none
      | none => none
    match good with
    | none =>
      let was := (s.out i).mirInv
      (((s.updOut i fun o => { o with mirInv := true }).setFld (b + 0x20) 5 5 1).flagIf (!was) base 9).settleOut i
    | some r =>
      let x := E32.add (E32.mul (s.rd (b + 0x18)) r.raw) (s.rd (b + 0x1C))
      let (v, clip) := s.mirrorValue i x
      let was := (s.out i).clip
      let s := if F32.isNan x then s.tick else s
      (((s.updOut i fun o => { o with mir := some v, mirInv := false, clip := clip }).setFld (b + 0x20) 6 5 (2 * b2n clip)).flagIf (clip && !was) base 10).settleOut i

end State
end Sys2Proof.Machine
end

