-- ==== Sys2Proof/Machine/Clocks.lean ====
section
/-!
DEFINITION. Clock judging (R414–R417), the multiplexers (R419) and the frequency counter (R426, R427),
spec/16_clocks.md. The clock fault itself (R422–R424) stands in Faults.lean, since every block takes part in it.
-/
namespace Sys2Proof.Machine

def clkBase : Nat := pageBase .clk 0

namespace State

/-- The sentinel and AON run: any mode but OFF, out of the AON reset, the sentinel not stopped. -/
def aonRuns (s : State) : Bool := s.sup.mode != .off && s.sup.boot != .aonReset && !s.sup.sentStopped

/-- A COUNT within nominal ±3 % (R414). -/
def countInRange (c : Nat) : Bool := decide (1552000 ≤ c) && decide (c ≤ 1648000)

/-- The spread of a run: largest and smallest within 20 ppm of the mean (R414). -/
def spreadOk (l : List Nat) : Bool :=
  decide ((l.foldl max 0 - l.foldl min 0xFFFFFFFF) * 1000000 * l.length ≤ 20 * l.sum)

/-- XREF_WINDOW (R414): a 1 ms window ends with COUNT; `absent`: the stop monitor showed XREF absent in it. Two windows cannot end at one
instant. -/
def xrefWindow (s : State) (count : Nat) (absent : Bool) : State :=
  if !s.aonRuns || s.clk.windowAt == some s.now then s else
    let s := s.post (clkBase + 0x60) (fieldAt 20 0 (satU 21 count)) []
    let run := (count :: s.clk.run).take 8
    let ok := countInRange count && !absent && spreadOk run
    let run := if ok then run else []
    let stable := decide (run.length = 8)
    let enable := stable && !s.clk.pllOn
    { s with clk := { s.clk with
        run := run, lastCount := some count, windowAt := some s.now, xrefStable := stable
        pllOn := s.clk.pllOn || enable, pllAt := if enable then s.now else s.clk.pllAt } }

/-- PLL_RETRY (R415): not locked 2 ms after the PLL was enabled; it is reset and enabled again 10 ms later. -/
def pllRetry (s : State) : State :=
  if s.aonRuns && s.clk.pllOn && !s.clk.rootLocked && decide (s.clk.pllAt + 2000000 ≤ s.now) then
    { s with clk := { s.clk with pllAt := s.now + 10000000 } }
  else s

/-- TCXO_OK clears (R417); TCXO_FAULT is flagged when it was set. -/
def tcxoLost (s : State) : State :=
  let was := s.clk.tcxoOk
  ({ s with clk := { s.clk with tcxoOk := false, tcxoRun := 0 } }).flagIf was clkBase 4

/-- TCXO_WINDOW (R417): 100 ms of TCXO edges against XREF; with XREF lost no window ends. -/
def tcxoWindow (s : State) (count : Nat) : State :=
  if !s.powered 4 || s.clk.xrefGone then s else
    let d : Int := (count : Int) - 2600000
    let s := s.post (clkBase + 0x64) (fieldAt 15 0 (satS 16 ((d * 10000000).tdiv 2600000))) []
    if d.natAbs ≤ 13 then
      let r := min 8 (s.clk.tcxoRun + 1)
      { s with clk := { s.clk with tcxoRun := r, tcxoOk := s.clk.tcxoOk || decide (r = 8) } }
    else s.tcxoLost

/-- TCXO_STOP (R417). -/
def tcxoStop (s : State) : State := if s.powered 4 then s.tcxoLost else s

/-- MUX_FORCED_RELEASE (R419): the CORE and fabric multiplexer after a clock fault, or the AFE island's (`island`) once its clock channel
has stopped. -/
def muxForced (s : State) (island : Bool) : State :=
  if island then
    if s.powered 6 && s.afe.onRc && !s.afe.muxRc then (({ s with afe := { s.afe with muxRc := true } }).count (clkBase + 0x4C)).flag clkBase 3 else s
  else if s.clockFault && !s.clk.coreOnSentinel then
    (({ s with clk := { s.clk with coreOnSentinel := true } }).count (clkBase + 0x4C)).flag clkBase 3
  else s

end State

/-- Nominal frequency of a counter source, Hz (R426). -/
def nominalHz : Nat → Nat
  | 0 => 25000000 | 1 => 40000000 | 2 => 26000000 | 3 => 104000000 | 4 => 250000000 | 5 => 125000000 | 6 => 100000000
  | 7 => 50000000 | 8 => 25000000 | 9 => 25000000 | 10 => 25000000 | 12 => 50000000 | 13 => 1000000 | 14 => 125000000
  | _ => 0

namespace State

/-- START of FCNT_CMD (R427). -/
def fcntStart (s : State) : State :=
  let cfg := s.rd (clkBase + 0x80)
  ({ s with clk := { s.clk with fcnt := some (s.now, cfg) } }).wr (clkBase + 0x88)
    ((s.rd (clkBase + 0x88) &&& 0xFF800000#32) ||| fieldAt 18 16 1 ||| fieldAt 7 4 (fieldOf cfg 7 4) ||| fieldAt 3 0 (fieldOf cfg 3 0))

/-- The end of a measurement with a state and a COUNT; FREQ in binary64, rounded to binary32. -/
def fcntEnd (s : State) (cfg : Word) (st count : Nat) : State :=
  let r := fieldOf cfg 7 4
  let gate := fieldOf cfg 31 16
  let c := if st = 2 ∧ r = fieldOf cfg 3 0 then gate else count
  let f := F64.narrow (F64.div (F64.mul (F64.ofNat c) (F64.ofNat (nominalHz r))) (F64.ofNat gate))
  let f := if r = 11 ∨ r = 15 then F32.zero else f
  let s := { s with clk := { s.clk with fcnt := none } }
  (s.post (clkBase + 0x88) (fieldAt 18 16 st ||| fieldAt 7 4 r ||| fieldAt 3 0 (fieldOf cfg 3 0)) [toWord c, f]).flag clkBase 6

/-- The gate of a measurement begun at `t` can have closed now: GATE reference edges need at least nine tenths of their nominal time
(log entry 12), and 103 ms after START the measurement has ended NOREF. Source 15 has no edges (R426, R427). -/
def fcntMayClose (s : State) (t : Nat) (cfg : Word) : Bool :=
  let r := fieldOf cfg 7 4
  r != 15 && decide (s.now ≤ t + 103000000) && decide (900000000 * fieldOf cfg 31 16 ≤ (s.now - t) * nominalHz r)

/-- FCNT_DONE: the gate has closed. -/
def fcntDone (s : State) (count : Nat) : State :=
  match s.clk.fcnt with
  | some (t, cfg) => if s.fcntMayClose t cfg then s.fcntEnd cfg 2 (if fieldOf cfg 3 0 = 15 then 0 else count % 2 ^ 32) else s
  | none => s

/-- FCNT_NOREF: 100 ms ±3 % after START. -/
def fcntNoref (s : State) : State :=
  match s.clk.fcnt with
  | some (t, cfg) => if t + 97000000 ≤ s.now then s.fcntEnd cfg 3 0 else s
  | none => s

/-- A clock fault ends a measurement ABORTED. -/
def fcntAbort (s : State) : State :=
  match s.clk.fcnt with
  | some (_, cfg) => s.fcntEnd cfg 4 0
  | none => s

end State
end Sys2Proof.Machine
end

