-- ==== Sys2Proof/Machine/GnssLsq.lean ====
section
/-!
DEFINITION. Least squares for the timing solution (R382), in binary64: the normal equations of the pseudoranges, each satellite
weighted by sin² of its elevation, solved by elimination and repeated from the last result. The arithmetic is not the spec's (log
entry 68).
-/
namespace Sys2Proof.Machine

/-- One satellite in use: its position and corrected pseudorange in m, its weight, and the place of its system among those beside
the reference, if it is not the reference. -/
structure LsqSat where
  x : F64
  y : F64
  z : F64
  rng : F64
  w : F64
  isb : Option Nat
  deriving DecidableEq, Repr

/-- A solution: position, the clock and the biases in m, and the residuals in the order of the satellites. -/
structure LsqFix where
  x : F64
  y : F64
  z : F64
  clk : F64
  isb : List F64
  res : List F64
  deriving DecidableEq, Repr

namespace Lsq

def dot (a b : List F64) : F64 := (List.zipWith F64.mul a b).foldl F64.add F64.zero

/-- The row with the largest magnitude in its first place, and the others. -/
def pivot : List (List F64) → Option (List F64 × List (List F64))
  | [] => none
  | r :: rs =>
    match pivot rs with
    | none => some (r, [])
    | some (p, rest) =>
      if F64.lt (F64.abs (r.headD F64.zero)) (F64.abs (p.headD F64.zero)) then some (p, r :: rest) else some (r, p :: rest)

/-- The solution of n equations, rows with their right side last; none where they have no single one. -/
def solve : Nat → List (List F64) → Option (List F64)
  | 0, _ => some []
  | n + 1, rows =>
    match pivot rows with
    | none => none
    | some (p, rest) =>
      let h := p.headD F64.zero
      if !F64.lt F64.zero (F64.abs h) then none
      else
        let cut := fun (r : List F64) =>
          let f := F64.div (r.headD F64.zero) h
          List.zipWith (fun a b => F64.sub a (F64.mul f b)) r.tail p.tail
        match solve n (rest.map cut) with
        | none => none
        | some xs => some (F64.div (F64.sub (p.getD (n + 1) F64.zero) (dot p.tail xs)) h :: xs)

/-- A satellite seen from a position: its row of the design matrix and what is left of its pseudorange. -/
def row (free : Bool) (k : Nat) (u : LsqFix) (m : LsqSat) : List F64 × F64 :=
  let d := [F64.sub m.x u.x, F64.sub m.y u.y, F64.sub m.z u.z]
  let r := F64.sqrt (dot d d)
  let b := match m.isb with | some i => u.isb.getD i F64.zero | none => F64.zero
  ((if free then d.map fun v => F64.neg (F64.div v r) else []) ++ F64.one ::
    (List.range k).map (fun i => if m.isb = some i then F64.one else F64.zero),
   F64.sub m.rng (F64.add (F64.add r u.clk) b))

/-- One repetition: the unknowns move by the solution of the normal equations. -/
def step (free : Bool) (k : Nat) (ms : List LsqSat) (u : LsqFix) : Option LsqFix :=
  let rows := ms.map fun m => (m.w, row free k u m)
  let n := (if free then 3 else 0) + 1 + k
  let col := fun (i : Nat) => rows.map fun x => F64.mul x.1 (x.2.1.getD i F64.zero)
  let eqs := (List.range n).map fun i =>
    (List.range n).map (fun j => dot (col i) (rows.map fun x => x.2.1.getD j F64.zero)) ++ [dot (col i) (rows.map fun x => x.2.2)]
  match solve n eqs with
  | none => none
  | some v =>
    let g := fun i => v.getD i F64.zero
    let (p, o) := if free then (v, 3) else ([], 0)
    let q := fun i => p.getD i F64.zero
    some { u with x := F64.add u.x (q 0), y := F64.add u.y (q 1), z := F64.add u.z (q 2), clk := F64.add u.clk (g o)
                  isb := (List.range k).map fun i => F64.add (u.isb.getD i F64.zero) (g (o + 1 + i)) }

def steps (free : Bool) (k : Nat) (ms : List LsqSat) : Nat → LsqFix → Option LsqFix
  | 0, u => some u
  | n + 1, u => match step free k ms u with | none => none | some v => steps free k ms n v

/-- The solution from a start: ten repetitions, with the residuals that are left. `free`: the position is unknown. -/
def fix (free : Bool) (k : Nat) (ms : List LsqSat) (x y z : F64) : Option LsqFix :=
  match steps free k ms 10 ⟨x, y, z, F64.zero, [], []⟩ with
  | none => none
  | some u => some { u with res := ms.map fun m => (row free k u m).2 }

/-- The rms of the weighted residuals: the square root of the mean of w·v². -/
def rms (ms : List LsqSat) (u : LsqFix) : F64 :=
  F64.sqrt (F64.div (dot (ms.map (·.w)) (u.res.map fun v => F64.mul v v)) (F64.ofNat ms.length))

end Lsq
end Sys2Proof.Machine
end

