-- ==== Sys2Proof/Machine/GnssNav.lean ====
section
/-!
DEFINITION. Navigation messages out of received bits (R370, R381): the parity of GPS LNAV, the block code of BeiDou, the
interleaving, the convolutional code and the CRC of Galileo I/NAV, and the words the NAV ring shows. The codes and the places of
the fields are those of the three interface documents that R370 names (log entry 68).
-/
namespace Sys2Proof.Machine

/-- A subframe or page: its type (R381), the page within it where the type has pages, RESULT, the time of week of its start if it
is decoded, whether its checks passed, and its ten data words. -/
structure NavMsg where
  typ : Nat
  page : Nat
  result : Nat
  tow : Option Nat
  ok : Bool
  data : List Word
  deriving DecidableEq, Repr

namespace Nav

/-- The number that bits spell, the first one most significant. -/
def num (bs : List Bool) : Nat := bs.foldl (fun n b => 2 * n + b2n b) 0
/-- The number in `n` bits from position `off` on. -/
def at_ (bs : List Bool) (off n : Nat) : Nat := num ((bs.drop off).take n)
/-- `n` of the received bits from position `off` on; a bit that is not there counts as 0. -/
def cut (bs : List Bool) (off n : Nat) : List Bool := (List.range n).map fun i => bs.getD (off + i) false
def parity (bs : List Bool) : Bool := bs.foldl xor false
/-- RESULT of words whose checks came out as listed, from bit `lo` on. -/
def flags (lo : Nat) (l : List Bool) : Nat := (withIndex l).foldl (fun m p => m + b2n p.2 * 2 ^ (lo + p.1)) 0

/-! ### GPS LNAV -/

/-- The parity bits 25–30: whether they take D30* (else D29*), and the data bits they take. -/
def gpsTaps : List (Bool × List Nat) :=
  [(false, [1, 2, 3, 5, 6, 10, 11, 12, 13, 14, 17, 18, 20, 23]), (true, [2, 3, 4, 6, 7, 11, 12, 13, 14, 15, 18, 19, 21, 24]),
   (false, [1, 3, 4, 5, 7, 8, 12, 13, 14, 15, 16, 19, 20, 22]), (true, [2, 4, 5, 6, 8, 9, 13, 14, 15, 16, 17, 20, 21, 23]),
   (true, [1, 3, 5, 6, 7, 9, 10, 14, 15, 16, 17, 18, 21, 22, 24]), (false, [3, 5, 6, 8, 9, 10, 11, 13, 15, 19, 22, 23, 24])]

/-- A received word after the bits D29* and D30* of the word before it: the inversion is removed from bits 1–24, the parity is
computed from them. -/
def gpsWord (d29 d30 : Bool) (w : List Bool) : Bool × List Bool :=
  let d := (w.take 24).map (xor d30)
  let par := gpsTaps.map fun p => xor (if p.1 then d30 else d29) (parity (p.2.map fun i => d.getD (i - 1) false))
  (par == w.drop 24, d ++ w.drop 24)

/-- A subframe of 300 bits after the last two bits of the subframe before it. -/
def gps (raw : List Bool) : NavMsg :=
  let ws := (List.range 10).map fun k => gpsWord (raw.getD (30 * k) false) (raw.getD (30 * k + 1) false) (cut raw (30 * k + 2) 30)
  let how := (ws.getD 1 (false, [])).2
  let typ := at_ how 19 3
  let oks := ws.map (·.1)
  { typ := typ, page := if 4 ≤ typ then at_ (ws.getD 2 (false, [])).2 2 6 else 0, result := flags 0 oks, ok := oks.all id
    tow := if oks.getD 1 false then some ((at_ how 0 17 * 6 + 604794) % 604800) else none
    data := ws.map fun w => toWord (num w.2) }

/-! ### BeiDou D1 and D2 -/

/-- The rest of a code word of 15 bits over x⁴ + x + 1. -/
def bchRem (c : List Bool) : Nat :=
  c.foldl (fun r b => let r := 2 * r + b2n b; if 16 ≤ r then r ^^^ 19 else r) 0

/-- A code word with one error corrected, and whether there was one. -/
def bchFix (c : List Bool) : Bool × List Bool :=
  if bchRem c = 0 then (false, c)
  else match (List.range 15).find? fun i => bchRem (c.set i (!c.getD i false)) == 0 with
    | some i => (true, c.set i (!c.getD i false))
    | none => (false, c)

/-- Every second bit, from the first one on. -/
def evens : List Bool → List Bool
  | [] => []
  | [x] => [x]
  | x :: _ :: xs => x :: evens xs

/-- A received word k: passed, corrected, and its bits after de-interleaving and correction. Word 0 carries one code word, after
15 bits that no code protects. -/
def bdsWord (k : Nat) (w : List Bool) : Bool × Bool × List Bool :=
  if k = 0 then
    let (f, c) := bchFix (w.drop 15)
    (bchRem c == 0, f, w.take 15 ++ c)
  else
    let (f, a) := bchFix (evens w)
    let (g, b) := bchFix (evens w.tail)
    (bchRem a == 0 && bchRem b == 0, f || g, a.take 11 ++ b.take 11 ++ a.drop 11 ++ b.drop 11)

/-- A geostationary satellite sends D2, the others D1. -/
def bdsGeo (prn : Nat) : Bool := decide (prn ≤ 5) || decide (59 ≤ prn)

/-- A subframe of 300 bits. -/
def bds (prn : Nat) (raw : List Bool) : NavMsg :=
  let ws := (List.range 10).map fun k => bdsWord k (cut raw (30 * k) 30)
  let w := fun k => (ws.getD k (false, false, [])).2.2
  let fra := at_ (w 0) 15 3
  let geo := bdsGeo prn
  let oks := ws.map (·.1)
  { typ := fra + if geo then 0x80 else 0
    page := if geo then (if fra = 1 then at_ (w 1) 12 4 else 0) else if 4 ≤ fra then at_ (w 1) 13 7 else 0
    result := flags 0 oks + flags 16 (ws.map (·.2.1)), ok := oks.all id
    tow := if oks.getD 0 false && oks.getD 1 false then some (at_ (w 0) 18 8 * 4096 + at_ (w 1) 0 12) else none
    data := ws.map fun x => toWord (num x.2.2) }

/-! ### Galileo I/NAV -/

/-- The 240 symbols of a page part in the order of the encoder: written by columns of 8, sent by rows of 30. -/
def galOrder (raw : List Bool) (off : Nat) : List Bool := (List.range 240).map fun i => raw.getD (off + i % 8 * 30 + i / 8) false

/-- The two symbols of the encoder (171 and, inverted, 133 octal) for a register of seven bits, the newest one most significant. -/
def galSyms (r : Nat) : Bool × Bool :=
  let p := fun (m : Nat) => parity ((List.range 7).map fun i => (r &&& m).testBit i)
  (p 0x79, !(p 0x5B))

/-- A survivor: the symbols that differ so far, and its bits, newest first. -/
structure Path where
  cost : Nat
  bits : List Bool
  deriving DecidableEq, Repr

def pairs {α : Type} : List α → List (α × α)
  | a :: b :: xs => (a, b) :: pairs xs
  | _ => []

/-- The survivors of the 64 states after one more pair of symbols; of two equal ones the one from the lower state. -/
def galStep (ps : List Path) (y : Bool × Bool) : List Path :=
  let half : Bool → List Path := fun b => (withIndex (pairs ps)).map fun (j, p, q) =>
    let cost := fun (low : Nat) => let z := galSyms (64 * b2n b + 2 * j + low); b2n (z.1 != y.1) + b2n (z.2 != y.2)
    if q.cost + cost 1 < p.cost + cost 0 then ⟨q.cost + cost 1, b :: q.bits⟩ else ⟨p.cost + cost 0, b :: p.bits⟩
  half false ++ half true

/-- The 120 bits of a page part: the encoder begins and ends with a register of zeros. -/
def galPart (raw : List Bool) (off : Nat) : List Bool :=
  let start : List Path := ⟨0, []⟩ :: List.replicate 63 ⟨1000, []⟩
  let last := (pairs (galOrder raw off)).foldl galStep start
  ((last.headD ⟨0, []⟩).bits).reverse

/-- CRC-24Q of bits. -/
def crc24 (bs : List Bool) : Nat :=
  bs.foldl (fun r b => let x := r * 2 % 16777216; if decide (8388608 ≤ r) != b then x ^^^ 0x864CFB else x) 0

/-- A nominal page out of the symbols of its even and its odd part, without their synchronisation patterns. -/
def gal (raw : List Bool) : NavMsg :=
  let e := galPart raw 0
  let o := galPart raw 240
  let ok := crc24 (e.take 114 ++ o.take 82) == at_ o 82 24
  let word := (e.drop 2).take 112 ++ (o.drop 2).take 16
  let typ := at_ word 0 6
  let off : Option Nat := match typ with | 0 => some 108 | 5 => some 85 | 6 => some 105 | _ => none
  let all := e ++ o
  { typ := typ, page := 0, result := b2n ok, ok := ok
    tow := if ok then off.map fun p => at_ word p 20 else none
    data := (List.range 8).map (fun i => toWord (num (cut all (32 * i) 32))) ++ [0, 0] }

/-- A subframe or page of a satellite. -/
def decode (sys prn : Nat) (raw : List Bool) : NavMsg :=
  match sys with | 1 => gps raw | 2 => gal raw | _ => bds prn raw

/-- The received bits that make up a subframe or page. -/
def bitsOf (sys : Nat) : Nat := match sys with | 1 => 302 | 2 => 480 | _ => 300

end Nav
end Sys2Proof.Machine
end

