-- ==== Sys2Proof/Machine/Gnss.lean ====
section
/-!
DEFINITION. The GNSS receiver (R368–R388, spec/14_gnss_receiver.md): antenna supply, acquisition passes, channels, the
navigation store and its ring, the solution and its checks. What the antenna brings comes with the commands: the sums of a
search, received bits, measurements; every rule of the chapter on them is judged here.
-/
namespace Sys2Proof.Machine

def gnssBase : Nat := pageBase .gnss 0
def gnssChBase (p : Nat) : Nat := pageBase .gnssCh p
/-- The block of a channel. -/
def gnssBlock (c : Nat) : Nat := gnssChBase (c / 16) + 0x100 + 0x80 * (c % 16)

/-- Satellites of a system (R370). -/
def satsOf : Nat → Nat
  | 1 => 32 | 2 => 36 | 3 => 63 | _ => 0

def GnssCh.idle : GnssCh := ⟨none, 0, none, none, 0, false, none, 0, 0⟩

/-- The types and pages that make up an ephemeris (R370, from the interface documents). -/
def ephPages (x : Sat) : List (Nat × Nat) :=
  if x.sys = 2 then [(1, 0), (2, 0), (3, 0), (4, 0)]
  else if x.sys = 3 && Nav.bdsGeo x.prn then (List.range 10).map fun i => (0x81, i + 1)
  else [(1, 0), (2, 0), (3, 0)]
/-- Message types that carry an almanac. -/
def almTypes (sys : Nat) : List Nat := if sys = 2 then [7, 8, 9, 10] else [4, 5]

namespace State

def updGnss (s : State) (f : Gnss → Gnss) : State := { s with gnss := f s.gnss }
def gch (s : State) (c : Fin 64) : GnssCh := s.gnss.ch[c]
def updGch (s : State) (c : Fin 64) (f : GnssCh → GnssCh) : State :=
  s.updGnss fun x => { x with ch := x.ch.set c (f x.ch[c]) }

def gcfg (s : State) (hi lo : Nat) : Nat := s.fld (gnssBase + 0x40) hi lo
/-- A system is in use. -/
def sysEn (s : State) (sys : Nat) : Bool := s.bit (gnssBase + 0x40) (15 + sys)

/-- The receiver may run (R372, R387, R388). -/
def gnssWanted (s : State) : Bool :=
  s.powered 4 && s.clocked .gnss && s.en gnssBase && decide (s.gnss.thr < 3) &&
    (match s.sup.mode with | .off | .boot | .thermalOff => false | _ => true)

/-- The root side of the receiver works. A clock fault clears TCXO_OK (R417) and does not stop the channels (R372): a receiver that
ran goes on after it. -/
def gnssRuns (s : State) : Bool := s.gnssWanted && s.gnss.on && !s.clockFault

/-- ANT of PAGE_STAT. -/
def antState (s : State) : Nat := if s.gnssWanted && s.gcfg 0 0 == 1 then s.gnss.ant else 3

/-- A channel is not IDLE. -/
def gchOn (s : State) (c : Fin 64) : Bool := (s.gch c).cstate != 0
/-- A channel holds a satellite. -/
def gchBusy (s : State) (c : Fin 64) : Bool := (s.gch c).sat.isSome
/-- N_TRACK. -/
def nTrack (s : State) : Nat := ((List.finRange 64).filter fun c => s.gchOn c).length

/-! ### The store -/

/-- The age of a stored message, ns: by Heartwood, and no less than RUN_HOURS shows (log entry 68). -/
def navAge (s : State) (r : NavRec) : Nat := max (s.hwNs - r.at_) ((s.runTenths - r.runAt) * 100000000)

/-- The ephemeris of a satellite is complete and within its validity, 4 h (BeiDou 1 h); a message that lies ahead of Heartwood is of
an earlier count, and it does not count. -/
def ephValid (s : State) (x : Sat) : Bool :=
  let age := if x.sys = 3 then 3600000000000 else 14400000000000
  (ephPages x).all fun t => s.gnss.live.nav.any fun r =>
    r.sat == x && r.ok && r.typ == t.1 && r.page == t.2 && decide (r.at_ ≤ s.hwNs) && decide (s.navAge r ≤ age)

/-- An almanac no older than 30 days is held. -/
def almanac (s : State) : Bool :=
  s.gnss.live.nav.any fun r => r.ok && (almTypes r.sat.sys).contains (r.typ % 128) && decide (s.navAge r ≤ 2592000000000000)

/-- The start type (R377). -/
def startType (s : State) : Nat :=
  let pos := s.gnss.live.pos.isSome || s.gnss.live.surveyed.isSome
  let eph := ((s.gnss.live.nav.map fun (r : NavRec) => r.sat).eraseDups.filter fun x => s.ephValid x).length
  if decide (4 ≤ eph) && pos && decide (s.bound ≤ 1000000) then 2 else if s.almanac && pos then 1 else 0

/-! ### Losing and starting -/

/-- Channel c returns to IDLE; its satellite goes back to the candidates (R376, R379). -/
def dropCh (s : State) (c : Fin 64) : State :=
  let x := s.gch c
  let lost := x.cstate != 0
  let s := s.updGnss fun g => { g with back := match x.sat with | some y => y :: g.back.filter (· != y) | none => g.back }
  (s.updGch c fun _ => GnssCh.idle).flagIf lost (gnssChBase (c / 16)) 1

/-- CSTATE: READY means that the ephemeris is valid too (R378). -/
def cstateOf (s : State) (c : Fin 64) : Nat :=
  let x := s.gch c
  if x.cstate = 5 && !(match x.sat with | some y => s.ephValid y | none => false) then 4 else x.cstate

/-- A system switched off is tracked no longer (R370). -/
def dropDisabled (s : State) : State :=
  (List.finRange 64).foldl (fun s c => match (s.gch c).sat with | some y => if s.sysEn y.sys then s else s.dropCh c | none => s) s

/-- Every channel is IDLE, the pass is abandoned, FIX is NONE and no valid solution is present. -/
def gnssStop (s : State) : State :=
  let any := s.gnss.fix != 0
  let s := (s.updGnss fun g => { g with
    on := false, ch := Vector.replicate 64 GnssCh.idle, pass := none, fix := 0, epoch := none, prev := none, lastSol := none }).xfGnssDrop
  let s := (s.flagIf any gnssBase 0).setFld (gnssBase + 0x80) 23 23 0
  s.srcLost .gnss

/-- The receiver starts, with its start type; in AUTO without a survey the position starts anew. -/
def gnssStart (s : State) : State :=
  let st := s.startType
  s.updGnss fun g => { g with on := true, start := st, back := [], ch := Vector.replicate 64 GnssCh.idle, pass := none }

/-- What follows a change of an enable, a mode, a level or TCXO_OK. With the receiver off the antenna supply is off, and its
conditions are judged anew when it comes on (R369). -/
def settleGnss (s : State) : State :=
  if !s.gnssWanted then
    let s := if s.gnss.on then s.gnssStop else s
    if s.gnss.ant = 0 then s else s.updGnss fun g => { g with ant := 0 }
  else if !s.gnss.on && s.clk.tcxoOk && !s.clockFault then s.gnssStart
  else s

/-- The TCXO has stopped or has been judged bad (R372): flagged on the GNSS page, every channel idle. -/
def gnssTcxoLost (s : State) (was : Bool) : State :=
  let s := s.flagIf (was && s.powered 4) gnssBase 4
  if s.gnss.on then s.gnssStop else s

/-- TRK_CFG goes to the channels that hold a satellite; none goes while TCXO_OK = 0 (R371, R378). -/
def gnssConfig (s : State) : State :=
  if !s.clk.tcxoOk then s
  else s.updGnss fun g => { g with ch := g.ch.map fun (x : GnssCh) =>
    if x.sat.isSome then { x with pll := s.fld (gnssBase + 0x58) 15 8, dll := s.fld (gnssBase + 0x58) 7 0 } else x }

/-- Channels given up until at most `n` are left: those not used in the solution first, then by rising C/N0 (R387). -/
def shedGo (s : State) (n : Nat) : Nat → State
  | 0 => s
  | k + 1 =>
    let on := (List.finRange 64).filter fun c => s.gchBusy c
    if on.length ≤ n then s
    else
      let worse := fun (a b : Fin 64) =>
        let x := s.gch a
        let y := s.gch b
        if x.used != y.used then !x.used else decide (x.cn0 < y.cn0)
      match on with
      | [] => s
      | c :: cs => (s.dropCh (cs.foldl (fun m c => if worse c m then c else m) c)).shedGo n k

/-- Channels THR_LEVEL allows. -/
def chLimit (thr : Nat) : Nat := match thr with | 0 => 64 | 1 => 32 | 2 => 12 | _ => 0

/-- THR_LEVEL takes a level: THR_CHANGE, the channels above its limit go, level 3 stops the receiver (R387); an acquisition
pass in progress goes on (R435). -/
def setThr (s : State) (n : Nat) : State :=
  if s.gnss.thr = n then s else
    let s := (s.updGnss fun g => { g with thr := n }).flagIf (s.powered 4) gnssBase 8
    let s := s.shedGo (chLimit n) 64
    s.settleGnss

/-! ### Acquisition (R373–R376) -/

/-- Every satellite of the enabled systems. -/
def allSats (s : State) : List Sat :=
  ([1, 2, 3].filter fun y => s.sysEn y).flatMap fun y => (List.range (satsOf y)).map fun i => ⟨y, i + 1⟩

/-- A channel tracks or holds the satellite. -/
def tracked (s : State) (x : Sat) : Bool := s.gnss.ch.toList.any fun c => c.sat == some x

/-- The centre of a satellite's Doppler window, Hz (R374): the predicted Doppler (0 in a cold start and where none is predicted) less
what DEV of TCXO_MEAS, 0.1 ppm, makes of its carrier. -/
def dopCentre (s : State) (visible : List (Sat × Int)) (x : Sat) : Int :=
  let carrier : Int := if x.sys = 3 then 1561098000 else 1575420000
  let pred := if s.gnss.start = 0 then 0 else ((visible.find? fun v => v.1 == x).map (·.2)).getD 0
  pred - (carrier * signed 16 (s.fld (clkBase + 0x64) 15 0)) / 10000000

/-- The candidates of R374 with the centres of their windows; `visible`: what the almanac predicts above ELEV_MASK; hot: of those the
ones with ephemeris. -/
def candidates (s : State) (visible : List (Sat × Int)) : List (Sat × Int) :=
  let l := if s.gnss.start = 0 then s.allSats
    else s.allSats.filter fun x => ((visible.any fun v => v.1 == x) && (s.gnss.start != 2 || s.ephValid x)) || s.gnss.back.contains x
  (l.filter fun x => !s.tracked x).map fun x => (x, s.dopCentre visible x)

/-- A free channel within the limit of THR_LEVEL. -/
def freeCh (s : State) : Option (Fin 64) :=
  if chLimit s.gnss.thr ≤ ((List.finRange 64).filter fun c => s.gchBusy c).length then none
  else (List.finRange 64).find? fun c => !s.gchBusy c

/-- ACQ_PASS_START (R374, R387). -/
def acqStart (s : State) (visible : List (Sat × Int)) : State :=
  let c := s.candidates visible
  let rate := match s.gnss.thr, s.gnss.lastPass with
    | 0, _ => true
    | 1, some t => decide (t + 30000000000 ≤ s.now)
    | 1, none => true
    | _, _ => false
  if s.gnssRuns && s.clk.tcxoOk && s.gnss.pass.isNone && !c.isEmpty && s.freeCh.isSome && rate then
    s.updGnss fun g => { g with pass := some ⟨s.now, false, c, 0⟩, lastPass := some s.now }
  else s

/-- Half the width of a Doppler window (R374): ±6,000, ±1,000 or ±500 Hz. -/
def dopHalf (start : Nat) : Nat := match start with | 0 => 6000 | 1 => 1000 | _ => 500
/-- Doppler bins of a window (R373, R374). -/
def bins (start spacing : Nat) : Nat := 2 * dopHalf start / spacing + 1

/-- Bin-blocks of a pass: of 4,096 and of 16,384 points. -/
def passWork (s : State) (cand : List (Sat × Int)) : Nat × Nat :=
  let n := fun y => (cand.filter fun x => x.1.sys == y).length
  let b := bins s.gnss.start 500
  (n 1 * b * s.fld (gnssBase + 0x54) 29 24 + n 3 * b * s.fld (gnssBase + 0x54) 21 16,
   n 2 * bins s.gnss.start 125 * s.fld (gnssBase + 0x54) 11 8)

/-- ACQ_CAPTURE_DONE (R373): 40 ms after the start, the capture has its stamp on the GNSS sample counter and the search goes to
XFORM. -/
def acqCaptured (s : State) (stamp : Nat) : State :=
  match s.gnss.pass with
  | some p =>
    if !s.gnssRuns || p.captured || s.now < p.start + 40000000 then s
    else
      let (a, b) := s.passWork p.cand
      (s.updGnss fun g => { g with pass := some { p with captured := true, stamp := stamp } }).xfGnss a b
  | none => s

/-- The bin of a list that holds the largest sum, with that sum and its cell. -/
def acqPeak (bs : List AcqBin) : Option (AcqBin × Nat × Nat) :=
  bs.foldl (fun m b =>
    (withIndex b.cells).foldl (fun m c =>
      match m with
      | some (_, v, _) => if v < c.2 then some (b, c.2, c.1) else m
      | none => some (b, c.2, c.1)) m) none

/-- The largest sum over the mean of the other cells of its bin exceeds `thr` tenths of a dB (R376): exactly, both sides raised to
the hundredth power. -/
def acqDetects (thr : Nat) (b : AcqBin) (top : Nat) : Bool :=
  decide (10 ^ thr * (b.cells.sum - top) ^ 100 < (top * (b.cells.length - 1)) ^ 100)

/-- The code phase at sample `smp` of the counter of a peak found in cell `cell` of a capture stamped `stamp` (R376): 4.096 cells per µs
of a 26 MHz sample, faster by the Doppler, in 2⁻¹⁶ of a cell within the code's period. -/
def codePhase (x : Sat) (stamp smp cell : Nat) (dop : Int) : Nat :=
  let carrier : Int := if x.sys = 3 then 1561098000 else 1575420000
  let period : Int := 65536 * (if x.sys = 2 then 16384 else 4096)
  let run := ((smp - stamp : Nat) : Int) * 4096 * 65536 * (carrier + dop) / (26000 * carrier)
  ((run - 65536 * (cell : Int)) % period).toNat

/-- One detected satellite goes to the lowest free channel, with its code phase at sample `smp` and the channels' configuration
(R376). -/
def handOver (s : State) (x : Sat) (smp code : Nat) (dop : Int) : State :=
  if s.tracked x || !s.sysEn x.sys then s else
  match s.freeCh with
  | some c => s.updGch c fun _ => { GnssCh.idle with
      sat := some x, handed := some s.now, code := some (smp, code, dop)
      pll := s.fld (gnssBase + 0x58) 15 8, dll := s.fld (gnssBase + 0x58) 7 0 }
  | none => s

/-- A candidate of the pass is judged by its bins (R376). -/
def acqJudge (s : State) (p : AcqPass) (smp : Nat) (found : List AcqBin) (x : Sat × Int) : State :=
  let bs := found.filter fun b => b.sat == x.1 && decide ((b.dop - x.2).natAbs ≤ dopHalf s.gnss.start)
  match acqPeak bs with
  | some (b, top, cell) =>
    if acqDetects (s.fld (gnssBase + 0x54) 7 0) b top then s.handOver x.1 smp (codePhase x.1 p.stamp smp cell b.dop) b.dop else s
  | none => s

/-- ACQ_PASS_END (R376): the candidates whose ratio exceeds ACQ_THR are detections. -/
def acqEnd (s : State) (smp : Nat) (found : List AcqBin) : State :=
  match s.gnss.pass with
  | some p =>
    if !s.gnssRuns || !p.captured || s.xfGnssBusy then s
    else
      let s := p.cand.foldl (fun s x => s.acqJudge p smp found x) s
      let left := p.cand.filter fun x => !s.tracked x.1
      let s := s.updGnss fun g => { g with pass := none, back := g.back.filter fun x => !p.cand.any fun y => y.1 == x }
      let s := s.post (gnssBase + 0xC4) (fieldAt 22 16 (satU 7 left.length) ||| fieldAt 15 0 (satU 16 ((s.now - p.start) / 1000000))) []
      s.flag gnssBase 7
  | none => s

/-- ACQ_CONFIRM_TIMEOUT (R376): 1 s after the hand-over the channel has not reached FLL. -/
def acqTimeout (s : State) (c : Fin 64) : State :=
  let x := s.gch c
  match x.handed with
  | some t => if s.gnssRuns && x.cstate == 0 && decide (t + 900000000 ≤ s.now) then s.dropCh c else s
  | none => s

/-! ### Tracking (R378, R379) -/

/-- CHANNEL_LOCK (R378): the channel advances by one state; FLL confirms a hand-over, READY needs a valid ephemeris. -/
def channelLock (s : State) (c : Fin 64) : State :=
  let x := s.gch c
  match x.sat with
  | none => s
  | some sat =>
    if !(s.gnssWanted && s.gnss.on) || 5 ≤ x.cstate then s
    else if x.cstate = 4 && !s.ephValid sat then s
    else
      (s.updGch c fun y => { y with cstate := x.cstate + 1, handed := none }).flagIf (x.cstate == 0) (gnssChBase (c / 16)) 0

/-- The coherent integration of a channel, ms (R378): by its signal and by whether it is past BIT_SYNC. -/
def integration (x : GnssCh) : Nat :=
  match x.sat with
  | none => 0
  | some y =>
    let aligned := decide (3 ≤ x.cstate)
    if y.sys = 2 then (if aligned then 20 else 4)
    else if y.sys = 3 && Nav.bdsGeo y.prn then 2
    else if aligned then 20 else 1

/-- The six correlators of a channel (R378): their distance from the code phase, 0.01 chip. -/
def correlators : List Int := [-50, -25, 0, 25, 50, 10000]

/-- CHANNEL_LOSS (R379): C/N0 (0.1 dB-Hz) below LOSS_CN0 for 1 s. -/
def channelLoss (s : State) (c : Fin 64) (cn0 : Nat) : State :=
  if s.gnssRuns && s.gchOn c && decide (cn0 < s.fld (gnssBase + 0x58) 31 24 * 10) then s.dropCh c else s

/-! ### Navigation messages (R380, R381) -/

/-- NAV_DECODE (R380): `ago` ns after the end of the last bit at the antenna. Every message enters the store; one whose checks have
failed replaces none that passed. -/
def navDecode (s : State) (c : Fin 64) (raw : List Bool) (ago : Nat) : State :=
  let x := s.gch c
  match x.sat with
  | none => s
  | some sat =>
    if !s.gnssRuns || x.cstate < 4 then s
    else
      let stamp := s.hwAt (s.now - ago)
      let m := Nav.decode sat.sys sat.prn raw
      let r : NavRec := ⟨sat, m.typ, m.page, m.ok, m.data, stamp, s.runTenths⟩
      let s := s.updGnss fun g => { g with live := { g.live with
        nav := r :: g.live.nav.filter fun (q : NavRec) => !(q.sat == sat && q.typ == m.typ && q.page == m.page && q.ok == m.ok) } }
      if s.bit (gnssBase + 0x64) (sat.sys - 1) then
        let n := (s.rd (gnssBase + 0xCC)).toNat + 1
        let a := gnssBase + 0x400 + 64 * (n % 48)
        (s.wr (gnssBase + 0xCC) (toWord n)).wrs a
          ([loWord stamp, hiWord stamp, toWord n, fieldAt 7 0 sat.sys ||| fieldAt 15 8 sat.prn ||| fieldAt 23 16 m.typ ||| fieldAt 31 24 c,
            toWord m.result, toWord (m.tow.getD 0xFFFFFFFF)] ++ m.data)
      else s

/-! ### The solution (R382–R387) -/

/-- A fixed position is in use: FIXED, or AUTO with a survey (R382, R383). -/
def posFixed (s : State) : Option (Int × Int × Int) :=
  match s.gcfg 9 8 with
  | 1 =>
    let v := fun i => signed 32 (s.rd (gnssBase + 0x48 + 4 * i)).toNat
    some (v 0, v 1, v 2)
  | 0 => s.gnss.live.surveyed
  | _ => none

/-- A measured satellite is usable (R382). -/
def usable (s : State) (m : GnssMeas) : Bool :=
  let x := s.gch m.ch
  x.cstate == 5 && decide ((s.gcfg 29 24 : Int) * 100 ≤ m.elev) && x.excl.isNone &&
    (match x.sat with | some y => s.sysEn y.sys && s.ephValid y | none => false)

def measSys (s : State) (m : GnssMeas) : Nat := match (s.gch m.ch).sat with | some y => y.sys | none => 0

/-- The reference system (1 to 3; 0: none) and the satellites in use (R382). -/
def inUse (s : State) (ms : List GnssMeas) : Nat × List GnssMeas :=
  let us := ms.filter fun m => s.usable m
  let n := fun y => (us.filter fun m => s.measSys m == y).length
  let r := s.gcfg 13 12 + 1
  let ref := if 0 < n r then r else ([1, 2, 3].find? fun y => decide (0 < n y)).getD 0
  (ref, us.filter fun m => s.measSys m == ref || decide (2 ≤ n (s.measSys m)))

/-- The systems in use beside the reference, in their order. -/
def others (s : State) (ref : Nat) (use : List GnssMeas) : List Nat :=
  [1, 2, 3].filter fun y => y != ref && use.any fun m => s.measSys m == y

/-- Unknowns of the solution. -/
def unknowns (s : State) (ref : Nat) (use : List GnssMeas) : Nat :=
  (if s.posFixed.isSome then 0 else 3) + 1 + (s.others ref use).length

/-- A whole number of centimetres in m. -/
def metres (n : Int) : F64 := F64.div (F64.ofInt n) (F64.ofNat 100)

/-- A satellite in use as the solver takes it: weighted by sin² of its elevation (R382). -/
def lsqSat (s : State) (os : List Nat) (m : GnssMeas) : LsqSat :=
  let e := F64.sin (F64.div (F64.mul F64.pi (F64.ofInt m.elev)) (F64.ofNat 18000))
  ⟨metres m.sat.1, metres m.sat.2.1, metres m.sat.2.2, metres (m.pr + m.corr), F64.mul e e,
    ((withIndex os).find? fun o => o.2 == s.measSys m).map (·.1)⟩

/-- The least-squares solution of a second (R382): the position is solved for unless one is fixed, from the latest one. -/
def solve (s : State) (ref : Nat) (use : List GnssMeas) : Option (LsqFix × F64) :=
  let os := s.others ref use
  let ms := use.map fun m => s.lsqSat os m
  let p := s.posFixed.getD (s.gnss.live.pos.getD (0, 0, 0))
  (Lsq.fix s.posFixed.isNone os.length ms (metres p.1) (metres p.2.1) (metres p.2.2)).map fun u => (u, Lsq.rms ms u)

/-- m to cm, to nearest. -/
def toCm (x : F64) : Int := ((F64.val (F64.mul x (F64.ofNat 100))).roundAway).getD 0
/-- m of light to ns, to nearest. -/
def toLightNs (x : F64) : Int :=
  ((F64.val (F64.div (F64.mul x (F64.ofNat 1000000000)) (F64.ofNat 299792458))).roundAway).getD 0

/-- The satellites with ephemeris, with their measured less their predicted Doppler, mHz. -/
def dopRaw (s : State) (ms : List GnssMeas) : List (Fin 64 × Int) :=
  (ms.filter fun m => match (s.gch m.ch).sat with | some y => s.ephValid y | none => false).map fun m => (m.ch, m.doppler - m.predicted)

/-- The median; of an even number of values the mean of the two in the middle, cut down. -/
def median (l : List Int) : Int :=
  let l := l.mergeSort (· ≤ ·)
  let n := l.length
  if n % 2 = 1 then l.getD (n / 2) 0 else (l.getD (n / 2 - 1) 0 + l.getD (n / 2) 0) / 2

/-- The Doppler deviations of R385, mHz: of every satellite with ephemeris, the median over them removed. -/
def dopDevs (s : State) (ms : List GnssMeas) : List (Fin 64 × Int) :=
  let l := s.dopRaw ms
  let m := median (l.map (·.2))
  l.map fun x => (x.1, x.2 - m)

/-- The verdict of one check: judged, failing, passing with margin. -/
structure Check where
  judged : Bool
  fails : Bool
  margin : Bool
  deriving DecidableEq, Repr

/-- A quantity with an upper limit. -/
def upper (judged : Bool) (v lim : Nat) : Check := ⟨judged, judged && decide (lim < v), decide (v * 5 ≤ lim * 4)⟩

/-- The four checks of R385 and the C/N0 spread, 0.1 dB-Hz. The variance is taken k² times for k usable satellites, so that the
limits are compared exactly; RES_RMS `rms`, in m, is compared in 0.1 mm. -/
def checks (s : State) (usable ms : List GnssMeas) (rms : F64) (e : Epoch) : List Check × Nat :=
  let cn := usable.map fun m => (m.cn0 : Int)
  let k := cn.length
  let var := ((k : Int) * (cn.map fun x => x * x).sum - cn.sum * cn.sum).toNat
  let lim := s.fld (gnssBase + 0x5C) 15 8 * k
  let j0 := decide (5 ≤ k)
  let c0 : Check := ⟨j0, j0 && decide (var < lim * lim), decide (25 * lim * lim ≤ 16 * var)⟩
  let c1 := upper true (F64.toNatSat (F64.mul rms (F64.ofNat 10000)) (10 ^ 12)) (s.fld (gnssBase + 0x60) 31 16 * 1000)
  let eph := s.dopDevs ms
  let bad := (eph.filter fun m => decide (s.fld (gnssBase + 0x5C) 7 0 * 1000 < m.2.natAbs)).length
  let j2 := decide (3 ≤ eph.length)
  let c2 : Check := ⟨j2, j2 && decide (eph.length < 3 * bad), decide (15 * bad ≤ 4 * eph.length)⟩
  let c3 : Check := match s.gnss.prev with
    | some (o, ph) =>
      let d := (e.ofs - (o - (e.phase - ph) / 10000000000)).natAbs
      upper true d (s.fld (gnssBase + 0x60) 15 0)
    | none => ⟨false, false, false⟩
  ([c0, c1, c2, c3], rmsOf cn)

/-- SUSPECT after a valid solution (R386): `bad`, a check fails; `good`, every judged check passes with margin. -/
def judgeSuspect (s : State) (bad good : Bool) : State :=
  let f := if bad then min 255 (s.gnss.failRun + 1) else 0
  let p := if good then min 255 (s.gnss.passRun + 1) else 0
  let n := s.fld (gnssBase + 0x5C) 31 24
  let m := s.fld (gnssBase + 0x5C) 23 16
  let set := !s.gnss.suspect && decide (n ≤ f)
  let clr := s.gnss.suspect && decide (m ≤ p)
  let s := s.updGnss fun g => { g with failRun := f, passRun := p, suspect := (g.suspect || set) && !clr }
  if set then (s.flag gnssBase 1).srcLost .gnss else s

/-- The exclusion of the satellite of a channel by its own Doppler deviation, mHz (R385). -/
def judgeExcl (s : State) (d : Fin 64 × Int) : State :=
  let lim := s.fld (gnssBase + 0x5C) 7 0 * 1000
  s.updGch d.1 fun x =>
    if lim < d.2.natAbs then { x with excl := some 0 }
    else { x with excl := match x.excl with | some k => if 9 ≤ k then none else some (k + 1) | none => none }

/-- The channel blocks (updated once per GNSS second); `devs`, `res`: the Doppler deviations, mHz, and the residuals, cm. -/
def postCh (s : State) (ms : List GnssMeas) (devs res : List (Fin 64 × Int)) (c : Fin 64) : State :=
  let x := s.gch c
  let a := gnssBlock c
  match x.sat with
  | none => if s.fld a 21 20 = 0 then s else s.post a 0 (List.replicate 7 0)
  | some y =>
    let fl := b2n x.used + 2 * b2n x.excl.isSome + 4 * b2n (s.ephValid y)
    let hd := fieldAt 21 20 y.sys ||| fieldAt 15 8 y.prn ||| fieldAt 6 4 (s.cstateOf c) ||| fieldAt 2 0 fl
    let st := match s.gnss.epoch with | some e => e.stamp | none => 0
    let of := fun (l : List (Fin 64 × Int)) => ((l.find? fun d => d.1 == c).map (·.2)).getD 0
    match ms.find? fun m => m.ch == c with
    | some m =>
      s.post a hd [fieldAt 31 16 (satU 16 m.cn0) ||| fieldAt 15 8 (wrapS 8 ((m.elev + 50) / 100)), toWord (wrapS 32 m.doppler), toWord m.pr,
        toWord (wrapS 32 (of res)), fieldAt 31 16 m.az ||| fieldAt 15 0 (satS 16 ((of devs + 50) / 100)), loWord st, hiWord st]
    | none => s.post a hd ((List.range 7).map fun i => s.rd (a + 4 + 4 * i))

/-- FIX takes a value; FIX_CHANGE. -/
def setFix (s : State) (f : Nat) : State := (s.updGnss fun g => { g with fix := f }).flagIf (s.gnss.fix != f) gnssBase 0

/-- A second without a valid solution (R356, R382): VALID clears, the source is lost. -/
def noSolution (s : State) : State :=
  let s := s.setFld (gnssBase + 0x80) 23 23 0
  ((s.updGnss fun g => { g with prev := none }).setFix 0).srcLost .gnss

/-- The survey of R383 takes an accepted 3D solution. -/
def survey (s : State) (pos : Int × Int × Int) (fx : GnssFix) : State :=
  if s.gcfg 9 8 ≠ 0 || s.gnss.live.surveyed.isSome || decide (s.fld (gnssBase + 0x44) 15 0 < fx.sigmaPos) then s else
    let l := s.gnss.live
    let n := l.survN + 1
    let (x, y, z) := l.survSum
    let (a, b, c) := pos
    let sum := (x + a, y + b, z + c)
    if n < s.fld (gnssBase + 0x44) 31 16 then s.updGnss fun g => { g with live := { l with survN := n, survSum := sum } }
    else
      let mean := (sum.1 / (n : Int), sum.2.1 / (n : Int), sum.2.2 / (n : Int))
      (s.updGnss fun g => { g with live := { l with surveyed := some mean, survN := 0, survSum := (0, 0, 0) } }).flag gnssBase 6

/-- GNSS_SOLUTION (R382–R386): the measurements of the second, solved and judged. THR_LEVEL takes ENF_LEVEL here (R435). -/
def gnssSolution (s : State) (ms : List GnssMeas) (fx : GnssFix) : State :=
  let s := s.setThr s.enfLevel
  if !s.gnssRuns then s else
    let ms := ms.filter fun m => s.gchOn m.ch
    let (ref, use) := s.inUse ms
    let us := ms.filter fun m => s.usable m
    let devs := s.dopDevs ms
    let sol := if ref = 0 || use.length < s.unknowns ref use + 1 then none else s.solve ref use
    let res := match sol with | some (u, _) => (use.map (·.ch)).zip (u.res.map toCm) | none => []
    let s := s.updGnss fun g => { g with ch := g.ch.mapIdx fun i (x : GnssCh) =>
      { x with used := use.any fun m => m.ch.val == i, cn0 := match ms.find? fun m => m.ch.val == i with | some m => m.cn0 | none => x.cn0 } }
    let s := (List.finRange 64).foldl (fun s c => s.postCh ms devs res c) s
    match s.gnss.epoch, sol with
    | none, _ => s.noSolution
    | some _, none => (devs.foldl judgeExcl s).noSolution
    | some e, some (u, rms) =>
      let (cs, spread) := s.checks us ms rms e
      let cause := (withIndex cs).foldl (fun m p => m + b2n p.2.fails * 2 ^ p.1) 0
      let fix := match s.gcfg 9 8 with | 1 => 2 | 0 => if s.gnss.live.surveyed.isSome then 3 else 1 | _ => 1
      let found := (toCm u.x, toCm u.y, toCm u.z)
      let pos := s.posFixed.getD found
      let os := s.others ref use
      let isb := fun y => match (withIndex os).find? fun o => o.2 == y with | some (i, _) => toLightNs (u.isb.getD i F64.zero) | none => 0
      let n := fun y => satU 8 (use.filter fun m => s.measSys m == y).length
      let s := if fix = 1 then (s.updGnss fun g => { g with live := { g.live with pos := some found } }).survey found fx else s
      let s := s.judgeSuspect (cs.any (·.fails)) (cs.all fun c => !c.judged || c.margin)
      let s := s.setFix fix
      let s := s.post (gnssBase + 0x80) (fieldAt 18 16 fix ||| fieldAt 9 8 (ref - 1) ||| fieldAt 4 4 (b2n s.gnss.suspect) ||| fieldAt 3 0 cause)
        [fieldAt 23 16 (n 1) ||| fieldAt 15 8 (n 2) ||| fieldAt 7 0 (n 3), loWord e.stamp, hiWord e.stamp, loWord e.tai, hiWord e.tai,
         toWord (wrapS 32 e.qerr), toWord (wrapS 32 pos.1), toWord (wrapS 32 pos.2.1), toWord (wrapS 32 pos.2.2),
         fieldAt 31 16 (satU 16 fx.tdop) ||| fieldAt 15 0 (satU 16 fx.sigmaPos),
         fieldAt 31 16 (F64.toNatSat (F64.mul rms (F64.ofNat 10)) 0xFFFF) ||| fieldAt 15 0 (satU 16 fx.sigmaT),
         fieldAt 31 16 (satS 16 (isb 2)) ||| fieldAt 15 0 (satS 16 (isb 3))]
      let s := s.wr (gnssBase + 0xC0) (fieldAt 31 24 (satU 8 spread) ||| fieldAt 23 16 s.gnss.failRun ||| fieldAt 15 8 s.gnss.passRun)
      let s := devs.foldl judgeExcl s
      let s := s.updGnss fun g => { g with prev := some (e.ofs, e.phase), lastSol := some s.now }
      if !s.timeOn || !s.srcEn .gnss then s
      else if s.gnss.suspect || s.antState = 1 || s.antState = 2 then s
      else
        let s := s.updSrc .gnss fun x => { x with present := true, pass := true, utc := if fx.utc.isSome then fx.utc else x.utc }
        (s.qualify .gnss).settleUtc

/-- GNSS_EPOCH (R356, R384): the pulse is stamped; `ref` is the reference system (0 to 2), `sec` its whole second since
the epoch of R5 in its own time, `qerr` the pulse's offset from it in ps. -/
def gnssEpoch (s : State) (ref sec : Nat) (qerr : Int) : State :=
  if !s.gnssRuns then s else
    let tai := (sec + (if ref = 2 then 33 else 19)) * 1000000000
    let o := (tai : Int) + qerr / 1000 - s.fld (timeBase + 0x74) 15 0 - s.hwNs
    let missed := match s.gnss.lastSol with | some t => decide (t + 1500000000 ≤ s.now) | none => true
    let s := s.updGnss fun g => { g with epoch := some ⟨s.hwNs, tai, qerr, o, s.phaseNow⟩ }
    if missed then s.srcLost .gnss
    else if s.timeOn && s.srcEn .gnss && s.time.gnssS.present && !s.gnss.suspect then s.measured .gnss o
    else s

/-! ### Antenna supply (R369) -/

def antOn (s : State) : Bool := s.gnssWanted && s.gcfg 0 0 == 1

/-- ANT_SHORT: the limit has acted for 10 ms; the supply goes off. -/
def antShort (s : State) : State :=
  if !s.antOn || s.gnss.ant = 2 then s
  else ((s.updGnss fun g => { g with ant := 2, antAt := s.now }).flag gnssBase 3).srcLost .gnss

/-- ANT_RETRY: 5 s ±10 % after the supply went off; `limits`: the limit acted again within 10 ms. -/
def antRetry (s : State) (limits : Bool) : State :=
  if s.antOn && s.gnss.ant == 2 && decide (s.gnss.antAt + 4500000000 ≤ s.now) then
    s.updGnss fun g => { g with ant := if limits then 2 else 0, antAt := s.now }
  else s

/-- ANT_OPEN: the antenna current (0.1 mA) has stayed below 2.0 mA, or at 3.0 mA or more, for 1 s. -/
def antOpen (s : State) (i : Nat) : State :=
  if !s.antOn || s.gnss.ant = 2 then s else
    let s := s.post (gnssBase + 0x6C) (fieldAt 15 0 (satU 16 i)) []
    if s.gnss.ant = 0 && decide (i < 20) then ((s.updGnss fun g => { g with ant := 1 }).flag gnssBase 2).srcLost .gnss
    else if s.gnss.ant = 1 && decide (30 ≤ i) then s.updGnss fun g => { g with ant := 0 }
    else s

/-! ### Commands, flash, reset -/

/-- GNSS_CMD (R377, R383). -/
def gnssCmd (s : State) (c : Nat) : State :=
  match c with
  | 1 =>
    let e : GnssStore := ⟨[], none, none, 0, (0, 0, 0)⟩
    let on := s.gnss.on
    let s := s.updGnss fun g => { g with live := e, flash := e }
    if on then s.gnssStop.gnssStart else s
  | 2 =>
    if s.gcfg 9 8 = 0 then s.updGnss fun g => { g with live := { g.live with surveyed := none, survN := 0, survSum := (0, 0, 0) } } else s
  | _ => s

/-- The wear commit stores the receiver's store (R377). -/
def gnssCommit (s : State) : State := s.updGnss fun g => { g with flash := g.live }

/-- The root family stops: the capture and the pass are abandoned, pulses are lost; the channels keep their state (R371, R372). -/
def gnssFault (s : State) : State := (s.updGnss fun g => { g with pass := none, epoch := none, prev := none }).xfGnssDrop

/-- After relock, `ovf` entries of GNSS_RES have been discarded since the stop (R371, R372). -/
def gnssReturn (s : State) (ovf : Nat) : State :=
  let s := if ovf = 0 || !s.gnss.on then s
    else (s.wr (gnssBase + 0xC8) (satAdd (s.rd (gnssBase + 0xC8)) ovf)).flag gnssBase 5
  s.settleGnss

/-- The receiver after BOOT, or after its domain lost its supply: the store comes from flash. -/
def gnssBoot (s : State) : State :=
  s.updGnss fun g =>
    { g with on := false, thr := 0, ch := Vector.replicate 64 GnssCh.idle, pass := none, back := [], live := g.flash
             fix := 0, suspect := false, failRun := 0, passRun := 0, epoch := none, prev := none, lastSol := none, ant := 0 }

end State
end Sys2Proof.Machine
end

