-- ==== Sys2Proof/Machine/Safe.lean ====
section
/-!
DEFINITION. The SAFE net and SAFE_HOLD (R81, R85, R93–R96, spec/03_modes_startup_and_loss.md).
-/
namespace Sys2Proof.Machine
namespace State

/-- What every change of a mode, a claim, an enable or an event queue may end or allow. -/
def settleAll (s : State) : State := s.settle.settleOuts.settleGnss.settleStep

/-- The SAFE net is asserted: actuators into their clamps, every queued event dropped, fans at 100 %, outputs at their
safe states (R93, R97). AO outputs follow in `aoDriven`. -/
def assertSafe (s : State) : State :=
  let s := { s with sup := { s.sup with safeNet := true } }
  s.safeAct.safeFans.settleOuts

/-- The SAFE net is released: the outputs take their commanded values, each fan its target at its next period (R96, R445). -/
def releaseSafe (s : State) : State :=
  if s.sup.rstLow then s else
    let s := { s with sup := { s.sup with safeNet := false } }
    s.releaseFans.settleOuts

/-- A change of the inactive firmware bank; the active bank is never written (R99). -/
def onInactive (f : Firmware) (g : FwBank → FwBank) : Firmware :=
  if f.activeB then { f with bankA := g f.bankA } else { f with bankB := g f.bankB }

/-- The inactive firmware bank is marked invalid; its bytes stand. -/
def spoilInactive (f : Firmware) : Firmware := onInactive f fun b => { b with valid := false, version := 0#32 }

/-- Leaving MAINTENANCE for SAFE_HOLD (R85): a firmware operation in progress stops, a self-test is abandoned. -/
def leaveMaintenance (s : State) : State :=
  let f := s.sup.fw
  let busy := match f.upd with | .erasing | .programming | .verifying => true | _ => false
  let f := if busy then { spoilInactive f with upd := .failed, err := 4 } else f
  { s with sup := { s.sup with fw := f, selftest := false, maintSess := none } }

/-- What a change from mode `old` ends: measurements that need COMMISSION (R133, R175); in MAINTENANCE the rotation of the
cells, the rounds and the commands of Rootline (R139, R320). -/
def leftMode (s : State) (old : Mode) : State :=
  if s.sup.mode = old then s else
    let s := if old = .commission then s.calAbort.abortLeads else s
    if s.sup.mode = .maintenance then (List.finRange 16).foldl (fun s g => (s.abortRound g).abortWork g) s.cellStop else s

/-- The bits of SAFE_CAUSE. -/
def causeHost : Nat := 1
def causeSession : Nat := 2
def causeClock : Nat := 4
def causeSag : Nat := 8
def causeWatchdog : Nat := 16
def causeThermal : Nat := 32

/-- A condition cause is active (R95). -/
def conditionActive (s : State) : Bool := s.sup.safeCause &&& (causeClock + causeSag) != 0

/-- Entry to SAFE_HOLD with a cause (R81, R93, R95); a second cause is added. -/
def enterSafeHold (s : State) (cause : Nat) : State :=
  match s.sup.mode with
  | .standby | .commission | .run | .constrained | .maintenance =>
    let old := s.sup.mode
    let s := if old = .maintenance then s.leaveMaintenance else s
    let s := { s with sup := { s.sup with safeCause := cause } }
    (((s.setMode .safeHold).flag devBase 1).leftMode old).assertSafe.settleAll
  | .safeHold => { s with sup := { s.sup with safeCause := s.sup.safeCause ||| cause } }
  | _ => s

/-- A condition cause clears; the mode stays (R95, R32). -/
def clearCause (s : State) (cause : Nat) : State :=
  { s with sup := { s.sup with safeCause := s.sup.safeCause &&& (0x3F ^^^ cause) } }

end State
end Sys2Proof.Machine
end

