-- ==== Sys2Proof/Machine/Power.lean ====
section
/-!
DEFINITION. Supplies, sags and power domains (R389–R400) and the use span (R410), spec/15_energy_and_power.md.
Voltages are in 10 mV, currents in 10 mA.
-/
namespace Sys2Proof.Machine

/-! ### Domains (R398) -/

/-- The domain whose supply a page's registers need. -/
def domOf : Kind → Nat
  | .dev | .clk | .pwr | .therm | .wear => 0
  | .host | .ledger | .time | .moist => 1
  | .loop => 2 | .xform => 3 | .gnss => 4 | .gnssCh => 4 | .link => 5 | .ai => 6 | .ao => 6 | .cell => 7
  | .act => 8 | .ucode => 8 | .di => 9 | .dio => 9 | .rootSeg => 10 | .rootMain => 10 | .fan => 11

/-- The enables that keep domain `n` powered; none for AON, CORE and LINK, which follow the mode. -/
def domEnables : Nat → List Kind
  | 2 => [.loop]
  | 3 => [.xform, .cell, .moist, .gnss]
  | 4 => [.gnss]
  | 6 => [.ai, .ao]
  | 7 => [.cell]
  | 8 => [.act, .ucode]
  | 9 => [.di, .dio]
  | 10 => [.rootSeg]
  | 11 => [.fan]
  | _ => []

/-- The domains that the VL sag sequence switches off (R393). -/
def sagDoms : List Nat := [2, 3, 4, 7]

/-- The address lies on a page of domain `n`. -/
def inDom (n a : Nat) : Bool := match pageOf a with | some (r, _) => domOf r.kind == n | none => false

namespace State

def updPwr (s : State) (f : Power → Power) : State := { s with pwr := f s.pwr }
def updSup (s : State) (f : Sup → Sup) : State := { s with sup := f s.sup }

/-- A domain that its enables want powered (R398), CORE running. -/
def wanted (s : State) (n : Nat) : Bool := s.powered 1 && (domEnables n).any fun k => s.clocked k

/-- Domain `n` waits to be powered (R399). -/
def powering (s : State) (n : Nat) : Bool := s.wanted n && !s.powered n && !(s.pwr.sagShed && sagDoms.contains n)

/-- POWERED of domain `n`, with DOM_CHANGE. -/
def setPowered (s : State) (n : Nat) (on : Bool) : State :=
  (s.updPwr fun p => { p with powered := if on then p.powered ||| 2 ^ n else p.powered &&& (0xFFF ^^^ 2 ^ n) }).flag pwrBase 10

/-- The pages of domain `n` hold their Reset values and what the configuration store keeps (R421). -/
def loseRegs (s : State) (n : Nat) : State :=
  { s with regs := (s.store.filter fun e => inDom n e.1).foldl (fun (r : Regs) e => r.set e.1 e.2) (s.regs.filter fun e => !inDom n e.1) }

/-- The logic side of DIO without its supply: the field sides go on with what they hold. -/
def dioLogicOff (s : State) : State :=
  { s with dio :=
    { field := s.dio.field.map fun (f : FieldSide) => { f with sent := none, clears := 0, linkOk := false, repUv18 := false, repUv15 := false, silReport := false }
      di := s.dio.di.map fun (_ : DiGroup) => DiGroup.init
      out := s.dio.out.map fun (o : DoOut) =>
        { DoOut.init with lane := .steady (s.driveOn o.lane), out := o.out, held := o.held, limit := o.limit, since := o.since, row := o.row, overload := o.overload, overAt := o.overAt, ot := o.ot, offs := o.offs } } }

/-- What a domain's blocks do when their supply goes (R398). The management core keeps SAMPLE_CNT of every loop (R254). -/
def domainStop (s : State) (n : Nat) : State :=
  match n with
  | 2 => { s with loops := s.loops.map fun (x : Loop) => { Loop.init with cnt := x.cnt, mark := x.mark } }
  | 3 => s.updXf fun x => { x with work := 0, gnss4 := 0, gnss16 := 0, sub := 0, moistQ := [], ready := [], waitAt := none }
  | 4 => let s := s.gnssStop.gnssBoot
         { s with clk := { s.clk with tcxoOk := false, tcxoRun := 0 } }
  | 6 => s.afeReset
  | 7 => let s := s.cellStop
         { s with cells := { s.cells with cell := s.cells.cell.map fun (x : CellSt) =>
           { x with pend := Vector.replicate 3 none, tiaNext := 0, rangeSet := false, rtd := none, residN := 0 } } }
  | 8 => let s := s.stopActClock.endEvents
         { s with banks := Vector.replicate 12 { Bank.init with sag := s.pwr.vfaStage == 3 } }
  | 9 => s.dioLogicOff.settleOuts
  | 10 => ((List.finRange 16).foldl (fun s g => s.segOff g 0) s).rootOff
  | 11 => { s with fans := s.fans.map fun (x : Fan) => if s.sup.safeNet then x else { Fan.init with offSince := s.now }
                   arb := { s.arb with inrush := [], inrushHeld := [] } }
  | _ => s

/-- Domain `n` is switched off: its blocks stop, its registers are lost. -/
def domainOff (s : State) (n : Nat) : State :=
  if s.powered n then (((s.domainStop n).loseRegs n).setPowered n false).settleAll else s

/-- VALID and UC_CRC of every restored microcode store (R234). -/
def judgeStores (s : State) : State :=
  (List.finRange 12).foldl (fun (s : State) (n : Fin 12) =>
    let ok := (s.ucJudge n).isNone
    (s.setFld (ucBase n + 0x44) 0 0 (b2n ok)).wr (ucBase n + 0x48) (if ok then s.ucCrc n else 0)) s

/-- Domain `n` is up (R399, R421). -/
def domainOn (s : State) (n : Nat) : State :=
  let s := s.setPowered n true
  let s := if n = 2 then
      { s with loops := s.loops.map fun (x : Loop) => { x with done := s.hwNs } }
    else if n = 3 then s.xfResume
    else if n = 6 then ({ s with afe := { s.afe with lastCmd := s.now } }).afeReturn
    else if n = 8 then s.judgeStores
    else s
  s.settleAll

/-- DOMAIN_POWER_UP (R399). -/
def domainPowerUp (s : State) (n : Nat) : State := if s.powering n && s.sup.mode != .boot then s.domainOn n else s

/-- DOMAIN_POWER_OFF (R399): no enable wants the domain any longer. -/
def domainPowerOff (s : State) (n : Nat) : State := if s.wanted n || (domEnables n).isEmpty then s else s.domainOff n

/-! ### Clock enables (R420, R421) -/

/-- One enable has been cleared: its block stops as its chapter states. -/
def clockOff (s : State) : Kind → State
  | .act => s.stopActClock
  | .time => s.timeOff
  | .fan => if s.sup.safeNet then s else (List.finRange 8).foldl (fun s f => if (s.fan f).st = .off then s else s.fanOff f .off) s
  | .cell => s.cellStop
  | .moist => s.moistOff
  | .ai => { s.abortLeads with afe := { s.abortLeads.afe with conv := s.abortLeads.afe.conv.map fun (x : AiConv) => { x with busy := none } } }
  | _ => s

/-- One enable has been set. -/
def clockOn (s : State) : Kind → State
  | .time => s.timeStart
  | .ai => s.afeReturn
  | .xform | .cell | .moist | .gnss => s.xfResume
  | _ => s

/-- The kinds of page, one for each enable. -/
def enableKinds : List Kind :=
  [.time, .wear, .ledger, .xform, .act, .ucode, .di, .dio, .ao, .ai, .moist, .cell, .loop, .fan, .gnss, .rootSeg]

/-- CLK_EN has been written; `old` is what it held. A DOM_FAULT bit clears when one of the domain's enables is set (R400). -/
def clkEnWritten (s : State) (old : Word) : State :=
  let s := enableKinds.foldl (fun (s : State) k =>
    let was := bitOf old (clkBit k)
    let is := s.clocked k
    if was && !is then s.clockOff k else if !was && is then s.clockOn k else s) s
  let set := (List.range 12).filter fun n => (domEnables n).any fun k => !bitOf old (clkBit k) && s.clocked k
  let s := s.updPwr fun p => { p with domFault := set.foldl (fun (m : Nat) n => m &&& (0xFFF ^^^ 2 ^ n)) p.domFault }
  s.settleAll

/-! ### Supply measurement (R389, R396, R397, R410) -/

/-- Hold-up capacitance in farads (R393). -/
def capHu (s : State) : F64 :=
  let c := if s.bit (wearBase + 0x60) 23 then s.fld (wearBase + 0x60) 15 0 else 2970
  F64.add (F64.ofRat false c 1000000) (F64.ofRat false (10 * s.fld (pwrBase + 0x4C) 15 0) 1000000)

/-- E_HU in joules at a VL (R393). -/
def eHu (s : State) (vl : Nat) : F64 :=
  let v := F64.ofRat false vl 100
  F64.mul (F64.mul (F64.ofRat false 1 2) s.capHu) (F64.sub (F64.mul v v) (F64.ofNat 144))

/-- E_HU in mJ, 0 if negative. -/
def mjOf (e : F64) : Nat := F64.toNatSat (F64.mul e (F64.ofNat 1000)) 0xFFFFFFFF

/-- The hold-up span (LEDGER page). -/
def postHoldup (s : State) (vl : Nat) : State :=
  let c := (if s.bit (wearBase + 0x60) 23 then s.fld (wearBase + 0x60) 15 0 else 2970) + 10 * s.fld (pwrBase + 0x4C) 15 0
  s.post (ledBase + 0xE0) 0 [toWord (mjOf (s.eHu vl)), fieldAt 31 16 120 ||| fieldAt 15 0 (satU 16 (c / 10))]

/-- The ledger can judge the hold-up (R394). -/
def ledgerJudges (s : State) : Bool := s.clocked .ledger && !s.clockFault && !s.wear.ended[0]

/-- Sums of two lists, item by item. -/
def addEach (a b : List Nat) : List Nat := List.zipWith (· + ·) a b

/-- SUPPLY_MEASURE (R389): VL, VFA, VFF and VR, voltage and current of each; VFA_OVL, VFF_OVL and VL_OVL are judged. -/
def supplyMeasure (s : State) (vl il vfa ifa vff iff vr ir : Nat) : State :=
  if !s.aonRuns then s else
    let w := fun (v i : Nat) => fieldAt 31 16 (satU 16 i) ||| fieldAt 15 0 (satU 16 v)
    let s := s.post (pwrBase + 0x60) 0 [w vl il, w vfa ifa, w vff iff, w vr ir]
    let prods := [vl * il, vfa * ifa, vff * iff, vr * ir]
    let s := { s with led :=
      { s.led with energy := addEach s.led.energy prods, secSum := addEach s.led.secSum prods, secN := s.led.secN + 1 } }
    let lim := 100 * s.fld (pwrBase + 0x44) 5 0
    let ovl := if lim < ifa then true else if ifa * 10 < 9 * lim then false else s.pwr.vfaOvl
    let s := (s.updPwr fun p => { p with vfaOvl := ovl }).flagIf (ovl && !s.pwr.vfaOvl) pwrBase 6
    let fo := decide (100 * s.fld (pwrBase + 0x48) 4 0 < iff)
    let s := (s.updPwr fun p => { p with vffOvl := fo }).flagIf (fo && !s.pwr.vffOvl) pwrBase 8
    let ps := ((vl * il) :: s.pwr.vlPower).take 1000
    let vo := decide (ps.length = 1000) && decide (150000 * 1000 < ps.sum)
    let s := (s.updPwr fun p => { p with vlPower := ps, vlOvl := vo }).flagIf (vo && !s.pwr.vlOvl) pwrBase 2
    let s := if s.led.rcut then s.wr (ledBase + 0x148) (satInc (s.rd (ledBase + 0x148))) else s
    let s := if s.pwr.vlLow || !(s.clocked .ledger && !s.clockFault) then s else s.postHoldup vl
    s.settle

/-- USE_SPAN (R410): mean powers over the last 1 s, 0.1 W, and the energies since BOOT, 1 Wh. -/
def useSpan (s : State) : State :=
  if !(s.aonRuns && s.powered 1) then s else
    let p := fun (i : Nat) => satU 16 (roundDiv (s.led.secSum.getD i 0) (1000 * max 1 s.led.secN))
    let s := s.post (ledBase + 0x100) 0 ((List.range 4).map fun i => toWord (p i))
    let s := (List.range 4).foldl (fun s i => s.wr (ledBase + 0x120 + 4 * i) (toWord (satU 32 (s.led.energy.getD i 0 / 36000000000)))) s
    { s with led := { s.led with secSum := List.replicate 4 0, secN := 0 } }

/-- ENERGY_LIMIT_EXPIRY (R408). -/
def energyLimitExpiry (s : State) : State :=
  if s.led.energyLimit && !s.led.limiting && decide (s.led.limitEnd + 1000000000 ≤ s.now) then
    ({ s with led := { s.led with energyLimit := false } }).settle
  else s

/-- ARBITER_SLOT (R402): the arbiter decides the slot; fans granted their inrush start. -/
def arbiterSlot (s : State) (iVfa iVff : Nat) : State :=
  if s.arbRuns then ((s.arbSlot iVfa iVff).settleInrush).settle else s

/-! ### VL (R392–R394) -/

/-- VL_LOW (R392). -/
def vlLow (s : State) : State :=
  if s.aonRuns && !s.pwr.vlLow then (s.updPwr fun p => { p with vlLow := true }).flag pwrBase 0 else s

/-- VL_LOW_CLEAR (R392). -/
def vlLowClear (s : State) : State := if s.pwr.vlLow then s.updPwr fun p => { p with vlLow := false } else s

/-- The VL sag decision, with VL, E_HU in mJ and its basis (R393): VL_SAG is flagged and the module enters SAFE_HOLD; the
entry is written at 0.1 ms. -/
def sagDecide (s : State) (vl mj basis : Nat) : State :=
  let s := s.updPwr fun p => { p with sag := some s.now, sagData := some (satU 16 vl + mj * 2 ^ 16 + basis * 2 ^ 48) }
  (s.flag pwrBase 1).enterSafeHold causeSag

/-- A mode from which, or in which, the sag decision is made (R81). -/
def sagMode (s : State) : Bool :=
  match s.sup.mode with
  | .standby | .commission | .run | .constrained | .safeHold | .maintenance => true
  | _ => false

/-- The hold-up is judged at all: VL is low, AON and the ledger run. -/
def holdupRuns (s : State) : Bool := s.pwr.vlLow && s.aonRuns && s.clocked .ledger && !s.clockFault

/-- The ledger's sag decision at a VL (R393). -/
def holdupDecide (s : State) (vl : Nat) : State :=
  let lim := F64.add (F64.dec 120 3) (F64.dec (s.fld (pwrBase + 0x4C) 31 24) 3)
  if s.holdupRuns && s.ledgerJudges && s.sagMode && s.pwr.sag.isNone && F64.le (s.eHu vl) lim then s.sagDecide vl (mjOf (s.eHu vl)) 0 else s

/-- HOLDUP_JUDGE (R393): every 100 µs while VL_LOW. -/
def holdupJudge (s : State) (vl : Nat) : State := if s.holdupRuns then (s.postHoldup vl).holdupDecide vl else s

/-- VL_FALLBACK_DECISION (R394): VL has stayed below 17.0 V for 50 µs while the ledger cannot judge. -/
def vlFallback (s : State) (vl : Nat) : State :=
  if s.aonRuns && !s.ledgerJudges && s.sagMode && s.pwr.sag.isNone then (s.sagDecide vl 0 1).flag ledBase 4 else s

/-- VL_SAG_SHED (R393): LOOP, XFORM, GNSS and CELL go off; the decision's entry is written. -/
def vlSagShed (s : State) : State :=
  match s.pwr.sagData with
  | none => s
  | some d =>
    let s := s.updPwr fun p => { p with sagShed := true, sagData := none }
    (sagDoms.foldl domainOff s).flagForced ledBase 3 ⟨0x0501, 2, d, 0xFF⟩

/-- How many entries an archive write may take: 512; with indicator 5 ended, those of one sector, and none within the hour
after the last (R102, R393). -/
def archiveRoom (s : State) : Nat :=
  if !s.wear.ended[5] then 512
  else match s.log.lastArchive with
    | some t => if s.now < t + 3600000000000 then 0 else min 512 Config.sectorEntries
    | none => min 512 Config.sectorEntries

/-- The entries not yet archived go to the flash archive, the newest of them. -/
def archive (s : State) : State :=
  let n := min s.archiveRoom s.log.unarchived
  if n = 0 then s else
    { s with log := { s.log with archive := s.log.ring.take n ++ s.log.archive, unarchived := 0, lastArchive := some s.now } }

/-! ### VFA and VFF (R395, R397) -/

/-- SAG of R205 on every bank, or its end: the conducting channels switch off and their events end SAG (R231). -/
def bankSag (s : State) (on : Bool) : State :=
  (List.finRange 12).foldl (fun s n =>
    if !on then s.updBank n fun b => { b with sag := false }
    else
      let s := (List.finRange 4).foldl (fun s k =>
        let s := s.ripenChan n k
        if (s.chan n k).conduct then s.endThrough n k 4 (s.chan n k).ctx.offm else s) s
      (s.updBank n fun b => { b with sag := true }).flagIf (s.powered 8) (actBase n) 8) s

/-- VFA_STAGE_SET (R395): stage `st` (1 to 3) and those below it. -/
def vfaStageSet (s : State) (st : Nat) : State :=
  if !(s.aonRuns && decide (s.pwr.vfaStage < st) && decide (st ≤ 3)) then s else
    let old := s.pwr.vfaStage
    let s := s.updPwr fun p => { p with vfaStage := st }
    let s := (s.flagIf (old < 1) pwrBase 3).flagIf (old < 2 && decide (2 ≤ st)) pwrBase 4
    let s := if st = 3 then (s.flag pwrBase 5).bankSag true else s
    s.settleAll

/-- VFA_STAGE_CLEAR (R395): VFA has stayed 1.0 V above the level of stage `st`, so the stages from it up clear. -/
def vfaStageClear (s : State) (st : Nat) : State :=
  if !(s.aonRuns && decide (1 ≤ st) && decide (st ≤ s.pwr.vfaStage)) then s else
    let was := s.pwr.vfaStage
    let s := s.updPwr fun p => { p with vfaStage := st - 1 }
    (if was = 3 then s.bankSag false else s).settle

/-- VFF_UV (R397). -/
def vffUndervolt (s : State) : State :=
  if s.aonRuns && !s.pwr.vffUv then (s.updPwr fun p => { p with vffUv := true }).flag pwrBase 7 else s

/-- VFF_UV_CLEAR (R397). -/
def vffUvClear (s : State) : State := if s.pwr.vffUv then s.updPwr fun p => { p with vffUv := false } else s

/-- LEDGER_UPDATE (R405). -/
def ledgerUpdateRow (s : State) : State := s.ledgerUpdate.settle

end State
end Sys2Proof.Machine
end

