-- ==== Sys2Proof/Machine/UcRows.lean ====
section
/-!
DEFINITION. The microcode instructions as commands (R221): the word at the PC of context k of bank n issues. BST, PK, HLD,
OFF, END and MARK stand in Ucode.lean; the others act on their context only and stand here.
-/
namespace Sys2Proof.Machine
namespace State

/-- BAND. -/
def issueBand (s : State) (n : Fin 12) (k : Fin 4) : State :=
  s.issueCtx n k .band fun w _ c =>
    { c.step with toffMin := fieldOf w 23 16, tonMin := fieldOf w 15 8, band := fieldOf w 7 0 }

/-- RAMP (R225, R226). -/
def issueRamp (s : State) (n : Fin 12) (k : Fin 4) : State :=
  match s.issue n k .ramp with
  | none => s
  | some w =>
    let c := s.chan n k
    let x := fieldOf w 23 12
    let tr := fieldOf w 11 0
    let s := s.updCtx n k fun c => { c.step with ramp := none }
    if !c.conduct then s.updCtx n k fun c => { c with itgt := x }
    else if tr = 0 then
      if c.ctx.phase == .hold && decide (600 < x) then (s.updCtx n k fun c => { c with itgt := 600 }).flag (ucBase n) 3
      else s.updCtx n k fun c => { c with itgt := x }
    else s.updCtx n k fun c => { c with ramp := some ⟨c.itgt, x, s.now, tr⟩ }

/-- DIPW (R227). -/
def issueDipw (s : State) (n : Fin 12) (k : Fin 4) : State :=
  s.issueCtx n k .dipw fun w ch c =>
    if fieldOf w 12 12 = 1 then { c.step with dip := false, watch := some ⟨fieldOf w 11 0, ch.i, false, 0, 0⟩ }
    else { c.step with watch := none }

/-- WT. -/
def issueWt (s : State) (n : Fin 12) (k : Fin 4) : State :=
  s.issueCtx n k .wt fun w _ c => { c with wait := some (.until (s.now + fieldOf w 25 0 * 10)) }

/-- WTR. -/
def issueWtr (s : State) (n : Fin 12) (k : Fin 4) : State :=
  s.issueCtx n k .wtr fun w _ c =>
    let v := c.v (fieldOf w 1 0)
    if v = 0 then c.step else { c with wait := some (.until (s.now + v * 10)) }

/-- WI. -/
def issueWi (s : State) (n : Fin 12) (k : Fin 4) : State :=
  s.issueCtx n k .wi fun w _ c => { c with wait := some (.current (fieldOf w 25 25 == 1) (fieldOf w 23 12)) }

/-- WP. -/
def issueWp (s : State) (n : Fin 12) (k : Fin 4) : State :=
  s.issueCtx n k .wp fun w _ c => { c with wait := some (.tph (c.v (fieldOf w 1 0))) }

/-- WD. -/
def issueWd (s : State) (n : Fin 12) (k : Fin 4) : State :=
  s.issueCtx n k .wd fun _ _ c => { c with wait := some .dip }

/-- The wait of a context ends when its condition is met; the next word follows (R219). -/
def ucWaitEnd (s : State) (n : Fin 12) (k : Fin 4) : State :=
  let c := s.chan n k
  match c.ctx.wait with
  | none => s
  | some w => if waitOver c.ctx c.conduct c.i s.now w then s.updCtx n k fun c => { c.step with wait := none } else s

/-- ARM: a timer with T, or none with T = 0 (R228). -/
def issueArm (s : State) (n : Fin 12) (k : Fin 4) : State :=
  s.issueCtx n k .arm fun w _ c =>
    let t := fieldOf w 25 9
    { c.step with arm := if t = 0 then none else some (s.now + t * 1000, fieldOf w 8 0) }

/-- ARM_EXPIRY (R228): the context leaves its wait for the ARM's address; a BST or PK that waits for its decision is
completed first (`armAfter`). -/
def armExpiry (s : State) (n : Fin 12) (k : Fin 4) : State :=
  let c := (s.chan n k).ctx
  match c.arm with
  | none => s
  | some (t, a) =>
    if c.active && decide (t ≤ s.now) && c.wait != some .decision then
      s.updCtx n k fun c => { c with arm := none, wait := none, pc := a }
    else s

/-- JMP. -/
def issueJmp (s : State) (n : Fin 12) (k : Fin 4) : State :=
  s.issueCtx n k .jmp fun w _ c => { c with pc := fieldOf w 8 0 }

/-- BC. -/
def issueBc (s : State) (n : Fin 12) (k : Fin 4) : State :=
  s.issueCtx n k .bc fun w _ c => c.goto (bcCond c (fieldOf w 25 22)) (fieldOf w 8 0)

/-- BI. -/
def issueBi (s : State) (n : Fin 12) (k : Fin 4) : State :=
  s.issueCtx n k .bi fun w ch c =>
    let ge := decide (fieldOf w 23 12 ≤ ch.i)
    c.goto (if fieldOf w 25 25 = 0 then ge else !ge) (fieldOf w 8 0)

/-- BTM. -/
def issueBtm (s : State) (n : Fin 12) (k : Fin 4) : State :=
  s.issueCtx n k .btm fun w _ c =>
    let ge := decide (c.v (fieldOf w 13 12) ≤ (if fieldOf w 25 25 = 0 then c.tph s.now else c.tev s.now))
    c.goto (if fieldOf w 24 24 = 0 then ge else !ge) (fieldOf w 8 0)

/-- BCMP. -/
def issueBcmp (s : State) (n : Fin 12) (k : Fin 4) : State :=
  s.issueCtx n k .bcmp fun w _ c =>
    let ge := decide (c.v (fieldOf w 23 22) ≤ c.v (fieldOf w 25 24))
    c.goto (if fieldOf w 21 21 = 0 then ge else !ge) (fieldOf w 8 0)

/-- DJNZ: saturates at 0 (R222). -/
def issueDjnz (s : State) (n : Fin 12) (k : Fin 4) : State :=
  s.issueCtx n k .djnz fun w _ c =>
    let v := c.v (fieldOf w 25 24) - 1
    (c.setV (fieldOf w 25 24) v).goto (v != 0) (fieldOf w 8 0)

/-- LDI. -/
def issueLdi (s : State) (n : Fin 12) (k : Fin 4) : State :=
  s.issueCtx n k .ldi fun w _ c => c.step.setV (fieldOf w 25 24) (fieldOf w 23 0)

/-- LDP. -/
def issueLdp (s : State) (n : Fin 12) (k : Fin 4) : State :=
  s.issueCtx n k .ldp fun w _ c => c.step.setV (fieldOf w 25 24) c.param

/-- The value an LDS loads. -/
def ldsValue (s : State) (n : Fin 12) (ch : Chan) (src : Nat) : Nat :=
  match src with
  | 0 => ch.i
  | 1 => ch.ctx.tph s.now
  | 2 => ch.ctx.tev s.now
  | 3 => match ch.run with | some r => satU 32 (r.motT.getD 0) | none => 0
  | _ => s.vres (convOf n)

/-- LDS. -/
def issueLds (s : State) (n : Fin 12) (k : Fin 4) : State :=
  s.issueCtx n k .lds fun w ch c => c.step.setV (fieldOf w 25 24) (s.ldsValue n ch (fieldOf w 3 0))

/-- ALU (R222). -/
def issueAlu (s : State) (n : Fin 12) (k : Fin 4) : State :=
  s.issueCtx n k .alu fun w _ c =>
    let d := fieldOf w 25 24
    c.step.setV d (aluFn (fieldOf w 21 18) (c.v d) (c.v (fieldOf w 23 22)) (fieldOf w 17 0))

/-- NOP. -/
def issueNop (s : State) (n : Fin 12) (k : Fin 4) : State :=
  s.issueCtx n k .nop fun _ _ c => c.step

end State
end Sys2Proof.Machine
end

