-- ==== Sys2Proof/Machine/Views.lean ====
section
/-!
DEFINITION. What a read of a word returns (R10, R59, R66, R309, R310): the stored word, or, for the fields that show live
state, what the state shows. Only an operation of R58 reads through here.
-/
namespace Sys2Proof.Machine
namespace State

/-- A bit of a register. -/
def vb (n : Nat) (b : Bool) : Word := fieldAt n n (b2n b)

/-- A list of answers as bits from `lo` up. -/
def maskBits (lo : Nat) (l : List Bool) : Word := toWord ((withIndex l).foldl (fun m (x : Nat × Bool) => m + b2n x.2 * 2 ^ (lo + x.1)) 0)

/-- A supply condition holds (SAG of DEV_STAT). -/
def sagAny (s : State) : Bool :=
  s.pwr.vlLow || decide (1 ≤ s.pwr.vfaStage) || s.pwr.vffUv || (s.dio.field.toList.any fun f => f.repUv15) || s.root.vrLow

/-- The present thermal shutdowns of the last 60 min (R438). -/
def thermCount (s : State) : Nat := min 3 (s.sup.shutdowns.filter fun t => decide (s.now < t + 3600000000000)).length

def fwWord (s : State) : Word :=
  let f := s.sup.fw
  fieldAt 15 8 f.err ||| fieldAt 7 4 f.upd.code ||| vb 3 (if f.activeB then f.bankA.valid else f.bankB.valid) ||| vb 2 f.trial |||
    vb 1 f.fallback ||| vb 0 f.activeB

/-- DEV page. -/
def viewDev (s : State) (off : Nat) (w : Word) : Word :=
  match off with
  | 0x40 => fieldAt 11 8 s.sup.prev.code ||| fieldAt 3 0 s.sup.mode.code
  | 0x48 =>
    vb 12 (s.sensors.toList.any (·.broken)) ||| vb 11 (s.wear.ended.toList.any id) ||| vb 10 (s.can.claims.any (·.orphan)) |||
      vb 9 (s.banks.toList.any (·.lock)) ||| vb 8 s.sup.lifeWave ||| vb 7 s.sup.fw.trial ||| vb 6 s.sup.fw.fallback ||| vb 5 s.sagAny |||
      vb 4 s.led.energyLimit ||| vb 3 (decide (0 < s.enfLevel)) ||| vb 2 s.thrRequest ||| vb 1 s.wear.replace ||| vb 0 s.clockFault
  | 0x4C => if s.sup.mode = .safeHold then fieldAt 5 0 s.sup.safeCause else 0
  | 0x50 => fieldAt 10 8 s.thermCount ||| fieldAt s.sup.resetCause.bit s.sup.resetCause.bit 1
  | 0x54 => vb 4 s.sup.straps.netDef ||| vb 3 s.sup.straps.bootSel ||| vb 2 s.sup.straps.shdnOpen ||| fieldAt 1 0 s.sup.straps.shdnT
  | 0x60 => s.fwWord
  | 0x64 => if s.sup.fw.bankA.valid then s.sup.fw.bankA.version else 0
  | 0x68 => if s.sup.fw.bankB.valid then s.sup.fw.bankB.version else 0
  | _ => w

/-- CLK page. -/
def viewClk (s : State) (off : Nat) (w : Word) : Word :=
  let c := s.clk
  match off with
  | 0x0C => vb 3 c.tcxoOk ||| vb 2 c.coreOnSentinel ||| vb 1 c.rootLocked ||| vb 0 c.xrefStable
  | 0x44 =>
    fieldAt 27 24 (min 8 c.run.length) ||| fieldAt 18 16 c.fault ||| vb 12 c.tcxoOk ||| vb 8 c.coreOnSentinel ||| vb 4 c.rootLocked |||
      vb 0 c.xrefStable
  | _ => w

/-- PWR page. -/
def viewPwr (s : State) (off : Nat) (w : Word) : Word :=
  match off with
  | 0x0C => fieldAt 18 16 s.pwr.vfaStage ||| vb 10 s.pwr.vffUv ||| vb 9 s.pwr.vfaOvl ||| vb 8 s.pwr.vlLow
  | 0x40 => fieldAt 27 16 s.pwr.domFault ||| fieldAt 11 0 s.pwr.powered
  | 0x78 => maskBits 16 (s.dio.field.toList.map (·.repUv15)) ||| maskBits 0 (s.dio.field.toList.map (·.repUv18))
  | _ => w

/-- Smallest grace left of any sensor in REQUEST, in s, rounded up. -/
def graceLeft (s : State) : Nat :=
  let g := s.fld (thermBase + 0x40) 9 0 * 1000000000
  let l := (s.sensors.toList.filter fun x => x.stage == .request).map fun x => ceilDiv (x.graceAt + g - s.now) 1000000000
  match l with
  | [] => 0
  | x :: xs => xs.foldl min x

/-- THERM page. -/
def viewTherm (s : State) (off : Nat) (w : Word) : Word :=
  match off with
  | 0x0C =>
    let lv := s.enfLevel
    maskBits 16 (s.sensors.toList.map (·.broken)) |||
      fieldAt 11 8 (if lv = 0 then 0 else (s.sensors.toList.findIdx? fun x => x.stage.level == lv).getD 0) ||| fieldAt 1 0 lv
  | 0x44 => fieldAt 25 16 (satU 10 s.graceLeft) ||| fieldAt 13 8 s.sup.tripNow ||| fieldAt 7 0 s.tCrit
  | 0x48 => toWord (satU 32 s.sup.shdnTotal)
  | _ =>
    if off < 0x140 then w
    else if h : (off - 0x140) / 4 < 10 then
      let n : Fin 10 := ⟨(off - 0x140) / 4, h⟩
      vb 16 (s.thrLowered n) ||| fieldAt 15 0 (wrapS 16 (s.thrEff n))
    else w

/-- LEDGER page. -/
def viewLedger (s : State) (off : Nat) (w : Word) : Word :=
  match off with
  | 0x0C =>
    let held := (List.finRange 6).map fun (b : Fin 6) => (s.pairEvents b).any fun x => x.2.held == 5
    vb 17 s.led.energyLimit ||| vb 16 (s.powered 1 && s.clocked .ledger && s.en ledBase && !s.clockFault) ||| maskBits 0 held
  | _ => w

/-- Key slot k holds a key. -/
def keySet (s : State) (k : Nat) : Bool := k == 0 || (if h : k < 8 then s.can.keys[k].isSome else false)

/-- Lease remaining in 10 ms units, a unit begun counted whole; it does not run during a clock fault (R53). -/
def leaseLeft (s : State) (x : Sess) : Nat :=
  satU 16 (ceilDiv (x.renewed + x.lease * 1000000 - s.now) 10000000)

/-- HOST page. -/
def viewHost (s : State) (off : Nat) (w : Word) : Word :=
  let opened := maskBits 0 (s.can.sess.toList.map (·.isSome))
  match off with
  | 0x0C => vb 8 (s.can.sess.toList.any fun x => match x with | some y => y.via == .spi | none => false) ||| opened
  | 0x44 => opened
  | _ =>
    if off < 0x50 then w
    else if off < 0x70 then
      match s.sess ((off - 0x50) / 4) with
      | some x =>
        fieldAt 31 16 (s.leaseLeft x) ||| fieldAt 15 12 x.minor ||| fieldAt 11 10 x.via.code |||
          fieldAt 9 8 x.role.code ||| fieldAt 3 0 x.slot
      | none => 0
    else if off < 0x90 then (match s.sess ((off - 0x70) / 4) with | some x => toWord x.h | none => 0)
    else if 0xA0 ≤ off ∧ off < 0xC0 then withField w 3 3 (b2n (s.keySet ((off - 0xA0) / 4)))
    else w

/-- TIME page. -/
def viewTime (s : State) (off : Nat) (w : Word) : Word :=
  let idLo := fun (x : Nat) => toWord (ofLe (beBytes 8 x) % 2 ^ 32)
  let idHi := fun (x : Nat) => toWord (ofLe (beBytes 8 x) / 2 ^ 32)
  let ann : Option Announce := match s.time.ptp.parent with | some q => some q.ann | none => if s.time.ptp.master then some s.ownAnnounce else none
  match off with
  | 0x0C =>
    vb 13 s.time.stepped ||| vb 12 s.tpRuns ||| vb 11 (s.time.slewing s.now) ||| vb 10 s.time.gnssS.trusted ||| vb 9 s.time.ptpS.trusted |||
      fieldAt 5 4 (match s.time.active with | none => 0 | some .ptp => 1 | some .gnss => 2) ||| fieldAt 1 0 s.timeState
  | 0x40 => loWord s.hwNs
  | 0x44 => hiWord s.hwNs
  | 0x48 => toWord s.bound
  | 0x4C => fieldAt 31 0 (satS 32 s.time.freq)
  | 0x50 => toWord s.heart.addend
  | 0xD0 =>
    fieldAt 31 24 ((ann.map (·.cls)).getD 0) ||| fieldAt 23 16 (min 255 ((ann.map (·.steps)).getD 0)) |||
      fieldAt 9 8 (match s.time.ptp.parent with | some q => q.port.val + 1 | none => 0) ||| fieldAt 3 0 s.portState
  | 0xD4 => idLo ((ann.map (·.gm)).getD 0)
  | 0xD8 => idHi ((ann.map (·.gm)).getD 0)
  | 0xDC => idLo clockId
  | 0xE0 => idHi clockId
  | _ => w

/-- The module's Ethernet address. -/
def macBytes : List Byte := (List.range 6).map Config.mac

/-- LINK page. -/
def viewLink (s : State) (off : Nat) (w : Word) : Word :=
  match off with
  | 0x40 => toWord (ofLe (macBytes.take 4))
  | 0x44 => toWord (ofLe (macBytes.drop 4))
  | 0x58 => s.can.net.ip
  | 0x60 =>
    vb 4 s.can.net.lease.isSome ||| vb 3 s.can.net.fdx[1] ||| vb 2 s.can.net.fdx[0] ||| vb 1 s.can.net.link[1] ||| vb 0 s.can.net.link[0]
  | _ => w

/-- WEAR page. -/
def viewWear (s : State) (off : Nat) (w : Word) : Word :=
  if 0x40 ≤ off ∧ off < 0x60 then
    if h : (off - 0x40) / 4 < 8 then
      let i : Fin 8 := ⟨(off - 0x40) / 4, h⟩
      fieldAt 31 24 s.wear.worst[i] ||| vb 17 s.wear.ended[i] ||| vb 16 s.wear.warn[i] ||| fieldAt 15 0 (satU 16 s.wear.used[i])
    else w
  else if off = 0x84 then toWord (s.runTenths / 36000)
  else w

/-- XFORM page. -/
def viewXform (s : State) (off : Nat) (w : Word) : Word :=
  match off with
  | 0x0C => fieldAt 9 8 (min 2 s.xf.work) ||| vb 4 (s.xf.waitAt.isSome && !s.xf.moistQ.isEmpty) ||| vb 0 (s.powered 3)
  | _ => w

/-- PHASE of CHk_STAT: off-time is an OFF inside a profile, and MIN_OFF after a switch-off (R201, R232). -/
def chPhase (s : State) (c : Chan) : Nat :=
  let idle := if s.hwNs < c.minOffEnd then 2 else 0
  if c.switchOff.isSome then 1
  else if c.run.isSome then (match c.ctx.phase with | .none => idle | .off => 2 | p => p.code)
  else idle

/-- ACT page n, read by session `sess`, with every phase in effect whose boundary has come. -/
def viewAct (s : State) (sess : Nat) (n : Fin 12) (off : Nat) (w : Word) : Word :=
  let s := s.ripen n
  let b := s.bank n
  let q : Word × Nat := if h : sess < 8 then b.qry[sess] else (0, 0)
  match off with
  | 0x0C =>
    fieldAt 30 24 (queueLen b) ||| vb 19 b.sag ||| vb 18 (s.winOpen n) ||| fieldAt 17 16 (s.hsMode n) ||| vb 12 b.lock |||
      maskBits 8 (b.ch.toList.map fun c => c.fault != 0) ||| maskBits 4 ((List.finRange 4).map fun k => s.regLs n k) |||
      maskBits 0 (b.ch.toList.map (·.conduct))
  | 0x48 => withField w 16 16 (b2n (s.derated (convOf n)))
  | 0x60 => q.1
  | 0x64 => toWord q.2
  | 0x68 =>
    match s.heldId n ⟨q.2 % 4, Nat.mod_lt _ (by decide)⟩ q.1.toNat with
    | some r => vb 31 true ||| fieldAt 25 24 r.estate ||| fieldAt 7 0 r.outcome
    | none => 0
  | _ =>
    if 0x100 ≤ off ∧ off < 0x200 ∧ off % 0x40 = 8 then
      let c := b.ch[(⟨(off - 0x100) / 0x40 % 4, Nat.mod_lt _ (by decide)⟩ : Fin 4)]
      fieldAt 31 16 (satU 16 c.i) ||| vb 13 (c.fault != 0) ||| fieldAt 11 8 c.fault |||
        fieldAt 7 4 (match c.run with | some r => r.ev.prof | none => 0) ||| fieldAt 2 0 (s.chPhase c)
    else w

/-- UCODE page n. -/
def viewUcode (s : State) (n : Fin 12) (off : Nat) (w : Word) : Word :=
  let s := s.ripen n
  let b := s.bank n
  if off = 0x0C then maskBits 4 (b.ch.toList.map fun c => c.ctx.active) ||| vb 0 (s.ucValid n)
  else if 0x100 ≤ off ∧ off < 0x180 then
    let x := (b.ch[(⟨(off - 0x100) / 0x20 % 4, Nat.mod_lt _ (by decide)⟩ : Fin 4)]).ctx
    match (off - 0x100) % 0x20 / 4 with
    | 0 =>
      vb 31 x.active ||| fieldAt 24 16 x.pc ||| fieldAt 14 12 x.phase.code ||| fieldAt 11 10 x.offm.code ||| vb 9 x.wait.isSome |||
        vb 8 x.arm.isSome ||| vb 3 x.tgt ||| vb 2 x.dip ||| vb 1 x.refWin ||| vb 0 x.refused
    | 1 => fieldAt 27 20 x.band ||| fieldAt 11 0 x.itgt
    | 2 => if x.active then toWord (x.tph s.now) else 0
    | 3 => if x.active then toWord (x.tev s.now) else 0
    | i => toWord (x.v (i - 4))
  else w

/-- DI page g. -/
def viewDi (s : State) (g : Fin 8) (off : Nat) (w : Word) : Word :=
  let f := s.field (dig g)
  match off with
  | 0x0C => vb 10 f.linkOk ||| vb 9 f.repUv15 ||| vb 8 f.repUv18 ||| fieldAt 7 0 (if s.diInvalid g then 0xFF else 0)
  | 0x44 => maskBits 0 ((s.diGroup g).ch.toList.map (·.raw))
  | _ => w

/-- An output drives its safe state or OFF by rows 1–4, 6 or 7 (SAFE_ACT). -/
def outSafe (o : DoOut) : Bool := o.row != 5 && o.row != 8

/-- The outputs of group g. -/
def groupOuts (s : State) (g : Fin 4) : List DoOut :=
  (List.finRange 8).map fun (k : Fin 8) => s.out ⟨8 * g + k, by omega⟩

/-- DO page g. -/
def viewDo (s : State) (g : Fin 4) (off : Nat) (w : Word) : Word :=
  let f := s.field (dog g)
  if off = 0x0C then
    vb 18 f.linkOk ||| vb 17 f.repUv15 ||| vb 16 f.repUv18 ||| maskBits 8 ((s.groupOuts g).map outSafe) |||
      maskBits 0 ((s.groupOuts g).map fun o => s.driveOn o.out)
  else if 0x100 ≤ off ∧ off < 0x300 then
    let i : Fin 32 := ⟨(8 * g + (off - 0x100) / 0x40) % 32, Nat.mod_lt _ (by decide)⟩
    let o := s.out i
    match off % 0x40 with
    | 0x20 =>
      let on := s.driveOn o.out
      let e := s.endedFlags i
      let rb := if !f.on then false else if o.shortSup && !e.1 then true else if o.rbFail && !e.2 then false else on
      let w := w &&& (if e.1 then 0xFFFFFFFD#32 else 0xFFFFFFFF#32) &&& (if e.2 then 0xFFFFFFEF#32 else 0xFFFFFFFF#32)
      withField w 17 15 (4 * b2n rb + 2 * b2n on + b2n (outSafe o))
    | 0x28 => toWord (satU 32 s.wear.doCycles[i])
    | _ => w
  else w

/-- Output n drives its safe code or 0 mA (OUT_SAFE). -/
def aoSafe (s : State) : Bool :=
  !s.powered 6 || s.sup.safeNet || s.afe.refreshTo || !s.en aoBase ||
    (match s.sup.mode with
     | .run | .constrained => false
     | .commission => !s.engineerHolds aoBase 0xFF
     | _ => true)

/-- AO page. -/
def viewAo (s : State) (off : Nat) (w : Word) : Word :=
  match off with
  | 0x0C => fieldAt 15 8 (if s.aoSafe then 0xFF else 0) ||| vb 2 s.afe.refreshTo ||| vb 1 s.afe.onRc
  | _ => w

/-- AI page c. -/
def viewAi (s : State) (c : Fin 8) (off : Nat) (w : Word) : Word :=
  match off with
  | 0x0C =>
    let w := (List.range 4).foldl (fun w k => withField w (9 + 2 * k) (8 + 2 * k) (s.nextRange c k)) w
    withField (withField w 1 1 (b2n s.afe.onRc)) 0 0 (b2n (s.conv c).linkOk)
  | 0x40 => Config.refCal c 0
  | 0x44 => Config.refCal c 1
  | 0x48 => Config.refCal c 2
  | _ => w

/-- What a cell's converter does for it (ACTIVITY). -/
def cellActivity (s : State) (n : Fin 16) : Nat :=
  let g := s.grp (cellConv n)
  if g.rcal = 1 then 4
  else match g.dwell with
    | some d =>
      if d.cell ≠ n then (if (s.cell n).cal.isSome then 2 else 0)
      else match d.kind with
        | .read => 1 | .lost => if (s.cell n).cal.isSome then 2 else 1 | .cal _ => 2 | .scan => 3 | .rcal _ => 4 | .sweep _ => 1
    | none => if (s.cell n).cal.isSome then 2 else 0

/-- CELL page n. -/
def viewCell (s : State) (n : Fin 16) (off : Nat) (w : Word) : Word :=
  match off with
  | 0x0C =>
    fieldAt 7 6 (s.tiaNextOf n) ||| withField (withField (withField w 5 4 (s.grp (cellConv n)).rcal) 3 3 (b2n (s.cell n).calValid)) 2 0 (s.cellActivity n)
  | 0x74 => withField w 12 12 (b2n (s.cell n).calValid)
  | 0x7C => fieldAt 1 0 (s.grp (cellConv n)).rcal
  | _ => w

/-- FAN page f. -/
def viewFan (s : State) (f : Fin 8) (off : Nat) (w : Word) : Word :=
  match off with
  | 0x0C => vb 9 (s.fan f).overload ||| vb 8 (s.fan f).tachLost ||| fieldAt 2 0 (s.fan f).st.code
  | _ => w

/-- GNSS page. -/
def viewGnss (s : State) (off : Nat) (w : Word) : Word :=
  match off with
  | 0x0C =>
    fieldAt 22 16 s.nTrack ||| fieldAt 13 12 s.gnss.start ||| fieldAt 11 10 s.gnss.thr ||| vb 8 s.gnss.suspect ||| fieldAt 7 6 s.antState |||
      vb 5 s.clk.tcxoOk ||| fieldAt 2 0 s.gnss.fix
  | _ => w

/-- GNSS channel page p. -/
def viewGnssCh (s : State) (p : Fin 4) (off : Nat) (w : Word) : Word :=
  match off with
  | 0x0C => maskBits 0 ((List.finRange 16).map fun (k : Fin 16) => s.gchOn ⟨16 * p + k, by omega⟩)
  | _ => w

/-- The segment's own use of wear indicator 6 has passed its end (R316). -/
def segWorn (s : State) (g : Fin 16) : Bool := s.wear.ended[6] && decide (2000 < s.wear.surges[g])

/-- Rootline segment page g. -/
def viewSeg (s : State) (g : Fin 16) (off : Nat) (w : Word) : Word :=
  let x := s.seg g
  match off with
  | 0x0C =>
    vb 8 (s.segWorn g) |||
      fieldAt 6 4 (if x.round.isSome then 1 else if x.enum.isSome then 2 else if x.cmd.isSome then 3 else 0) ||| fieldAt 2 0 x.pwr
  | 0x4C => fieldAt 28 16 x.dir.length ||| fieldAt 12 0 (s.segSpan g)
  | 0x50 => toWord (satU 32 s.wear.surges[g])
  | _ => w

/-- Rootline main page. -/
def viewRoot (s : State) (off : Nat) (w : Word) : Word :=
  match off with
  | 0x0C =>
    let rs := s.root.seg.toList.filterMap (·.round)
    let st := if rs.isEmpty then 0 else if rs.any (·.sampled) then 2 else 1
    withField (withField w 8 8 (b2n (!s.root.vrLow))) 1 0 st
  | _ => w

/-- The words of STATEw (R243, R246). -/
def loopWords (s : State) (l : Fin 256) : List F32 :=
  let x := s.loop l
  if s.law l = 2 then x.xh.toList ++ [x.i[0], x.i[1], x.up[0], x.up[1]]
  else [x.w1, x.w2, x.s1, x.s2, x.i[0], x.up[0]] ++ x.lastX.toList ++ [0#32]

/-- The page belongs to an SFB group of another page (R247). -/
def absorbed (s : State) (l : Nat) : Bool :=
  let p := l / 4 * 4
  l != p && s.law p == 2

/-- LOOP page l. -/
def viewLoop (s : State) (l : Fin 256) (off : Nat) (w : Word) : Word :=
  let x := s.loop l
  match off with
  | 0x0C =>
    vb 20 (s.absorbed l) ||| fieldAt 18 16 x.lst ||| fieldAt 13 12 (min 3 (s.depth l)) ||| fieldAt 10 8 x.set_ ||| vb 1 (x.latch != 0) |||
      vb 0 (s.loopEn l)
  | 0x160 => fieldAt 15 0 s.loadPct
  | 0x164 => if s.law l = 0 then 0 else fieldAt 31 16 (satU 16 (s.dminUs l / 1000)) ||| fieldAt 15 0 (satU 16 (s.cost l))
  | 0x170 => vb 16 x.plFault ||| vb 8 x.plRun ||| fieldAt 7 0 (satU 8 x.plCnt)
  | 0x174 => x.plR
  | 0x178 => x.ym
  | 0x17C => x.plB
  | 0x180 => fieldAt 10 8 x.region ||| vb 1 x.noRegion ||| vb 0 x.xInvalid
  | 0x184 =>
    match x.tune with
    | some t => if !t.frozen then 0 else fieldAt 19 16 (t.ups - 2) ||| fieldAt 9 8 (if t.ups < 2 then 1 else 2) ||| vb 0 t.high
    | none => 0
  | _ => if 0x300 ≤ off ∧ off < 0x330 then (s.loopWords l).getD ((off - 0x300) / 4) 0 else w

/-- Where the claims of a page stand (PAGE_OWNER). -/
def ownerWord (s : State) (page : Nat) : Word :=
  let cs := s.pageClaims page
  let subs := cs.filter fun c => c.sub != 0xFF
  let mask := (List.range 8).map fun i => subs.any fun c => c.sub == i
  match s.claimOf page 0xFF with
  | some c => maskBits 16 mask ||| fieldAt 10 9 c.loss ||| vb 8 c.orphan ||| fieldAt 7 0 c.owner
  | none => maskBits 16 mask ||| fieldAt 7 0 (if subs.isEmpty then 0xFF else 0xFE)

/-- Index `i` as a Fin, within a kind's pages. -/
def fin (n i : Nat) (h : 0 < n) : Fin n := ⟨i % n, Nat.mod_lt _ h⟩

/-- The word a kind's page `i` shows at an offset, from its stored word. -/
def view (s : State) (sess : Nat) (k : Kind) (i off : Nat) (w : Word) : Word :=
  match k with
  | .dev => s.viewDev off w
  | .clk => s.viewClk off w
  | .pwr => s.viewPwr off w
  | .therm => s.viewTherm off w
  | .ledger => s.viewLedger off w
  | .host => s.viewHost off w
  | .time => s.viewTime off w
  | .link => s.viewLink off w
  | .wear => s.viewWear off w
  | .xform => s.viewXform off w
  | .act => s.viewAct sess (fin 12 i (by decide)) off w
  | .ucode => s.viewUcode (fin 12 i (by decide)) off w
  | .di => s.viewDi (fin 8 i (by decide)) off w
  | .dio => s.viewDo (fin 4 i (by decide)) off w
  | .ao => s.viewAo off w
  | .ai => s.viewAi (fin 8 i (by decide)) off w
  | .moist => if off = 0x144 then s.moist.gtValid else w
  | .cell => s.viewCell (fin 16 i (by decide)) off w
  | .fan => s.viewFan (fin 8 i (by decide)) off w
  | .gnss => s.viewGnss off w
  | .gnssCh => s.viewGnssCh (fin 4 i (by decide)) off w
  | .rootSeg => s.viewSeg (fin 16 i (by decide)) off w
  | .rootMain => s.viewRoot off w
  | .loop => s.viewLoop (fin 256 i (by decide)) off w

/-! ### Table windows -/

/-- The bytes of a directory entry (R309). -/
def dirBytes (s : State) (g : Fin 16) (slot : Nat) : List Byte :=
  match slotGet (s.seg g).dir slot with
  | none => List.replicate 16 0#8
  | some e =>
    leBytes 8 e.serial.toNat ++ leBytes 2 (g * 4096 + slot) ++ leBytes 2 e.pos ++
      [BitVec.ofNat 8 e.kind,
       BitVec.ofNat 8 (1 + 2 * b2n e.seen + 4 * b2n e.lost + 8 * b2n e.new_ + 16 * b2n e.missing + 32 * b2n (decide (s.now < e.identUntil))),
       BitVec.ofNat 8 e.version, 0#8]

/-- The bytes of a readings entry (R310). -/
def rdBytes (s : State) (g : Fin 16) (slot : Nat) : List Byte :=
  match slotGet (s.seg g).rd slot with
  | none => List.replicate 16 0#8
  | some e =>
    leBytes 2 e.v0 ++ leBytes 2 e.v1 ++ leBytes 4 e.round ++
      [BitVec.ofNat 8 e.status,
       BitVec.ofNat 8 (b2n e.valid + 2 * b2n e.missed + 4 * b2n e.roundMis + 8 * b2n e.retried + 16 * b2n e.coll)] ++
      leBytes 2 (min 0xFFFF e.misses) ++ List.replicate 4 0#8

/-- The bytes of an event-log entry (R66). -/
def LogEntry.bytes (e : LogEntry) : List Byte :=
  leBytes 8 e.stamp ++ leBytes 4 e.num ++ leBytes 4 e.page ++ leBytes 4 e.flags ++ leBytes 2 e.code ++
    [BitVec.ofNat 8 e.sess, BitVec.ofNat 8 e.cls] ++ leBytes 8 e.data

/-- The table windows: calibration, directory, readings, event log. -/
inductive Window1 where
  | dir | rd | cal | log
  deriving DecidableEq, Repr

/-- The window an address lies in, with its offset there. -/
def windowOf (a : Nat) : Option (Window1 × Nat) :=
  if 0x01000000 ≤ a ∧ a < 0x01100000 then some (.dir, a - 0x01000000)
  else if 0x01100000 ≤ a ∧ a < 0x01200000 then some (.rd, a - 0x01100000)
  else if 0x01200000 ≤ a ∧ a < 0x01240000 then some (.cal, a - 0x01200000)
  else if 0x01300000 ≤ a ∧ a < 0x01380000 then some (.log, a - 0x01300000)
  else none

/-- The word of bytes at an offset. -/
def wordIn (bs : List Byte) (off : Nat) : Word := toWord (leAt bs off 4)

/-- The word a table window shows. -/
def windowWord (s : State) (x : Window1) (off : Nat) : Word :=
  match x with
  | .dir => wordIn (s.dirBytes (fin 16 (off / 65536) (by decide)) (off / 16 % 4096)) (off % 16)
  | .rd => wordIn (s.rdBytes (fin 16 (off / 65536) (by decide)) (off / 16 % 4096)) (off % 16)
  | .cal => s.rd (0x01200000 + off)
  | .log =>
    match s.log.ring.find? fun e => e.num % 16384 == off / 32 with
    | some e => wordIn (LogEntry.bytes e) (off % 32)
    | none => 0

/-! ### The fields of a word -/

/-- The fields of a word of an SFB set at its offset in the 256 words of the set (LOOP pages): word 0 holds INT_EN, words
that no law uses must be written 0. -/
def sfbFields (o : Nat) : List Field :=
  if o = 0 then [⟨"INT_EN", 0, 0, .rwc, .val 0, .any⟩]
  else if (0x34 ≤ o ∧ o < 0x40) ∨ 0x2C0 ≤ o then [⟨"UNUSED", 31, 0, .rwc, .val 0, .range 0 0⟩]
  else [⟨"WORD", 31, 0, .rwc, .val 0, .any⟩]

/-- The fields of a set word of a LOOP page (R248); words that COMP does not use must be written 0. -/
def setFields (s : State) (l off : Nat) (row : Row) : List Field :=
  if s.law (l / 4 * 4) = 2 then sfbFields ((off - 0x800) % 0x400)
  else if 0x48 ≤ (off - 0x800) % 0x100 then [⟨"UNUSED", 31, 0, .rwc, .val 0, .range 0 0⟩]
  else row.fields

/-- The fields of the word at an offset of a page; none where the register index lists no register. -/
def fieldsAt (s : State) (k : Kind) (i off : Nat) : Option (List Field) :=
  match rowAt k off with
  | none => none
  | some (row, _, _) => some (if k = .loop ∧ 0x800 ≤ off then s.setFields i off row else row.fields)

/-! ### Reading a word -/

/-- The word that session `sess` reads at a word address of a page or window: write-only and reserved fields read 0
(R7, R9, R59). -/
def readWord (s : State) (sess : Nat) (a : Nat) : Word :=
  match windowOf a with
  | some (x, off) => s.windowWord x off
  | none =>
    match pageOf a with
    | none => 0
    | some (p, i) =>
      match s.fieldsAt p.kind i (a % 0x1000) with
      | none => 0
      | some fs =>
        if a % 0x1000 = 0x1C then s.ownerWord (a - 0x1C)
        else s.view sess p.kind i (a % 0x1000) (s.rd a) &&& accMask (fun c => c != .wo) fs

end State
end Sys2Proof.Machine
end

