-- ==== Sys2Proof/Machine/Access.lean ====
section
/-!
DEFINITION. How a word of a page is written (R7, R9, R59, R60, R67, R75): the fields at an offset, the merge of a write
into a word, the limits of the fields, what counts as an RWC write, ownership (R63, R200, R247, R345), the clock and
supply of a page (R399, R421). Statuses are the codes of R67.
-/
namespace Sys2Proof.Machine

/-! ### Status codes (R67) -/

def stOk : Nat := 0x00
def stDup : Nat := 0x01
def stGated : Nat := 0x02
def stOwned : Nat := 0x03
def stEpoch : Nat := 0x04
def stLocked : Nat := 0x05
def stRange : Nat := 0x06
def stNoPage : Nat := 0x07
def stRole : Nat := 0x08
def stStale : Nat := 0x09
def stClockFault : Nat := 0x0A
def stBusy : Nat := 0x0B
def stAborted : Nat := 0x0C
def stAuth : Nat := 0x0D
def stThrottled : Nat := 0x0E
def stDenied : Nat := 0x0F

/-- What a request brings to the judgement of its operations. `left` is the register file an ATOMIC request would leave
(R70, R113, R250, R421); `badKeys` the key slots of an incomplete KEY_DATA set (R79); `fresh` the flags the hardware sets in the
cycle in which the request comes (R9). -/
structure OpCtx where
  sess : Nat
  role : Role
  minor : Nat
  epochOk : Bool
  left : Option Regs
  badKeys : List Nat
  fresh : List (Nat × Nat)
  deriving DecidableEq, Repr

/-- One word an operation stores: where, what it held, the value written, and whether it is an RWC write. -/
structure WordWrite where
  addr : Nat
  old : Word
  value : Word
  rwc : Bool
  deriving DecidableEq, Repr

/-- The first of two statuses that is not OK. -/
def stAnd (a b : Nat) : Nat := if a = 0 then b else a

/-- A status if a condition holds. -/
def stIf (c : Bool) (st : Nat) : Nat := if c then st else 0

/-- The first status of a list that is not OK. -/
def stFirst (l : List Nat) : Nat := l.foldl stAnd 0

/-! ### Fields -/

/-- The ones of the fields a write can change. -/
def writable (fs : List Field) : Word := accMask (fun c => c != .ro) fs

/-- A word as a write leaves it (R9, R60): RW and RWC bits take the value under the mask, W1C bits written 1 clear, RO bits
stay; WO bits read 0. -/
def merged (fs : List Field) (old value mask : Word) : Word :=
  let rw := accMask (fun c => c == .rw || c == .rwc) fs
  let w1c := accMask (fun c => c == .w1c) fs
  ((old &&& ~~~ (value &&& mask &&& w1c)) &&& ~~~ (rw &&& mask)) ||| (value &&& mask &&& rw)

/-- The flags of a PAGE_EVT word that a hardware set of the same cycle keeps against a write (R9). -/
def OpCtx.freshBits (ctx : OpCtx) (a : Nat) (old : Word) : Word :=
  old &&& (ctx.fresh.filter fun p => p.1 + 0x10 == a).foldl (fun (w : Word) p => w ||| fieldAt p.2 p.2 1) 0#32

/-- The values of a word's fields as the write gives them: what it stores, and its WO fields as written. -/
def asWritten (fs : List Field) (old value mask : Word) : Word :=
  merged fs old value mask ||| (value &&& mask &&& accMask (fun c => c == .wo) fs)

/-- Whether a write is an RWC write (R75): every writable bit is RWC, or an RWC field changes. -/
def rwcWrite (fs : List Field) (old new : Word) : Bool :=
  let rwc := accMask (fun c => c == .rwc) fs
  rwc != 0 && (rwc == writable fs || (old &&& rwc) != (new &&& rwc))

/-- A written field value lies within its limits. -/
def limOk (f : Field) (w : Word) : Bool :=
  let v := fieldOf w f.hi f.lo
  match f.lim with
  | .any => true
  | .range lo hi => decide (lo ≤ v) && decide (v ≤ hi)
  | .srange lo hi =>
    let x := signed (f.hi - f.lo + 1) v
    decide (-(lo : Int) ≤ x) && decide (x ≤ (hi : Int))
  | .oneOf vs => vs.contains v
  | .mult n => v % n == 0
  | .finite => F32.isFinite w
  | .c0 => v == 0 || (decide (0x40A00000 ≤ v) && decide (v ≤ 0x42480000))
  | .ltField hi lo => decide (v < fieldOf w hi lo)
  | .geField hi lo => decide (fieldOf w hi lo ≤ v)
  | .skip => v == 0 || decide (fieldOf w 9 0 < fieldOf w 25 16)

/-- Every field a write can change lies within its limits. -/
def limsOk (fs : List Field) (w : Word) : Bool := fs.all fun f => f.acc == .ro || limOk f w

/-! ### Ownership (R63) -/

namespace State

/-- Another session, or an orphaned claim, holds the page or any of its sub-resources against a session. -/
def pageHeld (s : State) (me page : Nat) : Bool := (s.pageClaims page).any fun c => c.orphan || c.owner != me

/-- A write of session `me` at an offset of a page meets another owner: ACT and DO blocks are sub-resources, a set word of
an absorbed LOOP page belongs to the leader, BOOST_CFG stands on both pages of a pair (R190, R200, R247, R345). -/
def ownedAgainst (s : State) (me : Nat) (k : Kind) (i off : Nat) : Bool :=
  let page := pageBase k i
  match k with
  | .act =>
    if 0x100 ≤ off ∧ off < 0x200 then s.heldByOther me page ((off - 0x100) / 0x40)
    else if off = 0x60 ∨ off = 0x64 then false
    else if off = 0x44 then s.pageHeld me (pageBase .act (i / 2 * 2)) || s.pageHeld me (pageBase .act (i / 2 * 2 + 1))
    else s.pageHeld me page
  | .dio =>
    if 0x100 ≤ off ∧ off < 0x300 then s.heldByOther me page ((off - 0x100) / 0x40) else s.pageHeld me page
  | .loop => if 0x800 ≤ off ∧ s.absorbed i then s.pageHeld me (pageBase .loop (i / 4 * 4)) else s.pageHeld me page
  | _ => s.pageHeld me page

/-! ### Clock and supply of a page (R399, R421) -/

/-- GATED while the enable is 0, judged on the CLK_EN word an ATOMIC request would leave; BUSY while the domain of an
enabled page is not powered. -/
def gateStatus (s : State) (ctx : OpCtx) (bit dom : Nat) : Nat :=
  let w := (ctx.left.getD s.regs).get clkEnAddr
  if !bitOf w bit then stGated else if !s.powered dom then stBusy else 0

/-- The gate of a page of a kind. -/
def pageGate (s : State) (ctx : OpCtx) (k : Kind) : Nat := s.gateStatus ctx (clkBit k) (domOf k)

/-- The gate of a table window. -/
def windowGate (s : State) (ctx : OpCtx) : Window1 → Nat
  | .dir | .rd => s.gateStatus ctx (clkBit .rootMain) (domOf .rootMain)
  | .cal => s.gateStatus ctx (clkBit .moist) (domOf .moist)
  | .log => 0

/-- PAGE_LOCK of a page locks it in the present mode (R77). -/
def pageLocked (s : State) (page : Nat) : Bool := s.bit (page + 0x24) s.sup.mode.code

/-- The state as an ATOMIC request would leave its registers. -/
def leftBy (s : State) (ctx : OpCtx) : State := { s with regs := ctx.left.getD s.regs }

/-- The minimum role of a register above that of its access code (R46): the chapters' "minimum role ENGINEER" and
"SERVICE" registers. -/
def raisedRole (k : Kind) (off value : Nat) : Role :=
  match k with
  | .dev => if off = 0x6C ∨ off = 0x70 ∨ 0x100 ≤ off then .service else .view
  | .host => if (0xA0 ≤ off ∧ off < 0xC0) ∨ 0x100 ≤ off then .service else .view
  | .cell => if off = 0x70 then .engineer else .view
  | .moist => if off = 0x140 then .engineer else .view
  | .ai => if 0x100 ≤ off ∧ off < 0x140 ∧ off % 0x10 = 0 then .engineer else .view
  | .ucode => if off = 0x40 then .engineer else .view
  | .loop => if off = 0x12C then .engineer else .view
  | .time => if off = 0x80 then .engineer else .view
  | .gnss => if off = 0x68 then .engineer else .view
  | .rootSeg => if off = 0x80 ∧ [1, 2, 5, 6, 7].contains (value % 16) then .engineer else .view
  | _ => .view

/-- Role `r` is below `m`. -/
def below (r m : Role) : Bool := decide (r.code < m.code)

end State
end Sys2Proof.Machine
end

