-- ==== Sys2Proof/Machine/Checks.lean ====
section
/-!
DEFINITION. The checks each block makes on a write to one of its registers, beside the access code, the limits and the
role (R82, R93, R99, R104, R113, R132, R158, R159, R175, R210, R234, R235, R247, R249, R250, R279, R313, R331, R362,
R364, R427). `old` is the word before the write, `new` the word as written with its WO fields; the state has the word
stored. A status is a code of R67.
-/
namespace Sys2Proof.Machine
namespace State

/-! ### DEV page -/

/-- A DEV_CMD value is listed from a mode (R81, R82, R101). -/
def cmdListed (m : Mode) (c : Nat) : Bool :=
  match c with
  | 2 => [Mode.commission, .run, .constrained, .safeHold, .maintenance].contains m
  | 3 => [Mode.standby, .safeHold].contains m
  | 4 => [Mode.standby, .commission, .safeHold].contains m
  | 6 => [Mode.standby, .commission, .run, .constrained].contains m
  | 8 => [Mode.standby, .safeHold].contains m
  | 9 => m == .maintenance
  | 15 => true
  | _ => false

/-- The role a DEV_CMD value needs in a mode (R81). -/
def cmdRole (m : Mode) (c : Nat) : Role :=
  match c with
  | 2 => if m = .maintenance then .service else .operate
  | 3 => .engineer
  | 8 | 9 | 15 => .service
  | _ => .operate

/-- A DEV_CMD value names the mode the module is in, or CONSTRAINED in place of RUN (R82). -/
def cmdPresent (m : Mode) (c : Nat) : Bool :=
  (c == m.code && c != 9 && c != 15) || (c == 4 && m == .constrained)

/-- What a write of DEV_CMD returns (R81, R82, R95). -/
def devCmdStatus (s : State) (r : Role) (c : Nat) : Nat :=
  let m := s.sup.mode
  if c = 0 ∨ cmdPresent m c then 0
  else if !cmdListed m c then stLocked
  else if below r (cmdRole m c) then stRole
  else stIf (m == .safeHold && [2, 3, 4, 8].contains c && s.conditionActive) stBusy

/-- A firmware operation is in progress: UPD_STATE 1, 3 or 4. -/
def fwBusy (s : State) : Bool := match s.sup.fw.upd with | .erasing | .programming | .verifying => true | _ => false

/-- A firmware write by another session than the one that commanded MAINTENANCE (R99). -/
def fwOther (s : State) (sess : Nat) : Bool := match s.sup.maintSess with | some m => m != sess | none => false

/-- What a write of FW_CMD returns (R99, R100). -/
def fwCmdStatus (s : State) (c : Nat) : Nat :=
  if c = 0 then 0
  else if c ≤ 4 ∧ s.sup.mode ≠ .maintenance then stLocked
  else if s.fwBusy then stBusy
  else stIf (c == 4 && s.sup.fw.upd != .verified) stLocked

def checkDev (s : State) (ctx : OpCtx) (off : Nat) (new : Word) : Nat :=
  if off = 0x44 then s.devCmdStatus ctx.role (fieldOf new 3 0)
  else if off = 0x70 then stAnd (stIf (s.fwOther ctx.sess) stOwned) (s.fwCmdStatus (fieldOf new 2 0))
  else if off = 0x6C ∨ 0x100 ≤ off then stIf (s.fwOther ctx.sess) stOwned
  else 0

/-! ### CLK and TIME pages -/

def checkClk (s : State) (off : Nat) (new : Word) : Nat :=
  stIf (off == 0x84 && bitOf new 0 && s.clk.fcnt.isSome) stBusy

/-- TP_WIDTH ≤ TP_PER × 500 µs (R364). -/
def tpWidthOk (s : State) : Bool := decide (s.fld (timeBase + 0x98) 18 0 ≤ s.fld (timeBase + 0x94) 31 16 * 500)

def checkTime (s : State) (ctx : OpCtx) (off : Nat) (old new : Word) : Nat :=
  match off with
  | 0x80 => s.timeCmdStatus (fieldOf new 1 0)
  | 0x90 => stIf (bitOf old 0 && bitOf old 1 != bitOf new 1) stBusy
  | 0x94 | 0x98 => stAnd (stIf (s.bit (timeBase + 0x90) 0) stBusy) (stIf (!(s.leftBy ctx).tpWidthOk) stRange)
  | _ => 0

/-! ### Actuator and microcode pages -/

/-- A write that enables a field output: LOCKED while the SAFE net is asserted, ROLE from OPERATE in COMMISSION (R46, R93,
R182). -/
def enableStatus (s : State) (ctx : OpCtx) (off : Nat) (old new : Word) : Nat :=
  if off = 8 ∧ !bitOf old 0 ∧ bitOf new 0 then
    if s.sup.safeNet then stLocked
    else stIf (s.sup.mode == .commission && below ctx.role .engineer) stRole
  else 0

def checkAct (s : State) (ctx : OpCtx) (n : Fin 12) (off : Nat) (old new : Word) : Nat :=
  if off = 8 then s.enableStatus ctx off old new
  else if off = 0x4C then stIf (bitOf new 0 && !s.lockClears n) stDenied
  else if 0x100 ≤ off ∧ off < 0x200 ∧ off % 0x40 = 0x10 then
    stIf (bitOf new 0 && !s.fltClears n ⟨(off - 0x100) / 0x40 % 4, Nat.mod_lt _ (by decide)⟩) stDenied
  else 0

def checkUcode (s : State) (ctx : OpCtx) (n : Fin 12) (off : Nat) (new : Word) : Nat :=
  if off = 0x40 then stIf (bitOf new 0 && ((s.leftBy ctx).ucJudge n).isSome) stRange
  else stIf ((0x800 ≤ off || (0x80 ≤ off && off < 0xC0)) && s.en (actBase n)) stBusy

/-! ### Field outputs -/

def checkDi (s : State) (g : Fin 8) (off : Nat) : Nat :=
  let clash := fun (c : Nat) => s.bit (diBase g + 0x80 + 4 * c) 1 && s.bit (cntBase g c) 0
  if off = 0x80 ∨ off = 0x84 then stIf (clash ((off - 0x80) / 4)) stRange
  else if off = 0x100 ∨ off = 0x120 then stIf (clash ((off - 0x100) / 0x20)) stRange
  else 0

def checkDo (s : State) (ctx : OpCtx) (g : Fin 4) (off : Nat) (old new : Word) : Nat :=
  if 0x100 ≤ off ∧ off < 0x300 then
    let i := 8 * g.val + (off - 0x100) / 0x40
    if s.isRepl i then stLocked
    else match off % 0x40 with
    | 4 => stIf (decide ((s.leftBy ctx).doLimit i < fieldOf new 23 0)) stRange
    | 0x10 => stIf (!selOk (fieldOf new 31 24) (fieldOf new 23 16) (fieldOf new 15 8)) stRange
    | _ => 0
  else s.enableStatus ctx off old new

/-! ### Analog inputs, cells and MOIST -/

def checkAi (s : State) (ctx : OpCtx) (c : Fin 8) (off : Nat) (new : Word) : Nat :=
  if 0x80 ≤ off ∧ off < 0x100 ∧ off % 0x20 < 8 then
    let k := (off - 0x80) / 0x20
    let l := s.leftBy ctx
    stIf (l.fld (aiCfg c k) 3 0 == 4 && l.fld (aiCfg c k + 4) 9 0 % 2 == 1) stRange
  else if 0x100 ≤ off ∧ off < 0x140 ∧ off % 0x10 = 0 then
    let k := (off - 0x100) / 0x10
    let cmd := fieldOf new 1 0
    let ty := s.fld (aiCfg c k) 3 0
    if cmd = 0 then 0
    else if ty ≠ 3 ∧ ty ≠ 6 then stRange
    else if s.sup.mode ≠ .commission then stLocked
    else if cmd = 1 then stIf (s.leadRuns c k) stBusy
    else stIf (s.fld (aiBase c + 0x104 + 0x10 * k) 2 0 != 2) stRange
  else 0

/-- A sweep of the cell runs. -/
def sweeping (s : State) (n : Fin 16) : Bool := match s.moist.sweep with | some w => w.cell == n | none => false

/-- A measurement or scan of the cell runs, a sweep included (R132, R159). -/
def cellBusy (s : State) (n : Fin 16) : Bool :=
  (s.cell n).cal.isSome || (s.cell n).scan || (s.cell n).scanCap.isSome || s.sweeping n

def checkCell (s : State) (ctx : OpCtx) (n : Fin 16) (off : Nat) (new : Word) : Nat :=
  let g := s.grp (cellConv n)
  if 0x48 ≤ off ∧ off ≤ 0x60 then
    if ctx.left.isNone then stRange else stIf (!(s.leftBy ctx).planOk n) stRange
  else if off = 0x70 ∧ fieldOf new 2 0 ≠ 0 then
    if s.sup.mode ≠ .commission then stLocked
    else if g.rcal ≠ 2 ∨ s.cellBusy n then stBusy
    else stIf (fieldOf new 2 0 == 4 && (s.cell n).pend.toList.any (·.isNone)) stRange
  else if (off = 0x78 ∨ off = 0x80) ∧ bitOf new 0 then stIf (g.rcal == 1) stBusy
  else 0

def checkMoist (s : State) (ctx : OpCtx) (off : Nat) (new : Word) : Nat :=
  if h : 0x100 ≤ off ∧ (off - 0x100) / 4 < 16 then
    let n : Fin 16 := ⟨(off - 0x100) / 4, h.2⟩
    let cmd := fieldOf new 1 0
    if cmd = 0 then 0
    else if cmd = 3 ∧ 0 < s.enfLevel then stThrottled
    else if (s.moistCell n).cap.isSome || s.sweeping n then stBusy
    else stIf (cmd == 3 && (s.moist.sweep.isSome || (s.grp (cellConv n)).rcal != 2 || !(s.cell n).calValid || s.rd (moistBase + 0xC0 + 4 * n) == 0))
      stBusy
  else if off = 0x140 then stIf (bitOf new 0 && !(s.leftBy ctx).gtOk (fieldOf new 12 8)) stRange
  else 0

/-! ### Fans and Rootline -/

def checkFan (s : State) (ctx : OpCtx) (f : Fin 8) (off : Nat) (old new : Word) : Nat :=
  let l := s.leftBy ctx
  match off with
  | 0x40 => stIf (bitOf new 16 && fieldOf new 11 8 == 0) stRange
  | 0x4C => stIf (decide ((if l.fanCfg f 16 16 = 1 then l.rpmMax f else 1000) < fieldOf new 15 0)) stRange
  | 0x54 => stIf (decide (signed 16 (fieldOf new 31 16) ≤ signed 16 (fieldOf new 15 0))) stRange
  | _ => s.enableStatus ctx off old new

def checkSeg (s : State) (g : Fin 16) (off : Nat) (new : Word) : Nat :=
  if off = 0x80 ∧ fieldOf new 3 0 ≠ 0 then s.rootCmdStatus g (fieldOf new 3 0) else 0

/-! ### LOOP pages -/

/-- The structure registers (R250). -/
def loopStructure (off : Nat) : Bool :=
  off == 0x40 || off == 0x44 || off == 0x48 || (decide (0x50 ≤ off) && decide (off < 0xA0) && off % 0x10 == 0) || off == 0xC0 || off == 0xE0

/-- PL_EN = 1 is left with values R274 refuses. -/
def plBad (s : State) (l : Fin 256) : Bool :=
  s.plEn l && !(decide (s.plDelay l ≤ 31) && E32.lt F32.zero (s.rd (loopBase l + 0x108)) &&
    Law.finite [s.rd (loopBase l + 0x104), s.rd (loopBase l + 0x108), s.rd (loopBase l + 0x110)])

/-- LAW = SFB may stand on a page (R247). -/
def sfbOk (s : State) (l : Fin 256) : Bool :=
  l % 4 == 0 && [1, 2, 3].all fun j => s.law (l + j) == 0 && !s.loopEn (l + j)

/-- INST of an output target lies within its KIND (R253). -/
def tgtOk (kind inst : Nat) : Bool :=
  match kind with
  | 1 => decide (inst < 8)
  | 2 => decide (inst < 48)
  | 3 => decide (inst < 32)
  | 4 => decide (inst < 8)
  | _ => true

/-- The value rules of a LOOP register. -/
def loopValue (s : State) (ctx : OpCtx) (l : Fin 256) (off : Nat) (old new : Word) : Nat :=
  let t := s.leftBy ctx
  match off with
  | 0x40 => stIf (fieldOf new 17 16 == 2 && !t.sfbOk l) stRange
  | 0x44 => stIf (t.plBad l) stRange
  | 0x48 =>
    let d := fieldOf new 25 0
    stIf (d != 0 && !(decide (250 ≤ d) && decide (d ≤ 1000 * t.period l))) stRange
  | 0xB8 => stIf (bitOf old 8 && fieldOf old 2 0 != fieldOf new 2 0) stLocked
  | 0xC0 | 0xE0 => stIf (!tgtOk (fieldOf new 31 24) (fieldOf new 23 16)) stRange
  | 0x100 | 0x104 | 0x108 | 0x10C | 0x110 => stIf (t.plBad l) stRange
  | 0x12C => if fieldOf new 1 0 = 1 then s.tuneStartStatus l else 0
  | _ =>
    stIf (decide (0x50 ≤ off) && decide (off < 0xA0) && off % 0x10 == 0 &&
      !selOk (fieldOf new 31 24) (fieldOf new 23 16) (fieldOf new 15 8)) stRange

def checkLoop (s : State) (ctx : OpCtx) (l : Fin 256) (off : Nat) (old new : Word) : Nat :=
  if s.absorbed l ∧ (off = 8 ∨ (0x40 ≤ off ∧ off < 0x800)) then stLocked
  else if off = 8 then stIf (!bitOf old 0 && bitOf new 0 && !(s.leftBy ctx).loopAdmits l) stRange
  else if loopStructure off ∧ s.loopEn l then stBusy
  else s.loopValue ctx l off old new

/-! ### Every block -/

/-- The check of the block a page belongs to. -/
def blockCheck (s : State) (ctx : OpCtx) (k : Kind) (i off : Nat) (old new : Word) : Nat :=
  match k with
  | .dev => s.checkDev ctx off new
  | .clk => s.checkClk off new
  | .time => s.checkTime ctx off old new
  | .act => s.checkAct ctx (fin 12 i (by decide)) off old new
  | .ucode => s.checkUcode ctx (fin 12 i (by decide)) off new
  | .di => s.checkDi (fin 8 i (by decide)) off
  | .dio => s.checkDo ctx (fin 4 i (by decide)) off old new
  | .ao => s.enableStatus ctx off old new
  | .ai => s.checkAi ctx (fin 8 i (by decide)) off new
  | .cell => s.checkCell ctx (fin 16 i (by decide)) off new
  | .moist => s.checkMoist ctx off new
  | .fan => s.checkFan ctx (fin 8 i (by decide)) off old new
  | .rootSeg => s.checkSeg (fin 16 i (by decide)) off new
  | .loop => s.checkLoop ctx (fin 256 i (by decide)) off old new
  | .pwr | .therm | .ledger | .host | .link | .wear | .xform | .gnss | .gnssCh | .rootMain => 0

end State
end Sys2Proof.Machine
end

