-- ==== Sys2Proof/Machine/Hooks.lean ====
section
/-!
DEFINITION. What each block does when a word of one of its registers has been written: the effects of commands, of EN,
of configuration changes that end or restart something.
-/
namespace Sys2Proof.Machine
namespace State

/-! ### Mode commands (R81, R96) -/

/-- The module leaves its mode for `m` by command: the event causes clear, the SAFE net is released on leaving SAFE_HOLD,
or with the self-test that has asserted it. -/
def changeMode (s : State) (m : Mode) : State :=
  let old := s.sup.mode
  let s := (s.setMode m).leftMode old
  let s := s.updSup fun x => { x with safeCause := 0 }
  let s := if old = .safeHold ∨ old = .maintenance then s.releaseSafe else s
  s.settleAll

/-- A commanded entry to RUN; CONSTRAINED in its place while THR_ENFORCE or ENERGY_LIMIT is 1 (R96). -/
def enterRun (s : State) : State := s.markLoops.changeMode (if 0 < s.enfLevel ∨ s.led.energyLimit then .constrained else .run)

/-- Leaving MAINTENANCE for STANDBY by command: a self-test in progress is abandoned; a firmware operation in progress stays so, and
FW_CMD BUSY until a reset (log entry 98). -/
def leaveToStandby (s : State) : State :=
  (s.updSup fun x => { x with maintSess := none, selftest := false }).changeMode .standby

/-- A DEV_CMD value, already judged, from session `sess`. -/
def devCommand (s : State) (sess c : Nat) : State :=
  if c = 0 ∨ cmdPresent s.sup.mode c then s
  else match c with
  | 2 => if s.sup.mode = .maintenance then s.leaveToStandby else s.changeMode .standby
  | 3 => s.changeMode .commission
  | 4 => s.enterRun
  | 6 => s.enterSafeHold causeHost
  | 8 => (s.changeMode .maintenance).updSup fun x => { x with maintSess := some sess }
  | 9 => (s.updSup fun x => { x with selftest := true }).assertSafe.settleAll
  | 15 => s.updSup fun x => { x with resetDue := some .hostReset }
  | _ => s

/-! ### Firmware (R99, R100) -/

/-- The words of FW_BUF as bytes. -/
def fwBytes (s : State) : List Byte := s.sup.fw.buf.flatMap wordBytes

/-- Cells of a flash image with bytes stored from an offset; an erased byte (0xFF) is not listed, offsets ascend. -/
def flashPut (cells : List (Nat × Byte)) (off : Nat) (bs : List Byte) : List (Nat × Byte) :=
  let rest := cells.filter fun c => !(decide (off ≤ c.1) && decide (c.1 < off + bs.length))
  let new := ((withIndex bs).map fun (x : Nat × Byte) => (off + x.1, x.2)).filter fun c => c.2 != 0xFF#8
  (rest.filter fun c => decide (c.1 < off)) ++ new ++ (rest.filter fun c => decide (off ≤ c.1))

def updFw (s : State) (f : Firmware → Firmware) : State := s.updSup fun x => { x with fw := f x.fw }

/-- A FW_CMD value, already judged: ERASE invalidates the inactive bank at once, PROGRAM stores the block, ACTIVATE makes
the bank active on trial and a reset follows the response, CONFIRM ends the trial. -/
def fwCommand (s : State) (c : Nat) : State :=
  match c with
  | 1 => s.updFw fun f => { onInactive f (fun _ => ⟨false, 0#32, []⟩) with upd := .erasing, err := 0 }
  | 2 => s.updFw fun f =>
    { onInactive f (fun b => ⟨false, 0#32, flashPut b.cells (s.fld 0x6C 21 0) s.fwBytes⟩) with upd := .programming, err := 0 }
  | 3 => s.updFw fun f => { f with upd := .verifying, err := 0 }
  | 4 => s.updSup fun x => { x with resetDue := some .fwActivate }
  | 5 => s.updFw fun f => { f with trial := false }
  | _ => s

def hookDev (s : State) (sess off : Nat) (v : Word) : State :=
  if off = 0x44 then s.devCommand sess (fieldOf v 3 0)
  else if off = 0x70 then s.fwCommand (fieldOf v 2 0)
  else if 0x100 ≤ off then s.updFw fun f => { f with buf := f.buf.set ((off - 0x100) / 4) v }
  else s

/-! ### Clocks, thermal, time, network -/

def hookClk (s : State) (off : Nat) (old v : Word) : State :=
  if off = 0x40 then s.clkEnWritten old else if off = 0x84 ∧ bitOf v 0 then s.fcntStart else s

def hookTherm (s : State) (off : Nat) (old v : Word) : State :=
  if h : 0x80 ≤ off ∧ (off - 0x80) / 4 < 10 then s.thrEnWritten ⟨(off - 0x80) / 4, h.2⟩ (bitOf old 8) (bitOf v 8) else s

def hookTime (s : State) (sess off : Nat) (old v : Word) : State :=
  match off with
  | 0x08 => if bitOf old 0 && !bitOf v 0 then s.timeOff else if !bitOf old 0 && bitOf v 0 then s.timeStart else s
  | 0x60 => s.srcCfgWritten old
  | 0x80 => s.timeCmd (fieldOf v 1 0) sess
  | 0xC0 => if bitOf v 9 then s.updPtp fun x => { x with master := false, rival := none, listenAt := s.now } else s
  | 0xC4 => if fieldOf v 23 16 = fieldOf old 23 16 then s else s.rejudgePtp
  | 0x90 => if !bitOf old 0 && bitOf v 0 then s.tpStart else s
  | _ => s

/-- The address that NET_CFG, NET_DEF and the static registers select (LINK page). -/
def netAddress (s : State) : Word :=
  let b := pageBase .link 0
  let dhcp := if s.bit (b + 0x48) 1 then !s.sup.straps.netDef else s.bit (b + 0x48) 0
  if dhcp then s.can.net.lease.getD 0#32
  else if s.bit (b + 0x48) 1 then 0xC0A84028#32 else s.rd (b + 0x4C)

/-- A write to the address registers: a change of the address in use follows the response (R80). -/
def hookLink (s : State) (off : Nat) : State :=
  if 0x48 ≤ off ∧ off < 0x58 ∧ s.netAddress ≠ s.can.net.ip then
    { s with can := { s.can with net := { s.can.net with changeDue := true } } }
  else s

/-! ### Actuators and microcode -/

/-- BOOST_CFG stands on both pages of its pair (R190). -/
def boostBoth (s : State) (n : Fin 12) : State :=
  let w := s.rd (actBase n + 0x44)
  s.wr (actBase (if n.val % 2 = 0 then n + 1 else n - 1) + 0x44) w

def hookAct (s : State) (sess : Nat) (n : Fin 12) (off : Nat) (old v : Word) : State :=
  match off with
  | 0x08 => if bitOf old 0 && !bitOf v 0 then s.disableBank n else s
  | 0x44 => s.boostBoth n
  | 0x4C => if bitOf v 0 then s.lockClear n else s
  | 0x60 => if h : sess < 8 then s.updBank n fun b => { b with qry := b.qry.set sess (v, b.qry[sess].2) } else s
  | 0x64 => if h : sess < 8 then s.updBank n fun b => { b with qry := b.qry.set sess (b.qry[sess].1, fieldOf v 1 0) } else s
  | _ =>
    if 0x100 ≤ off ∧ off < 0x200 ∧ off % 0x40 = 0x10 ∧ bitOf v 0 then
      s.fltClear n ⟨(off - 0x100) / 0x40 % 4, Nat.mod_lt _ (by decide)⟩
    else s

def hookUcode (s : State) (n : Fin 12) (off : Nat) (v : Word) : State :=
  if off = 0x40 then (if bitOf v 0 then s.ucPass n else s)
  else if 0x800 ≤ off ∨ (0x80 ≤ off ∧ off < 0xC0) then s.setUcValid n false
  else s

/-! ### Digital inputs and outputs -/

def hookDi (s : State) (g : Fin 8) (off : Nat) (old v : Word) : State :=
  if off = 8 then s.diEnWritten g (bitOf old 0) (bitOf v 0)
  else if h : 0x100 ≤ off ∧ (off - 0x100) / 0x20 < 2 then
    let c : Fin 2 := ⟨(off - 0x100) / 0x20, h.2⟩
    if off % 0x20 = 0 ∧ !bitOf old 0 ∧ bitOf v 0 then s.cntEnabled g c
    else if off % 0x20 = 4 ∧ bitOf v 0 then s.cntClear g c
    else s
  else s

def hookDo (s : State) (g : Fin 4) (off : Nat) (old v : Word) : State :=
  if 0x100 ≤ off ∧ off < 0x300 ∧ off % 0x40 = 0x2C ∧ bitOf v 0 then
    s.doFltClear ⟨(8 * g + (off - 0x100) / 0x40) % 32, Nat.mod_lt _ (by decide)⟩
  else if 0x100 ≤ off ∧ off < 0x300 ∧ off % 0x40 = 0 ∧ fieldOf v 25 24 ≠ fieldOf old 25 24 then
    s.updOut ⟨(8 * g + (off - 0x100) / 0x40) % 32, Nat.mod_lt _ (by decide)⟩ fun o => { o with mir := none }
  else s

/-! ### Analog inputs, cells, MOIST -/

def hookAi (s : State) (c : Fin 8) (off : Nat) (old v : Word) : State :=
  if off = 8 then s.sendCfg
  else if 0x80 ≤ off ∧ off < 0x100 ∧ off % 0x20 = 4 then s.sendCfg
  else if 0x80 ≤ off ∧ off < 0x100 ∧ off % 0x20 = 0 then
    s.aiWritten c ⟨(off - 0x80) / 0x20 % 4, Nat.mod_lt _ (by decide)⟩ (bitOf old 31)
  else if 0x100 ≤ off ∧ off < 0x140 ∧ off % 0x10 = 0 then
    match fieldOf v 1 0 with
    | 1 => (s.leadStart c ⟨(off - 0x100) / 0x10 % 4, Nat.mod_lt _ (by decide)⟩).kickAi c
    | 2 => s.leadStore c ((off - 0x100) / 0x10)
    | _ => s
  else s

def hookCell (s : State) (n : Fin 16) (off : Nat) (old v : Word) : State :=
  if off = 8 then s.cellEnWritten n (bitOf old 0) (bitOf v 0)
  else if off = 0x40 then s.tiaModeWritten n old
  else if off = 0x70 then
    match fieldOf v 2 0 with
    | 1 => s.calStart n 0
    | 2 => s.calStart n 1
    | 3 => s.calStart n 2
    | 4 => s.calCommit n
    | 5 => s.calDiscard n
    | 6 => s.calValidate n
    | _ => s
  else if off = 0x78 then (if bitOf v 0 then s.rcalStart (cellConv n) else s)
  else if off = 0x80 then (if bitOf v 0 then s.updCell n fun x => { x with scan := true } else s)
  else if 0x400 ≤ off ∧ off < 0x640 then s.setCalValid n false
  else s

def hookMoist (s : State) (off : Nat) (old v : Word) : State :=
  if off = 8 then (if bitOf old 0 && !bitOf v 0 then s.moistOff else s)
  else if h : 0x40 ≤ off ∧ (off - 0x40) / 4 < 16 then s.mcfgWritten ⟨(off - 0x40) / 4, h.2⟩ old
  else if h : 0x100 ≤ off ∧ (off - 0x100) / 4 < 16 then
    let n : Fin 16 := ⟨(off - 0x100) / 4, h.2⟩
    match fieldOf v 1 0 with
    | 1 => s.captureStart n 1
    | 2 => s.captureStart n 2
    | 3 => s.sweepStart n
    | _ => s
  else if off = 0x140 ∧ bitOf v 0 then s.setGtValid (fieldOf v 12 8) true
  else s

/-! ### Fans, GNSS, Rootline -/

def hookFan (s : State) (f : Fin 8) (off : Nat) (v : Word) : State :=
  if off = 0x80 ∧ bitOf v 0 then s.fanFltClear f else s

def hookGnss (s : State) (off : Nat) (old v : Word) : State :=
  match off with
  | 0x40 => (if bitOf old 0 = bitOf v 0 then s else s.updGnss fun g => { g with ant := 0 }).dropDisabled
  | 0x58 => s.gnssConfig
  | 0x68 => s.gnssCmd (fieldOf v 1 0)
  | _ => s

def hookSeg (s : State) (g : Fin 16) (off : Nat) (old v : Word) : State :=
  if off = 8 then s.segEnWritten g (bitOf old 0) (bitOf v 0)
  else if off = 0x80 ∧ fieldOf v 3 0 ≠ 0 then s.rootCmdStart g (fieldOf v 3 0)
  else s

/-! ### LOOP pages -/

/-- The loop and the set that a set word of a page belongs to (R247, R248). -/
def setOf (s : State) (l : Fin 256) (off : Nat) : Fin 256 × Nat :=
  let p := l.val / 4 * 4
  if s.law p = 2 then (⟨p % 256, Nat.mod_lt _ (by decide)⟩, 2 * (l - p) + (off - 0x800) / 0x400)
  else (l, (off - 0x800) / 0x100)

/-- A word of a set was written: if the set is in use, a swap is due (R249). -/
def setWritten (s : State) (l : Fin 256) (off : Nat) : State :=
  let x := s.setOf l off
  s.updLoop x.1 fun y => { y with swapDue := y.swapDue || y.set_ == x.2 }

def hookLoop (s : State) (l : Fin 256) (off : Nat) (old v : Word) : State :=
  if off = 8 then
    if !bitOf old 0 && bitOf v 0 then s.loopEnabled l else if bitOf old 0 && !bitOf v 0 then s.loopDisabled l else s
  else if off = 0xA4 then s.cmodeWritten l
  else if off = 0xB8 then s.updLoop l fun y => { y with schedNew := bitOf v 8 && (!bitOf old 8 || y.schedNew) }
  else if off = 0x44 then
    let s := (((s.wr (loopBase l + 0x44) old).syncCnt l s.hwNs).wr (loopBase l + 0x44) v)
    s.updLoop l fun y => { y with plRestart := true }
  else if off = 0x104 ∨ off = 0x108 ∨ off = 0x10C ∨ (off = 0x100 ∧ !bitOf old 0 ∧ bitOf v 0) then
    s.updLoop l fun y => { y with plRestart := true }
  else if off = 0x12C then
    match fieldOf v 1 0 with
    | 1 => s.tuneStart l
    | 2 => s.tuneEnd l 4
    | _ => s
  else if 0x800 ≤ off then s.setWritten l off
  else s

/-! ### Every block -/

/-- What the block of a page does with a written word. -/
def hook (s : State) (sess : Nat) (k : Kind) (i off : Nat) (old v : Word) : State :=
  match k with
  | .dev => s.hookDev sess off v
  | .clk => s.hookClk off old v
  | .therm => s.hookTherm off old v
  | .time => s.hookTime sess off old v
  | .link => s.hookLink off
  | .act => s.hookAct sess (fin 12 i (by decide)) off old v
  | .ucode => s.hookUcode (fin 12 i (by decide)) off v
  | .di => s.hookDi (fin 8 i (by decide)) off old v
  | .dio => s.hookDo (fin 4 i (by decide)) off old v
  | .ai => s.hookAi (fin 8 i (by decide)) off old v
  | .cell => s.hookCell (fin 16 i (by decide)) off old v
  | .moist => s.hookMoist off old v
  | .fan => s.hookFan (fin 8 i (by decide)) off v
  | .gnss => s.hookGnss off old v
  | .rootSeg => s.hookSeg (fin 16 i (by decide)) off old v
  | .loop => s.hookLoop (fin 256 i (by decide)) off old v
  | .pwr | .ledger | .host | .wear | .xform | .ao | .gnssCh | .rootMain => s

end State
end Sys2Proof.Machine
end

