-- ==== Sys2Proof/Machine/Frames.lean ====
section
/-!
DEFINITION. Canopy frames (R35, R42–R44, R51): the header, operation entries and results, the MAC, and how a frame
leaves on a transport (R33, R41, R55).
-/
namespace Sys2Proof.Machine

/-! ### KINDs (R43) -/

def kRequest : Nat := 0x01
def kResponse : Nat := 0x81
def kOpenReq : Nat := 0x10
def kOpenChal : Nat := 0x90
def kOpenProof : Nat := 0x11
def kOpenAccept : Nat := 0x91
def kClose : Nat := 0x12
def kCloseAck : Nat := 0x92
def kBeacon : Nat := 0xA0
def kRefuse : Nat := 0xFF

/-- The header of a frame (R42), without OP_COUNT's body length. -/
structure Hdr where
  ver : Nat
  kind : Nat
  sess : Nat
  flags : Nat
  seq : Nat
  opCount : Nat
  bodyLen : Nat
  epoch : Nat
  tstat : Nat
  failop : Nat
  mode : Nat
  tstate : Nat
  tdone : Nat
  deriving DecidableEq, Repr

/-- The 24 bytes of a header. -/
def Hdr.bytes (h : Hdr) : List Byte :=
  leBytes 1 h.ver ++ leBytes 1 h.kind ++ leBytes 1 h.sess ++ leBytes 1 h.flags ++ leBytes 4 h.seq ++ leBytes 2 h.opCount ++
    leBytes 2 h.bodyLen ++ leBytes 4 h.epoch ++ leBytes 1 h.tstat ++ leBytes 1 h.failop ++ leBytes 1 h.mode ++ leBytes 1 h.tstate ++
    leBytes 4 h.tdone

/-- The header of a frame of at least 24 bytes. -/
def hdrOf (bs : List Byte) : Hdr :=
  { ver := leAt bs 0 1, kind := leAt bs 1 1, sess := leAt bs 2 1, flags := leAt bs 3 1, seq := leAt bs 4 4, opCount := leAt bs 8 2,
    bodyLen := leAt bs 10 2, epoch := leAt bs 12 4, tstat := leAt bs 16 1, failop := leAt bs 17 1, mode := leAt bs 18 1,
    tstate := leAt bs 19 1, tdone := leAt bs 20 4 }

/-- The body of a frame: what stands between the header and the MAC. -/
def bodyOf (bs : List Byte) : List Byte := (bs.drop 24).take (bs.length - 32)

/-- The MAC of a frame. -/
def macOf (bs : List Byte) : List Byte := bs.drop (bs.length - 8)

/-- The first 8 bytes of HMAC-SHA-256 over header and body (R51). -/
def mac8 (key bs : List Byte) : List Byte := (hmac key bs).take 8

/-- A frame: header, body and MAC, 8 zero bytes without a key. -/
def mkFrame (h : Hdr) (body : List Byte) (key : Option (List Byte)) : List Byte :=
  let bs := Hdr.bytes { h with bodyLen := body.length } ++ body
  bs ++ (match key with | some k => mac8 k bs | none => List.replicate 8 0#8)

/-- A frame's length lies within the limits of R35. -/
def frameLenOk (bs : List Byte) : Bool := decide (32 ≤ bs.length) && decide (bs.length ≤ 1472)

/-! ### Operation entries (R44, R58) -/

/-- An operation entry of a request. -/
structure OpEntry where
  code : Nat
  flags : Nat
  n : Nat
  addr : Nat
  data : List Word
  deriving DecidableEq, Repr

/-- A result entry. -/
structure OpResult where
  code : Nat
  status : Nat
  addr : Nat
  data : List Word
  deriving DecidableEq, Repr

/-- OP_N lies within the limits of R58; false for an OPCODE it does not define. -/
def opNOk (code n : Nat) : Bool :=
  match code with
  | 1 | 2 => decide (1 ≤ n) && decide (n ≤ 64)
  | 3 => n == 2
  | 4 => decide (1 ≤ n) && decide (n ≤ 16)
  | 5 | 6 => n == 0
  | 7 => n == 5
  | 8 => decide (1 ≤ n) && decide (n ≤ 40)
  | 9 => decide (n ≤ 2)
  | _ => false

/-- Data words of a request entry (R44). -/
def opDataWords (code n : Nat) : Nat :=
  match code with
  | 2 | 9 => n
  | 3 => 2
  | 7 => 5
  | _ => 0

/-- Data words of a full result (R67). -/
def opFullWords (code n : Nat) : Nat :=
  match code with
  | 1 | 4 | 9 => n
  | 3 | 5 => 1
  | 7 => 2
  | 8 => 2 + 8 * n
  | _ => 0

/-- The minor version an operation needs (R58). -/
def opMinor (code : Nat) : Nat := match code with | 4 => 1 | 7 => 3 | 8 => 2 | _ => 0

/-- OPFLAGS that R58 defines. -/
def opFlagMask (code : Nat) : Nat := match code with | 5 => 7 | 7 => 1 | _ => 0

/-- The little-endian words of bytes. -/
def wordsOf (n : Nat) (bs : List Byte) : List Word := (List.range n).map fun i => State.wordIn bs (4 * i)

/-- The entries of a request body, or none where it is malformed (R44): `count` entries that fill it exactly. -/
def parseOps : Nat → List Byte → Option (List OpEntry)
  | 0, bs => if bs.isEmpty then some [] else none
  | k + 1, bs =>
    let code := leAt bs 0 1
    let n := leAt bs 2 2
    let w := opDataWords code n
    if bs.length < 8 + 4 * w ∨ !opNOk code n then none
    else (parseOps k (bs.drop (8 + 4 * w))).map fun r => ⟨code, leAt bs 1 1, n, leAt bs 4 4, wordsOf w (bs.drop 8)⟩ :: r

/-- The bytes of a result entry. -/
def OpResult.bytes (r : OpResult) : List Byte :=
  leBytes 1 r.code ++ leBytes 1 r.status ++ leBytes 2 r.data.length ++ leBytes 4 r.addr ++ r.data.flatMap wordBytes

/-- A WRITE or RMW entry stores to a word address. -/
def OpEntry.stores (e : OpEntry) (a : Nat) : Bool :=
  match e.code with
  | 2 => decide (e.addr ≤ a) && decide (a < e.addr + 4 * e.n) && e.addr % 4 == 0
  | 3 => e.addr == a
  | _ => false

/-- A request that writes DEV_CMD holds beside one such write only READ, GROUP_READ and PING (R83). -/
def devCmdAlone (es : List OpEntry) : Bool :=
  let n := (es.filter fun e => e.stores 0x44).length
  n == 0 || (n == 1 && es.all fun e => e.stores 0x44 || e.code == 1 || e.code == 4 || e.code == 9)

/-- The full response fits a frame (R67). -/
def responseFits (es : List OpEntry) : Bool :=
  decide (24 + (es.map fun e => 8 + 4 * opFullWords e.code e.n).sum + 8 ≤ 1472)

/-- The checks of a request before it is accepted (R44, R67, R83): its entries, or none for RANGE. -/
def requestOps (minor : Nat) (bs : List Byte) : Option (List OpEntry) :=
  let h := hdrOf bs
  let body := bodyOf bs
  if h.ver ≠ 0x10 + minor ∨ h.bodyLen ≠ body.length ∨ h.opCount = 0 ∨ 64 < h.opCount then none
  else match parseOps h.opCount body with
    | some es => if devCmdAlone es && responseFits es then some es else none
    | none => none

/-! ### Sending -/

namespace State

def updCan (s : State) (f : Canopy → Canopy) : State := { s with can := f s.can }
def updSess (s : State) (i : Nat) (f : Sess → Sess) : State :=
  if h : i < 8 then s.updCan fun c => { c with sess := c.sess.set i ((c.sess[i]).map f) } else s

/-- The oldest response goes from a list of out frames, oldest first. -/
def dropOldest : List OutFrame → List OutFrame
  | [] => []
  | f :: r => if f.beacon then f :: dropOldest r else r

/-- A frame enters the SPI out queue (R41): a beacon takes the place of an unread one; the oldest response makes room. -/
def spiOut (s : State) (f : OutFrame) : State :=
  s.updCan fun c =>
    let q := c.spi.out
    let q :=
      if f.beacon && q.any (·.beacon) then q.map fun x => if x.beacon then f else x
      else (if q.length < 16 then q else dropOldest q) ++ [f]
    { c with spi := { c.spi with out := q } }

/-- A Canopy frame leaves to where its session or request is (R33, R41). -/
def reply (s : State) (v : Via) (beacon : Bool) (bs : List Byte) : State :=
  match v with
  | .udp p ip port => if s.portsRun && s.can.net.link[p] && s.can.net.ip != 0#32 then s.send (.udp p ip port) bs else s
  | .spi => s.spiOut ⟨beacon, bs⟩

/-- The header of what an open session is sent. -/
def sessHdr (s : State) (i minor kind flags seq opCount tstat failop : Nat) : Hdr :=
  { ver := 0x10 + minor, kind := kind, sess := i, flags := flags, seq := seq, opCount := opCount, bodyLen := 0, epoch := s.epoch.toNat,
    tstat := tstat, failop := failop, mode := s.sup.mode.code, tstate := s.timeState, tdone := s.hwNs % 2 ^ 32 }

/-- REFUSE (R50, R52); its VER is 0x10 (the model's choice: log entry 81). -/
def refuseTo (s : State) (v : Via) (i seq tstat : Nat) : State :=
  s.reply v false (mkFrame
    { ver := 0x10, kind := kRefuse, sess := i, flags := 0, seq := seq, opCount := 0, bodyLen := 0, epoch := 0, tstat := tstat, failop := 0,
      mode := 0, tstate := 0, tdone := 0 } [] none)

end State
end Sys2Proof.Machine
end

