-- ==== Sys2Proof/Machine/CanopyOps.lean ====
section
/-!
DEFINITION. The operations of a request (R58–R66, R69, R70, R75, R79) and what they leave: the configuration store and
the epoch.
-/
namespace Sys2Proof.Machine

/-- A request in execution: the state, the addresses of the RWC writes that took effect, newest first, the words of
KEY_DATA written, and the failure reports of microcode VALIDATEs (R235). -/
structure Run where
  s : State
  rwc : List Nat
  keys : List (Nat × Word)
  reports : List (Nat × (Nat × Nat))

/-- Where an address lies: a page, or a table window with its offset. -/
inductive Place where
  | page (kind : Kind) (i : Nat)
  | window (x : State.Window1) (off : Nat)
  deriving DecidableEq, Repr

/-- Bytes of a table window. -/
def windowSize : State.Window1 → Nat
  | .dir | .rd => 0x100000
  | .cal => 0x40000
  | .log => 0x80000

/-- Offsets of HOST that hold KEY_DATA. -/
def isKeyAddr (a : Nat) : Bool := decide (0x5100 ≤ a) && decide (a < 0x5200)

/-- The key slots that some but not all of the request's KEY_DATA writes reach (R79). -/
def badKeySlots (es : List OpEntry) : List Nat :=
  (List.range 8).filter fun k =>
    let hit := fun (w : Nat) => es.any fun e => e.stores (0x5100 + 0x20 * k + 4 * w)
    (List.range 8).any hit && !(List.range 8).all hit

namespace State

/-! ### Addressing (R59) -/

/-- The place of `n` words from an address, and the status: RANGE unaligned or across a page, NOPAGE, GATED, BUSY. -/
def locate (s : State) (ctx : OpCtx) (a n : Nat) : Nat × Option Place :=
  if a % 4 ≠ 0 then (stRange, none)
  else match windowOf a with
  | some (x, off) =>
    if windowSize x < off + 4 * n then (stRange, none) else (s.windowGate ctx x, some (.window x off))
  | none =>
    match pageOf a with
    | none => (stNoPage, none)
    | some (p, i) => if 0x1000 < a % 0x1000 + 4 * n then (stRange, none) else (s.pageGate ctx p.kind, some (.page p.kind i))

/-- READ and GROUP_READ. -/
def opRead (s : State) (ctx : OpCtx) (a n : Nat) : Nat × List Word :=
  match s.locate ctx a n with
  | (st, some _) => if st = 0 then (0, (List.range n).map fun j => s.readWord ctx.sess (a + 4 * j)) else (st, [])
  | (st, none) => (st, [])

/-! ### Writing -/

/-- A command that counts as an RWC write: COMMIT of CAL_CMD, STORE of LEAD_CMD (R132, R175). -/
def rwcCommand (k : Kind) (off : Nat) (v : Word) : Bool :=
  (k == .cell && off == 0x70 && fieldOf v 2 0 == 4) ||
    (k == .ai && decide (0x100 ≤ off) && decide (off < 0x140) && off % 0x10 == 0 && fieldOf v 1 0 == 2)

/-- A write that names an NTC in the read-only TYPE of TS0–TS5 (TSn_CFG, chapter 17). -/
def ntcInternal (k : Kind) (off : Nat) (v : Word) : Bool :=
  k == .therm && decide (0x80 ≤ off) && decide (off ≤ 0x94) && fieldOf v 1 0 == 2

/-- The QRY registers of an ACT page: each session has its own copy (R196). -/
def isQry (k : Kind) (off : Nat) : Bool := k == .act && (off == 0x60 || off == 0x64)

/-- ROLE, LOCKED and EPOCH of an RWC write (R46, R9, R75). -/
def rwcStatus (s : State) (ctx : OpCtx) : Nat :=
  stFirst [stIf (below ctx.role .engineer) stRole, stIf (s.sup.mode != .commission) stLocked, stIf (!ctx.epochOk) stEpoch]

/-- One word of a WRITE or RMW on a page, judged and stored: its status, the state with it stored, the record. -/
def stageWord (s : State) (ctx : OpCtx) (k : Kind) (i a : Nat) (value mask : Word) : Nat × State × WordWrite :=
  let off := a % 0x1000
  let none' : WordWrite := ⟨a, 0#32, value, false⟩
  if isKeyAddr a then (0, s, ⟨a, 0#32, value &&& mask, true⟩)
  else match s.fieldsAt k i off with
  | none => (stDenied, s, none')
  | some fs =>
    if writable fs = 0#32 then (stDenied, s, none')
    else
      let old := if isQry k off then s.readWord ctx.sess a else s.rd a
      let new := merged fs old value mask ||| ctx.freshBits a old
      let aw := asWritten fs old value mask
      let rwc := rwcWrite fs old new || rwcCommand k off aw
      let s' := if isQry k off then s else s.wr a new
      let st := stFirst
        [stIf (below ctx.role (raisedRole k off aw.toNat)) stRole,
         if rwc then s.rwcStatus ctx else 0,
         stIf (!limsOk fs aw || ntcInternal k off (value &&& mask)) stRange,
         s'.blockCheck ctx k i off old aw]
      (st, s', ⟨a, old, aw, rwc⟩)

/-- The words of an operation, in order, until one fails: status, address of the failing word, state, records. -/
def stageWords (s : State) (ctx : OpCtx) (k : Kind) (i : Nat) (mask : Word) : List (Nat × Word) → Nat × Nat × State × List WordWrite
  | [] => (0, 0, s, [])
  | (a, v) :: r =>
    match s.stageWord ctx k i a v mask with
    | (0, s', w) =>
      match stageWords s' ctx k i mask r with
      | (st, fa, s'', ws) => (st, fa, s'', w :: ws)
    | (st, _, _) => (st, a, s, [])

/-- The checks of a page that come before its words (R46, R63, R77, R79). -/
def writeGate (s : State) (ctx : OpCtx) (k : Kind) (i : Nat) (as : List Nat) : Nat :=
  let keys := as.filter isKeyAddr
  stFirst
    [stIf (keys.any fun a => ctx.badKeys.contains ((a - 0x5100) / 0x20)) stRange,
     stIf (below ctx.role .operate || (!keys.isEmpty && below ctx.role .service)) stRole,
     stIf (as.any fun a => s.ownedAgainst ctx.sess k i (a % 0x1000)) stOwned,
     stIf (s.pageLocked (pageBase k i)) stLocked,
     stIf (!keys.isEmpty && s.sup.mode != .commission) stLocked,
     stIf (!keys.isEmpty && !ctx.epochOk) stEpoch]

/-- The hooks of the words written, in order, and what every write may settle. -/
def hooks (s : State) (ctx : OpCtx) (k : Kind) (i : Nat) (ws : List WordWrite) : State :=
  (ws.foldl (fun s w => if isKeyAddr w.addr then s else s.hook ctx.sess k i (w.addr % 0x1000) w.old w.value) s).settleAll

end State

/-- The failure report of a VALIDATE that fails on a staged state (R235). -/
def reportOf (s : State) (ctx : OpCtx) (k : Kind) (i a st : Nat) : List (Nat × (Nat × Nat)) :=
  if k = .ucode ∧ a % 0x1000 = 0x40 ∧ st = stRange then
    match (s.leftBy ctx).ucJudge i with
    | some e => [(i, e)]
    | none => []
  else []

/-- A write on a page. -/
def Run.writePage (x : Run) (ctx : OpCtx) (k : Kind) (i : Nat) (mask : Word) (ws : List (Nat × Word)) : Run × Nat :=
  let g := x.s.writeGate ctx k i (ws.map (·.1))
  if g ≠ 0 then (x, g) else
    match x.s.stageWords ctx k i mask ws with
    | (0, _, s, recs) =>
      ({ x with
          s := s.hooks ctx k i recs
          rwc := (recs.filter (·.rwc)).map (·.addr) ++ x.rwc
          keys := (recs.filter fun w => isKeyAddr w.addr).map (fun w => (w.addr, w.value)) ++ x.keys }, 0)
    | (st, a, s, _) =>
      let reps := reportOf s ctx k i a st
      match ctx.left with
      | some _ => ({ x with reports := reps ++ x.reports }, st)
      | none => ({ x with s := reps.foldl (fun (s : State) r => s.ucFail r.1 r.2) x.s }, st)

/-- A write in a table window: only the calibration window can be written (R152, R309, R310, R66). -/
def Run.writeWindow (x : Run) (ctx : OpCtx) (w : State.Window1) (off : Nat) (mask : Word) (ws : List (Nat × Word)) : Run × Nat :=
  if w ≠ .cal then (x, if State.below ctx.role .operate then stRole else stDenied) else
    let st := x.s.rwcStatus ctx
    if st ≠ 0 then (x, st) else
      let s := ws.foldl (fun s v => s.wr v.1 ((s.rd v.1 &&& ~~~ mask) ||| (v.2 &&& mask))) x.s
      let g0 := off / 0x2000
      let g1 := (off + 4 * (ws.length - 1)) / 0x2000
      let s := (s.setGtValid g0 false).setGtValid g1 false
      ({ x with s := s, rwc := ws.map (·.1) ++ x.rwc }, 0)

/-- WRITE, or RMW with its mask, of words from an address. -/
def Run.write (x : Run) (ctx : OpCtx) (a : Nat) (mask : Word) (vs : List Word) : Run × Nat :=
  let ws := (withIndex vs).map fun (v : Nat × Word) => (a + 4 * v.1, v.2)
  match x.s.locate ctx a vs.length with
  | (0, some (.page k i)) => x.writePage ctx k i mask ws
  | (0, some (.window w off)) => x.writeWindow ctx w off mask ws
  | (st, _) => (x, st)

/-! ### CLAIM and RELEASE (R61, R62) -/

/-- Sub-resources of a page (R61). -/
def subsOf : Kind → Nat
  | .act => 4
  | .dio => 8
  | _ => 0

namespace State

/-- The page and sub-resource a resource ID names, or the status. An ID of a table window, or with other bits, answers RANGE (log
entry 97). -/
def resource (id : Nat) : Nat × Nat × Nat :=
  let base := id - id % 0x1000
  if id / 256 % 16 ≠ 0 ∨ (windowOf base).isSome then (stRange, 0, 0)
  else match pageOf base with
  | none => (stNoPage, 0, 0)
  | some (p, _) => if id % 256 = 0xFF ∨ id % 256 < subsOf p.kind then (0, base, id % 256) else (stRange, 0, 0)

/-- A claim stands in the way of a session, which takes over an orphan if `take` (R62). -/
def blocks (c : Claim) (me : Nat) (take : Bool) : Bool := if c.orphan then !take else c.owner != me

/-- The claim a session makes. -/
def newClaim (s : State) (me : Nat) (role : Role) (page sub loss : Nat) : Claim :=
  ⟨page, sub, me, loss, false, (match s.sess me with | some x => x.gen | none => 0), role⟩

/-- CLAIM of a whole page. TAKEOVER of an unowned page is a plain CLAIM (the model's choice: log entry 80). -/
def claimPage (s : State) (ctx : OpCtx) (page loss : Nat) (take : Bool) : State × Nat × List Word :=
  let new := s.newClaim ctx.sess ctx.role page 0xFF loss
  match s.claimOf page 0xFF with
  | some c => if blocks c ctx.sess take then (s, stOwned, []) else (s.putClaim new, 0, [toWord c.owner])
  | none =>
    let subs := s.pageClaims page
    if subs.any fun c => c.orphan || c.owner != ctx.sess then (s, stOwned, [])
    else
      let s := s.updCan fun x => { x with claims := new :: x.claims.filter fun c => c.page != page }
      (s, 0, [toWord (if subs.isEmpty then 0xFF else 0xFE)])

/-- CLAIM of a sub-resource. -/
def claimSub (s : State) (ctx : OpCtx) (page sub loss : Nat) (take : Bool) : State × Nat × List Word :=
  match s.claimOf page 0xFF with
  | some c => if c.orphan || c.owner != ctx.sess then (s, stOwned, []) else (s, 0, [toWord ctx.sess])
  | none =>
    let new := s.newClaim ctx.sess ctx.role page sub loss
    match s.claimOf page sub with
    | some c => if blocks c ctx.sess take then (s, stOwned, []) else (s.putClaim new, 0, [toWord c.owner])
    | none => (s.putClaim new, 0, [toWord 0xFF])

/-- The domain of an enabled page is not powered yet: every operation on the page returns BUSY (R399). -/
def unpowered (s : State) (page : Nat) : Bool :=
  match pageOf page with
  | some (p, _) => bitOf (s.rd clkEnAddr) (clkBit p.kind) && !s.powered (domOf p.kind)
  | none => false

/-- CLAIM. Ownership stands outside the clocks, so a gated page is claimed (R421). -/
def opClaim (s : State) (ctx : OpCtx) (flags id : Nat) : State × Nat × List Word :=
  match resource id with
  | (0, page, sub) =>
    if s.unpowered page then (s, stBusy, []) else
    let take := flags % 2 == 1
    let loss := flags / 2 % 4
    if loss = 3 then (s, stRange, [])
    else if below ctx.role (if take then .engineer else .operate) then (s, stRole, [])
    else
      let (s', st, ws) := if sub = 0xFF then s.claimPage ctx page loss take else s.claimSub ctx page sub loss take
      (s'.settleAll, st, ws)
  | (st, _, _) => (s, st, [])

/-- RELEASE. A whole-page RELEASE where only sub-resources are held, by this session or another, answers OK and leaves their claims
(log entry 21). -/
def opRelease (s : State) (ctx : OpCtx) (id : Nat) : State × Nat :=
  match resource id with
  | (0, page, sub) =>
    if s.unpowered page then (s, stBusy)
    else if below ctx.role .operate then (s, stRole)
    else match s.claimOf page 0xFF with
    | some c =>
      if c.orphan || c.owner != ctx.sess then (s, stOwned)
      else if sub = 0xFF then ((s.dropClaim page 0xFF).settleAll, 0)
      else (s, 0)
    | none =>
      match s.claimOf page sub with
      | some c => if c.orphan || c.owner != ctx.sess then (s, stOwned) else ((s.dropClaim page sub).settleAll, 0)
      | none => (s, 0)
  | (st, _, _) => (s, st)

/-! ### FIRE (R64, R65, R216) -/

/-- The status of a FIRE before it is queued. In a mode other than RUN, CONSTRAINED and COMMISSION it is LOCKED from every
role (R216). -/
def fireStatus (s : State) (ctx : OpCtx) (n : Fin 12) (k : Fin 4) (prof id start latest : Nat) (latestUs : Nat) (imm : Bool) : Nat :=
  let page := actBase n
  let own := match s.governing page k with | some c => !c.orphan && c.owner == ctx.sess | none => false
  stFirst
    [s.pageGate ctx .act,
     stIf (!(s.running || s.sup.mode == .commission)) stLocked,
     stIf (below ctx.role .operate || (s.sup.mode == .commission && below ctx.role .engineer)) stRole,
     stIf (!own) stOwned,
     stIf (s.pageLocked page) stLocked,
     stIf (decide (2 ^ 31 ≤ id) || decide (1000000 < latestUs)) stRange,
     s.gate2Status n k,
     s.queueStatus n k id prof start latest imm]

/-- FIRE. -/
def opFire (s : State) (ctx : OpCtx) (e : OpEntry) : State × Nat × List Word :=
  let c := e.addr % 256
  if h : c < 48 ∧ e.addr < 0x1000 then
    let n : Fin 12 := ⟨c / 4, by omega⟩
    let k : Fin 4 := ⟨c % 4, Nat.mod_lt _ (by decide)⟩
    let prof := e.addr / 256 % 16
    let id := (e.data.getD 0 0#32).toNat
    let imm := e.flags % 2 == 1
    let start := if imm then s.hwNs else (e.data.getD 1 0#32).toNat + (e.data.getD 2 0#32).toNat * 2 ^ 32
    let us := (e.data.getD 4 0#32).toNat
    let latest := start + us * 1000
    let st := s.fireStatus ctx n k prof id start latest us imm
    if st = 0 then ((s.queueEvent n k prof id start latest (e.data.getD 3 0#32) false).settleAll, 0, [toWord id, 0#32])
    else if st = stDup then
      (s, stDup, [toWord id, toWord (match s.heldId n k id with | some r => r.estate | none => 0)])
    else (s, st, [])
  else (s, stRange, [])

/-! ### SNAP (R66) -/

/-- SNAP: FIRST, COUNT and the entries. -/
def opSnap (s : State) (first n : Nat) : List Word :=
  let oldest := s.log.newest + 1 - s.log.ring.length
  let f := max first oldest
  let es := (s.log.ring.filter fun e => decide (f ≤ e.num) && decide (e.num < f + n)).reverse
  toWord (if s.log.ring.isEmpty then first else f) :: toWord es.length :: es.flatMap fun e => wordsOf 8 (LogEntry.bytes e)

end State

/-! ### One operation -/

/-- Executes an operation: the request as it goes on, the status, the result words. -/
def Run.op (x : Run) (ctx : OpCtx) (e : OpEntry) : Run × Nat × List Word :=
  if ctx.minor < opMinor e.code ∨ e.flags &&& opFlagMask e.code ≠ e.flags then (x, stRange, [])
  else match e.code with
  | 1 | 4 => let r := x.s.opRead ctx e.addr e.n
             (x, r.1, r.2)
  | 2 => let r := x.write ctx e.addr (BitVec.allOnes 32) e.data
         (r.1, r.2, [])
  | 3 =>
    let before := x.s.opRead ctx e.addr 1
    let r := x.write ctx e.addr (e.data.getD 0 0#32) [e.data.getD 1 0#32]
    (r.1, r.2, if r.2 = 0 then before.2 else [])
  | 5 => let r := x.s.opClaim ctx e.flags e.addr
         ({ x with s := r.1 }, r.2.1, r.2.2)
  | 6 => let r := x.s.opRelease ctx e.addr
         ({ x with s := r.1 }, r.2, [])
  | 7 => let r := x.s.opFire ctx e
         ({ x with s := r.1 }, r.2.1, r.2.2)
  | 8 => (x, 0, x.s.opSnap e.addr e.n)
  | 9 => if e.addr = 0 then (x, 0, e.data) else (x, stRange, [])
  | _ => (x, stRange, [])

/-- Operations in order (R69): the results, newest first. -/
def Run.ops (x : Run) (ctx : OpCtx) : List OpEntry → List OpResult → Run × List OpResult
  | [], acc => (x, acc)
  | e :: r, acc =>
    let y := x.op ctx e
    Run.ops y.1 ctx r (⟨e.code, y.2.1, e.addr, y.2.2⟩ :: acc)

/-- The first result that is not OK and its index. -/
def firstBad (rs : List OpResult) : Option (Nat × OpResult) := (withIndex rs).find? fun r => r.2.status != 0

/-- The first result that fails the validation of an ATOMIC request: THROTTLED is none of its checks (R70). -/
def firstInvalid (rs : List OpResult) : Option (Nat × OpResult) :=
  (withIndex rs).find? fun r => r.2.status != 0 && r.2.status != stThrottled

/-! ### What a request leaves (R75, R76, R79) -/

namespace State

/-- The register file that a request's writes would leave, the stored words only (R70). -/
def leftRegs (s : State) (es : List OpEntry) : Regs :=
  let word := fun (s : State) (a : Nat) (v mask : Word) =>
    match pageOf a with
    | some (p, i) => match s.fieldsAt p.kind i (a % 0x1000) with | some fs => s.wr a (merged fs (s.rd a) v mask) | none => s
    | none => if (windowOf a).isSome then s.wr a ((s.rd a &&& ~~~ mask) ||| (v &&& mask)) else s
  (es.foldl (fun (s : State) (e : OpEntry) =>
    if e.addr % 4 ≠ 0 then s
    else if e.code = 2 then (withIndex e.data).foldl (fun (s : State) (v : Nat × Word) => word s (e.addr + 4 * v.1) v.2 (BitVec.allOnes 32)) s
    else if e.code = 3 then word s e.addr (e.data.getD 1 0#32) (e.data.getD 0 0#32)
    else s) s).regs

/-- The configuration store takes the RWC bits of a written word (R76). -/
def storeRwc (s : State) (a : Nat) : State :=
  let word :=
    match pageOf a with
    | some (p, i) =>
      match s.fieldsAt p.kind i (a % 0x1000) with
      | some fs =>
        let m := accMask (fun c => c == .rwc) fs
        (resetWord a &&& ~~~ m) ||| (s.rd a &&& m)
      | none => resetWord a
    | none => s.rd a
  { s with store := s.store.set a word }

/-- The pages of the RWC writes; for BOOST_CFG the one written through (the model's choice: log entry 84). -/
def rwcPages (as : List Nat) : List Nat := (as.filter fun a => (pageOf a).isSome).map (fun a => a - a % 0x1000) |>.eraseDups

/-- BOOST_CFG is one register on two pages (R190). -/
def pairAddrs (as : List Nat) : List Nat :=
  as.flatMap fun a => if 0x10000 ≤ a ∧ a < 0x1C000 ∧ a % 0x1000 = 0x44 then [a, if a / 0x1000 % 2 = 0 then a + 0x1000 else a - 0x1000] else [a]

/-- The keys whose eight words were written take effect (R79). -/
def setKeys (s : State) (ws : List (Nat × Word)) : State :=
  (List.finRange 8).foldl (fun (s : State) (k : Fin 8) =>
    let word := fun (w : Nat) => (ws.find? fun x => x.1 == 0x5100 + 0x20 * k.val + 4 * w).map (·.2)
    if (List.range 8).all fun w => (word w).isSome then
      let bs := (List.range 8).flatMap fun w => wordBytes ((word w).getD 0#32)
      s.updCan fun c => { c with keys := c.keys.set k (some bs) }
    else s) s

end State

/-- The end of a request: keys, the configuration store, the epoch, which advances for refused KEY_DATA too if the request names
all eight words (the model's choice: log entry 84). -/
def Run.commit (x : Run) : State :=
  let s := x.s.setKeys x.keys
  if x.rwc.isEmpty then s
  else
    let s := (State.pairAddrs (x.rwc.filter fun a => !isKeyAddr a)).foldl State.storeRwc s
    s.bumpEpoch (State.rwcPages x.rwc)

namespace State

/-- Executes the operations of a request (R69, R70): the state, TSTAT, FAILOP and the results. -/
def runOps (s : State) (sess : Nat) (role : Role) (minor epoch : Nat) (atomic : Bool) (es : List OpEntry) :
    State × Nat × Nat × List OpResult :=
  let ctx : OpCtx := ⟨sess, role, minor, epoch == s.epoch.toNat, if atomic then some (s.leftRegs es) else none, badKeySlots es, s.freshFlags⟩
  let (x, acc) := Run.ops ⟨s, [], [], []⟩ ctx es []
  let rs := acc.reverse
  match (if atomic then firstInvalid rs else none) with
  | some (j, r) =>
    let s := x.reports.reverse.foldl (fun s p => s.ucFail p.1 p.2) s
    (s, r.status, j, (withIndex rs).map fun y => if y.1 = j then y.2 else { y.2 with status := stAborted, data := [] })
  | none =>
    match firstBad rs with
    | none => (x.commit.keepFresh s, 0, 0xFF, rs)
    | some (j, r) => (x.commit.keepFresh s, r.status, j, rs)

end State
end Sys2Proof.Machine
end

