-- ==== Sys2Proof/Machine/Session.lean ====
section
/-!
DEFINITION. Sessions: opening, closing, leases, beacons, loss (R33, R45–R57), the replay window (R71–R74) and the
execution of requests (R68).
-/
namespace Sys2Proof.Machine
namespace State

/-! ### Keys (R45, R48, R79) -/

/-- The key of slot 0 at delivery: the SHA-256 digest of the label code. -/
def deliveryKey : List Byte := sha256 ((List.range 12).map Config.label)

/-- The key of a slot. -/
def slotKey (s : State) (k : Nat) : Option (List Byte) :=
  if h : k < 8 then (match s.can.keys[k] with | some b => some b | none => if k = 0 then some deliveryKey else none) else none

/-- KEY_ROLEk. -/
def keyRole (s : State) (k : Nat) : Word := s.rd (hostBase + 0xA0 + 4 * k)

/-- The slot accepts opens: it is enabled and holds a key. -/
def slotOpens (s : State) (k : Nat) : Bool := decide (k < 8) && bitOf (s.keyRole k) 2 && (s.slotKey k).isSome

/-- PROOF (R48). -/
def proofOf (key hostNonce modNonce : List Byte) (i slot ver : Nat) : List Byte :=
  hmac key (ascii "CNPY-OPEN" ++ hostNonce ++ modNonce ++ [BitVec.ofNat 8 i, BitVec.ofNat 8 slot, BitVec.ofNat 8 ver])

/-- Ks (R48). -/
def sessionKey (key hostNonce modNonce : List Byte) (i ver : Nat) : List Byte :=
  hmac key (ascii "CNPY-SESS" ++ hostNonce ++ modNonce ++ [BitVec.ofNat 8 i, BitVec.ofNat 8 ver])

/-! ### The end of a session (R56, R57) -/

/-- The session that ends is forgotten (R74): its requests, its QRY copies; the session that commanded MAINTENANCE takes
the module to STANDBY, and a firmware update under way leaves its bank invalid (R81, R100). -/
def forget (s : State) (i : Nat) : State :=
  let s := s.updCan fun c => { c with
    sess := if h : i < 8 then c.sess.set i none else c.sess
    queue := c.queue.filter fun (r : Req) => r.sess != i }
  let s : State := { s with banks := s.banks.map fun (b : Bank) => { b with qry := if h : i < 8 then b.qry.set i (0, 0) else b.qry } }
  if s.sup.mode = .maintenance ∧ s.sup.maintSess = some i then
    let s := s.updFw fun f => if f.upd = .idle then f else { spoilInactive f with upd := .idle }
    s.leaveToStandby
  else s.settleAll

/-- The queued events of a channel are dropped CANCELLED (R213). -/
def cancelChan (s : State) (n : Fin 12) (k : Fin 4) : State :=
  let s := ((s.bank n).queue.filter fun (ev : Event) => ev.ch == k.val).foldl (fun (s : State) (ev : Event) => s.dropEvent n ev 22) s
  match (s.chan n k).next with
  | some ev => (s.updChan n k fun c => { c with next := none }).dropEvent n ev 22
  | none => s

/-- The queued events of a claimed resource are cancelled. -/
def cancelEvents (s : State) (c : Claim) : State :=
  if h : 0x10000 ≤ c.page ∧ (c.page - 0x10000) / 0x1000 < 12 then
    let n : Fin 12 := ⟨(c.page - 0x10000) / 0x1000, h.2⟩
    (List.finRange 4).foldl (fun (s : State) (k : Fin 4) => if c.sub = 0xFF ∨ c.sub = k.val then s.cancelChan n k else s) s
  else s

/-- What a claim lost under R57 does, the claim itself apart (R213, R277). -/
def claimLost (s : State) (c : Claim) : State :=
  let s := if 0x100000 ≤ c.page ∧ c.page < 0x200000 then s.loopClaimLost (fin 256 ((c.page - 0x100000) / 0x1000) (by decide)) c.loss else s
  if c.loss = 2 then s.cancelEvents c else s

/-- The claims a session holds. -/
def claimsOf (s : State) (i : Nat) : List Claim := s.can.claims.filter fun (c : Claim) => !c.orphan && c.owner == i

/-- A session ends by lease expiry or REPLACE: its claims follow their LOSS policies (R57), one loss of a SAFE claim enters
SAFE_HOLD, then the session ends (R84). A claim with SAFE is dropped (the model's choice: log entry 83). -/
def endLost (s : State) (i : Nat) : State :=
  let cs := s.claimsOf i
  let s := s.updCan fun c => { c with claims := c.claims.filterMap fun (x : Claim) =>
    if !x.orphan && x.owner == i then (if x.loss = 0 then some { x with orphan := true } else none) else some x }
  let s := cs.foldl claimLost s
  let s := if cs.any fun (c : Claim) => c.loss == 1 then s.enterSafeHold causeSession else s
  (s.flagWith hostBase 1 { Entry.default 1 with sess := i }).forget i

/-- A session ends by CLOSE: its claims are released (R56). -/
def endClosed (s : State) (i : Nat) : State :=
  (s.updCan fun c => { c with claims := c.claims.filter fun (x : Claim) => x.orphan || x.owner != i }).forget i

/-! ### Reception (R33, R35, R43) -/

/-- CORE is up and its management core alive, after BOOT (R87); the SPI shift logic runs then, on SPI_SCLK (R418). -/
def coreUp (s : State) : Bool :=
  match s.sup.mode with
  | .off | .boot | .thermalOff => false
  | _ => s.sup.coreAlive && s.powered 1

/-- The core has a clock: in a clock fault only once its multiplexer has been forced to the sentinel (R419). -/
def coreClocked (s : State) : Bool := !s.clockFault || s.clk.coreOnSentinel

/-- Canopy takes frames. -/
def canopyRuns (s : State) : Bool := s.coreUp && s.coreClocked

/-- A frame reaches the core by its transport: over UDP only with the ports running, the link up and an address. -/
def reaches (s : State) (v : Via) : Bool :=
  match v with | .spi => true | .udp p _ _ => s.portsRun && s.can.net.link[p] && s.can.net.ip != 0#32

/-- A frame reaches Canopy. -/
def arrives (s : State) (v : Via) : Bool := s.canopyRuns && s.reaches v

/-- Bytes of the frames that wait, over SPI or over the network. -/
def waitingBytes (l : List (Via × List Byte)) (spi : Bool) : Nat :=
  (l.map fun (f : Via × List Byte) => if (f.1 == .spi) == spi then f.2.length else 0).sum

/-- A frame that comes while the core has no clock waits in SPI_IN (2 KiB) or LINK_RXQ (4 KiB); one that comes by the network while the
switch has no clock stays in P1_RXF or P2_RXF (2 KiB), which is flushed when XREF returns (R418). What does not fit is lost. -/
def hold (s : State) (v : Via) (bs : List Byte) : State :=
  if !s.coreUp then s
  else if s.reaches v then
    let room := if v == .spi then 2048 else 4096
    if !s.coreClocked && decide (waitingBytes s.can.rxq (v == .spi) + bs.length ≤ room) then
      s.updCan fun c => { c with rxq := c.rxq ++ [(v, bs)] }
    else s
  else if v != .spi && s.clk.xrefGone && decide (waitingBytes s.can.rxf false + bs.length ≤ 2048) then
    s.updCan fun c => { c with rxf := c.rxf ++ [(v, bs)] }
  else s

/-- A frame is discarded and counted (R35, R43). -/
def frameErr (s : State) : State := s.count (hostBase + 0x94)

/-! ### Opening (R47–R50) -/

/-- The open session that a slot backs. -/
def slotSession (s : State) (k : Nat) : Option (Fin 8) :=
  (List.finRange 8).find? fun (i : Fin 8) => match s.can.sess[i] with | some x => x.slot == k | none => false

/-- The lowest free session number: neither open nor held for a PROOF. -/
def freeNumber (s : State) : Option (Fin 8) :=
  (List.finRange 8).find? fun (i : Fin 8) => s.can.sess[i].isNone && s.can.waits[i].isNone

/-- The highest minor version from 1.0 to 1.3 in a range. -/
def pickMinor (vmin vmax : Nat) : Option Nat := [3, 2, 1, 0].find? fun (m : Nat) => decide (vmin ≤ 0x10 + m) && decide (0x10 + m ≤ vmax)

/-- A session is open over SPI, one that backs a slot to be replaced apart. -/
def spiTaken (s : State) (apart : Nat) : Bool :=
  s.can.sess.toList.any fun (x : Option Sess) => match x with | some y => y.via == .spi && y.slot != apart | none => false

/-- The header of an opening frame. -/
def openHdr (ver kind i seq : Nat) : Hdr :=
  { ver := ver, kind := kind, sess := i, flags := 0, seq := seq, opCount := 0, bodyLen := 0, epoch := 0, tstat := 0, failop := 0, mode := 0,
    tstate := 0, tdone := 0 }

/-- The lease granted. -/
def grantLease (s : State) (ask : Nat) : Nat :=
  let l := if ask = 0 then s.fld (hostBase + 0x48) 15 0 else ask
  max 200 (min 60000 l)

/-- OPEN_REQ. With REPLACE the old session keeps its number until the OPEN_PROOF (the model's choice: log entry 79). -/
def onOpenReq (s : State) (v : Via) (bs : List Byte) : State :=
  let h := hdrOf bs
  let body := bodyOf bs
  let refuse := fun (st : Nat) => s.refuseTo v 0xFF h.seq st
  if body.length ≠ 24 then refuse stRange else
    let slot := leAt body 0 1
    if !s.slotOpens slot then refuse stAuth else
      match pickMinor (leAt body 1 1) (leAt body 2 1) with
      | none => refuse stRange
      | some minor =>
        let replace := leAt body 3 1 % 2 == 1
        if (s.slotSession slot).isSome && !replace then refuse stBusy
        else if v == .spi && s.spiTaken (if replace then slot else 0xFF) then refuse stBusy
        else match s.freeNumber with
          | none => refuse stBusy
          | some i =>
            let lease := s.grantLease (leAt body 4 4)
            let nonce := (List.range 16).map fun (j : Nat) => Config.freeByte (s.freeCtr + j)
            let w : OpenWait := ⟨slot, minor, lease, replace, slice body 8 16, nonce, s.now⟩
            let s := { s with freeCtr := s.freeCtr + 16 }
            let s := s.updCan fun c => { c with waits := c.waits.set i (some w) }
            let body := leBytes 4 (0x10 + minor) ++ leBytes 4 lease ++ nonce
            s.reply v false (mkFrame (openHdr (0x10 + minor) kOpenChal i h.seq) body (s.slotKey slot))

/-- The session that an arriving OPEN_PROOF ends by REPLACE, the frame correct in every respect (R50, R84). -/
def replacedBy (s : State) (v : Via) (bs : List Byte) : Option (Fin 8) :=
  let h := hdrOf bs
  if g : h.sess < 8 then
    match s.can.waits[h.sess] with
    | some w =>
      if s.arrives v && frameLenOk bs && h.kind == kOpenProof && decide (s.now ≤ w.since + 1000000000) && w.replace &&
        bodyOf bs == proofOf ((s.slotKey w.slot).getD []) w.hostNonce w.modNonce h.sess w.slot (0x10 + w.minor) &&
        !(v == .spi && s.spiTaken w.slot)
      then s.slotSession w.slot else none
    | none => none
  else none

/-- OPEN_PROOF. What the slot is was judged at the OPEN_REQ, and is not judged again (the model's choice: log entry 97). -/
def onOpenProof (s : State) (v : Via) (bs : List Byte) : State :=
  let h := hdrOf bs
  match (if g : h.sess < 8 then s.can.waits[h.sess].map fun (w : OpenWait) => ((⟨h.sess, g⟩ : Fin 8), w) else none) with
  | none => s.refuseTo v h.sess h.seq stAuth
  | some (i, w) =>
    let s := s.updCan fun c => { c with waits := c.waits.set i none }
    let key := (s.slotKey w.slot).getD []
    let ver := 0x10 + w.minor
    if w.since + 1000000000 < s.now then s.refuseTo v i h.seq stAuth
    else if bodyOf bs != proofOf key w.hostNonce w.modNonce i w.slot ver then
      (s.flagWith hostBase 2 { Entry.default 2 with sess := i.val }).refuseTo v i h.seq stAuth
    else if (s.slotSession w.slot).isSome && !w.replace then s.refuseTo v i h.seq stBusy
    else if v == .spi && s.spiTaken (if w.replace then w.slot else 0xFF) then s.refuseTo v i h.seq stBusy
    else
      let s := match s.slotSession w.slot with | some j => s.endLost j | none => s
      let ks := sessionKey key w.hostNonce w.modNonce i ver
      let role := roleOf (fieldOf (s.keyRole w.slot) 1 0)
      let x : Sess :=
        { slot := w.slot, role := role, minor := w.minor, via := v, lease := w.lease, renewed := s.now, key := ks, h := 0, seen := [],
          cache := [], beacons := 0, gen := s.can.gens }
      let s := s.updCan fun c => { c with sess := c.sess.set i (some x), gens := c.gens + 1 }
      let s := { s with summary := s.summary.set i 0 }
      let s := s.flagWith hostBase 0 { Entry.default 0 with sess := i.val }
      s.reply v false (mkFrame (openHdr ver kOpenAccept i h.seq) (leBytes 4 role.code ++ leBytes 4 s.epoch.toNat) (some ks))

/-- The 1 s wait for an OPEN_PROOF runs out (R49). -/
def openWaitExpiry (s : State) (i : Fin 8) : State :=
  match s.can.waits[i] with
  | some w => if w.since + 1000000000 ≤ s.now then s.updCan fun c => { c with waits := c.waits.set i none } else s
  | none => s

/-! ### Authenticated frames (R51–R53) -/

/-- The transports agree: the SPI port, or UDP on either port (R49). -/
def sameTransport (a b : Via) : Bool := (a == .spi) == (b == .spi)

/-- What an authenticated frame comes to. -/
inductive Authed where
  | refused
  | bad (i : Fin 8)
  | ok (i : Fin 8) (x : Sess)
  deriving DecidableEq, Repr

/-- A request or CLOSE frame judged (R51, R52). -/
def authOf (s : State) (v : Via) (bs : List Byte) : Authed :=
  let h := hdrOf bs
  if g : h.sess < 8 then
    match s.can.sess[h.sess] with
    | some x =>
      if !sameTransport x.via v then .refused
      else if mac8 x.key (bs.take (bs.length - 8)) == macOf bs then .ok ⟨h.sess, g⟩ x else .bad ⟨h.sess, g⟩
    | none => .refused
  else .refused

/-- A MAC that does not verify: counted and flagged, no answer. -/
def macFailed (s : State) (i : Fin 8) : State := (s.count (hostBase + 0x90)).flagWith hostBase 2 { Entry.default 2 with sess := i.val }

/-- An answer without results (R67, R71); NORESP sends none. -/
def answer (s : State) (v : Via) (i : Nat) (x : Sess) (h : Hdr) (tstat : Nat) : State :=
  if h.flags / 2 % 2 = 1 then s
  else s.reply v false (mkFrame (s.sessHdr i x.minor kResponse (h.flags % 2) h.seq 0 tstat 0xFF) [] (some x.key))

/-- The distance a − b of sequence numbers, modulo 2³². -/
def seqDist (a b : Nat) : Nat := (a + 2 ^ 32 - b % 2 ^ 32) % 2 ^ 32

/-- The numbers H − 63 to H of a record. -/
def seenWindow (h : Nat) (l : List Nat) : List Nat := l.filter fun (q : Nat) => decide (seqDist h q < 64)

/-- The cached response with TSTAT DUP and CACHED, its MAC computed again (R72). -/
def dupFrame (key bs : List Byte) : List Byte :=
  let h := hdrOf bs
  mkFrame { h with tstat := stDup, flags := h.flags ||| 4 } (bodyOf bs) (some key)

/-- A request of a session joins the queue. -/
def accept (s : State) (v : Via) (i : Fin 8) (seq : Nat) (new : Bool) (bs : List Byte) : State :=
  let s := s.updSess i fun (x : Sess) =>
    let hNew := if new then seq else x.h
    { x with h := hNew, seen := seenWindow hNew (seq :: x.seen) }
  s.updCan fun c => { c with queue := c.queue ++ [⟨i, seq, v, bs⟩] }

/-- The replay window (R71). -/
def onRequest (s : State) (v : Via) (bs : List Byte) (i : Fin 8) (x : Sess) : State :=
  let h := hdrOf bs
  let d := seqDist h.seq x.h
  let new := decide (1 ≤ d) && decide (d ≤ 0x7FFFFFFF)
  let queued := s.can.queue.filter fun (r : Req) => r.sess == i.val
  if s.clockFault then s.answer v i x h stClockFault
  else if h.seq = 0 ∨ (!new ∧ 64 ≤ seqDist x.h h.seq) then (s.count (hostBase + 0x9C)).answer v i x h stStale
  else if !new && queued.any fun (r : Req) => r.seq == h.seq then s
  else if !new && x.seen.contains h.seq then
    let s := s.count (hostBase + 0x98)
    match x.cache.find? fun (p : Nat × List Byte) => p.1 == h.seq with
    | some p => if h.flags / 2 % 2 = 1 then s else s.reply v false (dupFrame x.key p.2)
    | none => s.answer v i x h stDup
  else if new && decide (4 ≤ queued.length) then s.answer v i x h stBusy
  else if (requestOps x.minor bs).isNone then s.answer v i x h stRange
  else s.accept v i h.seq new bs

/-- CLOSE (R56). Its body is not looked at, and CLOSE_ACK, which R51 takes out of the HMAC, carries a MAC of zeros (the model's choices:
log entry 97). -/
def onClose (s : State) (v : Via) (bs : List Byte) (i : Fin 8) (x : Sess) : State :=
  let h := hdrOf bs
  (s.reply v false (mkFrame (s.sessHdr i x.minor kCloseAck 0 h.seq 0 0 0xFF) [] none)).endClosed i

/-- A request or CLOSE frame: its session found, its MAC verified, its lease renewed (R52, R53). -/
def onAuthed (s : State) (v : Via) (bs : List Byte) : State :=
  match s.authOf v bs with
  | .refused => s.refuseTo v (hdrOf bs).sess (hdrOf bs).seq stAuth
  | .bad i => s.macFailed i
  | .ok i x =>
    let x := { x with via := v, renewed := s.now }
    let s := s.updSess i fun (_ : Sess) => x
    if (hdrOf bs).kind = kClose then s.onClose v bs i x else s.onRequest v bs i x

/-- A frame arrives (R33, R35, R43). One of a KIND that only the module sends is discarded and counted; OPEN_REQ, OPEN_PROOF and
CLOSE are handled in a clock fault too (the model's choices: log entries 81 and 82). While the core has no clock a frame waits. -/
def receive (s : State) (v : Via) (bs : List Byte) : State :=
  if !s.arrives v then s.hold v bs
  else if !frameLenOk bs then s.frameErr
  else
    let k := (hdrOf bs).kind
    if k = kOpenReq then s.onOpenReq v bs
    else if k = kOpenProof then s.onOpenProof v bs
    else if k = kRequest ∨ k = kClose then s.onAuthed v bs
    else s.frameErr

/-- The core has a clock again: the frames that waited are taken, the oldest first (R418). -/
def takeWaiting (s : State) : State :=
  if s.coreClocked then s.can.rxq.foldl (fun (s : State) (f : Via × List Byte) => s.receive f.1 f.2) (s.updCan fun c => { c with rxq := [] })
  else s

/-! ### Execution of a request (R68–R75, R83) -/

/-- A response is cached among the last 16, and sent unless NORESP (R71, R73); a reset commanded by the request waits until
the response has left (R83). -/
def respond (s : State) (r : Req) (noresp : Bool) (bs : List Byte) : State :=
  let s := s.updSess r.sess fun (x : Sess) => { x with cache := ((r.seq, bs) :: x.cache).take 16 }
  if noresp then s else
    let s := s.reply r.via false bs
    if s.sup.resetDue.isSome && s.sup.resetFrame.isNone && r.via == .spi then s.updSup fun x => { x with resetFrame := some bs } else s

/-- A queued request met a clock fault: it is answered CLOCK_FAULT and forgotten, so its repeat executes (R74). -/
def faultedRequest (s : State) (r : Req) (x : Sess) : State :=
  (s.updSess r.sess fun (y : Sess) => { y with seen := y.seen.filter fun (q : Nat) => q != r.seq }).answer r.via r.sess x (hdrOf r.frame) stClockFault

/-- A request that has been taken from the queue runs. -/
def runRequest (s : State) (r : Req) (x : Sess) : State :=
  let h := hdrOf r.frame
  match requestOps x.minor r.frame with
  | none => s
  | some es =>
    let (s, tstat, failop, rs) := s.runOps r.sess x.role x.minor h.epoch (h.flags % 2 == 1) es
    let hdr := s.sessHdr r.sess x.minor kResponse (h.flags % 2) r.seq rs.length tstat failop
    s.respond r (h.flags / 2 % 2 == 1) (mkFrame hdr (rs.flatMap OpResult.bytes) (some x.key))

/-- The Canopy engine takes the oldest accepted request. -/
def requestExecute (s : State) : State :=
  if !s.canopyRuns then s else
    match s.can.queue with
    | [] => s
    | r :: q =>
      let s := s.updCan fun c => { c with queue := q }
      match s.sess r.sess with
      | none => s
      | some x => if s.clockFault then s.faultedRequest r x else s.runRequest r x

/-! ### Leases and beacons (R53–R55) -/

/-- LEASE_EXPIRY. -/
def leaseExpiry (s : State) (i : Fin 8) : State :=
  match s.can.sess[i] with
  | some x => if s.canopyRuns && !s.clockFault && decide (x.renewed + x.lease * 1000000 ≤ s.now) then s.endLost i else s
  | none => s

/-- Every lease counts from now again: a clock fault has ended (R53). -/
def renewAll (s : State) : State :=
  s.updCan fun c => { c with sess := c.sess.map fun (x : Option Sess) => x.map fun (y : Sess) => { y with renewed := s.now } }

/-- The 36 bytes of a beacon body. -/
def beaconBody (s : State) (i : Fin 8) (x : Sess) : List Byte :=
  leBytes 1 s.sup.mode.code ++ leBytes 1 s.timeState ++ leBytes 2 (s.leaseLeft x) ++ wordBytes (s.readWord i 0x48) ++ leBytes 8 s.hwNs ++
    wordBytes s.epoch ++ leBytes 4 s.log.newest ++ leBytes 4 s.summary[i] ++ leBytes 4 x.h ++ leBytes 4 (satU 32 s.bound)

/-- BEACON. Its count goes on and the summary is cleared even while the ports are stopped (the model's choice: log entry 82). -/
def beacon (s : State) (i : Fin 8) : State :=
  match s.can.sess[i] with
  | some x =>
    if !s.canopyRuns then s else
      let s := s.updSess i fun (y : Sess) => { y with beacons := y.beacons + 1 }
      let f := mkFrame (s.sessHdr i x.minor kBeacon 0 (x.beacons + 1) 0 0 0xFF) (s.beaconBody i x) (some x.key)
      { s.reply x.via true f with summary := s.summary.set i 0 }
  | none => s

end State
end Sys2Proof.Machine
end

