-- ==== Sys2Proof/Machine/Net.lean ====
section
/-!
DEFINITION. The SPI host port (R36–R41) and the network side beside Canopy: ARP, ICMP, DHCP, the address in use and the
links (R34, R80, R354).
-/
namespace Sys2Proof.Machine
namespace State

/-! ### SPI (R37–R41) -/

def updSpi (s : State) (f : Spi → Spi) : State := s.updCan fun c => { c with spi := f c.spi }

/-- SPI_STATUS (R38). -/
def spiStatus (p : Spi) : Byte :=
  let headBeacon := match p.out with | f :: _ => f.beacon | [] => false
  BitVec.ofNat 8 (128 + 8 * b2n p.inFull + 4 * b2n p.crcErr + 2 * b2n headBeacon + b2n !p.out.isEmpty)

/-- LEN, the head frame and the CRC, as READ_FRAME shifts them out. -/
def spiHead (p : Spi) : List Byte :=
  let f := match p.out with | x :: _ => x.bytes | [] => []
  let bs := leBytes 2 f.length ++ f
  bs ++ wordBytes (crc32 bs)

/-- SPI_IRQ_N is low. -/
def spiIrq (s : State) : Bool := !s.can.spi.out.isEmpty

/-- A WRITE_FRAME has the right number of bytes: LEN, the frame, the CRC. -/
def spiLenOk (bs : List Byte) : Bool := decide (6 ≤ bs.length) && bs.length == 6 + leAt bs 0 2

/-- The CRC at the end of a WRITE_FRAME matches. -/
def spiCrcOk (bs : List Byte) : Bool := wordBytes (crc32 (bs.take (bs.length - 4))) == bs.drop (bs.length - 4)

/-- What a transfer shifts out: SPI_STATUS, with IN_FULL as it is now (`full`), then `rest`. -/
def spiTransfer (s : State) (full : Bool) (rest : List Byte) : State :=
  let s := s.updSpi fun p => { p with inFull := full }
  s.send .miso (spiStatus s.can.spi :: rest)

/-- WRITE_FRAME is judged when SPI_CS_N rises (R40): the bytes clocked after the command byte; `full`: IN_FULL was 1. -/
def writeFrame (s : State) (bs : List Byte) (full : Bool) : State :=
  if !s.coreUp then s else
    let s := s.spiTransfer full (List.replicate bs.length 0#8)
    if !(spiLenOk bs && spiCrcOk bs) then (s.updSpi fun p => { p with crcErr := true }).count (pageBase .link 0 + 0x64)
    else if full then s
    else (s.updSpi fun p => { p with crcErr := false }).receive .spi (slice bs 2 (bs.length - 6))

/-- The response that a reset waits for has left: the head frame has been shifted out (R83). -/
def spiLeft (s : State) : State :=
  match s.can.spi.out with
  | f :: _ => if s.sup.resetFrame = some f.bytes then s.updSup fun x => { x with resetFrame := none } else s
  | [] => s

/-- READ_FRAME. -/
def readFrame (s : State) (full : Bool) : State := if s.coreUp then (s.spiTransfer full (spiHead s.can.spi)).spiLeft else s

/-- READ_NEXT. -/
def readNext (s : State) (full : Bool) : State :=
  if s.coreUp then
    let q := s.can.spi.out.drop 1
    let s := s.spiTransfer full (spiHead { s.can.spi with out := q })
    (s.updSpi fun p => { p with out := q }).spiLeft
  else s

/-- READ_STATUS. -/
def readStatus (s : State) (full : Bool) : State := if s.coreUp then s.spiTransfer full [] else s

/-- A command byte that R37 does not define, and `n` bytes after it. -/
def spiUnknown (s : State) (n : Nat) (full : Bool) : State := if s.coreUp then s.spiTransfer full (List.replicate n 0#8) else s

/-! ### Addresses (R34, R80) -/

def linkBase : Nat := pageBase .link 0

/-- The LINK page selects DHCP. -/
def dhcpOn (s : State) : Bool := if s.bit (linkBase + 0x48) 1 then !s.sup.straps.netDef else s.bit (linkBase + 0x48) 0

def updNet (s : State) (f : Net → Net) : State := s.updCan fun c => { c with net := f c.net }

/-- A port carries frames in both directions. -/
def portUp (s : State) (p : Fin 2) : Bool := s.portsRun && s.can.net.link[p]

/-- The address selected comes into use; ADDR_CHANGE is flagged when it differs. -/
def takeAddress (s : State) : State :=
  let s := if s.dhcpOn then s else s.updNet fun n => { n with lease := none, dhcp := Dhcp.init }
  let a := s.netAddress
  (s.updNet fun n => { n with ip := a, changeDue := false }).flagIf (a != s.can.net.ip) linkBase 2

/-! ### The DHCP client (R34) -/

/-- A client's message (RFC 2131): its type, transaction, own address, and further options. -/
def dhcpPacket (kind : Byte) (xid own : Word) (opts : List Byte) : List Byte :=
  [1#8, 1#8, 6#8, 0#8] ++ beBytes 4 xid.toNat ++ List.replicate 4 0#8 ++ beBytes 4 own.toNat ++ List.replicate 12 0#8 ++ macBytes ++
    List.replicate 202 0#8 ++ [99#8, 130#8, 83#8, 99#8, 53#8, 1#8, kind] ++ opts ++ [55#8, 2#8, 1#8, 3#8, 255#8]

/-- A client's message on every port that is up. -/
def dhcpSend (s : State) (bs : List Byte) : State :=
  (List.finRange 2).foldl (fun (s : State) (p : Fin 2) => if s.portUp p then s.send (.dhcp p) bs else s) s

/-- The client begins anew: DISCOVER with a new transaction number, as soon as a port is up. -/
def dhcpDiscover (s : State) : State :=
  if !s.dhcpOn then s
  else if s.canopyRuns && (s.portUp 0 || s.portUp 1) then
    let xid := Config.freeWord s.freeCtr
    let s := s.tick.updNet fun n => { n with dhcp := { Dhcp.init with st := .selecting, xid := xid, asked := s.now } }
    s.dhcpSend (dhcpPacket 1#8 xid 0#32 [])
  else s.updNet fun n => { n with dhcp := Dhcp.init }

/-- REQUEST for the address offered, or for the lease held to go on. -/
def dhcpAsk (s : State) (st : DhcpState) : State :=
  let d := s.can.net.dhcp
  let s := s.updNet fun n => { n with dhcp := { n.dhcp with st := st, asked := s.now } }
  if st = .requesting then s.dhcpSend (dhcpPacket 3#8 d.xid 0#32 ([50#8, 4#8] ++ beBytes 4 d.ip.toNat ++ [54#8, 4#8] ++ beBytes 4 d.server.toNat))
  else s.dhcpSend (dhcpPacket 3#8 d.xid d.ip [])

/-- The lease is lost: no address is in use, and the client begins anew. -/
def dhcpLost (s : State) : State := (s.updNet fun n => { n with lease := none }).takeAddress.dhcpDiscover

/-- The client's timer: an unanswered message is repeated; the lease is renewed from half its time, by any server from seven
eighths, and lost at its end. A lease of 0xFFFFFFFF s does not end. -/
def dhcpTimer (s : State) : State :=
  let d := s.can.net.dhcp
  let age := s.now - d.since
  let lasts := d.secs * 1000000000
  let ends := decide (d.secs < 0xFFFFFFFF)
  match d.st with
  | .init | .selecting => s.dhcpDiscover
  | .requesting => s.dhcpAsk .requesting
  | .bound => if ends && decide (lasts ≤ 2 * age) then s.dhcpAsk .renewing else s
  | .renewing | .rebinding =>
    if ends && decide (lasts ≤ age) then s.dhcpLost
    else s.dhcpAsk (if 7 * lasts ≤ 8 * age then .rebinding else d.st)

/-- DHCP_MESSAGE (R34): a message for the client's transaction, or its timer. -/
def dhcpMessage (s : State) (p : Fin 2) (msg : DhcpMsg) : State :=
  if !(s.canopyRuns && s.dhcpOn) then s else
    let d := s.can.net.dhcp
    match msg with
    | .timer => s.dhcpTimer
    | .offer ip server =>
      if s.portUp p && d.st == .selecting then (s.updNet fun n => { n with dhcp := { d with ip := ip, server := server } }).dhcpAsk .requesting else s
    | .ack ip server secs =>
      if s.portUp p && (d.st == .requesting || d.st == .renewing || d.st == .rebinding) then
        (s.updNet fun n => { n with
          lease := some ip, dhcp := { d with st := .bound, ip := ip, server := server, since := d.asked, secs := secs } }).takeAddress
      else s
    | .nak => if s.portUp p && (d.st == .requesting || d.st == .renewing || d.st == .rebinding) then s.dhcpLost else s

/-- ADDR_CHANGE (R80): after the response of the request that changed the address; over SPI, once it stands in the out queue (the model's
choice: log entry 97). -/
def addrChange (s : State) : State :=
  if s.can.net.changeDue then
    let s := s.takeAddress
    if s.can.net.dhcp.st = .init then s.dhcpDiscover else s
  else s

/-- ARP_REQUEST for an address, from a station: answered if the address is the one in use (R34). -/
def arpRequest (s : State) (p : Fin 2) (mac : BitVec 48) (ip target : Word) : State :=
  if s.canopyRuns && s.portUp p && s.can.net.ip != 0#32 && target == s.can.net.ip then
    s.send (.arp p)
      (beBytes 2 1 ++ beBytes 2 0x0800 ++ [6#8, 4#8] ++ beBytes 2 2 ++ macBytes ++ beBytes 4 s.can.net.ip.toNat ++ beBytes 6 mac.toNat ++
        beBytes 4 ip.toNat)
  else s

/-- The Internet checksum: the complement of the one's-complement sum of the 16-bit words. -/
def inetSum : List Byte → Nat → Nat
  | a :: b :: r, acc => inetSum r (acc + 256 * a.toNat + b.toNat)
  | [a], acc => acc + 256 * a.toNat
  | [], acc => acc

def inetFold (n : Nat) : Nat := let m := n % 65536 + n / 65536
                                m % 65536 + m / 65536

/-- ICMP_ECHO (R34): identifier, sequence number and data come back; a fragment is discarded (R33). -/
def icmpEcho (s : State) (p : Fin 2) (ip target : Word) (fragment : Bool) (rest : List Byte) : State :=
  if s.canopyRuns && s.portUp p && s.can.net.ip != 0#32 && target == s.can.net.ip && !fragment then
    s.send (.icmp p ip) ([0#8, 0#8] ++ beBytes 2 (65535 - inetFold (inetSum rest 0)) ++ rest)
  else s

/-! ### Links (LINK page, R354) -/

/-- PORT_LINK_CHANGE: the link is up at 100 Mbit/s or down. -/
def portLinkChange (s : State) (p : Fin 2) (up fdx : Bool) : State :=
  if !s.powered 5 then s else
    let was := s.can.net.link[p]
    let s := s.updNet fun n => { n with link := n.link.set p up, fdx := n.fdx.set p (up && fdx) }
    if was && !up then (s.flag linkBase p.val).ptpLinkDown p
    else if s.can.net.dhcp.st = .init then s.dhcpDiscover
    else s

end State
end Sys2Proof.Machine
end

