-- ==== Sys2Proof/Machine/Reset.lean ====
section
/-!
DEFINITION. The resets (R90–R92), the modes OFF and THERMAL_OFF (R81, R438), what is committed to flash (R102, R349,
R377).
-/
namespace Sys2Proof.Machine
namespace State

/-! ### What a reset destroys and keeps -/

/-- Every domain except AON is reset: registers take their Reset values and what the configuration store keeps, sessions,
claims, events and the event-log ring are destroyed, the SAFE net is asserted (R8, R90). `keep`: domains that stay powered. -/
def resetDomains (s : State) (keep : Nat) : State :=
  let s := s.assertSafe
  let fan : Fan := { Fan.init with st := .safe, duty := 1000, next := 1000, on := 10000 }
  let bank : Bank := { Bank.init with sag := s.pwr.vfaStage == 3 }
  let can : Canopy := { Canopy.init with keys := s.can.keys, gens := s.can.gens }
  let log : EvLog := { EvLog.init with archive := s.log.archive, lastArchive := s.log.lastArchive }
  let pwr : Power := { s.pwr with sag := none, sagData := none, sagShed := false, powered := s.pwr.powered &&& keep, domFault := 0 }
  let clk : Clocks := { s.clk with fault := 0, coreOnSentinel := false, fcnt := none, tcxoRun := 0, tcxoOk := false, xrefGone := false }
  { s with
      regs := s.store, heart := ⟨false, 0, 0x80000000, [], []⟩, clk := clk, pwr := pwr, arb := Arbiter.init, led := Ledger.init
      fans := Vector.replicate 8 fan, banks := Vector.replicate 12 bank, log := log, summary := Vector.replicate 8 0, can := can
      loops := Vector.replicate 256 Loop.init, dio := s.dioLogicOff.dio, afe := s.afeReset.afe, cells := Cells.init, moist := Moist.init
      xf := Xform.init, root := s.rootReset.root, time := Time.init s.time.saved, gnss := s.gnssBoot.gnss }

/-- XREF, the PLL and the root without supply. -/
def clocksOff (s : State) : State :=
  { s with clk := { s.clk with run := [], lastCount := none, xrefStable := false, pllOn := false, rootLocked := false, pllAt := 0 } }

/-- The segments of Rootline are switched off (R320). -/
def segsOff (s : State) : State := s.rootOff

/-- The counts of instances after a reset: as flash holds them, but for those past their end of life, whose derating stays (R103). -/
def keptCounts {n : Nat} (lim : Nat) (now flash : Vector Nat n) : Vector Nat n :=
  Vector.zipWith (fun a b => if lim < a then max a b else b) now flash

/-- The wear ledger as flash holds it, with what is latched for the life of the module: WARN, END and REPLACE, and the end of each
instance (R103). -/
def wearKept (s : State) : Wear :=
  let w := s.wear
  let f := s.wearSaved
  { f with
      clampE := keptCounts 1000099999999 w.clampE f.clampE, doCycles := keptCounts 50004999 w.doCycles f.doCycles
      surges := keptCounts 2000 w.surges f.surges
      warn := Vector.zipWith (fun a b => a || b) w.warn f.warn, ended := Vector.zipWith (fun a b => a || b) w.ended f.ended
      boostEnd := Vector.zipWith (fun a b => a || b) w.boostEnd f.boostEnd, replace := w.replace || f.replace }

/-- The AON logic is reset: comparators, sensors, the VFA stage and with it SAG of every bank, the shutdown count, the transaction
counters; the wear ledger as flash holds it (R90, R102, R103, R205, R307, R395). -/
def aonReset (s : State) : State :=
  let s := s.clocksOff.segsOff
  let pwr : Power := { Power.init with powered := s.pwr.powered }
  { s with
      pwr := pwr, banks := s.banks.map fun (b : Bank) => { b with sag := false }, sensors := Vector.replicate 10 Sensor.init, wear := s.wearKept
      root := { s.root with round := 0, seg := s.root.seg.map fun (x : Seg) => { x with tn := 0 } }
      sup := { s.sup with shutdowns := [], thermHold := false, tripMask := 0, tripNow := 0, hourRef := s.now } }

/-- Firmware banks at a reset: ACTIVATE makes the other bank active on trial; an unconfirmed trial goes back and is a
fallback (R100). -/
def fwAtReset (f : Firmware) (cause : ResetCause) : Firmware :=
  let f : Firmware := { f with upd := .idle, err := 0, buf := List.replicate 64 0#32 }
  if cause = .fwActivate then { f with activeB := !f.activeB, trial := true, fallback := false }
  else if f.trial then { f with activeB := !f.activeB, trial := false, fallback := true }
  else { f with fallback := false }

/-- BOOT begins with a cause, at a phase; `start` is the instant that stands for t = 0 of R87. -/
def beginBoot (s : State) (cause : ResetCause) (phase : BootPhase) (start : Nat) : State :=
  s.updSup fun x => { x with
    mode := .boot, prev := if x.mode = .boot then x.prev else x.mode, safeCause := 0, resetCause := cause, boot := phase, bootStart := start
    bootFail := false, triedOther := false, shdnLow := false, lifeWave := false, coreAlive := true, wdArmed := false, maintSess := none
    selftest := false, resetDue := none, resetFrame := none, fw := fwAtReset x.fw cause }

/-- CORE and LINK stay powered through a reset that leaves AON running (R398). -/
def coreLink : Nat := 0x23

/-- A reset that resumes at t = 18 ms: the domains are held for 1.0 ms (R90). -/
def warmReset (s : State) (cause : ResetCause) : State := (s.resetDomains coreLink).beginBoot cause .coreReset (s.now - 17000000)

/-- The response that a commanded reset waits for still stands in the SPI out queue (R83). -/
def resetWaits (s : State) : Bool :=
  match s.sup.resetFrame with
  | some bs => s.can.spi.out.any fun (f : OutFrame) => f.bytes == bs
  | none => false

/-- The reset that DEV_CMD 15 or ACTIVATE asked for, once the response has left (R83, R100). -/
def dueReset (s : State) : State :=
  match s.sup.resetDue with
  | some c => if s.resetWaits then s else s.warmReset c
  | none => s

/-- A reset of all domains, AON included; BOOT resumes at a phase (R90, R425). -/
def coldReset (s : State) (cause : ResetCause) (phase : BootPhase) (start keep : Nat) : State :=
  (((s.resetDomains keep).aonReset).beginBoot cause phase start)

/-! ### Rows: power and RST_N -/

/-- POWER_ON (R81, R87): VL has risen to the start threshold. -/
def powerOn (s : State) : State :=
  if s.sup.mode = .off then
    (s.coldReset .powerOn .aonReset s.now 0).updPwr fun p => { p with powered := 1 }
  else s

/-- VL_BELOW_OFF (R81): the module goes to OFF; nothing is powered. -/
def vlBelowOff (s : State) : State :=
  if s.sup.mode = .off then s else
    let s := (s.resetDomains 0).clocksOff.segsOff
    s.updSup fun x => { x with
      mode := .off, prev := x.mode, safeCause := 0, rstLow := false, sentLatch := false, sentStopped := false, boot := .aonReset
      shdnLow := false, lifeWave := false, wdArmed := false, maintSess := none, selftest := false, resetDue := none, resetFrame := none }

/-- RST_N_ACCEPT (R81, R91): the module is in BOOT, which goes on when RST_N rises; the SAFE net is asserted with no logic in
the path and the life wave stops. -/
def rstAccept (s : State) : State :=
  if s.sup.mode = .off || s.sup.rstLow then s else
    let old := s.sup.mode
    let s := s.updSup fun x => { x with
      rstLow := true, mode := .boot, prev := if old = .boot then x.prev else old, safeCause := 0, shdnLow := false, selftest := false
      maintSess := none, resetDue := none, resetFrame := none }
    (s.settleLife.leftMode old).assertSafe.settleAll

/-- RST_N_RISE (R91): a full reset; the straps are latched. A module that the stopped sentinel holds in reset stays there (R425). -/
def rstRise (s : State) (st : Straps) : State :=
  if s.sup.sentStopped then s.updSup fun x => { x with rstLow := false }
  else if s.sup.mode != .off && s.sup.rstLow then
    (s.coldReset .rstPin .clocks (s.now - 2000000) coreLink).updSup fun x => { x with rstLow := false, straps := st }
  else s

/-- SENTINEL_STOP (R425): the SAFE net, the life outputs low, every domain in reset, the clockless latch. -/
def sentinelStop (s : State) : State :=
  if s.sup.mode = .off || s.sup.sentStopped then s else
    (s.coldReset .powerOn .aonReset s.now 1).updSup fun x => { x with sentStopped := true, sentLatch := true }

/-- SENTINEL_RESTART (R425): the sentinel has run for 1 ms ±20 % again; BOOT resumes at t = 2 ms, with cause POWER_ON. -/
def sentinelRestart (s : State) (st : Straps) : State :=
  if s.sup.sentStopped && decide (s.sup.bootStart + 800000 ≤ s.now) then
    s.updSup fun x => { x with sentStopped := false, resetCause := .powerOn, straps := st, boot := .clocks, bootStart := s.now - 2000000 }
  else s

/-! ### Rows: watchdog -/

/-- HEARTBEAT (R92). -/
def heartbeat (s : State) : State := if s.powered 1 && s.sup.coreAlive then s.updSup fun x => { x with lastBeat := s.now } else s

/-- WATCHDOG_EXPIRY (R92): 10 ms ±3 % without a heartbeat. The life wave stops, the SAFE net, the record, the reset. -/
def watchdogExpiry (s : State) : State :=
  match s.sup.mode with
  | .off | .thermalOff => s
  | _ =>
    if s.sup.wdArmed && !s.sup.sentStopped && decide (s.sup.lastBeat + 9700000 ≤ s.now) then
      (s.updSup fun x => { x with coreAlive := false }).settleLife.warmReset .watchdog
    else s

/-! ### Rows: domain faults (R400) -/

/-- CLK_EN with the enables of a domain cleared. -/
def clearEnables (s : State) (n : Nat) : State :=
  let old := s.rd clkEnAddr
  let mask := (domEnables n).foldl (fun (m : Word) k => m ||| fieldAt (clkBit k) (clkBit k) 1) 0#32
  (s.wr clkEnAddr (old &&& ~~~ mask)).clkEnWritten old

/-- DOM_FAULT: domain `n`. -/
def domFault (s : State) (n : Nat) : State :=
  if !s.aonRuns || !s.powered n then s
  else if n = 1 ∨ n = 5 then s.warmReset .watchdog
  else if n = 0 ∨ 12 ≤ n then s
  else
    let s := (s.updPwr fun p => { p with domFault := p.domFault ||| 2 ^ n }).flag pwrBase 9
    ((s.clearEnables n).domainOff n).settleAll

/-! ### Rows: shutdown (R437–R439) -/

/-- The comparators among `mask` that can trip: with SHDN_OPEN = 0 that of a broken sensor never does (R437). -/
def armedTrips (s : State) (mask : Nat) : Nat :=
  if s.sup.straps.shdnOpen then mask % 64
  else (withIndex (s.sensors.toList.take 6)).foldl (fun (m : Nat) (p : Nat × Sensor) => if p.2.broken then m &&& (0x3F ^^^ 2 ^ p.1) else m) (mask % 64)

/-- The comparators that broken sensors trip with SHDN_OPEN = 1 (R437). -/
def brokenTrips (s : State) : Nat :=
  if s.sup.straps.shdnOpen then
    (withIndex (s.sensors.toList.take 6)).foldl (fun (m : Nat) (p : Nat × Sensor) => if p.2.broken then m + 2 ^ p.1 else m) 0
  else 0

/-- CRITICAL_TRIP (R438): comparators of TS0–TS5 trip, bit n for TSn. The SAFE net, SYS_SHDN_N, the life outputs; every
domain except AON goes off. -/
def criticalTrip (s : State) (mask : Nat) : State :=
  let mask := s.armedTrips mask
  if !s.aonRuns || mask = 0 then s
  else if s.sup.mode = .thermalOff then s.updSup fun x => { x with tripNow := x.tripNow ||| mask }
  else
    let s := (s.resetDomains 1).clocksOff.segsOff
    let s := s.updSup fun x => { x with
      mode := .thermalOff, prev := x.mode, safeCause := 0, boot := .done, shdnLow := true, lifeWave := false, wdArmed := false, maintSess := none
      selftest := false, resetDue := none, resetFrame := none, shutdowns := s.now :: x.shutdowns.filter fun (t : Nat) => decide (s.now < t + 3600000000000)
      thermalAt := s.now, tripMask := mask, tripNow := mask, shdnTotal := satU 32 (x.shdnTotal + 1) }
    s.updSup fun x => { x with thermHold := s.thermCount == 3 }

/-- The first condition of R439: every one of TS0–TS5 that is not broken reads T_CRIT − 20 °C or less. -/
def critCool (s : State) : Bool :=
  (s.sensors.toList.take 6).all fun (x : Sensor) => x.valid && (x.broken || decide (x.temp ≤ ((s.tCrit : Int) - 20) * 64))

/-- The second condition of R439. -/
def critWhole (s : State) : Bool := !s.sup.straps.shdnOpen || (s.sensors.toList.take 6).all fun (x : Sensor) => !x.broken

/-- The thermal restart at a sample (R439). A THERM_COUNT that has reached 3 holds the module until AON is reset. -/
def thermalRestart (s : State) : State :=
  if s.sup.mode = .thermalOff && s.critCool && s.critWhole && decide (s.sup.thermalAt + 60000000000 ≤ s.now) && decide (s.thermCount < 3) && !s.sup.thermHold then
    ((s.resetDomains 1).beginBoot .thermal .clocks (s.now - 3000000)).updSup fun x => { x with tripNow := 0 }
  else s

/-- The comparators release at T_CRIT − 3 °C (R437). -/
def tripsRelease (s : State) : State :=
  s.updSup fun x => { x with tripNow := (withIndex (s.sensors.toList.take 6)).foldl (fun (m : Nat) (p : Nat × Sensor) =>
    if !p.2.broken && decide (p.2.temp ≤ ((s.tCrit : Int) - 3) * 64) then m &&& (0x3F ^^^ 2 ^ p.1) else m) x.tripNow }

/-- Every sensor is sampled (R428). -/
def sampleAll (s : State) (v : Vector Sensed 10) : State :=
  (List.finRange 10).foldl (fun (s : State) (n : Fin 10) => s.sampleSensor n v[n]) s

/-- THERM_SAMPLE (R428–R434): every sensor is sampled; wear indicators 4 and 7 count; a broken sensor trips its comparator (R437);
the restart of R439 is judged. -/
def thermSample (s : State) (v : Vector Sensed 10) : State :=
  if !s.aonRuns then s else
    let s := s.sampleAll v
    let s := s.tripsRelease
    let t2 := s.sensor 2
    let t4 := s.sensor 4
    let t5 := s.sensor 5
    let s := if t5.broken then s else s.wearCycle t5.temp
    let s := if t2.broken || t4.broken then s else s.wearIso t2.temp t4.temp
    (s.settle.criticalTrip s.brokenTrips).thermalRestart

/-! ### Flash (R102, R349, R377, R393) -/

/-- The wear ledger, FREQ_EST of a trusted source and the GNSS store are committed. -/
def commitWear (s : State) : State :=
  let s := { s with wearSaved := { s.wear with hours := s.runTenths } }
  let s := if s.time.active.isSome then s.updTime fun x => { x with saved := some (x.freq, 100 * s.runTenths) } else s
  s.gnssCommit

/-- WEAR_COMMIT (R102): every 10 min; the most-erased sector and its count after the commit. -/
def wearCommit (s : State) (sector n : Nat) : State := if s.aonRuns then (s.wearErase sector n).commitWear else s

/-- VL_SAG_COMMIT_DONE (R393): the recent entries and the wear ledger are in flash; the most-erased sector and its count. -/
def sagCommitDone (s : State) (sector n : Nat) : State :=
  if s.pwr.sag.isSome then (s.archive.wearErase sector n).commitWear else s

/-- VL_SAG_CLEAR (R95, R393): VL ≥ 18.0 V for 1 s and the hold-up recharged; the domains switched off may be powered again. -/
def vlSagClear (s : State) : State :=
  if s.pwr.sag.isSome && s.aonRuns then
    ((s.updPwr fun p => { p with sag := none, sagData := none, sagShed := false }).clearCause causeSag).settleAll
  else s

/-! ### Self-test and firmware rows (R83, R99–R101) -/

/-- SELFTEST_DONE: failures as FAIL of SELFTEST_RES lists them, the hold-up capacitance (µF), the reservoirs' capacitance
(0.1 µF) and ESR (mΩ). -/
def selftestDone (s : State) (fail c : Nat) (boost : Vector (Nat × Nat) 6) : State :=
  if !s.sup.selftest || s.sup.mode != .maintenance then s else
    let s := (s.updSup fun x => { x with selftest := false }).releaseSafe
    let s := s.wearHoldup c
    let s := (List.finRange 6).foldl (fun (s : State) (b : Fin 6) => s.wearBoost b boost[b].1 boost[b].2) s
    let s := s.post 0x74 (fieldAt 14 8 fail ||| fieldAt 0 0 (b2n (fail % 128 == 0))) []
    (s.flag devBase 3).settleAll

/-- FW_ERASE_DONE; the most-erased sector and its count (R102). -/
def fwEraseDone (s : State) (sector n : Nat) : State :=
  if s.sup.mode = .maintenance ∧ s.sup.fw.upd = .erasing then (s.updFw fun f => { f with upd := .ready }).wearErase sector n else s

/-- FW_PROGRAM_DONE; `ok` = false: a flash write error. -/
def fwProgramDone (s : State) (ok : Bool) : State :=
  if s.sup.mode = .maintenance ∧ s.sup.fw.upd = .programming then s.updFw fun f => if ok then { f with upd := .ready } else { f with upd := .failed, err := 3 } else s

/-- FW_VERIFY_DONE: the image authenticates and has a version, or fails with 1 (signature) or 2 (length). -/
def fwVerifyDone (s : State) (ok : Bool) (version : Word) (err : Nat) : State :=
  if s.sup.mode = .maintenance ∧ s.sup.fw.upd = .verifying then
    s.updFw fun f =>
      if ok then { onInactive f (fun b => { b with valid := true, version := version }) with upd := .verified, err := 0 }
      else { spoilInactive f with upd := .failed, err := if err = 2 then 2 else 1 }
  else s

end State
end Sys2Proof.Machine
end

