-- ==== Sys2Proof/Machine/Boot.lean ====
section
/-!
DEFINITION. BOOT (R86–R89), the clock fault and its end (R416, R422–R424), the execution of a request with the reset it
may ask for (R83), the LEDs (R105).
-/
namespace Sys2Proof.Machine
namespace State

/-! ### The timeline of R87 -/

/-- BOOT stands at a phase, the sentinel running and RST_N high. -/
def inBoot (s : State) (p : BootPhase) : Bool := s.sup.mode == .boot && s.sup.boot == p && !s.sup.sentStopped && !s.sup.rstLow

def toPhase (s : State) (p : BootPhase) : State := s.updSup fun x => { x with boot := p }

/-- BOOT stalls for good: FLT flashes (R88). -/
def stall (s : State) : State := s.updSup fun x => { x with boot := .stalled, bootFail := true }

/-- AON_RESET_END (R87, t = 2 ms): the straps are latched. -/
def aonResetEnd (s : State) (st : Straps) : State :=
  if s.inBoot .aonReset then s.updSup fun x => { x with boot := .clocks, straps := st } else s

/-- Heartwood starts (R349). -/
def startTime (s : State) : State := s.timeBoot (100 * s.runTenths)

/-- ROOT_LOCK (R415): lock without a break for 200 µs ±5 %. In BOOT the timeline goes on: Heartwood starts and CORE is powered. -/
def rootLock (s : State) : State :=
  if s.aonRuns && s.clk.pllOn && s.clk.xrefStable && !s.clk.rootLocked && decide (s.clk.pllAt + 190000 ≤ s.now) then
    let s := { s with clk := { s.clk with rootLocked := true } }
    if s.inBoot .clocks then
      let s := s.startTime
      let s := s.updPwr fun p => { p with powered := p.powered ||| 2 }
      s.updSup fun x => { x with boot := .coreReset, bootFail := false }
    else s
  else s

/-- CORE_RESET_END (R87, R90): the management core leaves reset, or the boot waits for the root to lock. -/
def coreResetEnd (s : State) : State :=
  if !s.inBoot .coreReset then s
  else if !s.clk.rootLocked then s.toPhase .clocks
  else (if s.heart.run then s else s.startTime).toPhase .sram

/-- SRAM_TEST_DONE (R87, R88). -/
def sramTestDone (s : State) (ok : Bool) : State :=
  if !s.inBoot .sram then s else if ok then s.toPhase .auth else s.stall

/-- Bank B is the one being booted: the active bank, the other one with BOOT_SEL, and the other of these on the second try. -/
def bootBankB (s : State) : Bool := (s.sup.fw.activeB != s.sup.straps.bootSel) != s.sup.triedOther

/-- IMAGE_AUTH_DONE (R88): a passing image starts the firmware and arms the watchdog, LINK is powered; a failing one lets
the other bank be tried once. ACTIVE_BANK goes on naming the bank that failed (log entry 99). -/
def imageAuthDone (s : State) (ok : Bool) : State :=
  if !s.inBoot .auth then s else
    let b := if s.bootBankB then s.sup.fw.bankB else s.sup.fw.bankA
    if ok && b.valid then
      let s := s.updPwr fun p => { p with powered := p.powered ||| 0x20 }
      s.updSup fun x => { x with
        boot := .restore, wdArmed := true, coreAlive := true, lastBeat := s.now
        fw := { x.fw with fallback := x.fw.fallback || x.triedOther || x.straps.bootSel } }
    else
      let isB := s.bootBankB
      let s := s.updFw fun f =>
        if isB then { f with bankB := { f.bankB with valid := false } } else { f with bankA := { f.bankA with valid := false } }
      if s.sup.triedOther then s.stall else s.updSup fun x => { x with triedOther := true }

/-- The tables that BOOT validates (R133, R152, R234). -/
def judgeTables (s : State) : State :=
  let s := s.judgeStores
  let s := (List.finRange 16).foldl (fun (s : State) (n : Fin 16) => s.setCalValid n (s.tableOk n)) s
  let gt := (List.range 32).foldl (fun (w : Word) g => withField w g g (b2n (s.gtOk g))) 0#32
  { s with moist := { s.moist with gtValid := gt } }

/-- EN of a page takes its saved value. -/
def restoreEn (s : State) (on : List Nat) (base : Nat) : State :=
  match pageOf base with
  | none => s
  | some (p, i) =>
    let old := s.rd (base + 8)
    let new := withField old 0 0 (b2n (on.contains base))
    if new = old then s else (s.wr (base + 8) new).hook 0xFF p.kind i 8 old new

/-- The saved set of R89: the clock enables, their domains powered, the pages' EN bits. -/
def restoreSet (s : State) : State :=
  match s.sup.saved with
  | none => s
  | some (w, on) =>
    let old := s.rd clkEnAddr
    let s := s.wr clkEnAddr w
    let s := (List.range 12).foldl (fun (s : State) n => if s.powering n then s.domainOn n else s) s
    let s := s.clkEnWritten old
    allPages.foldl (fun (s : State) b => s.restoreEn on b) s

/-- The flags that a BOOT raises when it ends: FALLBACK_BOOT, SENT_RESTART, CRIT_RESTART (R88, R425, R434). -/
def bootFlags (s : State) : State :=
  let s := s.flagIf s.sup.fw.fallback devBase 2
  let s := if s.sup.sentLatch then (s.flag clkBase 5).updSup fun x => { x with sentLatch := false } else s
  if s.sup.resetCause = .thermal then s.flagWith thermBase 6 ⟨0x0407, 2, s.sup.tripMask + 256 * s.thermCount, 0xFF⟩ else s

/-- BOOT_COMPLETE (R81, R87, R89): the store is restored; STANDBY, or SAFE_HOLD after a watchdog reset or a thermal restart. -/
def bootComplete (s : State) : State :=
  if !s.inBoot .restore then s else
    let s := s.judgeTables
    let s := s.updNet fun n => { n with ip := s.netAddress, changeDue := false }
    let hold := s.sup.resetCause == .watchdog || s.sup.resetCause == .thermal
    let s := if hold then s.restoreSet else s
    let s := s.rootBoot.bootFlags.toPhase .done
    let s :=
      if hold then
        let s := s.updSup fun x => { x with safeCause := if x.resetCause = .watchdog then causeWatchdog else causeThermal }
        ((s.setMode .safeHold).flag devBase 1).assertSafe
      else (s.setMode .standby).releaseSafe
    s.settleAll.dhcpDiscover

/-- BOOT_STALL (R88): at 100 ms ±3 % XREF is not stable or the root is not locked. -/
def bootStall (s : State) : State :=
  if s.inBoot .clocks && !(s.clk.xrefStable && s.clk.rootLocked) && decide (s.sup.bootStart + 97000000 ≤ s.now) then
    s.updSup fun x => { x with bootFail := true }
  else s

/-! ### Clock faults (R86, R416, R422–R424) -/

/-- What a detection does to the judge and the root: XREF is judged anew, the PLL is retried (R415, R423). -/
def clocksLost (s : State) (cause : Nat) : State :=
  let c := s.clk
  { s with clk :=
    if cause = 1 then { c with run := [], lastCount := none, xrefStable := false, pllOn := false, rootLocked := false }
    else { c with rootLocked := false, pllAt := s.now } }

/-- A clock fault in BOOT (R86): the domains are reset, BOOT resumes at t = 3 ms, and XREF is judged again over eight new windows
whatever the cause. -/
def bootFault (s : State) (cause : Nat) : State :=
  let s := (s.flag clkBase (cause - 1)).count (clkBase + 0x48)
  let keep := [clkBase + 0x10, clkBase + 0x18, clkBase + 0x48].map fun (a : Nat) => (a, s.rd a)
  let s := s.resetDomains coreLink
  let s := keep.foldl (fun (s : State) (p : Nat × Word) => s.wr p.1 p.2) s
  (s.clocksLost 1).updSup fun x => { x with boot := .clocks, bootStart := s.now - 3000000, wdArmed := false, triedOther := false }

/-- What every block does at a clock fault (R424). -/
def blocksFault (s : State) : State :=
  let s := ((s.fcntAbort.cellFault).moistFault).afeFault
  let s := ((s.rootFault.tunesAbort).xfFault).gnssFault
  if s.powered 4 then s.tcxoLost else s

/-- A clock fault begins (R416, R422): the root family stops, the SAFE net, SAFE_HOLD. -/
def faultBegins (s : State) (cause : Nat) : State :=
  let stamp := s.hwNs
  let s := s.timeFault
  let s := s.clocksLost cause
  let s := { s with clk := { s.clk with fault := cause, faultAt := s.now, faultStamp := stamp, xrefGone := cause == 1 } }
  let s := ((s.flag clkBase (cause - 1)).count (clkBase + 0x48)).blocksFault
  (s.enterSafeHold causeClock).settleAll

/-- A new detection during the fault extends it (R423); XREF_LOST in the same sentinel cycle is the cause (R416). The detection
that began the fault is none. -/
def faultExtends (s : State) (cause : Nat) : State :=
  if cause = s.clk.fault ∧ s.now = s.clk.faultAt then s else
  let s := s.clocksLost cause
  let same := cause == 1 && s.clk.fault == 2 && decide (s.now < s.clk.faultAt + 25)
  ({ s with clk := { s.clk with fault := if same then 1 else s.clk.fault, xrefGone := s.clk.xrefGone || cause == 1 } }).flag clkBase (cause - 1)

/-- CLOCK_FAULT: XREF_LOST (1) or LOCK_LOST (2) is detected. -/
def clockFaultRow (s : State) (cause : Nat) : State :=
  if cause ≠ 1 ∧ cause ≠ 2 then s
  else if !s.aonRuns then s
  else if s.clockFault then s.faultExtends cause
  else if !s.clk.rootLocked then s
  else match s.sup.mode with
    | .off | .thermalOff => s
    | .boot => s.bootFault cause
    | _ => s.faultBegins cause

/-- CLOCK_FAULT_END (R424): XREF is stable and the root locked; `dur`: the duration in ns as the sentinel counted it, to ±3 %;
`ovf`: GNSS results discarded meanwhile. P1_RXF and P2_RXF are flushed, and the frames that waited for the core are taken (R418). -/
def clockFaultEnd (s : State) (dur ovf : Nat) : State :=
  if !(s.clockFault && s.clk.xrefStable && s.clk.rootLocked) then s else
    let real := s.now - s.clk.faultAt
    let dur := max (real * 97 / 100) (min (real * 103 / 100) dur)
    let cause := s.clk.fault
    let stamp := s.clk.faultStamp
    let s := s.timeReturn dur
    let s := { s with clk := { s.clk with fault := 0, coreOnSentinel := false, xrefGone := false } }
    let s := ((s.clearCause causeClock).flag clkBase 2).post (clkBase + 0x50) (fieldAt 1 0 cause)
      [loWord stamp, hiWord stamp, toWord (satU 32 (roundDiv dur 1000))]
    let s := ((s.renewAll.afeReturn).xfResume).rootReturn.gnssReturn ovf
    (s.settleAll.updCan fun c => { c with rxf := [] }).takeWaiting

/-- TCXO_WINDOW (R372, R417): a window that ends TCXO_OK stops the receiver, one that sets it lets it start. -/
def tcxoWindowRow (s : State) (count : Nat) : State :=
  let was := s.clk.tcxoOk
  let s := s.tcxoWindow count
  if s.powered 4 && !s.clk.xrefGone && decide (13 < ((count : Int) - 2600000).natAbs) then s.gnssTcxoLost was
  else if !was && s.clk.tcxoOk then s.settleGnss.gnssConfig else s.settleGnss

/-- TCXO_STOP (R372, R417). -/
def tcxoStopRow (s : State) : State :=
  let was := s.clk.tcxoOk
  s.tcxoStop.gnssTcxoLost was

/-! ### Coinciding triggers (R84) -/

/-- The frame that a command brings, and how. -/
def frameOf : Instr → Option (Nat × Via × List Byte)
  | .openReq t v bs | .openProof t v bs | .request t v bs | .close t v bs => some (t, v, bs)
  | .writeFrame t bs full => if !full && spiLenOk bs && spiCrcOk bs then some (t, .spi, slice bs 2 (bs.length - 6)) else none
  | _ => none

/-- The rank of the trigger of R84 that a command can bring, and its instant. -/
def triggerOf : Instr → Option (Nat × Nat)
  | .vlBelowOff t => some (1, t)
  | .criticalTrip t _ | .thermSample t _ => some (2, t)
  | .rstNAccept t | .watchdogExpiry t => some (3, t)
  | .clockFault t _ | .xrefWindow t _ _ => some (4, t)
  | .holdupJudge t _ | .vlFallbackDecision t _ => some (5, t)
  | .leaseExpiry t _ => some (6, t)
  | c => match frameOf c with
    | some (t, _, bs) => if (hdrOf bs).kind = kOpenProof then some (6, t) else none
    | none => none

/-- The comparators that the breaks found in a sample trip (R437). -/
def sampleTrips (s : State) (v : Vector Sensed 10) : Nat := if s.aonRuns then (s.sampleAll v).brokenTrips else 0

/-- XREF_WINDOW (R414, R416): the window is judged, and once the root has locked a COUNT outside nominal ±3 %, or more than
1,000 ppm from that of the window before, is XREF_LOST. -/
def windowLost (s : State) (count : Nat) : Bool :=
  let jump := match s.clk.lastCount with | some p => decide (p < 1000 * ((count : Int) - p).natAbs) | none => false
  s.aonRuns && s.clk.rootLocked && s.clk.windowAt != some s.now && (!countInRange count || jump)

/-- What a trigger does to the mode; done once, it does nothing to it when its command comes to the front of the queue. -/
def pull (s : State) : Instr → State
  | .vlBelowOff _ => s.vlBelowOff
  | .criticalTrip _ m => s.criticalTrip m
  | .thermSample _ v => s.criticalTrip (s.sampleTrips v)
  | .rstNAccept _ => s.rstAccept
  | .watchdogExpiry _ => s.watchdogExpiry
  | .clockFault _ c => s.clockFaultRow c
  | .xrefWindow _ c a => if s.windowLost c then (s.xrefWindow c a).clockFaultRow 1 else s
  | .holdupJudge _ vl => s.holdupDecide vl
  | .vlFallbackDecision _ vl => s.vlFallback vl
  | .leaseExpiry _ i => s.leaseExpiry i
  | c => match frameOf c with
    | some (_, v, bs) => match s.replacedBy v bs with | some j => s.endLost j | none => s
    | none => s

/-- The waiting commands of rank `r` whose instant has come. -/
def coincide (s : State) (r : Nat) : List Instr :=
  s.pending.filter fun (c : Instr) => match triggerOf c with | some (q, t) => q == r && decide (t ≤ s.now) | none => false

/-- The triggers above rank `r` that coincide with the command now at work decide first, the highest rank first; the command
is then judged in the mode that results. -/
def preempt (s : State) (r : Nat) : State := (List.range r).foldl (fun (s : State) (q : Nat) => (s.coincide q).foldl pull s) s

/-- The value that a WRITE or RMW gives DEV_CMD. -/
def cmdValue (e : OpEntry) : Nat :=
  if e.code = 3 then fieldOf (e.data.getD 0 0#32 &&& e.data.getD 1 0#32) 3 0 else fieldOf (e.data.getD ((0x44 - e.addr) / 4) 0#32) 3 0

/-- The value that the oldest accepted request writes to DEV_CMD. -/
def nextCmd (s : State) : Option Nat :=
  match s.can.queue with
  | [] => none
  | r :: _ => match s.sess r.sess with
    | some x => match requestOps x.minor r.frame with
      | some es => (es.find? fun (e : OpEntry) => e.stores 0x44).map cmdValue
      | none => none
    | none => none

/-- The rank of a command written to DEV_CMD (R84): command 15 is a reset. -/
def cmdRank (c : Nat) : Nat := if c = 15 then 3 else 7

/-- REQUEST_EXECUTE: the oldest accepted request, and the reset it asked for (R68, R83, R100). -/
def requestRow (s : State) : State :=
  (match s.nextCmd with | some c => s.preempt (cmdRank c) | none => s).requestExecute.dueReset

/-- A frame arrives; in MAINTENANCE it may end the session that commanded the mode (R33, R84). -/
def frameRow (s : State) (v : Via) (bs : List Byte) : State := (if s.sup.mode = .maintenance then s.preempt 7 else s).receive v bs

/-- A WRITE_FRAME, as `frameRow` (R40, R84). -/
def writeRow (s : State) (bs : List Byte) (full : Bool) : State :=
  ((if s.sup.mode = .maintenance then s.preempt 7 else s).writeFrame bs full)

/-- READ_FRAME and READ_NEXT: a reset that waited for the frame to leave begins (R83). -/
def readFrameRow (s : State) (full : Bool) : State := (s.readFrame full).dueReset

def readNextRow (s : State) (full : Bool) : State := (s.readNext full).dueReset

/-- BEACON; it may put the frame that a reset waits for out of the queue (R41, R83). -/
def beaconRow (s : State) (i : Fin 8) : State := (s.beacon i).dueReset

/-- The rows of the triggers themselves (R84). -/
def criticalRow (s : State) (mask : Nat) : State := (s.preempt 2).criticalTrip mask

def sampleRow (s : State) (v : Vector Sensed 10) : State := (if s.sampleTrips v = 0 then s else s.preempt 2).thermSample v

def xrefWindowRow (s : State) (count : Nat) (absent : Bool) : State :=
  if s.windowLost count then ((s.preempt 4).xrefWindow count absent).clockFaultRow 1 else s.xrefWindow count absent

/-- MUX_FORCED_RELEASE (R418, R419): with a clock the core takes the frames that waited. -/
def muxRow (s : State) (island : Bool) : State := (s.muxForced island).takeWaiting

def rstAcceptRow (s : State) : State := (s.preempt 3).rstAccept

def watchdogRow (s : State) : State := (s.preempt 3).watchdogExpiry

def faultRow (s : State) (cause : Nat) : State := (s.preempt 4).clockFaultRow cause

def holdupRow (s : State) (vl : Nat) : State := (s.preempt 5).holdupJudge vl

def fallbackRow (s : State) (vl : Nat) : State := (s.preempt 5).vlFallback vl

def leaseRow (s : State) (i : Fin 8) : State := (s.preempt 6).leaseExpiry i

end State

/-! ### LEDs (R105) -/

/-- What an LED shows: off, on, or flashing at a rate in Hz. -/
inductive Led where
  | off | on
  | flash (hz : Nat)
  deriving DecidableEq, Repr

namespace State

/-- PWR, RUN, FLT and REPL. -/
def leds (s : State) : Led × Led × Led × Led :=
  let repl := if s.wear.replace then Led.on else Led.off
  match s.sup.mode with
  | .off => (.off, .off, .off, .off)
  | .boot => (.on, .off, if s.sup.bootFail then .flash 2 else .off, repl)
  | .standby | .commission => (.on, .flash 1, .off, repl)
  | .run => (.on, .on, .off, repl)
  | .constrained => (.on, .on, .flash 1, repl)
  | .safeHold => (.on, .off, .on, repl)
  | .thermalOff => (.on, .off, .flash 4, repl)
  | .maintenance => (.on, .flash 4, .off, repl)

end State
end Sys2Proof.Machine
end

