-- ==== Sys2Proof/Machine/ExecAnalog.lean ====
section
/-!
DEFINITION. The commands of the analog front end (spec/06_general_analog_front_end.md): each takes the module to its
instant and does there what its rule says.
-/
namespace Sys2Proof.Machine

/-- AFE_CMD_FRAME (R165). Every 1 ms the logic side sends the island a command frame with the output codes and safe
codes. -/
def execAfeCmdFrame (t : Nat) (s : State) : Host.Outcome State Fault Refusal :=
  .next ((s.advance t).afeCmdFrame)

/-- ISLAND_CMD_RECEIVE (R179). The island receives a valid command frame, restarts its refresh counter and applies
the codes. -/
def execIslandCmdReceive (t : Nat) (good : Bool) (s : State) : Host.Outcome State Fault Refusal :=
  .next ((s.advance t).islandCmdReceive good)

/-- AO_REFRESH_TIMEOUT (R179). 50 ms pass without a valid command frame; the island drives every output to its safe
code and sets REFRESH_TO. -/
def execAoRefreshTimeout (t : Nat) (s : State) : Host.Outcome State Fault Refusal :=
  .next ((s.advance t).aoRefreshTimeout)

/-- AI_GATE_END (R172). A converter's gate ends, COUNT is latched and the next reading starts. -/
def execAiGateEnd (t : Nat) (c : Fin 8) (count : Nat) (ovr : Bool) (exc : Bool) (s : State) : Host.Outcome State Fault Refusal :=
  .next ((s.advance t).aiGateEnd c count ovr exc)

/-- AI_PHASE_SWAP (R172). Halfway through an RTD3 gate the excitation moves to lead b and phase B begins after
settling. -/
def execAiPhaseSwap (t : Nat) (c : Fin 8) (count : Nat) (s : State) : Host.Outcome State Fault Refusal :=
  .next ((s.advance t).aiPhaseSwap c count)

/-- AFE_RESULT_FRAME (R164). A result frame leaves AFE_RX; a good one posts the reading span, a bad one is discarded
and sets READ_LOST. -/
def execAfeResultFrame (t : Nat) (good : Bool) (s : State) : Host.Outcome State Fault Refusal :=
  .next ((s.advance t).afeResultFrame good)

/-- AI_WIRE_BREAK (R177). A lead break is detected; the converter ends the gate and posts the reading with OPEN. -/
def execAiWireBreak (t : Nat) (c : Fin 8) (s : State) : Host.Outcome State Fault Refusal :=
  .next ((s.advance t).aiWireBreak c)

/-- AFE_CLOCK_STOP (R166). The island sees the clock channel stop and switches its converters to its own RC. -/
def execAfeClockStop (t : Nat) (s : State) : Host.Outcome State Fault Refusal :=
  .next ((s.advance t).afeClockStop)

/-- AFE_CLOCK_RETURN (R166). The clock channel has been present and in tolerance for 1 ms and each converter switches
back at its next reading. -/
def execAfeClockReturn (t : Nat) (s : State) : Host.Outcome State Fault Refusal :=
  .next ((s.advance t).afeClockReturn)

/-- AO_READBACK (R180). Every 1 ms each output's current is read back and AO_RBn is posted with its OPEN and
SHORT_SUP judgements. -/
def execAoReadback (t : Nat) (n : Fin 8) (code : Nat) (high : Bool) (good : Bool) (s : State) : Host.Outcome State Fault Refusal :=
  .next ((s.advance t).aoReadback n code high good)

/-- LEAD_MEASURE_DONE (R175). The mean of 8 readings completes and the lead measurement ends DONE or FAILED. -/
def execLeadMeasureDone (t : Nat) (c : Fin 8) (k : Fin 4) (s : State) : Host.Outcome State Fault Refusal :=
  .next ((s.advance t).leadDone c k)

end Sys2Proof.Machine
end

