-- ==== Sys2Proof/Machine/ExecBanks.lean ====
section
/-!
DEFINITION. The commands of the actuator banks (spec/07_actuator_banks.md): each takes the module to its instant and
does there what its rule says.
-/
namespace Sys2Proof.Machine

/-- EVENT_DUE (R194). An actuator event reaches its due instant and is judged by gates 3–5; it starts its first
phase, is held, retriggers, or is dropped by REJECT. -/
def execEventDue (t : Nat) (n : Fin 12) (s : State) : Host.Outcome State Fault Refusal :=
  .next (((s.atBank t n).eventDue n).settle.settleStep)

/-- EVENT_REJUDGE (R194). At each slot an event held at gate 3, 4 or 5 is judged again. -/
def execEventRejudge (t : Nat) (n : Fin 12) (s : State) : Host.Outcome State Fault Refusal :=
  .next (((s.atBank t n).eventRejudge n).settle.settleStep)

/-- EVENT_LATEST_DROP (R194). An event still held at its latest permitted start is dropped with the outcome of the
gate that held it, or OFFTIME. -/
def execEventLatestDrop (t : Nat) (n : Fin 12) (s : State) : Host.Outcome State Fault Refusal :=
  .next (((s.atBank t n).eventLatestDrop n).settle.settleStep)

/-- MAX_DELAY_DROP (R199). MAX_DELAY passes for an event held at gate 4 under DELAY, and it is dropped with
BANK_CONFLICT. -/
def execMaxDelayDrop (t : Nat) (n : Fin 12) (s : State) : Host.Outcome State Fault Refusal :=
  .next (((s.atBank t n).maxDelayDrop n).settle.settleStep)

/-- SWITCH_OFF_END (R187). A channel's current falls below 50 mA, its switch-off ends and MIN_OFF starts. -/
def execSwitchOffEnd (t : Nat) (n : Fin 12) (k : Fin 4) (clampE : Nat) (s : State) : Host.Outcome State Fault Refusal :=
  .next ((s.atBank t n).lit (((s.atBank t n).switchOffEnd n k clampE).settle.settleStep))

/-- MIN_OFF_END (R201). MIN_OFF elapses on a channel, and an event waiting on the OFFTIME path may start. -/
def execMinOffEnd (t : Nat) (n : Fin 12) (k : Fin 4) (s : State) : Host.Outcome State Fault Refusal :=
  .next (((s.atBank t n).minOffEnd n k).settle.settleStep)

/-- PHASE_LIMIT (R230). A BOOST or PEAK phase reaches 2.00 ms; its grant ends and the phase becomes HOLD at 6.00 A or
less, flagging PH_LIM. -/
def execPhaseLimit (t : Nat) (n : Fin 12) (k : Fin 4) (s : State) : Host.Outcome State Fault Refusal :=
  .next (((s.atBank t n).phaseLimit n k).settle.settleStep)

/-- DIAG_TEST_START (R207). Every DIAG_MS, when the bank is idle and no event is due within 250 µs, the off-state
test begins biasing the nodes. -/
def execDiagTestStart (t : Nat) (n : Fin 12) (s : State) : Host.Outcome State Fault Refusal :=
  .next (((s.atBank t n).diagTestStart n).settle.settleStep)

/-- DIAG_TEST_END (R207). The 200 µs off-state test completes and classifies the high-side node and every channel. -/
def execDiagTestEnd (t : Nat) (n : Fin 12) (vHs : Nat) (vu : Vector Nat 4) (vd : Vector Nat 4) (s : State) : Host.Outcome State Fault Refusal :=
  .next (((s.atBank t n).diagTestEnd n vHs vu vd).settle.settleStep)

/-- DESAT_LS (R208). The low-side desaturation monitor trips; that low side switches off through its clamp with a
channel fault. -/
def execDesatLs (t : Nat) (n : Fin 12) (k : Fin 4) (s : State) : Host.Outcome State Fault Refusal :=
  .next (((s.atBank t n).desatLs n k).settle.settleStep)

/-- DESAT_HS (R208). The high-side desaturation monitor trips; every switch of the bank turns off and the bank locks.
-/
def execDesatHs (t : Nat) (n : Fin 12) (s : State) : Host.Outcome State Fault Refusal :=
  .next (((s.atBank t n).desatHs n).settle.settleStep)

/-- OVERCURRENT (R208). A channel current exceeds 24.0 A; that low side switches off with a channel fault. -/
def execOvercurrent (t : Nat) (n : Fin 12) (k : Fin 4) (s : State) : Host.Outcome State Fault Refusal :=
  .next (((s.atBank t n).overcurrent n k).settle.settleStep)

/-- LEAK_GND (R208). High-side current exceeds the channel sum by more than 2.0 A for 2 µs; the bank switches off and
locks. -/
def execLeakGnd (t : Nat) (n : Fin 12) (s : State) : Host.Outcome State Fault Refusal :=
  .next (((s.atBank t n).leakGnd n).settle.settleStep)

/-- NO_CURRENT (R208). 200 µs after the start of a phase targeting 200 mA or more the current is still below 100 mA,
and NO_CURRENT is flagged. -/
def execNoCurrent (t : Nat) (n : Fin 12) (k : Fin 4) (s : State) : Host.Outcome State Fault Refusal :=
  .next (((s.atBank t n).noCurrent n k).settle.settleStep)

/-- PEAK_TO (R208). The channel current stays above 6.5 A for 2.00 ms; the channel switches off through FAST and its
event ends FAULT. -/
def execPeakTo (t : Nat) (n : Fin 12) (k : Fin 4) (s : State) : Host.Outcome State Fault Refusal :=
  .next (((s.atBank t n).peakTo n k).settle.settleStep)

/-- BANK_OVL (R208). The 100 ms mean bank current exceeds 8.0 A; every channel ends through its phase's mode and its
event ends FAULT. -/
def execBankOvl (t : Nat) (n : Fin 12) (s : State) : Host.Outcome State Fault Refusal :=
  .next (((s.atBank t n).bankOvl n).settle.settleStep)

/-- REGEN_OVF (R188). A reservoir reaches 68 V during REGEN; the currents in REGEN pass to their clamps and REGEN_OVF
is flagged. -/
def execRegenOvf (t : Nat) (b : Fin 6) (s : State) : Host.Outcome State Fault Refusal :=
  .next ((s.advance t).regenOvf b)

/-- RESERVOIR_MEASURE (R204). Every 100 µs the reservoir voltage is measured, BOOST_STAT is posted and READY updates.
-/
def execReservoirMeasure (t : Nat) (b : Fin 6) (v : Nat) (s : State) : Host.Outcome State Fault Refusal :=
  .next ((s.advance t).reservoirMeasure b v)

/-- CURRENT_SAMPLE (R219). Every 100 ns the bank samples each channel current; TGT sets, hysteretic regulation
switches, a ramp advances, T_LIM applies and a running dip watch may set DIP and report MOT_T. -/
def execCurrentSample (t : Nat) (n : Fin 12) (i0 : Nat) (i1 : Nat) (i2 : Nat) (i3 : Nat) (hs : Nat) (s : State) : Host.Outcome State Fault Refusal :=
  .next (((s.atBank t n).currentSample n i0 i1 i2 i3 hs).settle.settleStep)

/-- WINDOW_EXPIRY (R198). WIN_US after a bank window opened, the window closes and events held at gate 4 may pass. -/
def execWindowExpiry (t : Nat) (n : Fin 12) (s : State) : Host.Outcome State Fault Refusal :=
  .next (((s.atBank t n).windowExpiry n).settle.settleStep)

end Sys2Proof.Machine
end

