-- ==== Sys2Proof/Machine/ExecCanopy.lean ====
section
/-!
DEFINITION. The commands of the frames, requests and expiries of Canopy (spec/02_canopy_sessions_and_registers.md):
each takes the module to its instant and does there what its rule says.
-/
namespace Sys2Proof.Machine

/-- OPEN_REQ (R49). An OPEN_REQ frame arrives; the module allocates the lowest free session number, negotiates
version and lease, and answers OPEN_CHAL or REFUSE. -/
def execOpenReq (t : Nat) (v : Via) (frame : List Byte) (s : State) : Host.Outcome State Fault Refusal :=
  .next ((s.advance t).frameRow v frame)

/-- OPEN_WAIT_EXPIRY (R49). The 1 s wait for OPEN_PROOF on a reserved session number runs out and the number is
freed. -/
def execOpenWaitExpiry (t : Nat) (i : Fin 8) (s : State) : Host.Outcome State Fault Refusal :=
  .next ((s.advance t).openWaitExpiry i)

/-- OPEN_PROOF (R49). An OPEN_PROOF frame arrives; the module checks PROOF, binds the session to its transport, and
answers OPEN_ACCEPT or REFUSE. -/
def execOpenProof (t : Nat) (v : Via) (frame : List Byte) (s : State) : Host.Outcome State Fault Refusal :=
  .next ((s.advance t).frameRow v frame)

/-- REQUEST (R71). An authenticated request frame arrives; the module renews the lease and applies the replay window:
it accepts and queues the request, answers STALE or BUSY, discards it, or resends the cached response with DUP. -/
def execRequest (t : Nat) (v : Via) (frame : List Byte) (s : State) : Host.Outcome State Fault Refusal :=
  .next ((s.advance t).frameRow v frame)

/-- REQUEST_EXECUTE (R68). The Canopy engine takes the next accepted request, checks the body and response size,
executes its operations atomically or in order, applies the epoch, caches the response and sends it. -/
def execRequestExecute (t : Nat) (s : State) : Host.Outcome State Fault Refusal :=
  .next ((s.advance t).requestRow)

/-- CLOSE (R56). A CLOSE frame is answered with CLOSE_ACK; every claim of the session is released and its session
number is freed. -/
def execClose (t : Nat) (v : Via) (frame : List Byte) (s : State) : Host.Outcome State Fault Refusal :=
  .next ((s.advance t).frameRow v frame)

/-- BEACON (R54). Every 100 ms the module sends each open session a status beacon to its latest source address or
into the SPI out queue. -/
def execBeacon (t : Nat) (i : Fin 8) (s : State) : Host.Outcome State Fault Refusal :=
  .next ((s.advance t).beaconRow i)

/-- LEASE_EXPIRY (R53). A session's lease passes without renewal, and the session ends. -/
def execLeaseExpiry (t : Nat) (i : Fin 8) (s : State) : Host.Outcome State Fault Refusal :=
  .next ((s.advance t).leaseRow i)

end Sys2Proof.Machine
end

