-- ==== Sys2Proof/Machine/ExecClocks.lean ====
section
/-!
DEFINITION. The commands of the clocks (spec/16_clocks.md): each takes the module to its instant and does there what
its rule says.
-/
namespace Sys2Proof.Machine

/-- XREF_WINDOW (R414). A 1 ms sentinel window ends; the judge posts XREF_MEAS COUNT and advances or restarts the run
of eight agreeing windows. -/
def execXrefWindow (t : Nat) (count : Nat) (absent : Bool) (s : State) : Host.Outcome State Fault Refusal :=
  .next ((s.advance t).xrefWindowRow count absent)

/-- ROOT_LOCK (R415). The PLL lock detector has shown lock for 200 µs without a break, and the root is locked. -/
def execRootLock (t : Nat) (s : State) : Host.Outcome State Fault Refusal :=
  .next ((s.advance t).rootLock)

/-- PLL_RETRY (R415). The root is not locked 2 ms after the PLL was enabled; the PLL is reset and retried after 10
ms. -/
def execPllRetry (t : Nat) (s : State) : Host.Outcome State Fault Refusal :=
  .next ((s.advance t).pllRetry)

/-- CLOCK_FAULT (R422). XREF_LOST or LOCK_LOST is detected; the SAFE net is asserted, the PLL output is gated, the
sentinel counts the duration and the module enters SAFE_HOLD. -/
def execClockFault (t : Nat) (cause : Nat) (s : State) : Host.Outcome State Fault Refusal :=
  .next ((s.advance t).faultRow cause)

/-- MUX_FORCED_RELEASE (R419). A clock multiplexer whose handshake cannot complete is forced to the new source after
64 cycles of the releasing clock, and MUX_FORCED is flagged. -/
def execMuxForcedRelease (t : Nat) (island : Bool) (s : State) : Host.Outcome State Fault Refusal :=
  .next ((s.advance t).muxRow island)

/-- CLOCK_FAULT_END (R424). XREF is stable and the root relocked; the PLL output is ungated, the core returns to the
root, CLOCK clears and the fault record is posted. -/
def execClockFaultEnd (t : Nat) (dur : Nat) (ovf : Nat) (s : State) : Host.Outcome State Fault Refusal :=
  .next ((s.advance t).clockFaultEnd dur ovf)

/-- TCXO_WINDOW (R417). A 100 ms window of TCXO edges against XREF ends; TCXO_MEAS posts DEV and TCXO_OK sets or
clears. -/
def execTcxoWindow (t : Nat) (count : Nat) (s : State) : Host.Outcome State Fault Refusal :=
  .next ((s.advance t).tcxoWindowRow count)

/-- TCXO_STOP (R417). The TCXO's clockless stop monitor sees no edge for 1.0 µs and TCXO_OK clears. -/
def execTcxoStop (t : Nat) (s : State) : Host.Outcome State Fault Refusal :=
  .next ((s.advance t).tcxoStopRow)

/-- SENTINEL_STOP (R425). The clockless monitor sees no sentinel edge for 1.0 µs and asserts the SAFE net, holds the
life outputs low and holds every domain in reset. -/
def execSentinelStop (t : Nat) (s : State) : Host.Outcome State Fault Refusal :=
  .next ((s.advance t).sentinelStop)

/-- SENTINEL_RESTART (R425). The sentinel has run again for 1 ms and the module restarts at 2 ms of BOOT with cause
POWER_ON, latching the straps. -/
def execSentinelRestart (t : Nat) (st : Straps) (s : State) : Host.Outcome State Fault Refusal :=
  .next ((s.advance t).sentinelRestart st)

/-- FCNT_DONE (R427). The counter gate closes and the result crosses by handshake with STATE DONE. -/
def execFcntDone (t : Nat) (count : Nat) (s : State) : Host.Outcome State Fault Refusal :=
  .next ((s.advance t).fcntDone count)

/-- FCNT_NOREF (R427). The gate has not closed 100 ms after START, and the measurement ends NOREF. -/
def execFcntNoref (t : Nat) (s : State) : Host.Outcome State Fault Refusal :=
  .next ((s.advance t).fcntNoref)

end Sys2Proof.Machine
end

