-- ==== Sys2Proof/Machine/ExecDigital.lean ====
section
/-!
DEFINITION. The commands of the isolated digital inputs and outputs (spec/12_digital_io.md): each takes the module to
its instant and does there what its rule says.
-/
namespace Sys2Proof.Machine

/-- DI_ACCEPT (R329). A channel's debounce completes and its accepted level changes; DI_LEVEL, the edge ring and the
counter update. -/
def execDiAccept (t : Nat) (g : Fin 8) (k : Fin 8) (level : Bool) (seen : Nat) (s : State) : Host.Outcome State Fault Refusal :=
  .next ((s.advance t).diAccept g k level seen)

/-- DI_PULSE_WINDOW (R326). At each PERIOD instant the group's pulsed inputs take one sampling window and latch their
levels. -/
def execDiPulseWindow (t : Nat) (g : Fin 8) (levels : Nat) (s : State) : Host.Outcome State Fault Refusal :=
  .next ((s.advance t).diPulseWindow g levels)

/-- DI_GATE_END (R334). At each FGATE instant a counting channel computes FREQ and STOP and posts its result span. -/
def execDiGateEnd (t : Nat) (g : Fin 8) (c : Fin 2) (s : State) : Host.Outcome State Fault Refusal :=
  .next ((s.advance t).diGateEnd g c)

/-- DIO_CMD_FRAME (R323). Every 100 µs the logic side sends a CMD frame to each field group. -/
def execDioCmdFrame (t : Nat) (s : State) : Host.Outcome State Fault Refusal :=
  .next ((s.advance t).dioCmdFrame)

/-- FIELD_CMD_FRAME (R324). A field side receives a valid CMD frame, restarts its safe-state timer and ends SILENT.
-/
def execFieldCmdFrame (t : Nat) (g : Fin 12) (good : Bool) (loads : List Nat) (s : State) : Host.Outcome State Fault Refusal :=
  .next ((s.advance t).fieldCmdFrame g good loads)

/-- STATUS_FRAME (R323). The logic side receives a valid STATUS frame and updates the group's flags, restoring
LINK_OK. -/
def execStatusFrame (t : Nat) (g : Fin 12) (good : Bool) (limits : Nat) (s : State) : Host.Outcome State Fault Refusal :=
  .next ((s.advance t).statusFrame g good limits)

/-- STATUS_TIMEOUT (R323). No valid STATUS frame arrives for 1 ms; LINK_LOST sets and the group's inputs become
invalid. -/
def execStatusTimeout (t : Nat) (g : Fin 12) (s : State) : Host.Outcome State Fault Refusal :=
  .next ((s.advance t).statusTimeout g)

/-- SILENCE (R324). SIL_MS passes without a valid CMD frame; the field group goes SILENT and its outputs take their
safe states. -/
def execSilence (t : Nat) (g : Fin 12) (s : State) : Host.Outcome State Fault Refusal :=
  .next ((s.advance t).silence g)

/-- RC_STOP (R324). The clockless monitor sees the group RC stop and forces every output of the group off. -/
def execRcStop (t : Nat) (g : Fin 12) (s : State) : Host.Outcome State Fault Refusal :=
  .next ((s.advance t).rcStopped g)

/-- DO_OVERLOAD (R340). An output's current limit acts for 10 ms; the output switches off and OVERLOAD latches. -/
def execDoOverload (t : Nat) (i : Fin 32) (s : State) : Host.Outcome State Fault Refusal :=
  .next ((s.advance t).doOverload i)

/-- DO_RETRY (R340). With RETRY = 1, every 1 s an overloaded output commanded on switches on again. -/
def execDoRetry (t : Nat) (i : Fin 32) (s : State) : Host.Outcome State Fault Refusal :=
  .next ((s.advance t).doRetry i)

/-- DO_OT (R340). An output junction exceeds 160 °C; the output switches off and OT sets. -/
def execDoOt (t : Nat) (i : Fin 32) (s : State) : Host.Outcome State Fault Refusal :=
  .next ((s.advance t).doOt i)

/-- DO_OT_CLEAR (R340). The junction has cooled by 15 °C; OT clears and the output resumes its level. -/
def execDoOtClear (t : Nat) (i : Fin 32) (s : State) : Host.Outcome State Fault Refusal :=
  .next ((s.advance t).doOtClear i)

/-- DO_READBACK_FLAG (R341). A readback condition persists for its time and SHORT_SUP, RB_FAIL or OPEN sets. -/
def execDoReadbackFlag (t : Nat) (i : Fin 32) (which : Nat) (s : State) : Host.Outcome State Fault Refusal :=
  .next ((s.advance t).doReadbackFlag i which)

/-- DO_READBACK_CLEAR (R341). A readback flag's clearing condition persists for its time and the flag clears. -/
def execDoReadbackClear (t : Nat) (i : Fin 32) (which : Nat) (s : State) : Host.Outcome State Fault Refusal :=
  .next ((s.advance t).doReadbackClear i which)

/-- MIRROR_EVAL (R339). At each whole millisecond a mirrored output re-evaluates its source value. -/
def execMirrorEval (t : Nat) (i : Fin 32) (s : State) : Host.Outcome State Fault Refusal :=
  .next ((s.advance t).mirrorEval i)

/-- DO_PERIOD_END (R338). A FREQ or PWM period ends and a new output value takes effect. -/
def execDoPeriodEnd (t : Nat) (i : Fin 32) (load : Nat) (s : State) : Host.Outcome State Fault Refusal :=
  .next ((s.advance t).lit ((s.advance t).doPeriodEnd i load))

/-- VFD_UNDERVOLT (R343). A field supply stays below 18.0 V or 15.0 V for 1 ms; UV18 or UV15 sets, with its input or
output consequences. -/
def execVfdUndervolt (t : Nat) (g : Fin 12) (which : Nat) (s : State) : Host.Outcome State Fault Refusal :=
  .next ((s.advance t).vfdUndervolt g which)

/-- VFD_RECOVER (R343). A field supply has stayed at 15.5 V or more for 100 ms and the outputs return to their level.
-/
def execVfdRecover (t : Nat) (g : Fin 12) (s : State) : Host.Outcome State Fault Refusal :=
  .next ((s.advance t).vfdRecover g)

/-- VFD_UV_CLEAR (R343). A field supply rises back above 18.5 V or 15.5 V through the 1 ms filter, UV18 or UV15
clears, and the group's inputs become valid again. -/
def execVfdUvClear (t : Nat) (g : Fin 12) (which : Nat) (s : State) : Host.Outcome State Fault Refusal :=
  .next ((s.advance t).vfdUvClear g which)

end Sys2Proof.Machine
end

