-- ==== Sys2Proof/Machine/ExecGnss.lean ====
section
/-!
DEFINITION. The commands of the GNSS receiver (spec/14_gnss_receiver.md): each takes the module to its instant and
does there what its rule says.
-/
namespace Sys2Proof.Machine

/-- GNSS_EPOCH (R356). A GNSS epoch pulse arrives and OFS_GNSS is formed. -/
def execGnssEpoch (t : Nat) (ref : Nat) (sec : Nat) (qerr : Int) (s : State) : Host.Outcome State Fault Refusal :=
  .next ((s.advance t).gnssEpoch ref sec qerr)

/-- ACQ_PASS_START (R374). An acquisition pass starts with its 40 ms capture when candidates and a free channel
remain. -/
def execAcqPassStart (t : Nat) (visible : List (Sat × Int)) (s : State) : Host.Outcome State Fault Refusal :=
  .next ((s.advance t).acqStart visible)

/-- ACQ_CAPTURE_DONE (R373). The 40 ms capture completes and the transform work of the pass is queued. -/
def execAcqCaptureDone (t : Nat) (stamp : Nat) (s : State) : Host.Outcome State Fault Refusal :=
  .next ((s.advance t).acqCaptured stamp)

/-- ACQ_PASS_END (R374). The pass ends, hands detected satellites to channels, flags ACQ_DONE and posts ACQ_STAT. -/
def execAcqPassEnd (t : Nat) (smp : Nat) (found : List AcqBin) (s : State) : Host.Outcome State Fault Refusal :=
  .next ((s.advance t).acqEnd smp found)

/-- ACQ_CONFIRM_TIMEOUT (R376). A handed-over satellite does not reach FLL within 1 s and returns to the candidate
list. -/
def execAcqConfirmTimeout (t : Nat) (c : Fin 64) (s : State) : Host.Outcome State Fault Refusal :=
  .next ((s.advance t).acqTimeout c)

/-- CHANNEL_LOSS (R379). A channel's C/N0 stays below LOSS_CN0 for 1 s and it returns to IDLE. -/
def execChannelLoss (t : Nat) (c : Fin 64) (cn0 : Nat) (s : State) : Host.Outcome State Fault Refusal :=
  .next ((s.advance t).channelLoss c cn0)

/-- NAV_DECODE (R380). The last bit of a subframe or page arrives; it is decoded into the store and entered in the
NAV ring if enabled. -/
def execNavDecode (t : Nat) (c : Fin 64) (raw : List Bool) (ago : Nat) (s : State) : Host.Outcome State Fault Refusal :=
  .next ((s.advance t).navDecode c raw ago)

/-- GNSS_SOLUTION (R382). Once per GNSS second the timing solution is computed, checked and posted, with SUSPECT and
survey updates. -/
def execGnssSolution (t : Nat) (ms : List GnssMeas) (fx : GnssFix) (s : State) : Host.Outcome State Fault Refusal :=
  .next ((s.advance t).gnssSolution ms fx)

/-- ANT_SHORT (R369). The antenna current limit acts for 10 ms and the supply switches off. -/
def execAntShort (t : Nat) (s : State) : Host.Outcome State Fault Refusal :=
  .next ((s.advance t).antShort)

/-- ANT_RETRY (R369). Every 5 s the shorted antenna supply is retried and clears when it runs 10 ms without limit. -/
def execAntRetry (t : Nat) (limits : Bool) (s : State) : Host.Outcome State Fault Refusal :=
  .next ((s.advance t).antRetry limits)

/-- ANT_OPEN (R369). The antenna current stays below 2.0 mA for 1 s and OPEN is reported, or clears after 1 s at 3.0
mA. -/
def execAntOpen (t : Nat) (i : Nat) (s : State) : Host.Outcome State Fault Refusal :=
  .next ((s.advance t).antOpen i)

/-- CHANNEL_LOCK (R378). A GNSS channel advances through FLL, PLL, BIT_SYNC, FRAME_SYNC and READY as its loops lock
and it aligns to bits and frames, which also confirms a handed-over satellite. -/
def execChannelLock (t : Nat) (c : Fin 64) (s : State) : Host.Outcome State Fault Refusal :=
  .next ((s.advance t).channelLock c)

end Sys2Proof.Machine
end

