-- ==== Sys2Proof/Machine/ExecLink.lean ====
section
/-!
DEFINITION. The commands of the SPI host port and the network side (spec/02_canopy_sessions_and_registers.md): each
takes the module to its instant and does there what its rule says.
-/
namespace Sys2Proof.Machine

/-- WRITE_FRAME (R40). An SPI WRITE_FRAME transfer is judged when SPI_CS_N rises; it is accepted only with the right
length, a good CRC and room in the in queue. -/
def execWriteFrame (t : Nat) (bytes : List Byte) (full : Bool) (s : State) : Host.Outcome State Fault Refusal :=
  .next ((s.advance t).writeRow bytes full)

/-- READ_FRAME (R37). An SPI READ_FRAME command shifts out the head frame of the out queue with its length and CRC.
-/
def execReadFrame (t : Nat) (full : Bool) (s : State) : Host.Outcome State Fault Refusal :=
  .next ((s.advance t).readFrameRow full)

/-- READ_NEXT (R37). An SPI READ_NEXT command discards the head frame and shifts out the new head. -/
def execReadNext (t : Nat) (full : Bool) (s : State) : Host.Outcome State Fault Refusal :=
  .next ((s.advance t).readNextRow full)

/-- READ_STATUS (R37). An SPI READ_STATUS command returns only SPI_STATUS. -/
def execReadStatus (t : Nat) (full : Bool) (s : State) : Host.Outcome State Fault Refusal :=
  .next ((s.advance t).readStatus full)

/-- SPI_UNKNOWN_COMMAND (R37). An SPI transfer whose command byte is not defined is ignored and answered with 0x00.
-/
def execSpiUnknownCommand (t : Nat) (n : Nat) (full : Bool) (s : State) : Host.Outcome State Fault Refusal :=
  .next ((s.advance t).spiUnknown n full)

/-- ARP_REQUEST (R34). The module answers an ARP request. -/
def execArpRequest (t : Nat) (p : Fin 2) (mac : BitVec 48) (ip : Word) (target : Word) (s : State) : Host.Outcome State Fault Refusal :=
  .next ((s.advance t).arpRequest p mac ip target)

/-- ICMP_ECHO (R34). The module answers an ICMP echo request. -/
def execIcmpEcho (t : Nat) (p : Fin 2) (ip : Word) (target : Word) (fragment : Bool) (rest : List Byte) (s : State) : Host.Outcome State Fault Refusal :=
  .next ((s.advance t).icmpEcho p ip target fragment rest)

/-- DHCP_MESSAGE (R34). A DHCP message reaches the module's DHCP client, which obtains or loses its lease. -/
def execDhcpMessage (t : Nat) (p : Fin 2) (msg : DhcpMsg) (s : State) : Host.Outcome State Fault Refusal :=
  .next ((s.advance t).dhcpMessage p msg)

/-- ADDR_CHANGE (R80). A change of the address in use takes effect after the response of the request that caused it
has been sent; open UDP sessions stay open. -/
def execAddrChange (t : Nat) (s : State) : Host.Outcome State Fault Refusal :=
  .next ((s.advance t).addrChange)

/-- PORT_LINK_CHANGE (R354). The link of P1 or P2 goes up or down, which updates PORT_STAT, flags P1_DOWN or P2_DOWN,
and can lose the PTP source. -/
def execPortLinkChange (t : Nat) (p : Fin 2) (up : Bool) (fdx : Bool) (s : State) : Host.Outcome State Fault Refusal :=
  .next ((s.advance t).portLinkChange p up fdx)

end Sys2Proof.Machine
end

