-- ==== Sys2Proof/Machine/ExecLoops.lean ====
section
/-!
DEFINITION. The commands of the loop engine (spec/09_loop_engine.md, spec/10_loop_supervision_and_tuning.md): each
takes the module to its instant and does there what its rule says.
-/
namespace Sys2Proof.Machine

/-- LOOP_SAMPLE (R239). The engine runs a loop sample: it latches and judges inputs, swaps sets, computes the law,
decides the state, writes the output or issues an event, and posts the result. -/
def execLoopSample (t : Nat) (l : Fin 256) (s : State) : Host.Outcome State Fault Refusal :=
  .next ((s.advance t).loopSample l)

/-- LOOP_SKIP (R260). A boundary of an enabled loop passes while the engine is not running; it is counted in SKIP_CNT
and SAMPLE_CNT advances. -/
def execLoopSkip (t : Nat) (l : Fin 256) (s : State) : Host.Outcome State Fault Refusal :=
  .next ((s.advance t).loopSkip l)

end Sys2Proof.Machine
end

