-- ==== Sys2Proof/Machine/ExecMicrocode.lean ====
section
/-!
DEFINITION. The commands of the microcode of the bank sequencers (spec/08_actuator_microcode.md): each takes the
module to its instant and does there what its rule says.
-/
namespace Sys2Proof.Machine

/-- BST (R221). The BST instruction requests a BOOST grant and starts the phase at the slot boundary, or continues at
RADDR on refusal. -/
def execBst (t : Nat) (n : Fin 12) (k : Fin 4) (s : State) : Host.Outcome State Fault Refusal :=
  .next (((s.atBank t n).issueGrant n k .bst .boost).settle.settleStep)

/-- PK (R221). The PK instruction requests a PEAK grant from VFA and starts the phase, or continues at RADDR on
refusal. -/
def execPk (t : Nat) (n : Fin 12) (k : Fin 4) (s : State) : Host.Outcome State Fault Refusal :=
  .next (((s.atBank t n).issueGrant n k .pk .peak).settle.settleStep)

/-- HLD (R221). The HLD instruction starts a HOLD phase from VFA with no grant and closes the window if WIN_CLOSE =
1. -/
def execHld (t : Nat) (n : Fin 12) (k : Fin 4) (s : State) : Host.Outcome State Fault Refusal :=
  .next (((s.atBank t n).issueHold n k).settle.settleStep)

/-- OFF (R221). The OFF instruction switches the channel off through OFFM and waits until the current is below 50 mA.
-/
def execOff (t : Nat) (n : Fin 12) (k : Fin 4) (s : State) : Host.Outcome State Fault Refusal :=
  .next (((s.atBank t n).issueOff n k).settle.settleStep)

/-- END (R221). The END instruction ends the profile; the event ends DONE when the switch-off ends. -/
def execEndProfile (t : Nat) (n : Fin 12) (k : Fin 4) (s : State) : Host.Outcome State Fault Refusal :=
  .next (((s.atBank t n).issueEnd n k).settle.settleStep)

/-- BAND (R221). The BAND instruction sets the regulation band and the minimum on and off intervals. -/
def execBand (t : Nat) (n : Fin 12) (k : Fin 4) (s : State) : Host.Outcome State Fault Refusal :=
  .next (((s.atBank t n).issueBand n k).settle.settleStep)

/-- RAMP (R225). The RAMP instruction moves ITGT linearly to a new value over TR. -/
def execRamp (t : Nat) (n : Fin 12) (k : Fin 4) (s : State) : Host.Outcome State Fault Refusal :=
  .next (((s.atBank t n).issueRamp n k).settle.settleStep)

/-- DIPW (R227). The DIPW instruction starts or stops a dip watch. -/
def execDipw (t : Nat) (n : Fin 12) (k : Fin 4) (s : State) : Host.Outcome State Fault Refusal :=
  .next (((s.atBank t n).issueDipw n k).settle.settleStep)

/-- WT (R221). The WT instruction waits a fixed time. -/
def execWt (t : Nat) (n : Fin 12) (k : Fin 4) (s : State) : Host.Outcome State Fault Refusal :=
  .next (((s.atBank t n).issueWt n k).settle.settleStep)

/-- WTR (R221). The WTR instruction waits for the time held in a value. -/
def execWtr (t : Nat) (n : Fin 12) (k : Fin 4) (s : State) : Host.Outcome State Fault Refusal :=
  .next (((s.atBank t n).issueWtr n k).settle.settleStep)

/-- WI (R221). The WI instruction waits until the current crosses a threshold. -/
def execWi (t : Nat) (n : Fin 12) (k : Fin 4) (s : State) : Host.Outcome State Fault Refusal :=
  .next (((s.atBank t n).issueWi n k).settle.settleStep)

/-- WP (R221). The WP instruction waits until TPH reaches a value. -/
def execWp (t : Nat) (n : Fin 12) (k : Fin 4) (s : State) : Host.Outcome State Fault Refusal :=
  .next (((s.atBank t n).issueWp n k).settle.settleStep)

/-- WD (R221). The WD instruction waits until DIP = 1. -/
def execWd (t : Nat) (n : Fin 12) (k : Fin 4) (s : State) : Host.Outcome State Fault Refusal :=
  .next (((s.atBank t n).issueWd n k).settle.settleStep)

/-- UC_WAIT_END (R219). The condition of a waiting instruction is met and the next instruction issues at the
context's next issue slot. -/
def execUcWaitEnd (t : Nat) (n : Fin 12) (k : Fin 4) (s : State) : Host.Outcome State Fault Refusal :=
  .next (((s.atBank t n).ucWaitEnd n k).settle.settleStep)

/-- ARM (R228). The ARM instruction starts, replaces or stops the context's timeout timer. -/
def execArm (t : Nat) (n : Fin 12) (k : Fin 4) (s : State) : Host.Outcome State Fault Refusal :=
  .next (((s.atBank t n).issueArm n k).settle.settleStep)

/-- ARM_EXPIRY (R228). The ARM timer runs out and the context continues at the ARM's address. -/
def execArmExpiry (t : Nat) (n : Fin 12) (k : Fin 4) (s : State) : Host.Outcome State Fault Refusal :=
  .next (((s.atBank t n).armExpiry n k).settle.settleStep)

/-- JMP (R221). The JMP instruction sets PC. -/
def execJmp (t : Nat) (n : Fin 12) (k : Fin 4) (s : State) : Host.Outcome State Fault Refusal :=
  .next (((s.atBank t n).issueJmp n k).settle.settleStep)

/-- BC (R221). The BC instruction branches on REFUSED, REF_WIN, DIP or TGT. -/
def execBc (t : Nat) (n : Fin 12) (k : Fin 4) (s : State) : Host.Outcome State Fault Refusal :=
  .next (((s.atBank t n).issueBc n k).settle.settleStep)

/-- BI (R221). The BI instruction branches on the current against a threshold. -/
def execBi (t : Nat) (n : Fin 12) (k : Fin 4) (s : State) : Host.Outcome State Fault Refusal :=
  .next (((s.atBank t n).issueBi n k).settle.settleStep)

/-- BTM (R221). The BTM instruction branches on TPH or TEV against a value. -/
def execBtm (t : Nat) (n : Fin 12) (k : Fin 4) (s : State) : Host.Outcome State Fault Refusal :=
  .next (((s.atBank t n).issueBtm n k).settle.settleStep)

/-- BCMP (R221). The BCMP instruction branches on a comparison of two values. -/
def execBcmp (t : Nat) (n : Fin 12) (k : Fin 4) (s : State) : Host.Outcome State Fault Refusal :=
  .next (((s.atBank t n).issueBcmp n k).settle.settleStep)

/-- DJNZ (R221). The DJNZ instruction decrements a value and branches while it is not zero. -/
def execDjnz (t : Nat) (n : Fin 12) (k : Fin 4) (s : State) : Host.Outcome State Fault Refusal :=
  .next (((s.atBank t n).issueDjnz n k).settle.settleStep)

/-- LDI (R221). The LDI instruction loads an immediate into a value. -/
def execLdi (t : Nat) (n : Fin 12) (k : Fin 4) (s : State) : Host.Outcome State Fault Refusal :=
  .next (((s.atBank t n).issueLdi n k).settle.settleStep)

/-- LDP (R221). The LDP instruction loads PARAM into a value. -/
def execLdp (t : Nat) (n : Fin 12) (k : Fin 4) (s : State) : Host.Outcome State Fault Refusal :=
  .next (((s.atBank t n).issueLdp n k).settle.settleStep)

/-- LDS (R221). The LDS instruction loads the current, a timer, MOT_T or the reservoir voltage into a value. -/
def execLds (t : Nat) (n : Fin 12) (k : Fin 4) (s : State) : Host.Outcome State Fault Refusal :=
  .next (((s.atBank t n).issueLds n k).settle.settleStep)

/-- ALU (R222). The ALU instruction computes a saturating arithmetic or shift function into a value. -/
def execAlu (t : Nat) (n : Fin 12) (k : Fin 4) (s : State) : Host.Outcome State Fault Refusal :=
  .next (((s.atBank t n).issueAlu n k).settle.settleStep)

/-- MARK (R233). The MARK instruction records a code in CTX_MARKk, flags MARK and may log code 0x0111. -/
def execMark (t : Nat) (n : Fin 12) (k : Fin 4) (s : State) : Host.Outcome State Fault Refusal :=
  .next (((s.atBank t n).issueMark n k).settle.settleStep)

/-- NOP (R221). The NOP instruction does nothing. -/
def execNop (t : Nat) (n : Fin 12) (k : Fin 4) (s : State) : Host.Outcome State Fault Refusal :=
  .next (((s.atBank t n).issueNop n k).settle.settleStep)

end Sys2Proof.Machine
end

