-- ==== Sys2Proof/Machine/ExecModes.lean ====
section
/-!
DEFINITION. The commands of start-up, reset, self-test, firmware, sag clearing and wear
(spec/03_modes_startup_and_loss.md): each takes the module to its instant and does there what its rule says.
-/
namespace Sys2Proof.Machine

/-- SELFTEST_DONE (R83). The extended self-test ends, updates wear indicators 0 and 1, posts SELFTEST_RES and flags
SELFTEST_DONE. -/
def execSelftestDone (t : Nat) (fail : Nat) (c : Nat) (boost : Vector (Nat × Nat) 6) (s : State) : Host.Outcome State Fault Refusal :=
  .next ((s.advance t).selftestDone fail c boost)

/-- FW_ERASE_DONE (R99). The erase of the inactive bank completes and UPD_STATE becomes READY. -/
def execFwEraseDone (t : Nat) (sector : Nat) (n : Nat) (s : State) : Host.Outcome State Fault Refusal :=
  .next ((s.advance t).lit ((s.advance t).fwEraseDone sector n))

/-- FW_PROGRAM_DONE (R99). A block program completes and UPD_STATE becomes READY, or FAILED on a flash write error.
-/
def execFwProgramDone (t : Nat) (ok : Bool) (s : State) : Host.Outcome State Fault Refusal :=
  .next ((s.advance t).fwProgramDone ok)

/-- FW_VERIFY_DONE (R99). Verification completes with UPD_STATE VERIFIED or FAILED. -/
def execFwVerifyDone (t : Nat) (ok : Bool) (version : Word) (err : Nat) (s : State) : Host.Outcome State Fault Refusal :=
  .next ((s.advance t).fwVerifyDone ok version err)

/-- POWER_ON (R87). VL rises to the start threshold; AON resets, the SAFE net is asserted and BOOT begins. -/
def execPowerOn (t : Nat) (s : State) : Host.Outcome State Fault Refusal :=
  .next ((s.advance t).powerOn)

/-- VL_BELOW_OFF (R81). VL falls below 12.0 V and the module goes to OFF. -/
def execVlBelowOff (t : Nat) (s : State) : Host.Outcome State Fault Refusal :=
  .next ((s.advance t).vlBelowOff)

/-- AON_RESET_END (R87). The AON reset ends; the sentinel and the supervisor start, the straps latch and the critical
comparators arm. -/
def execAonResetEnd (t : Nat) (st : Straps) (s : State) : Host.Outcome State Fault Refusal :=
  .next ((s.advance t).aonResetEnd st)

/-- CORE_RESET_END (R90). The 1.0 ms reset of a watchdog, command 15 or activation reset ends and the management core
leaves reset. -/
def execCoreResetEnd (t : Nat) (s : State) : Host.Outcome State Fault Refusal :=
  .next ((s.advance t).coreResetEnd)

/-- SRAM_TEST_DONE (R87). The SRAM march test completes; an uncorrectable word stops the boot with FLT flashing. -/
def execSramTestDone (t : Nat) (ok : Bool) (s : State) : Host.Outcome State Fault Refusal :=
  .next ((s.advance t).sramTestDone ok)

/-- IMAGE_AUTH_DONE (R88). Hashing and signature check of the selected bank complete; a failure tries the other bank
once and sets FALLBACK. -/
def execImageAuthDone (t : Nat) (ok : Bool) (s : State) : Host.Outcome State Fault Refusal :=
  .next ((s.advance t).imageAuthDone ok)

/-- BOOT_COMPLETE (R87). The configuration store is restored and DEV_MODE takes its target of STANDBY or SAFE_HOLD.
-/
def execBootComplete (t : Nat) (s : State) : Host.Outcome State Fault Refusal :=
  .next ((s.advance t).bootComplete)

/-- BOOT_STALL (R88). At 100 ms of BOOT XREF is not stable or the root is not locked, and FLT starts flashing. -/
def execBootStall (t : Nat) (s : State) : Host.Outcome State Fault Refusal :=
  .next ((s.advance t).bootStall)

/-- RST_N_ACCEPT (R91). The clockless filter accepts a low on RST_N and asserts the SAFE net. -/
def execRstNAccept (t : Nat) (s : State) : Host.Outcome State Fault Refusal :=
  .next ((s.advance t).rstAcceptRow)

/-- RST_N_RISE (R91). RST_N rises after an accepted low; the straps latch again and the module makes a full reset. -/
def execRstNRise (t : Nat) (st : Straps) (s : State) : Host.Outcome State Fault Refusal :=
  .next ((s.advance t).rstRise st)

/-- HEARTBEAT (R92). The management core writes a heartbeat to the supervisor. -/
def execHeartbeat (t : Nat) (s : State) : Host.Outcome State Fault Refusal :=
  .next ((s.advance t).heartbeat)

/-- WATCHDOG_EXPIRY (R92). 10 ms pass with no heartbeat; the supervisor stops the life wave, asserts the SAFE net,
records the cause and resets every domain except AON. -/
def execWatchdogExpiry (t : Nat) (s : State) : Host.Outcome State Fault Refusal :=
  .next ((s.advance t).watchdogRow)

/-- VL_SAG_CLEAR (R95). VL has stayed at or above 18.0 V for 1 s with the hold-up recharged, and VL_SAG clears from
SAFE_CAUSE. -/
def execVlSagClear (t : Nat) (s : State) : Host.Outcome State Fault Refusal :=
  .next ((s.advance t).vlSagClear)

/-- WEAR_COMMIT (R102). Every 10 min the supervisor commits the wear ledger, together with FREQ_EST and the GNSS
store, to flash. -/
def execWearCommit (t : Nat) (sector : Nat) (n : Nat) (s : State) : Host.Outcome State Fault Refusal :=
  .next ((s.advance t).lit ((s.advance t).wearCommit sector n))

/-- HOLDUP_MEASURE (R102). Every 24 h of operation the hold-up capacitance is measured and wear indicator 0 is
updated. -/
def execHoldupMeasure (t : Nat) (c : Nat) (s : State) : Host.Outcome State Fault Refusal :=
  .next ((s.advance t).lit ((s.advance t).holdupMeasure c))

/-- BOOST_CAP_MEASURE (R102). Every hour, during recharge, each converter's reservoir capacitance and ESR are
measured and wear indicator 1 is updated. -/
def execBoostCapMeasure (t : Nat) (b : Fin 6) (c : Nat) (esr : Nat) (s : State) : Host.Outcome State Fault Refusal :=
  .next ((s.advance t).lit ((s.advance t).boostCapMeasure b c esr))

end Sys2Proof.Machine
end

