-- ==== Sys2Proof/Machine/ExecMoisture.lean ====
section
/-!
DEFINITION. The commands of the moisture cells, MOIST and the transform engine (spec/04_moisture_cell_measurement.md,
spec/05_moisture_computation_and_calibration.md): each takes the module to its instant and does there what its rule
says.
-/
namespace Sys2Proof.Machine

/-- CELL_SLOT_START (R117). At each 20 ms slot start the converter dumps the previous dwell and starts the next
cell's dwell. -/
def execCellSlotStart (t : Nat) (ws : Vector Window 4) (s : State) : Host.Outcome State Fault Refusal :=
  .next ((s.advance t).cellSlotStart ws)

/-- CELL_POST (R117). The admittances of a dwell are computed and both result spans are posted with SEQ and VALID. -/
def execCellPost (t : Nat) (c : Fin 4) (s : State) : Host.Outcome State Fault Refusal :=
  .next ((s.advance t).cellPost c)

/-- RTD_GATE_END (R135). A cell's RTD gate ends and the grain temperature is converted with its fault flags. -/
def execRtdGateEnd (t : Nat) (c : Fin 4) (r : F64) (brk : Bool) (s : State) : Host.Outcome State Fault Refusal :=
  .next ((s.advance t).rtdGateEnd c r brk)

/-- RCAL_DONE (R127). The 12-slot range calibration completes and sets G values, or fails. -/
def execRcalDone (t : Nat) (c : Fin 4) (s : State) : Host.Outcome State Fault Refusal :=
  .next ((s.advance t).rcalDone c)

/-- CAL_MEAS_DONE (R131). A cable-calibration measurement completes and the standard is judged and held pending or
FAILED. -/
def execCalMeasDone (t : Nat) (n : Fin 16) (s : State) : Host.Outcome State Fault Refusal :=
  .next ((s.advance t).calMeasDone n)

/-- SCAN_DONE (R137). The scan transform completes and NOISE is posted. -/
def execScanDone (t : Nat) (n : Fin 16) (s : State) : Host.Outcome State Fault Refusal :=
  .next ((s.advance t).scanDone n)

/-- MOIST_RESULT (R141). MOIST computes a result from a CELL reading and posts it with its flags, average and
density; a running capture takes it. -/
def execMoistResult (t : Nat) (n : Fin 16) (s : State) : Host.Outcome State Fault Refusal :=
  .next ((s.advance t).moistResult n)

/-- SWEEP_SLOT_DONE (R159). A sweep slot completes; an overloaded group is repeated, and after the last group the
sweep results are posted. -/
def execSweepSlotDone (t : Nat) (s : State) : Host.Outcome State Fault Refusal :=
  .next ((s.advance t).sweepSlotDone)

/-- RESIDUAL_DONE (R160). A residual transform completes and its residual and NOISY are posted. -/
def execResidualDone (t : Nat) (n : Fin 16) (s : State) : Host.Outcome State Fault Refusal :=
  .next ((s.advance t).residualDone n)

/-- XFORM_BLOCK_DONE (R25). The transform engine completes a block and switches to queued moisture work or resumes
GNSS acquisition. -/
def execXformBlockDone (t : Nat) (s : State) : Host.Outcome State Fault Refusal :=
  .next ((s.advance t).xformBlockDone)

/-- XFORM_USE_POST (R27). Every 1 s the XFORM use span is posted. -/
def execXformUsePost (t : Nat) (s : State) : Host.Outcome State Fault Refusal :=
  .next ((s.advance t).xformUsePost)

end Sys2Proof.Machine
end

