-- ==== Sys2Proof/Machine/ExecPower.lean ====
section
/-!
DEFINITION. The commands of supplies, domains, the peak arbiter and the energy ledger (spec/15_energy_and_power.md):
each takes the module to its instant and does there what its rule says.
-/
namespace Sys2Proof.Machine

/-- SUPPLY_MEASURE (R389). Every 1 ms the supplies are measured and the supply span is posted; VFA_OVL, VFF_OVL and
VL_OVL are judged. -/
def execSupplyMeasure (t : Nat) (vl : Nat) (il : Nat) (vfa : Nat) (ifa : Nat) (vff : Nat) (iff : Nat) (vr : Nat) (ir : Nat) (s : State) : Host.Outcome State Fault Refusal :=
  .next ((s.advance t).supplyMeasure vl il vfa ifa vff iff vr ir)

/-- VL_LOW (R392). VL falls below 16.0 V and the ledger starts judging the hold-up every 100 µs. -/
def execVlLow (t : Nat) (s : State) : Host.Outcome State Fault Refusal :=
  .next ((s.advance t).vlLow)

/-- VL_LOW_CLEAR (R392). VL returns to 16.5 V or more, VL_LOW clears and the judgement stops. -/
def execVlLowClear (t : Nat) (s : State) : Host.Outcome State Fault Refusal :=
  .next ((s.advance t).vlLowClear)

/-- HOLDUP_JUDGE (R393). A 100 µs hold-up judgement computes E_HU and may make the VL sag decision. -/
def execHoldupJudge (t : Nat) (vl : Nat) (s : State) : Host.Outcome State Fault Refusal :=
  .next ((s.advance t).holdupRow vl)

/-- VL_FALLBACK_DECISION (R394). VL below 17.0 V persists for 50 µs while the ledger cannot judge, and the supervisor
makes the VL sag decision itself. -/
def execVlFallbackDecision (t : Nat) (vl : Nat) (s : State) : Host.Outcome State Fault Refusal :=
  .next ((s.advance t).fallbackRow vl)

/-- VL_SAG_SHED (R393). 0.1 ms after the sag decision the supervisor switches off LOOP, XFORM, GNSS and CELL. -/
def execVlSagShed (t : Nat) (s : State) : Host.Outcome State Fault Refusal :=
  .next ((s.advance t).vlSagShed)

/-- VL_SAG_COMMIT_DONE (R393). The sag sequence finishes committing the recent event-log entries and the wear ledger
to flash. -/
def execVlSagCommitDone (t : Nat) (sector : Nat) (n : Nat) (s : State) : Host.Outcome State Fault Refusal :=
  .next ((s.advance t).lit ((s.advance t).sagCommitDone sector n))

/-- VFA_STAGE_SET (R395). VFA stays below a stage level for 10 µs and stage RCUT, DEFER or SAG sets. -/
def execVfaStageSet (t : Nat) (st : Nat) (s : State) : Host.Outcome State Fault Refusal :=
  .next ((s.advance t).vfaStageSet st)

/-- VFA_STAGE_CLEAR (R395). VFA stays 1.0 V above a stage level for 10 ms and the stage clears. -/
def execVfaStageClear (t : Nat) (st : Nat) (s : State) : Host.Outcome State Fault Refusal :=
  .next ((s.advance t).vfaStageClear st)

/-- VFF_UV (R397). VFF stays below 10.0 V for 1 ms, VFF_UV sets and no fan inrush is granted. -/
def execVffUv (t : Nat) (s : State) : Host.Outcome State Fault Refusal :=
  .next ((s.advance t).vffUndervolt)

/-- VFF_UV_CLEAR (R397). VFF has returned to 10.5 V for 100 ms and VFF_UV clears. -/
def execVffUvClear (t : Nat) (s : State) : Host.Outcome State Fault Refusal :=
  .next ((s.advance t).vffUvClear)

/-- DOMAIN_POWER_UP (R399). A domain whose enable was set finishes powering, and its pages stop returning BUSY. -/
def execDomainPowerUp (t : Nat) (n : Nat) (s : State) : Host.Outcome State Fault Refusal :=
  .next ((s.advance t).domainPowerUp n)

/-- DOMAIN_POWER_OFF (R399). After its last enable clears and its blocks have stopped, a domain is switched off. -/
def execDomainPowerOff (t : Nat) (n : Nat) (s : State) : Host.Outcome State Fault Refusal :=
  .next ((s.advance t).domainPowerOff n)

/-- DOM_FAULT (R400). A domain regulator leaves ±10 % for 10 µs; the domain is switched off and its enables clear, or
the module resets for CORE or LINK. -/
def execDomFault (t : Nat) (n : Nat) (s : State) : Host.Outcome State Fault Refusal :=
  .next ((s.advance t).domFault n)

/-- ARBITER_SLOT (R402). For each 1 µs slot the peak arbiter decides every pending BOOST, PEAK, RECHARGE and INRUSH
request in one pass. -/
def execArbiterSlot (t : Nat) (iVfa : Nat) (iVff : Nat) (s : State) : Host.Outcome State Fault Refusal :=
  .next ((s.advance t).arbiterSlot iVfa iVff)

/-- LEDGER_UPDATE (R405). At each whole millisecond the energy ledger computes the reservoir energies and plans the
queued events against them. -/
def execLedgerUpdate (t : Nat) (s : State) : Host.Outcome State Fault Refusal :=
  .next ((s.advance t).ledgerUpdateRow)

/-- USE_SPAN (R410). Every 1 s the use span posts each supply's mean power and its energy since BOOT. -/
def execUseSpan (t : Nat) (s : State) : Host.Outcome State Fault Refusal :=
  .next ((s.advance t).useSpan)

/-- ENERGY_LIMIT_EXPIRY (R408). 1 s after the last deferral or recharge refusal ENERGY_LIMIT clears. -/
def execEnergyLimitExpiry (t : Nat) (s : State) : Host.Outcome State Fault Refusal :=
  .next ((s.advance t).energyLimitExpiry)

end Sys2Proof.Machine
end

