-- ==== Sys2Proof/Machine/ExecRootline.lean ====
section
/-!
DEFINITION. The commands of the Rootline probe bus (spec/11_rootline_probe_bus.md): each takes the module to its
instant and does there what its rule says.
-/
namespace Sys2Proof.Machine

/-- START_CHECK (R288). 200 ms after switch-on the line must have reached the high level less 2 V; otherwise the
switch opens and START_FAIL is flagged. -/
def execStartCheck (t : Nat) (g : Fin 16) (high : Bool) (s : State) : Host.Outcome State Fault Refusal :=
  .next ((s.advance t).startCheck g high)

/-- PERIOD_BOUNDARY (R296). At each 100 ms Heartwood boundary every running segment sends a prepared SYNC beacon and
starts a READ or command period. -/
def execPeriodBoundary (t : Nat) (prepared : Bool) (vr : Nat) (meas : Vector (Nat × Nat) 16) (s : State) : Host.Outcome State Fault Refusal :=
  .next ((s.advance t).periodBoundary prepared vr meas)

/-- ROUND_START (R299). At a round start instant every RUNNING segment that is not enumerating begins a round with a
SYNC of READ = 0. -/
def execRoundStart (t : Nat) (prepared : Bool) (s : State) : Host.Outcome State Fault Refusal :=
  .next ((s.advance t).roundStart prepared)

/-- SEND_SAMPLE (R299). 1,520 µs into period 0 the segment sends SAMPLE with the new round number; its end is the
round stamp. -/
def execSendSample (t : Nat) (g : Fin 16) (s : State) : Host.Outcome State Fault Refusal :=
  .next ((s.advance t).sendSample g)

/-- ROUND_OVERRUN (R298). A start instant passes during a round and is skipped, flagged and counted. -/
def execRoundOverrun (t : Nat) (s : State) : Host.Outcome State Fault Refusal :=
  .next ((s.advance t).roundOverrun)

/-- READ_SLOT (R300). A slot of a READ period ends and the master judges what it received. -/
def execReadSlot (t : Nat) (g : Fin 16) (rx : List UpBit) (s : State) : Host.Outcome State Fault Refusal :=
  .next ((s.advance t).readSlot g (upJudge rx) (upCurrent rx))

/-- READ_ROUND (R301). After its last slot the master sends READ_ROUND to a missed node and judges the answer. -/
def execReadRound (t : Nat) (g : Fin 16) (rx : List UpBit) (s : State) : Host.Outcome State Fault Refusal :=
  .next ((s.advance t).readRound g (upJudge rx))

/-- ROUND_END (R302). A segment's round ends, and its round span, history, aggregates and directory flags are posted.
-/
def execRoundEnd (t : Nat) (g : Fin 16) (s : State) : Host.Outcome State Fault Refusal :=
  .next ((s.advance t).roundEnd g)

/-- ENUM_EXCHANGE (R303). The master sends one ENUM and judges the answer slot, splitting the prefix on a collision.
-/
def execEnumExchange (t : Nat) (g : Fin 16) (rx : List UpBit) (s : State) : Host.Outcome State Fault Refusal :=
  .next ((s.advance t).enumExchange g (upJudge rx))

/-- ENUM_READ_INFO (R304). The master verifies a found serial with READ_INFO page 0 and quarantines a node of another
major version. -/
def execEnumReadInfo (t : Nat) (g : Fin 16) (rx : List UpBit) (s : State) : Host.Outcome State Fault Refusal :=
  .next ((s.advance t).enumReadInfo g (upJudge rx))

/-- ENUM_ASSIGN (R304). The master sends ASSIGN_SLOT to a verified node and writes its directory entry; the last one
saves the directory and flags ENUM_DONE. -/
def execEnumAssign (t : Nat) (g : Fin 16) (rx : List UpBit) (s : State) : Host.Outcome State Fault Refusal :=
  .next ((s.advance t).enumAssign g (upJudge rx))

/-- ADDRESSED_EXCHANGE (R314). In command space the master sends an addressed command frame, judges the answer slot,
retries, and posts the command result. -/
def execAddressedExchange (t : Nat) (g : Fin 16) (rx : List UpBit) (s : State) : Host.Outcome State Fault Refusal :=
  .next ((s.advance t).addressedExchange g (upJudge rx))

/-- SEG_OVERLOAD (R315). A segment's current limit acts for 10 ms and the segment switches off to FAULT_OFF. -/
def execSegOverload (t : Nat) (g : Fin 16) (s : State) : Host.Outcome State Fault Refusal :=
  .next ((s.advance t).segOverload g)

/-- SEG_SHORT (R315). The segment short trip switches the segment off within 10 µs with no clock. -/
def execSegShort (t : Nat) (g : Fin 16) (s : State) : Host.Outcome State Fault Refusal :=
  .next ((s.advance t).segShort g)

/-- SEG_RESTART (R315). RESTART_S after FAULT_OFF the segment restarts under R288. -/
def execSegRestart (t : Nat) (g : Fin 16) (s : State) : Host.Outcome State Fault Refusal :=
  .next ((s.advance t).segRestart g)

/-- SURGE (R316). A surge drives the segment clamp; SURGE_CNT and wear indicator 6 count it. -/
def execSurge (t : Nat) (g : Fin 16) (s : State) : Host.Outcome State Fault Refusal :=
  .next ((s.advance t).lit ((s.advance t).surge g))

/-- VR_UV (R317). VR stays below 42.0 V for 1 ms and every running or starting segment switches off. -/
def execVrUv (t : Nat) (s : State) : Host.Outcome State Fault Refusal :=
  .next ((s.advance t).vrUv)

/-- VR_RESTORE (R317). VR has stayed at 44.0 V or more for 1 s and enabled segments restart. -/
def execVrRestore (t : Nat) (s : State) : Host.Outcome State Fault Refusal :=
  .next ((s.advance t).vrRestore)

end Sys2Proof.Machine
end

