-- ==== Sys2Proof/Machine/ExecThermal.lean ====
section
/-!
DEFINITION. The commands of the thermal sensors and the fans (spec/17_thermal_and_fans.md): each takes the module to
its instant and does there what its rule says.
-/
namespace Sys2Proof.Machine

/-- THERM_SAMPLE (R432). Every 100 ms each thermal sensor is sampled, posted, judged for a break, and moved between
its throttle stages; ENF_LEVEL and the reductions follow. -/
def execThermSample (t : Nat) (v : Vector Sensed 10) (s : State) : Host.Outcome State Fault Refusal :=
  .next ((s.advance t).lit ((s.advance t).sampleRow v))

/-- GRACE_EXPIRY (R432). GRACE_S passes for a sensor in REQUEST and the sensor enters ENFORCE level 1. -/
def execGraceExpiry (t : Nat) (n : Fin 10) (s : State) : Host.Outcome State Fault Refusal :=
  .next ((s.advance t).graceExpiry n)

/-- CRITICAL_TRIP (R438). A critical comparator trips; the SAFE net and SYS_SHDN_N are asserted, the life wave stops,
and the module enters THERMAL_OFF. -/
def execCriticalTrip (t : Nat) (mask : Nat) (s : State) : Host.Outcome State Fault Refusal :=
  .next ((s.advance t).criticalRow mask)

/-- TACH_STRETCH (R441). Every 500 ms a fan channel stretches an on-interval to see two tach edges and measures its
speed. -/
def execTachStretch (t : Nat) (f : Fin 8) (gap : Option Nat) (len : Nat) (s : State) : Host.Outcome State Fault Refusal :=
  .next ((s.advance t).tachStretch f gap len)

/-- FAN_SPEED_LOOP (R444). Every 100 ms an RPM channel computes its duty from its own speed loop. -/
def execFanSpeedLoop (t : Nat) (f : Fin 8) (iPeak : Nat) (iMean : Nat) (s : State) : Host.Outcome State Fault Refusal :=
  .next ((s.advance t).fanSpeedLoop f iPeak iMean)

/-- FAN_WINDOW (R448). Each 1 s window of a conducting channel is judged for STALL, TACH_LOST or OPEN. -/
def execFanWindow (t : Nat) (f : Fin 8) (i : Nat) (tach : Bool) (s : State) : Host.Outcome State Fault Refusal :=
  .next ((s.advance t).fanWindow f i tach)

/-- FAN_START (R447). A channel's target rises above 0 % after it has been off for 1 s; it requests inrush and waits
in STARTING. -/
def execFanStart (t : Nat) (f : Fin 8) (s : State) : Host.Outcome State Fault Refusal :=
  .next ((s.advance t).fanStart f)

/-- FAN_INRUSH_RELEASE (R447). The speed reaches 20 % of RPM_MAX or 3.0 s pass; the channel releases its inrush grant
and takes its target. -/
def execFanInrushRelease (t : Nat) (f : Fin 8) (s : State) : Host.Outcome State Fault Refusal :=
  .next ((s.advance t).fanInrushRelease f)

/-- FAN_INRUSH_JUDGE (R404). While no arbiter runs, the FAN block judges each pending inrush every 1 ms against
A_VFF. -/
def execFanInrushJudge (t : Nat) (iVff : Nat) (s : State) : Host.Outcome State Fault Refusal :=
  .next ((s.advance t).fanInrushJudge iVff)

/-- STALL_RETRY (R448). RETRY_S passes in STALL_WAIT and the channel starts a KICK. -/
def execStallRetry (t : Nat) (f : Fin 8) (s : State) : Host.Outcome State Fault Refusal :=
  .next ((s.advance t).stallRetry f)

/-- KICK_END (R448). The 3.0 s KICK ends; the channel takes its target or returns to STALL_WAIT. -/
def execKickEnd (t : Nat) (f : Fin 8) (i : Nat) (tach : Bool) (s : State) : Host.Outcome State Fault Refusal :=
  .next ((s.advance t).kickEnd f i tach)

/-- FAN_OVERLOAD (R449). The current limit has acted too long or the 10 s mean exceeds 3.3 A; OVERLOAD latches with
the channel off. -/
def execFanOverload (t : Nat) (f : Fin 8) (s : State) : Host.Outcome State Fault Refusal :=
  .next ((s.advance t).fanOverload f)

/-- FAN_SHORT_TRIP (R440). The channel current exceeds 20 A; the channel switches off within 10 µs and OVERLOAD
latches. -/
def execFanShortTrip (t : Nat) (f : Fin 8) (s : State) : Host.Outcome State Fault Refusal :=
  .next ((s.advance t).fanShortTrip f)

/-- FAN_SHORT_SUP (R449). A channel driven off reads above 50 % of VFF for 10 ms and reports SHORT_SUP. -/
def execFanShortSup (t : Nat) (f : Fin 8) (s : State) : Host.Outcome State Fault Refusal :=
  .next ((s.advance t).fanShortSup f)

/-- FAN_PERIOD_END (R440). A fan channel's switching period ends, and the new target duty, curve value, skip band or
post-SAFE target takes effect. -/
def execFanPeriodEnd (t : Nat) (f : Fin 8) (s : State) : Host.Outcome State Fault Refusal :=
  .next ((s.advance t).fanPeriodEnd f)

end Sys2Proof.Machine
end

