-- ==== Sys2Proof/Machine/ExecTime.lean ====
section
/-!
DEFINITION. The commands of Heartwood time and PTP (spec/13_heartwood_time.md): each takes the module to its instant
and does there what its rule says.
-/
namespace Sys2Proof.Machine

/-- PTP_SYNC (R354). A Sync message arrives and is stamped; a one-step Sync yields an offset measurement. -/
def execPtpSync (t : Nat) (p : Fin 2) (m : PtpMsg) (s : State) : Host.Outcome State Fault Refusal :=
  .next ((s.advance t).ptpSync p m)

/-- PTP_FOLLOW_UP (R354). A Follow_Up message completes a two-step offset measurement. -/
def execPtpFollowUp (t : Nat) (p : Fin 2) (m : PtpMsg) (s : State) : Host.Outcome State Fault Refusal :=
  .next ((s.advance t).ptpFollowUp p m)

/-- PTP_DELAY_REQ (R352). The ordinary clock sends a Delay_Req at its interval and stamps it. -/
def execPtpDelayReq (t : Nat) (rx : Option (Fin 2 × PtpMsg)) (s : State) : Host.Outcome State Fault Refusal :=
  .next ((s.advance t).ptpDelayReq rx)

/-- PTP_DELAY_RESP (R354). A Delay_Resp message completes a path-delay measurement. -/
def execPtpDelayResp (t : Nat) (p : Fin 2) (m : PtpMsg) (s : State) : Host.Outcome State Fault Refusal :=
  .next ((s.advance t).ptpDelayResp p m)

/-- PTP_ANNOUNCE (R354). An Announce message arrives and the source's presence and own checks are judged. -/
def execPtpAnnounce (t : Nat) (p : Fin 2) (m : PtpMsg) (a : Announce) (s : State) : Host.Outcome State Fault Refusal :=
  .next ((s.advance t).ptpAnnounce p m a)

/-- PTP_PDELAY_REQ (R353). A Pdelay_Req arrives on a port and is answered. -/
def execPtpPdelayReq (t : Nat) (p : Fin 2) (m : PtpMsg) (turn : Nat) (s : State) : Host.Outcome State Fault Refusal :=
  .next ((s.advance t).ptpPdelayReq p m turn)

/-- PTP_PDELAY_RESP (R353). A Pdelay_Resp arrives toward the port's own peer-delay measurement. -/
def execPtpPdelayResp (t : Nat) (p : Fin 2) (m : PtpMsg) (s : State) : Host.Outcome State Fault Refusal :=
  .next ((s.advance t).ptpPdelayResp p m)

/-- PTP_PDELAY_RESP_FOLLOW_UP (R353). A Pdelay_Resp_Follow_Up completes the port's link-delay measurement. -/
def execPtpPdelayRespFollowUp (t : Nat) (p : Fin 2) (m : PtpMsg) (s : State) : Host.Outcome State Fault Refusal :=
  .next ((s.advance t).ptpPdelayFollowUp p m)

/-- PTP_MASTER_SEND (R353). As master the ordinary clock sends Sync, Follow_Up or Announce at its intervals. -/
def execPtpMasterSend (t : Nat) (kind : Nat) (s : State) : Host.Outcome State Fault Refusal :=
  .next ((s.advance t).ptpMasterSend kind)

/-- PTP_TC_FORWARD (R353). The transparent clock forwards a PTP event message between ports, adding residence time
and link delay. -/
def execPtpTcForward (t : Nat) (p : Fin 2) (udp : Nat) (residence : Nat) (msg : List Byte) (s : State) : Host.Outcome State Fault Refusal :=
  .next ((s.advance t).ptpForward p udp residence msg)

/-- PTP_LOSS (R354). Announce or Sync messages stop for their timeout and the PTP source is lost. -/
def execPtpLoss (t : Nat) (s : State) : Host.Outcome State Fault Refusal :=
  .next ((s.advance t).ptpLoss)

/-- SOURCE_TRUSTED (R357). A source completes 60 s of uninterrupted qualification and becomes trusted, possibly
active, with the start-up step. -/
def execSourceTrusted (t : Nat) (i : SrcId) (s : State) : Host.Outcome State Fault Refusal :=
  .next ((s.advance t).sourceTrusted i)

/-- CROSS_CHECK (R359). Once per second with both sources present, D is compared with XCHK_LIM; ten failures withdraw
trust from both. -/
def execCrossCheck (t : Nat) (s : State) : Host.Outcome State Fault Refusal :=
  .next ((s.advance t).crossCheck)

/-- TP_PULSE (R364). At a pulse instant TP_OUT begins a pulse of TP_WIDTH. -/
def execTpPulse (t : Nat) (s : State) : Host.Outcome State Fault Refusal :=
  .next ((s.advance t).tpPulse)

/-- TP_PULSE_END (R364). TP_WIDTH after a pulse began, TP_OUT returns to its idle level. -/
def execTpPulseEnd (t : Nat) (s : State) : Host.Outcome State Fault Refusal :=
  .next ((s.advance t).tpPulseEnd)

end Sys2Proof.Machine
end

