-- ==== Sys2Proof/Machine/Dispatch.lean ====
section
/-!
DEFINITION. Which meaning each command has: one arm for each constructor.
-/
namespace Sys2Proof.Machine

def exec (i : Instr) (s : State) : Host.Outcome State Fault Refusal :=
  match i with
  | .openReq t v frame => Sys2Proof.Machine.execOpenReq t v frame s
  | .openWaitExpiry t j => Sys2Proof.Machine.execOpenWaitExpiry t j s
  | .openProof t v frame => Sys2Proof.Machine.execOpenProof t v frame s
  | .request t v frame => Sys2Proof.Machine.execRequest t v frame s
  | .requestExecute t => Sys2Proof.Machine.execRequestExecute t s
  | .close t v frame => Sys2Proof.Machine.execClose t v frame s
  | .beacon t j => Sys2Proof.Machine.execBeacon t j s
  | .leaseExpiry t j => Sys2Proof.Machine.execLeaseExpiry t j s
  | .writeFrame t bytes full => Sys2Proof.Machine.execWriteFrame t bytes full s
  | .readFrame t full => Sys2Proof.Machine.execReadFrame t full s
  | .readNext t full => Sys2Proof.Machine.execReadNext t full s
  | .readStatus t full => Sys2Proof.Machine.execReadStatus t full s
  | .spiUnknownCommand t n full => Sys2Proof.Machine.execSpiUnknownCommand t n full s
  | .arpRequest t p mac ip target => Sys2Proof.Machine.execArpRequest t p mac ip target s
  | .icmpEcho t p ip target fragment rest => Sys2Proof.Machine.execIcmpEcho t p ip target fragment rest s
  | .dhcpMessage t p msg => Sys2Proof.Machine.execDhcpMessage t p msg s
  | .addrChange t => Sys2Proof.Machine.execAddrChange t s
  | .portLinkChange t p up fdx => Sys2Proof.Machine.execPortLinkChange t p up fdx s
  | .selftestDone t fail c boost => Sys2Proof.Machine.execSelftestDone t fail c boost s
  | .fwEraseDone t sector n => Sys2Proof.Machine.execFwEraseDone t sector n s
  | .fwProgramDone t ok => Sys2Proof.Machine.execFwProgramDone t ok s
  | .fwVerifyDone t ok version err => Sys2Proof.Machine.execFwVerifyDone t ok version err s
  | .powerOn t => Sys2Proof.Machine.execPowerOn t s
  | .vlBelowOff t => Sys2Proof.Machine.execVlBelowOff t s
  | .aonResetEnd t st => Sys2Proof.Machine.execAonResetEnd t st s
  | .coreResetEnd t => Sys2Proof.Machine.execCoreResetEnd t s
  | .sramTestDone t ok => Sys2Proof.Machine.execSramTestDone t ok s
  | .imageAuthDone t ok => Sys2Proof.Machine.execImageAuthDone t ok s
  | .bootComplete t => Sys2Proof.Machine.execBootComplete t s
  | .bootStall t => Sys2Proof.Machine.execBootStall t s
  | .rstNAccept t => Sys2Proof.Machine.execRstNAccept t s
  | .rstNRise t st => Sys2Proof.Machine.execRstNRise t st s
  | .heartbeat t => Sys2Proof.Machine.execHeartbeat t s
  | .watchdogExpiry t => Sys2Proof.Machine.execWatchdogExpiry t s
  | .vlSagClear t => Sys2Proof.Machine.execVlSagClear t s
  | .wearCommit t sector n => Sys2Proof.Machine.execWearCommit t sector n s
  | .holdupMeasure t c => Sys2Proof.Machine.execHoldupMeasure t c s
  | .boostCapMeasure t b c esr => Sys2Proof.Machine.execBoostCapMeasure t b c esr s
  | .xrefWindow t count absent => Sys2Proof.Machine.execXrefWindow t count absent s
  | .rootLock t => Sys2Proof.Machine.execRootLock t s
  | .pllRetry t => Sys2Proof.Machine.execPllRetry t s
  | .clockFault t cause => Sys2Proof.Machine.execClockFault t cause s
  | .muxForcedRelease t island => Sys2Proof.Machine.execMuxForcedRelease t island s
  | .clockFaultEnd t dur ovf => Sys2Proof.Machine.execClockFaultEnd t dur ovf s
  | .tcxoWindow t count => Sys2Proof.Machine.execTcxoWindow t count s
  | .tcxoStop t => Sys2Proof.Machine.execTcxoStop t s
  | .sentinelStop t => Sys2Proof.Machine.execSentinelStop t s
  | .sentinelRestart t st => Sys2Proof.Machine.execSentinelRestart t st s
  | .fcntDone t count => Sys2Proof.Machine.execFcntDone t count s
  | .fcntNoref t => Sys2Proof.Machine.execFcntNoref t s
  | .supplyMeasure t vl il vfa ifa vff iff vr ir => Sys2Proof.Machine.execSupplyMeasure t vl il vfa ifa vff iff vr ir s
  | .vlLow t => Sys2Proof.Machine.execVlLow t s
  | .vlLowClear t => Sys2Proof.Machine.execVlLowClear t s
  | .holdupJudge t vl => Sys2Proof.Machine.execHoldupJudge t vl s
  | .vlFallbackDecision t vl => Sys2Proof.Machine.execVlFallbackDecision t vl s
  | .vlSagShed t => Sys2Proof.Machine.execVlSagShed t s
  | .vlSagCommitDone t sector n => Sys2Proof.Machine.execVlSagCommitDone t sector n s
  | .vfaStageSet t st => Sys2Proof.Machine.execVfaStageSet t st s
  | .vfaStageClear t st => Sys2Proof.Machine.execVfaStageClear t st s
  | .vffUv t => Sys2Proof.Machine.execVffUv t s
  | .vffUvClear t => Sys2Proof.Machine.execVffUvClear t s
  | .domainPowerUp t n => Sys2Proof.Machine.execDomainPowerUp t n s
  | .domainPowerOff t n => Sys2Proof.Machine.execDomainPowerOff t n s
  | .domFault t n => Sys2Proof.Machine.execDomFault t n s
  | .arbiterSlot t iVfa iVff => Sys2Proof.Machine.execArbiterSlot t iVfa iVff s
  | .ledgerUpdate t => Sys2Proof.Machine.execLedgerUpdate t s
  | .useSpan t => Sys2Proof.Machine.execUseSpan t s
  | .energyLimitExpiry t => Sys2Proof.Machine.execEnergyLimitExpiry t s
  | .thermSample t v => Sys2Proof.Machine.execThermSample t v s
  | .graceExpiry t n => Sys2Proof.Machine.execGraceExpiry t n s
  | .criticalTrip t mask => Sys2Proof.Machine.execCriticalTrip t mask s
  | .tachStretch t f gap len => Sys2Proof.Machine.execTachStretch t f gap len s
  | .fanSpeedLoop t f iPeak iMean => Sys2Proof.Machine.execFanSpeedLoop t f iPeak iMean s
  | .fanWindow t f j tach => Sys2Proof.Machine.execFanWindow t f j tach s
  | .fanStart t f => Sys2Proof.Machine.execFanStart t f s
  | .fanInrushRelease t f => Sys2Proof.Machine.execFanInrushRelease t f s
  | .fanInrushJudge t iVff => Sys2Proof.Machine.execFanInrushJudge t iVff s
  | .stallRetry t f => Sys2Proof.Machine.execStallRetry t f s
  | .kickEnd t f j tach => Sys2Proof.Machine.execKickEnd t f j tach s
  | .fanOverload t f => Sys2Proof.Machine.execFanOverload t f s
  | .fanShortTrip t f => Sys2Proof.Machine.execFanShortTrip t f s
  | .fanShortSup t f => Sys2Proof.Machine.execFanShortSup t f s
  | .eventDue t n => Sys2Proof.Machine.execEventDue t n s
  | .eventRejudge t n => Sys2Proof.Machine.execEventRejudge t n s
  | .eventLatestDrop t n => Sys2Proof.Machine.execEventLatestDrop t n s
  | .maxDelayDrop t n => Sys2Proof.Machine.execMaxDelayDrop t n s
  | .switchOffEnd t n k clampE => Sys2Proof.Machine.execSwitchOffEnd t n k clampE s
  | .minOffEnd t n k => Sys2Proof.Machine.execMinOffEnd t n k s
  | .phaseLimit t n k => Sys2Proof.Machine.execPhaseLimit t n k s
  | .diagTestStart t n => Sys2Proof.Machine.execDiagTestStart t n s
  | .diagTestEnd t n vHs vu vd => Sys2Proof.Machine.execDiagTestEnd t n vHs vu vd s
  | .desatLs t n k => Sys2Proof.Machine.execDesatLs t n k s
  | .desatHs t n => Sys2Proof.Machine.execDesatHs t n s
  | .overcurrent t n k => Sys2Proof.Machine.execOvercurrent t n k s
  | .leakGnd t n => Sys2Proof.Machine.execLeakGnd t n s
  | .noCurrent t n k => Sys2Proof.Machine.execNoCurrent t n k s
  | .peakTo t n k => Sys2Proof.Machine.execPeakTo t n k s
  | .bankOvl t n => Sys2Proof.Machine.execBankOvl t n s
  | .regenOvf t b => Sys2Proof.Machine.execRegenOvf t b s
  | .reservoirMeasure t b v => Sys2Proof.Machine.execReservoirMeasure t b v s
  | .bst t n k => Sys2Proof.Machine.execBst t n k s
  | .pk t n k => Sys2Proof.Machine.execPk t n k s
  | .hld t n k => Sys2Proof.Machine.execHld t n k s
  | .off t n k => Sys2Proof.Machine.execOff t n k s
  | .endProfile t n k => Sys2Proof.Machine.execEndProfile t n k s
  | .band t n k => Sys2Proof.Machine.execBand t n k s
  | .ramp t n k => Sys2Proof.Machine.execRamp t n k s
  | .dipw t n k => Sys2Proof.Machine.execDipw t n k s
  | .wt t n k => Sys2Proof.Machine.execWt t n k s
  | .wtr t n k => Sys2Proof.Machine.execWtr t n k s
  | .wi t n k => Sys2Proof.Machine.execWi t n k s
  | .wp t n k => Sys2Proof.Machine.execWp t n k s
  | .wd t n k => Sys2Proof.Machine.execWd t n k s
  | .ucWaitEnd t n k => Sys2Proof.Machine.execUcWaitEnd t n k s
  | .arm t n k => Sys2Proof.Machine.execArm t n k s
  | .armExpiry t n k => Sys2Proof.Machine.execArmExpiry t n k s
  | .jmp t n k => Sys2Proof.Machine.execJmp t n k s
  | .bc t n k => Sys2Proof.Machine.execBc t n k s
  | .bi t n k => Sys2Proof.Machine.execBi t n k s
  | .btm t n k => Sys2Proof.Machine.execBtm t n k s
  | .bcmp t n k => Sys2Proof.Machine.execBcmp t n k s
  | .djnz t n k => Sys2Proof.Machine.execDjnz t n k s
  | .ldi t n k => Sys2Proof.Machine.execLdi t n k s
  | .ldp t n k => Sys2Proof.Machine.execLdp t n k s
  | .lds t n k => Sys2Proof.Machine.execLds t n k s
  | .alu t n k => Sys2Proof.Machine.execAlu t n k s
  | .mark t n k => Sys2Proof.Machine.execMark t n k s
  | .nop t n k => Sys2Proof.Machine.execNop t n k s
  | .loopSample t l => Sys2Proof.Machine.execLoopSample t l s
  | .loopSkip t l => Sys2Proof.Machine.execLoopSkip t l s
  | .startCheck t g high => Sys2Proof.Machine.execStartCheck t g high s
  | .periodBoundary t prepared vr meas => Sys2Proof.Machine.execPeriodBoundary t prepared vr meas s
  | .roundStart t prepared => Sys2Proof.Machine.execRoundStart t prepared s
  | .sendSample t g => Sys2Proof.Machine.execSendSample t g s
  | .roundOverrun t => Sys2Proof.Machine.execRoundOverrun t s
  | .readSlot t g rx => Sys2Proof.Machine.execReadSlot t g rx s
  | .readRound t g rx => Sys2Proof.Machine.execReadRound t g rx s
  | .roundEnd t g => Sys2Proof.Machine.execRoundEnd t g s
  | .enumExchange t g rx => Sys2Proof.Machine.execEnumExchange t g rx s
  | .enumReadInfo t g rx => Sys2Proof.Machine.execEnumReadInfo t g rx s
  | .enumAssign t g rx => Sys2Proof.Machine.execEnumAssign t g rx s
  | .addressedExchange t g rx => Sys2Proof.Machine.execAddressedExchange t g rx s
  | .segOverload t g => Sys2Proof.Machine.execSegOverload t g s
  | .segShort t g => Sys2Proof.Machine.execSegShort t g s
  | .segRestart t g => Sys2Proof.Machine.execSegRestart t g s
  | .surge t g => Sys2Proof.Machine.execSurge t g s
  | .vrUv t => Sys2Proof.Machine.execVrUv t s
  | .vrRestore t => Sys2Proof.Machine.execVrRestore t s
  | .diAccept t g k level seen => Sys2Proof.Machine.execDiAccept t g k level seen s
  | .diPulseWindow t g levels => Sys2Proof.Machine.execDiPulseWindow t g levels s
  | .diGateEnd t g c => Sys2Proof.Machine.execDiGateEnd t g c s
  | .dioCmdFrame t => Sys2Proof.Machine.execDioCmdFrame t s
  | .fieldCmdFrame t g good loads => Sys2Proof.Machine.execFieldCmdFrame t g good loads s
  | .statusFrame t g good limits => Sys2Proof.Machine.execStatusFrame t g good limits s
  | .statusTimeout t g => Sys2Proof.Machine.execStatusTimeout t g s
  | .silence t g => Sys2Proof.Machine.execSilence t g s
  | .rcStop t g => Sys2Proof.Machine.execRcStop t g s
  | .doOverload t j => Sys2Proof.Machine.execDoOverload t j s
  | .doRetry t j => Sys2Proof.Machine.execDoRetry t j s
  | .doOt t j => Sys2Proof.Machine.execDoOt t j s
  | .doOtClear t j => Sys2Proof.Machine.execDoOtClear t j s
  | .doReadbackFlag t j which => Sys2Proof.Machine.execDoReadbackFlag t j which s
  | .doReadbackClear t j which => Sys2Proof.Machine.execDoReadbackClear t j which s
  | .mirrorEval t j => Sys2Proof.Machine.execMirrorEval t j s
  | .doPeriodEnd t j load => Sys2Proof.Machine.execDoPeriodEnd t j load s
  | .vfdUndervolt t g which => Sys2Proof.Machine.execVfdUndervolt t g which s
  | .vfdRecover t g => Sys2Proof.Machine.execVfdRecover t g s
  | .afeCmdFrame t => Sys2Proof.Machine.execAfeCmdFrame t s
  | .islandCmdReceive t good => Sys2Proof.Machine.execIslandCmdReceive t good s
  | .aoRefreshTimeout t => Sys2Proof.Machine.execAoRefreshTimeout t s
  | .aiGateEnd t c count ovr exc => Sys2Proof.Machine.execAiGateEnd t c count ovr exc s
  | .aiPhaseSwap t c count => Sys2Proof.Machine.execAiPhaseSwap t c count s
  | .afeResultFrame t good => Sys2Proof.Machine.execAfeResultFrame t good s
  | .aiWireBreak t c => Sys2Proof.Machine.execAiWireBreak t c s
  | .afeClockStop t => Sys2Proof.Machine.execAfeClockStop t s
  | .afeClockReturn t => Sys2Proof.Machine.execAfeClockReturn t s
  | .aoReadback t n code high good => Sys2Proof.Machine.execAoReadback t n code high good s
  | .leadMeasureDone t c k => Sys2Proof.Machine.execLeadMeasureDone t c k s
  | .cellSlotStart t ws => Sys2Proof.Machine.execCellSlotStart t ws s
  | .cellPost t c => Sys2Proof.Machine.execCellPost t c s
  | .rtdGateEnd t c r brk => Sys2Proof.Machine.execRtdGateEnd t c r brk s
  | .rcalDone t c => Sys2Proof.Machine.execRcalDone t c s
  | .calMeasDone t n => Sys2Proof.Machine.execCalMeasDone t n s
  | .scanDone t n => Sys2Proof.Machine.execScanDone t n s
  | .moistResult t n => Sys2Proof.Machine.execMoistResult t n s
  | .sweepSlotDone t => Sys2Proof.Machine.execSweepSlotDone t s
  | .residualDone t n => Sys2Proof.Machine.execResidualDone t n s
  | .xformBlockDone t => Sys2Proof.Machine.execXformBlockDone t s
  | .xformUsePost t => Sys2Proof.Machine.execXformUsePost t s
  | .ptpSync t p m => Sys2Proof.Machine.execPtpSync t p m s
  | .ptpFollowUp t p m => Sys2Proof.Machine.execPtpFollowUp t p m s
  | .ptpDelayReq t rx => Sys2Proof.Machine.execPtpDelayReq t rx s
  | .ptpDelayResp t p m => Sys2Proof.Machine.execPtpDelayResp t p m s
  | .ptpAnnounce t p m a => Sys2Proof.Machine.execPtpAnnounce t p m a s
  | .ptpPdelayReq t p m turn => Sys2Proof.Machine.execPtpPdelayReq t p m turn s
  | .ptpPdelayResp t p m => Sys2Proof.Machine.execPtpPdelayResp t p m s
  | .ptpPdelayRespFollowUp t p m => Sys2Proof.Machine.execPtpPdelayRespFollowUp t p m s
  | .ptpMasterSend t kind => Sys2Proof.Machine.execPtpMasterSend t kind s
  | .ptpTcForward t p udp residence msg => Sys2Proof.Machine.execPtpTcForward t p udp residence msg s
  | .ptpLoss t => Sys2Proof.Machine.execPtpLoss t s
  | .gnssEpoch t ref sec qerr => Sys2Proof.Machine.execGnssEpoch t ref sec qerr s
  | .sourceTrusted t j => Sys2Proof.Machine.execSourceTrusted t j s
  | .crossCheck t => Sys2Proof.Machine.execCrossCheck t s
  | .tpPulse t => Sys2Proof.Machine.execTpPulse t s
  | .acqPassStart t visible => Sys2Proof.Machine.execAcqPassStart t visible s
  | .acqCaptureDone t stamp => Sys2Proof.Machine.execAcqCaptureDone t stamp s
  | .acqPassEnd t smp found => Sys2Proof.Machine.execAcqPassEnd t smp found s
  | .acqConfirmTimeout t c => Sys2Proof.Machine.execAcqConfirmTimeout t c s
  | .channelLoss t c cn0 => Sys2Proof.Machine.execChannelLoss t c cn0 s
  | .navDecode t c raw ago => Sys2Proof.Machine.execNavDecode t c raw ago s
  | .gnssSolution t ms fx => Sys2Proof.Machine.execGnssSolution t ms fx s
  | .antShort t => Sys2Proof.Machine.execAntShort t s
  | .antRetry t limits => Sys2Proof.Machine.execAntRetry t limits s
  | .antOpen t j => Sys2Proof.Machine.execAntOpen t j s
  | .currentSample t n i0 i1 i2 i3 hs => Sys2Proof.Machine.execCurrentSample t n i0 i1 i2 i3 hs s
  | .windowExpiry t n => Sys2Proof.Machine.execWindowExpiry t n s
  | .tpPulseEnd t => Sys2Proof.Machine.execTpPulseEnd t s
  | .fanPeriodEnd t f => Sys2Proof.Machine.execFanPeriodEnd t f s
  | .channelLock t c => Sys2Proof.Machine.execChannelLock t c s
  | .vfdUvClear t g which => Sys2Proof.Machine.execVfdUvClear t g which s

end Sys2Proof.Machine
end

