-- ==== Sys2Proof/Safety.lean ====
section
/-!
DEFINITION. What the statements speak of: the canonical form of the module's register maps, what the SAFE net, the life wave
and SYS_SHDN_N promise the partners, the parts of the state, the instant of a command and the outcome it has.
-/
namespace Sys2Proof

open Sys2Proof.Machine

/-- The register map and the store are in canonical form: addresses strictly rising, no entry equal to its reset word. -/
def Canonical (s : State) : Prop := s.regs.wf = true ∧ s.store.wf = true

/-- The SAFE net is asserted in OFF, BOOT, SAFE_HOLD and THERMAL_OFF, and for as long as RST_N is accepted low (R90, R91, R93). -/
def SafeNetHeld (s : State) : Prop :=
  s.sup.mode = .off ∨ s.sup.mode = .boot ∨ s.sup.mode = .safeHold ∨ s.sup.mode = .thermalOff ∨ s.sup.rstLow = true → s.sup.safeNet = true

/-- The life wave is driven only in RUN and CONSTRAINED, only while the management core is seen alive, and never while the
sentinel is stopped or its latch is set (R3, R425). -/
def LifeWaveTrue (s : State) : Prop :=
  s.sup.lifeWave = true →
    (s.sup.mode = .run ∨ s.sup.mode = .constrained) ∧ s.sup.coreAlive = true ∧ s.sup.sentStopped = false ∧ s.sup.sentLatch = false

/-- SYS_SHDN_N is asserted only in THERMAL_OFF (R98). -/
def ShutdownOnlyHot (s : State) : Prop := s.sup.shdnLow = true → s.sup.mode = .thermalOff

/-- No trigger of R84 above rank `r` waits in the queue with its instant come at `t`: the command at work is the only one. -/
abbrev Alone (s : State) (t r : Nat) : Prop := ∀ q, q < r → (s.advance t).coincide q = []

/-- The command answers a next state, and `P` holds of it. -/
def Yields (c : Instr) (s : State) (P : State → Prop) : Prop := ∃ t, exec c s = .next t ∧ P t

end Sys2Proof

namespace Sys2Proof.Machine

/-- A mode that the SAFE net does not have to hold. -/
def Mode.awake : Mode → Bool
  | .off | .boot | .safeHold | .thermalOff => false
  | _ => true

/-- The parts of the state that an operation may change: every field but the clock and the queue. -/
inductive Part where
  | regs | store | freeCtr | heart | sup | clk | pwr | arb | led | sensors | fans | banks | wear | wearSaved | log | summary
  | can | loops | dio | afe | cells | moist | xf | root | time | gnss | sent
  deriving DecidableEq, Repr

/-- The part has the same content in both states. -/
def Part.same : Part → State → State → Prop
  | .regs, s, t => t.regs = s.regs
  | .store, s, t => t.store = s.store
  | .freeCtr, s, t => t.freeCtr = s.freeCtr
  | .heart, s, t => t.heart = s.heart
  | .sup, s, t => t.sup = s.sup
  | .clk, s, t => t.clk = s.clk
  | .pwr, s, t => t.pwr = s.pwr
  | .arb, s, t => t.arb = s.arb
  | .led, s, t => t.led = s.led
  | .sensors, s, t => t.sensors = s.sensors
  | .fans, s, t => t.fans = s.fans
  | .banks, s, t => t.banks = s.banks
  | .wear, s, t => t.wear = s.wear
  | .wearSaved, s, t => t.wearSaved = s.wearSaved
  | .log, s, t => t.log = s.log
  | .summary, s, t => t.summary = s.summary
  | .can, s, t => t.can = s.can
  | .loops, s, t => t.loops = s.loops
  | .dio, s, t => t.dio = s.dio
  | .afe, s, t => t.afe = s.afe
  | .cells, s, t => t.cells = s.cells
  | .moist, s, t => t.moist = s.moist
  | .xf, s, t => t.xf = s.xf
  | .root, s, t => t.root = s.root
  | .time, s, t => t.time = s.time
  | .gnss, s, t => t.gnss = s.gnss
  | .sent, s, t => t.sent = s.sent

/-- The parts outside a list have the same content in both states. -/
def SameBut (ps : List Part) (s t : State) : Prop := ∀ p, p ∉ ps → p.same s t

/-- What a command of an actuator bank may change: the bank and what it posts, and the energy ledger's limit with the mode and the
relay tunes that follow it. -/
def bankParts : List Part := [.heart, .regs, .sup, .led, .banks, .log, .summary, .loops]

/-- The same, and the peak arbiter's requests and grants. -/
def grantParts : List Part := .arb :: bankParts

/-- The instant at which a command comes. -/
def instant : Instr → Nat
  | .openReq t _ _ | .openWaitExpiry t _ | .openProof t _ _ | .request t _ _ | .requestExecute t | .close t _ _
  | .beacon t _ | .leaseExpiry t _ | .writeFrame t _ _ | .readFrame t _ | .readNext t _ | .readStatus t _
  | .spiUnknownCommand t _ _ | .arpRequest t _ _ _ _ | .icmpEcho t _ _ _ _ _ | .dhcpMessage t _ _ | .addrChange t
  | .portLinkChange t _ _ _ | .selftestDone t _ _ _ | .fwEraseDone t _ _ | .fwProgramDone t _ | .fwVerifyDone t _ _ _
  | .powerOn t | .vlBelowOff t | .aonResetEnd t _ | .coreResetEnd t | .sramTestDone t _ | .imageAuthDone t _
  | .bootComplete t | .bootStall t | .rstNAccept t | .rstNRise t _ | .heartbeat t | .watchdogExpiry t | .vlSagClear t
  | .wearCommit t _ _ | .holdupMeasure t _ | .boostCapMeasure t _ _ _ | .xrefWindow t _ _ | .rootLock t | .pllRetry t
  | .clockFault t _ | .muxForcedRelease t _ | .clockFaultEnd t _ _ | .tcxoWindow t _ | .tcxoStop t | .sentinelStop t
  | .sentinelRestart t _ | .fcntDone t _ | .fcntNoref t | .supplyMeasure t _ _ _ _ _ _ _ _ | .vlLow t | .vlLowClear t
  | .holdupJudge t _ | .vlFallbackDecision t _ | .vlSagShed t | .vlSagCommitDone t _ _ | .vfaStageSet t _
  | .vfaStageClear t _ | .vffUv t | .vffUvClear t | .domainPowerUp t _ | .domainPowerOff t _ | .domFault t _
  | .arbiterSlot t _ _ | .ledgerUpdate t | .useSpan t | .energyLimitExpiry t | .thermSample t _ | .graceExpiry t _
  | .criticalTrip t _ | .tachStretch t _ _ _ | .fanSpeedLoop t _ _ _ | .fanWindow t _ _ _ | .fanStart t _
  | .fanInrushRelease t _ | .fanInrushJudge t _ | .stallRetry t _ | .kickEnd t _ _ _ | .fanOverload t _ | .fanShortTrip t _
  | .fanShortSup t _ | .eventDue t _ | .eventRejudge t _ | .eventLatestDrop t _ | .maxDelayDrop t _ | .switchOffEnd t _ _ _
  | .minOffEnd t _ _ | .phaseLimit t _ _ | .diagTestStart t _ | .diagTestEnd t _ _ _ _ | .desatLs t _ _ | .desatHs t _
  | .overcurrent t _ _ | .leakGnd t _ | .noCurrent t _ _ | .peakTo t _ _ | .bankOvl t _ | .regenOvf t _
  | .reservoirMeasure t _ _ | .bst t _ _ | .pk t _ _ | .hld t _ _ | .off t _ _ | .endProfile t _ _ | .band t _ _
  | .ramp t _ _ | .dipw t _ _ | .wt t _ _ | .wtr t _ _ | .wi t _ _ | .wp t _ _ | .wd t _ _ | .ucWaitEnd t _ _ | .arm t _ _
  | .armExpiry t _ _ | .jmp t _ _ | .bc t _ _ | .bi t _ _ | .btm t _ _ | .bcmp t _ _ | .djnz t _ _ | .ldi t _ _
  | .ldp t _ _ | .lds t _ _ | .alu t _ _ | .mark t _ _ | .nop t _ _ | .loopSample t _ | .loopSkip t _ | .startCheck t _ _
  | .periodBoundary t _ _ _ | .roundStart t _ | .sendSample t _ | .roundOverrun t | .readSlot t _ _ | .readRound t _ _
  | .roundEnd t _ | .enumExchange t _ _ | .enumReadInfo t _ _ | .enumAssign t _ _ | .addressedExchange t _ _
  | .segOverload t _ | .segShort t _ | .segRestart t _ | .surge t _ | .vrUv t | .vrRestore t | .diAccept t _ _ _ _
  | .diPulseWindow t _ _ | .diGateEnd t _ _ | .dioCmdFrame t | .fieldCmdFrame t _ _ _ | .statusFrame t _ _ _
  | .statusTimeout t _ | .silence t _ | .rcStop t _ | .doOverload t _ | .doRetry t _ | .doOt t _ | .doOtClear t _
  | .doReadbackFlag t _ _ | .doReadbackClear t _ _ | .mirrorEval t _ | .doPeriodEnd t _ _ | .vfdUndervolt t _ _
  | .vfdRecover t _ | .afeCmdFrame t | .islandCmdReceive t _ | .aoRefreshTimeout t | .aiGateEnd t _ _ _ _
  | .aiPhaseSwap t _ _ | .afeResultFrame t _ | .aiWireBreak t _ | .afeClockStop t | .afeClockReturn t
  | .aoReadback t _ _ _ _ | .leadMeasureDone t _ _ | .cellSlotStart t _ | .cellPost t _ | .rtdGateEnd t _ _ _
  | .rcalDone t _ | .calMeasDone t _ | .scanDone t _ | .moistResult t _ | .sweepSlotDone t | .residualDone t _
  | .xformBlockDone t | .xformUsePost t | .ptpSync t _ _ | .ptpFollowUp t _ _ | .ptpDelayReq t _ | .ptpDelayResp t _ _
  | .ptpAnnounce t _ _ _ | .ptpPdelayReq t _ _ _ | .ptpPdelayResp t _ _ | .ptpPdelayRespFollowUp t _ _ | .ptpMasterSend t _
  | .ptpTcForward t _ _ _ _ | .ptpLoss t | .gnssEpoch t _ _ _ | .sourceTrusted t _ | .crossCheck t | .tpPulse t
  | .acqPassStart t _ | .acqCaptureDone t _ | .acqPassEnd t _ _ | .acqConfirmTimeout t _ | .channelLoss t _ _
  | .navDecode t _ _ _ | .gnssSolution t _ _ | .antShort t | .antRetry t _ | .antOpen t _
  | .currentSample t _ _ _ _ _ _ | .windowExpiry t _ | .tpPulseEnd t | .fanPeriodEnd t _ | .channelLock t _
  | .vfdUvClear t _ _ => t

end Sys2Proof.Machine
end

