-- ==== Sys2Proof/Certificates/Slice0/Obligations.lean ====
section
/-!
DEFINITION. The statements about the module, for the provers. Each command has one that says where it completes and what it then
has done; the last ones say what a command leaves alone.
-/
open Sys2Proof Sys2Proof.Machine

/-! ### The machine -/

/-- A step with a command in front is that command's effect on the state with the rest of the queue. -/
def Obligations.StepRunsFront : Prop :=
  ∀ (s : State) (c : Instr) (q : List Instr), step { s with pending := c :: q } = exec c { s with pending := q }

/-- A step on an empty queue leaves the state alone (the model's choice: log entry 2). The table gives no command a word, so no word
spells one and no word is put in front of a queue. -/
def Obligations.IdleStep : Prop :=
  (∀ s : State, s.pending = [] → step s = .next s) ∧
  ∀ (nbits w : Nat), decodeTableWord nbits w = none ∧ ∀ s : State, s.withFetchWord nbits w = s

/-- Every command answers a next state: nothing in the machine faults or refuses. The queue is as it was, the module's time
has come to the command's instant, what was sent before stays sent, and free values are only used up. -/
def Obligations.EveryCommandAnswers : Prop :=
  ∀ (c : Instr) (s : State), Yields c s fun u =>
    u.pending = s.pending ∧ u.now = max s.now (instant c) ∧ s.sent <:+ u.sent ∧ s.freeCtr ≤ u.freeCtr

/-- The register map and the store keep their canonical form through every step. -/
def Obligations.StepKeepsCanonical : Prop := ∀ s t : State, Canonical s → step s = .next t → Canonical t

/-- The event log never holds more than 16,384 entries (R66), through every step. -/
def Obligations.StepBoundsEventLog : Prop :=
  ∀ s t : State, s.log.ring.length ≤ 16384 → step s = .next t → t.log.ring.length ≤ 16384

/-- The SAFE net stays asserted in OFF, BOOT, SAFE_HOLD and THERMAL_OFF and while RST_N is low, through every step. -/
def Obligations.StepHoldsSafeNet : Prop := ∀ s t : State, SafeNetHeld s → step s = .next t → SafeNetHeld t

/-- The life wave keeps its meaning through every step: RUN or CONSTRAINED, the management core seen alive.
SYS_SHDN_N is asserted only in THERMAL_OFF, through every step. -/
def Obligations.StepKeepsPins : Prop :=
  (∀ s t : State, LifeWaveTrue s → step s = .next t → LifeWaveTrue t) ∧
  (∀ s t : State, ShutdownOnlyHot s → step s = .next t → ShutdownOnlyHot t)

/-- The state after reset has what the steps keep. -/
def Obligations.ResetHolds : Prop :=
  Canonical State.reset ∧ State.reset.log.ring.length ≤ 16384 ∧ SafeNetHeld State.reset ∧ LifeWaveTrue State.reset ∧
    ShutdownOnlyHot State.reset ∧ State.reset.pending = []

/-! ### Canopy and the ports -/

/-- OPEN_REQ (R47–R49): a well-formed request for a slot that accepts opens, with a version in common, no session on that slot
or its port in the way, and a session number free. The lowest free number is reserved at this instant, with the version,
the granted lease and a fresh nonce. -/
def Obligations.OpenReqReserves : Prop :=
  ∀ (s : State) (t : Nat) (v : Via) (bs : List Byte) (i : Fin 8) (minor : Nat),
    let a := s.advance t
    let body := bodyOf bs
    let slot := leAt body 0 1
    (s.sup.mode = .maintenance → Alone s t 7) → a.arrives v = true → frameLenOk bs = true → (hdrOf bs).kind = kOpenReq → body.length = 24 → a.slotOpens slot = true →
    State.pickMinor (leAt body 1 1) (leAt body 2 1) = some minor → a.slotSession slot = none →
    (v = .spi → a.spiTaken (if leAt body 3 1 % 2 == 1 then slot else 0xFF) = false) → a.freeNumber = some i →
    Yields (.openReq t v bs) s fun u =>
      u.can.waits[i] = some ⟨slot, minor, a.grantLease (leAt body 4 4), leAt body 3 1 % 2 == 1, slice body 8 16,
        (List.range 16).map fun (j : Nat) => Config.freeByte (s.freeCtr + j), a.now⟩ ∧
      u.freeCtr = s.freeCtr + 16 ∧ u.can.sess = s.can.sess ∧ u.can.claims = s.can.claims ∧ SameBut [.heart, .can, .freeCtr, .sent] s u

/-- OPEN_PROOF (R48, R49): the proof of a number waited for at most 1 s ago verifies and nothing stands in the way. The session
is open, with the slot's role, the lease granted, H 0 and the key of R48, and its number waits no longer. -/
def Obligations.OpenProofOpens : Prop :=
  ∀ (s : State) (t : Nat) (v : Via) (bs : List Byte) (i : Fin 8) (w : OpenWait) (key : List Byte),
    let a := s.advance t
    (s.sup.mode = .maintenance → Alone s t 7) → a.arrives v = true → frameLenOk bs = true → (hdrOf bs).kind = kOpenProof → (hdrOf bs).sess = i.val → s.can.waits[i] = some w →
    a.now ≤ w.since + 1000000000 → a.slotKey w.slot = some key →
    bodyOf bs = State.proofOf key w.hostNonce w.modNonce i w.slot (0x10 + w.minor) → a.slotSession w.slot = none →
    (v = .spi → a.spiTaken (if w.replace then w.slot else 0xFF) = false) →
    Yields (.openProof t v bs) s fun u =>
      u.can.waits[i] = none ∧
      u.can.sess[i] = some
        { slot := w.slot, role := roleOf (fieldOf (s.keyRole w.slot) 1 0), minor := w.minor, via := v, lease := w.lease, renewed := a.now,
          key := State.sessionKey key w.hostNonce w.modNonce i (0x10 + w.minor), h := 0, seen := [], cache := [], beacons := 0, gen := s.can.gens } ∧
      SameBut [.heart, .regs, .log, .summary, .can, .sent] s u

/-- How a session number comes free: OPEN_WAIT_EXPIRY after 1 s (R49), CLOSE (R56), LEASE_EXPIRY after a whole lease without
renewal (R53). A CLOSE releases every claim of the session. A lost session keeps as orphans only its claims with LOSS 0. -/
def Obligations.SessionNumbersComeFree : Prop :=
  ∀ (s : State) (t : Nat) (i : Fin 8),
    let a := s.advance t
    (∀ w, s.can.waits[i] = some w → w.since + 1000000000 ≤ a.now →
      Yields (.openWaitExpiry t i) s fun u => u.can = { s.can with waits := s.can.waits.set i none } ∧ SameBut [.heart, .can] s u) ∧
    (∀ v bs x, (s.sup.mode = .maintenance → Alone s t 7) → a.arrives v = true → frameLenOk bs = true → (hdrOf bs).kind = kClose → a.authOf v bs = .ok i x →
      Yields (.close t v bs) s fun u =>
        u.can.sess[i] = none ∧ u.can.claims = s.can.claims.filter fun (c : Claim) => c.orphan || c.owner != i.val) ∧
    (∀ x, Alone s t 6 → s.can.sess[i] = some x → a.canopyRuns = true → a.clockFault = false → x.renewed + x.lease * 1000000 ≤ a.now →
      Yields (.leaseExpiry t i) s fun u =>
        u.can.sess[i] = none ∧
        u.can.claims = s.can.claims.filterMap fun (c : Claim) =>
          if !c.orphan && c.owner == i.val then (if c.loss = 0 then some { c with orphan := true } else none) else some c)

/-- REQUEST (R71, R53): an authenticated, well-formed request with a new sequence number and fewer than four of its session queued
is accepted: it joins the queue, H is its number, and the session's lease is renewed. -/
def Obligations.RequestIsAccepted : Prop :=
  ∀ (s : State) (t : Nat) (v : Via) (bs : List Byte) (i : Fin 8) (x : Sess),
    let a := s.advance t
    let q := (hdrOf bs).seq
    (s.sup.mode = .maintenance → Alone s t 7) → a.arrives v = true → frameLenOk bs = true → (hdrOf bs).kind = kRequest → a.authOf v bs = .ok i x → s.clockFault = false →
    q ≠ 0 → 1 ≤ State.seqDist q x.h → State.seqDist q x.h ≤ 0x7FFFFFFF → (s.can.queue.filter fun (r : Req) => r.sess == i.val).length < 4 →
    (requestOps x.minor bs).isSome = true →
    Yields (.request t v bs) s fun u =>
      u.can.queue = s.can.queue ++ [⟨i, q, v, bs⟩] ∧
      u.can.sess[i] = some { x with via := v, renewed := a.now, h := q, seen := State.seenWindow q (q :: x.seen) } ∧
      SameBut [.heart, .can] s u

/-- REQUEST_EXECUTE (R68–R71, R73): the oldest request of an open session leaves the queue, its operations are executed in order and its
response is cached and sent; `runOps` gives what the operations do, the reset that a DEV_CMD may ask for follows the response.
A request whose operations only read (READ, GROUP_READ, SNAP, PING) changes no register and no claim. A CLAIM of an unclaimed page
takes it, and a RELEASE gives it back (R61, R62); a FIRE that every check of R64 admits puts its event into the queue of its bank (R65, R192). During a clock fault the request is answered CLOCK_FAULT and its number is forgotten, so that a repeat executes (R74). -/
def Obligations.ReadRequestExecutes : Prop :=
  ∀ (s : State) (t : Nat) (r : Req) (q : List Req) (i : Fin 8) (x : Sess) (es : List OpEntry),
    let a := s.advance t
    let h := hdrOf r.frame
    let b := { a with can := { s.can with queue := q } }
    let p := b.runOps i x.role x.minor h.epoch (h.flags % 2 == 1) es
    let hdr := fun (u : State) (n tstat failop : Nat) => u.sessHdr i x.minor kResponse (h.flags % 2) r.seq n tstat failop
    s.canopyRuns = true → s.can.queue = r :: q → r.sess = i.val → s.can.sess[i] = some x → requestOps x.minor r.frame = some es →
    (s.clockFault = false → ((∃ e ∈ es, e.stores 0x44 = true) → Alone s t 7) →
      exec (.requestExecute t) s =
        .next (p.1.respond r (h.flags / 2 % 2 == 1)
          (mkFrame (hdr p.1 p.2.2.2.length p.2.1 p.2.2.1) (p.2.2.2.flatMap OpResult.bytes) (some x.key))).dueReset) ∧
    (s.clockFault = false → s.sup.resetDue = none → (∀ e ∈ es, e.code = 1 ∨ e.code = 4 ∨ e.code = 8 ∨ e.code = 9) →
      Yields (.requestExecute t) s fun u =>
        u.can.queue = q ∧ u.can.claims = s.can.claims ∧
        (∃ bs, u.can.sess[i] = some { x with cache := ((r.seq, bs) :: x.cache).take 16 }) ∧ SameBut [.heart, .can, .sent] s u) ∧
    (∀ page, s.clockFault = false → s.sup.resetDue = none → es = [⟨5, 0, 0, page + 0xFF, []⟩] → State.resource (page + 0xFF) = (0, page, 0xFF) →
      State.below x.role .operate = false → s.unpowered page = false → s.pageClaims page = [] →
      Yields (.requestExecute t) s fun u =>
        u.can.queue = q ∧ u.can.claims = ⟨page, 0xFF, i, 0, false, x.gen, x.role⟩ :: s.can.claims) ∧
    (∀ page c, s.clockFault = false → s.sup.resetDue = none → es = [⟨6, 0, 0, page + 0xFF, []⟩] → State.resource (page + 0xFF) = (0, page, 0xFF) →
      State.below x.role .operate = false → s.unpowered page = false → s.claimOf page 0xFF = some c →
      (c.orphan = false → c.owner = i.val →
        Yields (.requestExecute t) s fun u =>
          u.can.queue = q ∧ u.can.claims = s.can.claims.filter fun z => !(z.page == page && z.sub == 0xFF)) ∧
      (c.orphan = true ∨ c.owner ≠ i.val →
        Yields (.requestExecute t) s fun u =>
          u.can.queue = q ∧ u.can.claims = s.can.claims ∧
          (∃ bs, u.can.sess[i] = some { x with cache := ((r.seq, bs) :: x.cache).take 16 } ∧ (hdrOf bs).tstat = stOwned) ∧
          SameBut [.heart, .can, .sent] s u)) ∧
    (∀ (n : Fin 12) (k : Fin 4) (prof : Nat) (imm : Bool) (id lo hi param us : Word), s.clockFault = false → s.sup.resetDue = none → 3 ≤ x.minor →
      prof < 16 → es = [⟨7, b2n imm, 5, 256 * prof + 4 * n + k, [id, lo, hi, param, us]⟩] →
      let start := if imm then a.hwNs else lo.toNat + hi.toNat * 2 ^ 32
      let latest := start + us.toNat * 1000
      s.clocked .act = true → s.powered 8 = true → State.below x.role .operate = false →
      s.running = true ∨ s.sup.mode = .commission ∧ State.below x.role .engineer = false →
      (s.governing (actBase n) k).any (fun c => !c.orphan && c.owner == i.val) = true → s.pageLocked (actBase n) = false →
      id.toNat < 2 ^ 31 → us.toNat ≤ 1000000 → b.gate2Status n k = 0 → b.queueStatus n k id.toNat prof start latest imm = 0 →
      Yields (.requestExecute t) s fun u =>
        u.can.queue = q ∧
        (u.bank n).queue.map (fun ev => (ev.id, ev.ch, ev.prof, ev.start, ev.latest, ev.param)) =
          (s.bank n).queue.map (fun ev => (ev.id, ev.ch, ev.prof, ev.start, ev.latest, ev.param)) ++ [(id.toNat, k.val, prof, start, latest, param)] ∧
        (u.heldId n k id.toNat).isSome = true) ∧
    (s.clockFault = true → s.sup.resetDue = none → ((∃ e ∈ es, e.stores 0x44 = true) → Alone s t 7) →
      Yields (.requestExecute t) s fun u =>
        u.can.queue = q ∧ u.can.claims = s.can.claims ∧ u.regs = s.regs ∧
        u.can.sess[i] = some { x with seen := x.seen.filter fun n => n != r.seq } ∧ SameBut [.heart, .can, .sent] s u)

/-- REQUEST_EXECUTE of a request that is one WRITE of one word of a page, not ATOMIC (R46, R59, R60, R63, R67, R75–R77, R421). The checks
come in the order of R46: the clock and the supply of the page, the role, the owner, PAGE_LOCK, the register's own role, what an RWC
write needs, the limits, the check of its block. The first that fails is the TSTAT, and nothing is written. A write that passes all
leaves the addressed register with its writable bits as written and every other register as it was, where the page's block does
nothing with the word; an RWC write goes into the configuration store and advances CONFIG_EPOCH and PAGE_EPOCH. With an effect of the
block (`hook`) the state is what that and the judgements after it (`settleAll`) make of the written one.
DEV_CMD (R81, R93, R96, R101): the mode commanded, or a refusal. -/
def Obligations.WriteRequestExecutes : Prop :=
  ∀ (s : State) (t : Nat) (r : Req) (q : List Req) (i : Fin 8) (x : Sess) (A : Nat) (v : Word),
    let a := s.advance t
    let b := { a with can := { s.can with queue := q } }
    let h := hdrOf r.frame
    let e : OpEntry := ⟨2, 0, 1, A, [v]⟩
    let ctx : OpCtx := ⟨i, x.role, x.minor, h.epoch == s.epoch.toNat, none, badKeySlots [e], a.freshFlags⟩
    let answers := fun (u : State) (st : Nat) =>
      u.can.queue = q ∧ ∃ bs, u.can.sess[i] = some { x with cache := ((r.seq, bs) :: x.cache).take 16 } ∧ (hdrOf bs).tstat = st
    let refused := fun (st : Nat) =>
      Yields (.requestExecute t) s fun u => answers u st ∧ u.can.claims = s.can.claims ∧ SameBut [.heart, .can, .sent] s u
    s.canopyRuns = true → s.can.queue = r :: q → r.sess = i.val → s.can.sess[i] = some x → requestOps x.minor r.frame = some [e] →
    h.flags % 2 = 0 → s.clockFault = false → s.sup.resetDue = none → (A = 0x44 → Alone s t 7) →
    (∀ p n fs, A % 4 = 0 → State.windowOf A = none → pageOf A = some (p, n) → isKeyAddr A = false → State.isQry p.kind (A % 0x1000) = false →
      p.kind ≠ .ucode → s.fieldsAt p.kind n (A % 0x1000) = some fs → writable fs ≠ 0#32 →
      let off := A % 0x1000
      let old := s.rd A
      let new := merged fs old v (BitVec.allOnes 32) ||| ctx.freshBits A old
      let aw := asWritten fs old v (BitVec.allOnes 32)
      let rwc := rwcWrite fs old new || State.rwcCommand p.kind off aw
      let w0 := b.wr A new
      let w := (w0.hook i p.kind n off old aw).settleAll
      (s.clocked p.kind = false → refused stGated) ∧
      (s.clocked p.kind = true → s.powered (domOf p.kind) = false → refused stBusy) ∧
      (s.clocked p.kind = true → s.powered (domOf p.kind) = true →
        (State.below x.role .operate = true → refused stRole) ∧
        (State.below x.role .operate = false →
          (s.ownedAgainst i p.kind n off = true → refused stOwned) ∧
          (s.ownedAgainst i p.kind n off = false →
            (s.pageLocked (pageBase p.kind n) = true → refused stLocked) ∧
            (s.pageLocked (pageBase p.kind n) = false →
              (State.below x.role (State.raisedRole p.kind off aw.toNat) = true → refused stRole) ∧
              (State.below x.role (State.raisedRole p.kind off aw.toNat) = false →
                (rwc = true → State.below x.role .engineer = true → refused stRole) ∧
                (rwc = true → State.below x.role .engineer = false →
                  (s.sup.mode ≠ .commission → refused stLocked) ∧ (s.sup.mode = .commission → h.epoch ≠ s.epoch.toNat → refused stEpoch)) ∧
                (rwc = false ∨ State.below x.role .engineer = false ∧ s.sup.mode = .commission ∧ h.epoch = s.epoch.toNat →
                  (limsOk fs aw = false → refused stRange) ∧
                  (limsOk fs aw = true → State.ntcInternal p.kind off v = false →
                    (∀ st, st ≠ 0 → st < 256 → w0.blockCheck ctx p.kind n off old aw = st → refused st) ∧
                    (w0.blockCheck ctx p.kind n off old aw = 0 → w.sup.resetDue = none →
                      (rwc = false →
                        Yields (.requestExecute t) s fun u =>
                          answers u 0 ∧ u.can.claims = w.can.claims ∧ SameBut [.can, .log, .sent] w u ∧
                          (w.regs = w0.regs → u.rd A = new ∧ ∀ c, c ≠ A → u.rd c = s.rd c)) ∧
                      (rwc = true → w.regs = w0.regs → w.fieldsAt p.kind n off = some fs → off ≠ 0x20 → A ≠ hostBase + 0x40 →
                        let m := accMask (fun c => c == .rwc) fs
                        Yields (.requestExecute t) s fun u =>
                          answers u 0 ∧ u.rd A = new ∧ u.store.get A = (resetWord A &&& ~~~m) ||| (new &&& m) ∧
                          u.epoch = (if s.epoch = 0xFFFFFFFF#32 then 1#32 else s.epoch + 1#32) ∧ u.rd (pageBase p.kind n + 0x20) = u.epoch ∧
                          (∀ c, c ≠ A → c ≠ hostBase + 0x40 → c ≠ pageBase p.kind n + 0x20 → u.rd c = s.rd c))))))))))) ∧
    (A = 0x44 → s.clocked .dev = true → s.powered 0 = true → s.pageHeld i 0 = false → s.pageLocked 0 = false →
      let goes := fun (m : Mode) => Yields (.requestExecute t) s fun u => answers u 0 ∧ u.sup.mode = m ∧ u.sup.prev = s.sup.mode
      State.below x.role .operate = false →
      (v = 3#32 → s.sup.mode = .standby → State.below x.role .engineer = false → goes .commission) ∧
      (v = 4#32 → s.sup.mode = .standby ∨ s.sup.mode = .commission →
        (s.enfLevel = 0 → s.led.energyLimit = false → s.led.limiting = false → s.led.rcut = false → (∀ n : Fin 12, (s.bank n).queue = []) → goes .run) ∧
        (0 < s.enfLevel → goes .constrained)) ∧
      (v = 6#32 → s.sup.mode = .standby ∨ s.sup.mode = .commission ∨ s.sup.mode = .run ∨ s.sup.mode = .constrained →
        Yields (.requestExecute t) s fun u =>
          answers u 0 ∧ u.sup.mode = .safeHold ∧ u.sup.safeNet = true ∧ u.sup.safeCause = State.causeHost ∧ u.sup.lifeWave = false) ∧
      (v = 2#32 → s.sup.mode = .safeHold →
        (s.conditionActive = true → refused stBusy) ∧
        (s.conditionActive = false → s.sup.rstLow = false →
          Yields (.requestExecute t) s fun u => answers u 0 ∧ u.sup.mode = .standby ∧ u.sup.safeNet = false ∧ u.sup.safeCause = 0)) ∧
      (v = 8#32 → s.sup.mode = .standby → State.below x.role .service = false →
        Yields (.requestExecute t) s fun u => answers u 0 ∧ u.sup.mode = .maintenance ∧ u.sup.maintSess = some i.val) ∧
      (v = 4#32 → s.sup.mode = .maintenance → refused stLocked) ∧
      (v = 15#32 → State.below x.role .service = true → refused stRole) ∧
      (∀ p ip port, v = 15#32 → State.below x.role .service = false → r.via = .udp p ip port → s.sup.resetFrame = none →
        Yields (.requestExecute t) s fun u =>
          u.sup.mode = .boot ∧ u.sup.boot = .coreReset ∧ u.sup.resetCause = .hostReset ∧ u.regs = s.store ∧ (∀ j : Fin 8, u.can.sess[j] = none)))

/-- BEACON (R54): an open session's beacon carries the next beacon count, goes where the session is, and the summary starts anew. -/
def Obligations.BeaconIsSent : Prop :=
  ∀ (s : State) (t : Nat) (i : Fin 8) (x : Sess),
    let a := s.advance t
    let f := mkFrame (a.sessHdr i x.minor kBeacon 0 (x.beacons + 1) 0 0 0xFF) ((a.updSess i fun y => { y with beacons := y.beacons + 1 }).beaconBody i x)
      (some x.key)
    s.canopyRuns = true → s.can.sess[i] = some x → s.sup.resetDue = none →
    Yields (.beacon t i) s fun u =>
      u.can.sess[i] = some { x with beacons := x.beacons + 1 } ∧ u.summary[i] = 0 ∧ SameBut [.heart, .can, .summary, .sent] s u ∧
      (x.via = .spi → s.can.spi.out = [] → u.can.spi.out = [⟨true, f⟩]) ∧
      (∀ p ip port, x.via = .udp p ip port → s.portsRun = true → s.can.net.link[p] = true → s.can.net.ip ≠ 0#32 →
        u.sent = ⟨a.now, .udp p ip port, f⟩ :: s.sent)

/-- The SPI commands that read (R37, R38): SPI_STATUS first, with IN_FULL as it is at the transfer, then what the table gives; READ_NEXT
discards the head frame first. A reset that waits for its response to leave is not in question here. -/
def Obligations.SpiReads : Prop :=
  ∀ (s : State) (t : Nat) (full : Bool), s.canopyRuns = true →
    let a := s.advance t
    let p := { s.can.spi with inFull := full }
    let st := State.spiStatus p
    let shows := fun (p : Spi) (bs : List Byte) =>
      (.next { a with can := { s.can with spi := p }, sent := ⟨a.now, .miso, st :: bs⟩ :: s.sent } : Host.Outcome State Fault Refusal)
    exec (.readStatus t full) s = shows p [] ∧
    (∀ n, exec (.spiUnknownCommand t n full) s = shows p (List.replicate n 0#8)) ∧
    (s.sup.resetDue = none → s.sup.resetFrame = none →
      exec (.readFrame t full) s = shows p (State.spiHead p) ∧
      exec (.readNext t full) s = shows { p with out := p.out.drop 1 } (State.spiHead { p with out := p.out.drop 1 }))

/-- WRITE_FRAME (R40). SPI_STATUS is shifted out with IN_FULL. A wrong length or CRC sets CRC_ERR and counts SPI_ERR_CNT; a good frame
that finds the queue full does neither and is not executed; a good frame that finds room clears CRC_ERR and is received as a frame
over SPI: an authenticated new REQUEST joins the queue, one shorter than a frame may be is counted. -/
def Obligations.WriteFrameIsJudged : Prop :=
  ∀ (s : State) (t : Nat) (bs : List Byte), s.canopyRuns = true → (s.sup.mode = .maintenance → Alone s t 7) →
    let a := s.advance t
    let spi := fun (full err : Bool) => { s.can.spi with inFull := full, crcErr := err }
    let moved := fun (full err : Bool) =>
      { a with can := { s.can with spi := spi full err }
               sent := ⟨a.now, .miso, State.spiStatus (spi full s.can.spi.crcErr) :: List.replicate bs.length 0#8⟩ :: s.sent }
    let frame := slice bs 2 (bs.length - 6)
    let cnt := State.linkBase + 0x64
    (∀ full, (State.spiLenOk bs && State.spiCrcOk bs) = false →
      Yields (.writeFrame t bs full) s fun u =>
        u.can = { s.can with spi := spi full true } ∧ u.rd cnt = satInc (s.rd cnt) ∧ (∀ b, b ≠ cnt → u.rd b = s.rd b) ∧
        SameBut [.heart, .regs, .can, .sent] s u) ∧
    ((State.spiLenOk bs && State.spiCrcOk bs) = true →
      exec (.writeFrame t bs true) s = .next (moved true s.can.spi.crcErr) ∧
      exec (.writeFrame t bs false) s = .next ((moved false false).receive .spi frame) ∧
      (∀ (i : Fin 8) (x : Sess),
        let q := (hdrOf frame).seq
        frameLenOk frame = true → (hdrOf frame).kind = kRequest → a.authOf .spi frame = .ok i x → s.clockFault = false →
        q ≠ 0 → 1 ≤ State.seqDist q x.h → State.seqDist q x.h ≤ 0x7FFFFFFF → (s.can.queue.filter fun (r : Req) => r.sess == i.val).length < 4 →
        (requestOps x.minor frame).isSome = true →
        Yields (.writeFrame t bs false) s fun u =>
          u.can.queue = s.can.queue ++ [⟨i, q, .spi, frame⟩] ∧
          u.can.sess[i] = some { x with via := .spi, renewed := a.now, h := q, seen := State.seenWindow q (q :: x.seen) } ∧
          u.can.spi = spi false false ∧ SameBut [.heart, .can, .sent] s u) ∧
      (frameLenOk frame = false →
        Yields (.writeFrame t bs false) s fun u =>
          u.can = { s.can with spi := spi false false } ∧ u.rd (hostBase + 0x94) = satInc (s.rd (hostBase + 0x94)) ∧
          SameBut [.heart, .regs, .can, .sent] s u))

/-- ARP_REQUEST and ICMP_ECHO for the address in use (R34) are answered on the port they came to, and change nothing else.
DHCP_MESSAGE (R34): the client's timer sends DISCOVER, an OFFER is answered with a REQUEST, the address acknowledged comes into use, and
a NAK loses the lease. ADDR_CHANGE (R80): the address selected comes into use. PORT_LINK_CHANGE (R354) updates the link of its port. -/
def Obligations.NetworkAnswers : Prop :=
  (∀ (s : State) (t : Nat) (p : Fin 2), s.canopyRuns = true → s.portUp p = true → s.can.net.ip ≠ 0#32 →
    (∀ mac ip, Yields (.arpRequest t p mac ip s.can.net.ip) s fun u =>
      SameBut [.heart, .sent] s u ∧ ∃ bs, u.sent = ⟨u.now, .arp p, bs⟩ :: s.sent ∧ bs.length = 28) ∧
    (∀ ip rest, Yields (.icmpEcho t p ip s.can.net.ip false rest) s fun u =>
      SameBut [.heart, .sent] s u ∧ ∃ h, u.sent = ⟨u.now, .icmp p ip, h ++ rest⟩ :: s.sent ∧ h.length = 4)) ∧
  (∀ (s : State) (t : Nat),
    (∀ p, s.canopyRuns = true → s.portUp p = true → s.dhcpOn = true →
      let d := s.can.net.dhcp
      (∀ ip server secs, d.st = .requesting ∨ d.st = .renewing ∨ d.st = .rebinding →
        Yields (.dhcpMessage t p (.ack ip server secs)) s fun u =>
          u.can.net.ip = ip ∧ u.can.net.lease = some ip ∧ u.can.net.dhcp = { d with st := .bound, ip := ip, server := server, since := d.asked, secs := secs } ∧
          u.can.sess = s.can.sess) ∧
      (∀ ip server, d.st = .selecting →
        Yields (.dhcpMessage t p (.offer ip server)) s fun u =>
          u.can = { s.can with net := { s.can.net with dhcp := { d with st := .requesting, ip := ip, server := server, asked := (s.advance t).now } } } ∧
          (∃ bs, ⟨(s.advance t).now, .dhcp p, bs⟩ ∈ u.sent) ∧ SameBut [.heart, .can, .sent] s u) ∧
      (d.st = .init →
        Yields (.dhcpMessage t p .timer) s fun u =>
          u.can.net.dhcp.st = .selecting ∧ u.can.net.dhcp.xid = Config.freeWord s.freeCtr ∧ u.freeCtr = s.freeCtr + 1 ∧
          (∃ bs, ⟨(s.advance t).now, .dhcp p, bs⟩ ∈ u.sent) ∧ SameBut [.heart, .can, .freeCtr, .sent] s u) ∧
      (d.st = .requesting ∨ d.st = .renewing ∨ d.st = .rebinding →
        Yields (.dhcpMessage t p .nak) s fun u =>
          u.can.net.ip = 0#32 ∧ u.can.net.lease = none ∧ u.can.net.dhcp.st = .selecting ∧ u.can.sess = s.can.sess)) ∧
    (s.can.net.changeDue = true → s.dhcpOn = false →
      Yields (.addrChange t) s fun u =>
        u.can.net.ip = s.netAddress ∧ u.can.net.changeDue = false ∧ u.can.sess = s.can.sess ∧ SameBut [.heart, .can, .regs, .log, .summary] s u) ∧
    (∀ p up fdx, s.powered 5 = true →
      Yields (.portLinkChange t p up fdx) s fun u => u.can.net.link[p] = up ∧ u.can.net.fdx[p] = (up && fdx) ∧ u.can.sess = s.can.sess))

/-! ### Self-test, firmware, boot, resets -/

/-- In MAINTENANCE: SELFTEST_DONE (R83, R101, R102) ends the self-test and releases the SAFE net that it has asserted, and the measured capacitance is the use of indicator 0. FW_ERASE_DONE (R99, R102),
FW_PROGRAM_DONE and FW_VERIFY_DONE (R99) end the operation in progress: UPD_STATE, UPD_ERR, and for a verification the inactive
bank, which holds the new version or is invalid. -/
def Obligations.SelftestAndFirmwareEnd : Prop :=
  ∀ (s : State) (t : Nat), s.sup.mode = .maintenance →
    (∀ fail c boost, s.sup.selftest = true →
      Yields (.selftestDone t fail c boost) s fun u =>
        u.sup.selftest = false ∧ u.sup.safeNet = (s.sup.safeNet && s.sup.rstLow) ∧ u.wear.used[(0 : Fin 8)] = satU 16 (10000 * (3300 - c) / 825) ∧ u.can = s.can ∧ u.pwr = s.pwr) ∧
    (∀ sector n, s.sup.fw.upd = .erasing →
      Yields (.fwEraseDone t sector n) s fun u =>
        u.sup = { s.sup with fw := { s.sup.fw with upd := .ready } } ∧ u.wear.erases = max s.wear.erases n ∧
        SameBut [.heart, .sup, .wear, .dio, .regs, .log, .summary] s u) ∧
    (∀ ok, s.sup.fw.upd = .programming →
      Yields (.fwProgramDone t ok) s fun u =>
        u.sup.fw = (if ok then { s.sup.fw with upd := .ready } else { s.sup.fw with upd := .failed, err := 3 }) ∧ SameBut [.heart, .sup] s u) ∧
    (∀ ok v err, s.sup.fw.upd = .verifying →
      Yields (.fwVerifyDone t ok v err) s fun u =>
        u.sup.fw = (if ok then { State.onInactive s.sup.fw (fun b => { b with valid := true, version := v }) with upd := .verified, err := 0 }
          else { State.spoilInactive s.sup.fw with upd := .failed, err := if err = 2 then 2 else 1 }) ∧
        SameBut [.heart, .sup] s u)

/-- The timeline of BOOT, each row in its own phase (R87): the straps are latched, the core leaves reset once the root is locked, the
memory test passes or stalls the boot, the image passes (the watchdog is armed and LINK powered), or the other bank is tried
once, or the boot stalls; and a late root makes FLT flash (R88). -/
def Obligations.BootTimeline : Prop :=
  ∀ (s : State) (t : Nat),
    let bank := if s.bootBankB then s.sup.fw.bankB else s.sup.fw.bankA
    (∀ st, s.inBoot .aonReset = true →
      Yields (.aonResetEnd t st) s fun u => u.sup = { s.sup with boot := .clocks, straps := st } ∧ SameBut [.heart, .sup] s u) ∧
    (s.inBoot .coreReset = true →
      Yields (.coreResetEnd t) s fun u =>
        u.sup = { s.sup with boot := if s.clk.rootLocked then .sram else .clocks } ∧ SameBut [.heart, .sup, .time] s u) ∧
    (∀ ok, s.inBoot .sram = true →
      Yields (.sramTestDone t ok) s fun u =>
        u.sup = (if ok then { s.sup with boot := .auth } else { s.sup with boot := .stalled, bootFail := true }) ∧ SameBut [.heart, .sup] s u) ∧
    (s.inBoot .auth = true → bank.valid = true →
      Yields (.imageAuthDone t true) s fun u =>
        u.sup.boot = .restore ∧ u.sup.wdArmed = true ∧ u.sup.mode = .boot ∧ u.pwr.powered = s.pwr.powered ||| 0x20 ∧
        u.sup.fw.fallback = (s.sup.fw.fallback || s.sup.triedOther || s.sup.straps.bootSel) ∧ SameBut [.heart, .sup, .pwr] s u) ∧
    (s.inBoot .auth = true → s.sup.triedOther = false →
      Yields (.imageAuthDone t false) s fun u => u.sup.boot = .auth ∧ u.sup.triedOther = true ∧ SameBut [.heart, .sup] s u) ∧
    (s.inBoot .auth = true → s.sup.triedOther = true →
      Yields (.imageAuthDone t false) s fun u => u.sup.boot = .stalled ∧ u.sup.bootFail = true ∧ SameBut [.heart, .sup] s u) ∧
    (s.inBoot .clocks = true → (s.clk.xrefStable && s.clk.rootLocked) = false → s.sup.bootStart + 97000000 ≤ (s.advance t).now →
      Yields (.bootStall t) s fun u => u.sup = { s.sup with bootFail := true } ∧ SameBut [.heart, .sup] s u)

/-- BOOT_COMPLETE (R81, R87, R89): the tables of the store are validated, the address selected comes into use, segments restart, the flags
of this BOOT are raised, and the module enters STANDBY with the SAFE net released; after a watchdog reset or a thermal restart
the saved set is restored and the module enters SAFE_HOLD with its cause and the SAFE net asserted. -/
def Obligations.BootCompletes : Prop :=
  ∀ (s : State) (t : Nat), s.inBoot .restore = true →
    let a := (s.advance t).judgeTables
    let b := a.updNet fun n => { n with ip := a.netAddress, changeDue := false }
    let holds := fun (u : State) (m : Mode) (net : Bool) =>
      u.sup.mode = m ∧ u.sup.safeNet = net ∧ u.sup.boot = .done ∧ u.sup.lifeWave = false ∧ u.can.net.ip = a.netAddress ∧
      u.can.net.changeDue = false ∧ u.can.sess = s.can.sess ∧ u.can.claims = s.can.claims ∧ u.wear = s.wear
    (s.sup.resetCause ≠ .watchdog → s.sup.resetCause ≠ .thermal →
      exec (.bootComplete t) s = .next ((((b.rootBoot.bootFlags.toPhase .done).setMode .standby).releaseSafe).settleAll.dhcpDiscover) ∧
      Yields (.bootComplete t) s fun u => holds u .standby false) ∧
    (s.sup.resetCause = .watchdog ∨ s.sup.resetCause = .thermal →
      Yields (.bootComplete t) s fun u =>
        holds u .safeHold true ∧
        u.sup.safeCause = if s.sup.resetCause = .watchdog then State.causeWatchdog else State.causeThermal)

/-- The resets (R81, R90, R91, R92, R425): each asserts the SAFE net, stops the life wave, leaves every register at what the
configuration store keeps, and destroys sessions, claims, queued requests and the event-log ring; its cause and where BOOT
resumes are those of R90. RST_N rising while the sentinel is stopped ends only its own reset (R425). -/
def Obligations.ResetRows : Prop :=
  ∀ (s : State) (t : Nat),
    let gone := fun (u : State) =>
      u.sup.safeNet = true ∧ u.sup.lifeWave = false ∧ u.regs = s.store ∧ u.store = s.store ∧ (∀ i : Fin 8, u.can.sess[i] = none) ∧
      u.can.claims = [] ∧ u.can.queue = [] ∧ u.log.ring = []
    (s.sup.mode = .off →
      Yields (.powerOn t) s fun u =>
        gone u ∧ u.sup.mode = .boot ∧ u.sup.boot = .aonReset ∧ u.sup.resetCause = .powerOn ∧ u.sup.bootStart = (s.advance t).now ∧ u.pwr.powered = 1) ∧
    (s.sup.mode ≠ .off →
      Yields (.vlBelowOff t) s fun u => gone u ∧ u.sup.mode = .off ∧ u.pwr.powered = 0 ∧ u.sup.shdnLow = false) ∧
    (∀ st, s.sup.mode ≠ .off → s.sup.rstLow = true → s.sup.sentStopped = false →
      Yields (.rstNRise t st) s fun u =>
        gone u ∧ u.sup.mode = .boot ∧ u.sup.boot = .clocks ∧ u.sup.resetCause = .rstPin ∧ u.sup.rstLow = false ∧ u.sup.straps = st ∧
        u.sup.bootStart = (s.advance t).now - 2000000 ∧ u.sup.shutdowns = []) ∧
    (∀ st, s.sup.sentStopped = true →
      Yields (.rstNRise t st) s fun u => u.sup = { s.sup with rstLow := false } ∧ SameBut [.heart, .sup] s u) ∧
    (Alone s t 3 → s.sup.mode ≠ .off → s.sup.mode ≠ .thermalOff → s.sup.wdArmed = true → s.sup.sentStopped = false →
      s.sup.lastBeat + 9700000 ≤ (s.advance t).now →
      Yields (.watchdogExpiry t) s fun u =>
        gone u ∧ u.sup.mode = .boot ∧ u.sup.boot = .coreReset ∧ u.sup.resetCause = .watchdog ∧ u.sup.bootStart = (s.advance t).now - 17000000 ∧
        u.sup.straps = s.sup.straps ∧ u.sup.shutdowns = s.sup.shutdowns) ∧
    (s.sup.mode ≠ .off → s.sup.sentStopped = false →
      Yields (.sentinelStop t) s fun u => gone u ∧ u.sup.mode = .boot ∧ u.sup.sentStopped = true ∧ u.sup.sentLatch = true)

/-- RST_N_ACCEPT asserts the SAFE net at once; the module is in BOOT, with its sessions as they are, until RST_N rises (R81, R91).
SENTINEL_RESTART, once the sentinel has run for 1 ms, lets BOOT resume at t = 2 ms with new straps and the cause POWER_ON (R425). HEARTBEAT restarts the watchdog's count (R92). -/
def Obligations.SupervisorRows : Prop :=
  ∀ (s : State) (t : Nat),
    (Alone s t 3 → s.sup.mode ≠ .off → s.sup.rstLow = false →
      Yields (.rstNAccept t) s fun u =>
        u.sup.mode = .boot ∧ u.sup.safeNet = true ∧ u.sup.rstLow = true ∧ u.sup.lifeWave = false ∧ u.can.sess = s.can.sess ∧ u.store = s.store) ∧
    (∀ st, s.sup.sentStopped = true → s.sup.bootStart + 800000 ≤ (s.advance t).now →
      Yields (.sentinelRestart t st) s fun u =>
        u.sup = { s.sup with sentStopped := false, resetCause := .powerOn, straps := st, boot := .clocks, bootStart := (s.advance t).now - 2000000 } ∧ SameBut [.heart, .sup] s u) ∧
    (s.powered 1 = true → s.sup.coreAlive = true →
      Yields (.heartbeat t) s fun u => u.sup = { s.sup with lastBeat := (s.advance t).now } ∧ SameBut [.heart, .sup] s u)

/-- VL_SAG_CLEAR (R95, R393) clears the sag and its condition cause. WEAR_COMMIT counts its erase and puts the wear ledger into
flash (R102).
HOLDUP_MEASURE and BOOST_CAP_MEASURE give indicators 0 and 1 their use; the third measurement in a row above 9,000 sets WARN (R103). -/
def Obligations.SagClearAndWear : Prop :=
  ∀ (s : State) (t : Nat),
    (s.pwr.sag.isSome = true → s.aonRuns = true →
      Yields (.vlSagClear t) s fun u => u.pwr = { s.pwr with sag := none, sagData := none, sagShed := false } ∧ u.sup.safeCause &&& State.causeSag = 0) ∧
    (∀ sector n, s.aonRuns = true →
      Yields (.wearCommit t sector n) s fun u =>
        u.wear.erases = max s.wear.erases n ∧ u.wear.used[(5 : Fin 8)] = satU 16 (u.wear.erases / 10) ∧
        u.wearSaved = { u.wear with hours := (s.advance t).runTenths } ∧
        SameBut [.heart, .wear, .wearSaved, .dio, .regs, .log, .summary, .time, .gnss] s u) ∧
    (∀ c, s.sup.mode ≠ .off →
      Yields (.holdupMeasure t c) s fun u =>
        let use := 10000 * (3300 - c) / 825
        u.wear.used[(0 : Fin 8)] = satU 16 use ∧ u.rd (wearBase + 0x60) = s.stamped (wearBase + 0x60) (fieldAt 15 0 (satU 16 c)) ∧
        (9000 < use → 2 ≤ s.wear.hold9 → s.wear.warn[(0 : Fin 8)] = false → u.wear.warn[(0 : Fin 8)] = true ∧ u.wear.replace = true) ∧
        SameBut [.heart, .wear, .dio, .regs, .log, .summary] s u) ∧
    (∀ (b : Fin 6) c esr, s.powered 8 = true → s.bit (pageBase .act (2 * b) + 0x44) 16 = true →
      Yields (.boostCapMeasure t b c esr) s fun u =>
        let e0 := max 1 (Config.esr0 b)
        u.wear.boostUse = s.wear.boostUse.set b (max (10000 * (2200 - c) / 440) (10000 * (esr - e0) / e0)) ∧
        u.wear.used[(1 : Fin 8)] = satU 16 (worstOf u.wear.boostUse.toList).1 ∧ SameBut [.heart, .wear, .dio, .regs, .log, .summary] s u)

/-! ### Clocks -/

/-- XREF_WINDOW (R414): the window's count is posted; XREF is stable with the eighth agreeing window in a row, which enables the
PLL; with the root locked, a count outside its range, or more than 1,000 ppm from the one before, is XREF_LOST (R416).
ROOT_LOCK (R415) locks the root after 200 µs, in BOOT it lets the timeline go on; PLL_RETRY (R415) tries again 10 ms later. -/
def Obligations.RootClock : Prop :=
  ∀ (s : State) (t : Nat), s.aonRuns = true →
    let good := fun (count : Nat) =>
      s.clk.rootLocked = false ∨ (State.countInRange count = true ∧ ∀ p, s.clk.lastCount = some p → 1000 * ((count : Int) - p).natAbs ≤ p)
    (∀ count, good count → s.clk.windowAt ≠ some (s.advance t).now → Yields (.xrefWindow t count true) s fun u =>
      u.clk.lastCount = some count ∧ u.clk.run = [] ∧ u.clk.xrefStable = false ∧ u.rd (clkBase + 0x60) = s.stamped (clkBase + 0x60) (fieldAt 20 0 (satU 21 count)) ∧
      SameBut [.heart, .clk, .regs] s u) ∧
    (∀ count, good count → State.countInRange count = true → State.spreadOk ((count :: s.clk.run).take 8) = true → 7 ≤ s.clk.run.length →
      s.clk.windowAt ≠ some (s.advance t).now →
      Yields (.xrefWindow t count false) s fun u => u.clk.xrefStable = true ∧ u.clk.pllOn = true ∧ SameBut [.heart, .clk, .regs] s u) ∧
    (∀ count absent, ¬ good count → s.clk.windowAt ≠ some (s.advance t).now → s.clockFault = false → s.sup.mode.awake = true → Alone s t 4 →
      Yields (.xrefWindow t count absent) s fun u =>
        u.clk.fault = 1 ∧ u.clk.rootLocked = false ∧ u.clk.xrefStable = false ∧ u.sup.mode = .safeHold ∧ u.sup.safeNet = true ∧
        u.sup.safeCause = State.causeClock) ∧
    (s.clk.pllOn = true → s.clk.xrefStable = true → s.clk.rootLocked = false → s.clk.pllAt + 190000 ≤ (s.advance t).now →
      Yields (.rootLock t) s fun u =>
        u.clk = { s.clk with rootLocked := true } ∧ SameBut [.heart, .clk, .sup, .pwr, .time] s u ∧
        (s.inBoot .clocks = true → u.sup = { s.sup with boot := .coreReset, bootFail := false } ∧ u.pwr.powered = s.pwr.powered ||| 2) ∧
        (s.inBoot .clocks = false → u.sup = s.sup ∧ u.pwr = s.pwr)) ∧
    (s.clk.pllOn = true → s.clk.rootLocked = false → s.clk.pllAt + 2000000 ≤ (s.advance t).now →
      Yields (.pllRetry t) s fun u => u.clk = { s.clk with pllAt := (s.advance t).now + 10000000 } ∧ SameBut [.heart, .clk] s u)

/-- CLOCK_FAULT (R416, R422) with the root locked, in a mode that runs: the fault and its cause stand, the module is in SAFE_HOLD with
the SAFE net asserted and the clock cause set; in BOOT the boot resumes at t = 3 ms (R86).
CLOCK_FAULT_END (R424): the fault is over, its condition cause clears, the mode stays, and every lease counts anew (R53); no frame waited for the core. -/
def Obligations.ClockFaults : Prop :=
  (∀ (s : State) (t cause : Nat), Alone s t 4 → (cause = 1 ∨ cause = 2) → s.aonRuns = true → s.clockFault = false → s.clk.rootLocked = true →
    (s.sup.mode.awake = true →
      Yields (.clockFault t cause) s fun u =>
        u.clk.fault = cause ∧ u.clk.faultAt = (s.advance t).now ∧ u.clk.rootLocked = false ∧ u.sup.mode = .safeHold ∧ u.sup.safeNet = true ∧
        u.sup.safeCause = State.causeClock) ∧
    (s.sup.mode = .boot →
      Yields (.clockFault t cause) s fun u =>
        u.sup.mode = .boot ∧ u.sup.boot = .clocks ∧ u.sup.bootStart = (s.advance t).now - 3000000 ∧ u.sup.safeNet = true ∧ u.clk.rootLocked = false)) ∧
  (∀ (s : State) (t dur ovf : Nat), s.clockFault = true → s.clk.xrefStable = true → s.clk.rootLocked = true → s.can.rxq = [] →
    Yields (.clockFaultEnd t dur ovf) s fun u =>
      u.clockFault = false ∧ u.sup.safeCause &&& State.causeClock = 0 ∧ (s.sup.mode.awake = false → u.sup.mode = s.sup.mode) ∧
      u.can.claims = s.can.claims ∧ (∀ (i : Fin 8) x, u.can.sess[i] = some x → x.renewed = (s.advance t).now))

/-- MUX_FORCED_RELEASE (R419) puts the multiplexer of the AFE island, its clock channel stopped, or that of the core in a clock fault on its
new source, is counted and flagged, and does nothing to a multiplexer that already stands there; TCXO_STOP (R417) and a TCXO_WINDOW out of ±5 ppm end TCXO_OK; the eighth good
window in a row sets it.
FCNT_DONE and FCNT_NOREF (R426, R427) end a running measurement: its state is posted, the count with FCNT_DONE (the gate itself where
the reference counts itself, 0 for source 15), and COUNT_DONE is flagged; nothing else changes. Reference 15 never opens a gate. -/
def Obligations.ReferenceClocks : Prop :=
  (∀ (s : State) (t : Nat),
    (s.powered 6 = true → s.afe.onRc = true → s.afe.muxRc = false → s.can.rxq = [] →
      Yields (.muxForcedRelease t true) s fun u =>
      u.afe = { s.afe with muxRc := true } ∧ u.rd (clkBase + 0x4C) = satInc (s.rd (clkBase + 0x4C)) ∧ u.bit (clkBase + 0x10) 3 = true ∧ SameBut [.heart, .afe, .regs, .log, .summary] s u) ∧
    (s.afe.muxRc = true → s.can.rxq = [] → exec (.muxForcedRelease t true) s = .next (s.advance t)) ∧
    (s.clk.coreOnSentinel = true → s.can.rxq = [] → exec (.muxForcedRelease t false) s = .next (s.advance t)) ∧
    (s.clockFault = true → s.clk.coreOnSentinel = false → s.can.rxq = [] →
      Yields (.muxForcedRelease t false) s fun u =>
        u.clk = { s.clk with coreOnSentinel := true } ∧ u.rd (clkBase + 0x4C) = satInc (s.rd (clkBase + 0x4C)) ∧
        SameBut [.heart, .clk, .regs, .log, .summary] s u) ∧
    (s.powered 4 = true → Yields (.tcxoStop t) s fun u => u.clk.tcxoOk = false ∧ u.clk.tcxoRun = 0) ∧
    (∀ count : Nat, s.powered 4 = true → s.clk.xrefGone = false → 13 < ((count : Int) - 2600000).natAbs →
      Yields (.tcxoWindow t count) s fun u => u.clk.tcxoOk = false ∧ u.clk.tcxoRun = 0) ∧
    (∀ count : Nat, s.powered 4 = true → s.clk.xrefGone = false → ((count : Int) - 2600000).natAbs ≤ 13 → 7 ≤ s.clk.tcxoRun →
      Yields (.tcxoWindow t count) s fun u => u.clk.tcxoOk = true ∧ u.clk.tcxoRun = 8)) ∧
  (∀ (s : State) (t t0 : Nat) (cfg : Word), s.clk.fcnt = some (t0, cfg) →
    (∀ count, fieldOf cfg 7 4 = 15 → exec (.fcntDone t count) s = .next (s.advance t)) ∧
    (∀ count, (s.advance t).fcntMayClose t0 cfg = true →
      Yields (.fcntDone t count) s fun u =>
        u.clk = { s.clk with fcnt := none } ∧ u.fld (clkBase + 0x88) 18 16 = 2 ∧
        u.rd (clkBase + 0x8C) = (if fieldOf cfg 7 4 = fieldOf cfg 3 0 then toWord (fieldOf cfg 31 16) else if fieldOf cfg 3 0 = 15 then 0#32
          else toWord (count % 2 ^ 32)) ∧
        u.bit (clkBase + 0x10) 6 = true ∧ SameBut [.heart, .clk, .regs, .log, .summary] s u) ∧
    (t0 + 97000000 ≤ (s.advance t).now →
      Yields (.fcntNoref t) s fun u =>
        u.clk = { s.clk with fcnt := none } ∧ u.fld (clkBase + 0x88) 18 16 = 3 ∧ u.bit (clkBase + 0x10) 6 = true ∧
        SameBut [.heart, .clk, .regs, .log, .summary] s u))

/-! ### Supplies, domains, arbiter, ledger -/

/-- SUPPLY_MEASURE (R389, R396, R397): VFA_OVL by its limit with 10 % hysteresis, VFF_OVL by its limit, VL_OVL by the mean of the last
1,000 products, all from the values measured.
VL_LOW, VL_LOW_CLEAR (R392), VFF_UV and VFF_UV_CLEAR (R397): the condition stands or is over, the first ones with their flag;
nothing else changes. -/
def Obligations.SupplyRows : Prop :=
  (∀ (s : State) (t vl il vfa ifa vff iff vr ir : Nat), s.aonRuns = true →
    Yields (.supplyMeasure t vl il vfa ifa vff iff vr ir) s fun u =>
      let lim := 100 * s.fld (pwrBase + 0x44) 5 0
      (lim < ifa → u.pwr.vfaOvl = true) ∧ (ifa ≤ lim → ifa * 10 < 9 * lim → u.pwr.vfaOvl = false) ∧
      (ifa ≤ lim → 9 * lim ≤ ifa * 10 → u.pwr.vfaOvl = s.pwr.vfaOvl) ∧
      u.pwr.vffOvl = decide (100 * s.fld (pwrBase + 0x48) 4 0 < iff) ∧ u.pwr.vlPower = (vl * il :: s.pwr.vlPower).take 1000 ∧
      u.pwr.vlOvl = (decide (u.pwr.vlPower.length = 1000) && decide (150000000 < u.pwr.vlPower.sum)) ∧
      u.pwr.powered = s.pwr.powered ∧ u.can = s.can) ∧
  (∀ (s : State) (t : Nat),
    (s.aonRuns = true → s.pwr.vlLow = false →
      Yields (.vlLow t) s fun u =>
        u.pwr = { s.pwr with vlLow := true } ∧ u.bit (pwrBase + 0x10) 0 = true ∧ SameBut [.heart, .pwr, .regs, .log, .summary] s u) ∧
    (s.pwr.vlLow = true → Yields (.vlLowClear t) s fun u => u.pwr = { s.pwr with vlLow := false } ∧ SameBut [.heart, .pwr] s u) ∧
    (s.aonRuns = true → s.pwr.vffUv = false →
      Yields (.vffUv t) s fun u =>
        u.pwr = { s.pwr with vffUv := true } ∧ u.bit (pwrBase + 0x10) 7 = true ∧ SameBut [.heart, .pwr, .regs, .log, .summary] s u) ∧
    (s.pwr.vffUv = true → Yields (.vffUvClear t) s fun u => u.pwr = { s.pwr with vffUv := false } ∧ SameBut [.heart, .pwr] s u))

/-- The VL sag decision (R81, R393, R394). HOLDUP_JUDGE makes it when the stored energy has fallen to its limit, and
VL_FALLBACK_DECISION while the ledger cannot judge: the sag stands from this instant and a running module is in SAFE_HOLD with
the sag cause.
After the decision (R393): VL_SAG_SHED switches LOOP, XFORM, GNSS and CELL off, and no other domain; VL_SAG_COMMIT_DONE puts the
recent entries into the archive and the wear ledger into flash; once indicator 5 has ended, no archive write within an hour (R102). -/
def Obligations.SagRows : Prop :=
  (∀ (s : State) (t vl : Nat), Alone s t 5 → s.aonRuns = true → s.pwr.sag = none → s.sup.mode.awake = true →
    (s.pwr.vlLow = true → s.ledgerJudges = true →
      F64.le (s.eHu vl) (F64.add (F64.dec 120 3) (F64.dec (s.fld (pwrBase + 0x4C) 31 24) 3)) = true →
      Yields (.holdupJudge t vl) s fun u =>
        u.pwr.sag = some (s.advance t).now ∧ u.sup.mode = .safeHold ∧ u.sup.safeCause = State.causeSag ∧ u.sup.safeNet = true) ∧
    (s.ledgerJudges = false →
      Yields (.vlFallbackDecision t vl) s fun u =>
        u.pwr.sag = some (s.advance t).now ∧ u.sup.mode = .safeHold ∧ u.sup.safeCause = State.causeSag ∧ u.sup.safeNet = true)) ∧
  (∀ (s : State) (t : Nat),
    (s.pwr.sagData.isSome = true →
      Yields (.vlSagShed t) s fun u =>
        u.pwr.sagShed = true ∧ u.pwr.sagData = none ∧ ∀ n, n < 12 → u.powered n = (s.powered n && !(n == 2 || n == 3 || n == 4 || n == 7))) ∧
    (∀ sector n, s.pwr.sag.isSome = true →
      Yields (.vlSagCommitDone t sector n) s fun u =>
        u.wear.erases = max s.wear.erases n ∧ u.wearSaved = { u.wear with hours := (s.advance t).runTenths } ∧
        (s.wear.ended[(5 : Fin 8)] = false → u.log.archive = s.log.ring.take (min 512 s.log.unarchived) ++ s.log.archive) ∧
        (∀ t0, s.wear.ended[(5 : Fin 8)] = true → s.log.lastArchive = some t0 → (s.advance t).now < t0 + 3600000000000 → u.log.archive = s.log.archive) ∧
        (s.wear.ended[(5 : Fin 8)] = false → max s.wear.erases n ≤ 90000 → u.log.ring = s.log.ring ∧ u.log.unarchived = 0) ∧
        SameBut [.heart, .log, .regs, .summary, .wear, .wearSaved, .dio, .time, .gnss] s u))

/-- VFA_STAGE_SET and VFA_STAGE_CLEAR (R395): the stage in force; the end of stage 3 ends the sag of every bank.
Power domains (R398–R400): DOMAIN_POWER_UP powers a domain that waits for it, DOMAIN_POWER_OFF one that no enable wants any
longer; DOM_FAULT switches a domain off, and resets the module where the domain is CORE or LINK. -/
def Obligations.StagesAndDomains : Prop :=
  (∀ (s : State) (t st : Nat), s.aonRuns = true →
    (s.pwr.vfaStage < st → st ≤ 3 → Yields (.vfaStageSet t st) s fun u => u.pwr = { s.pwr with vfaStage := st } ∧ u.can = s.can) ∧
    (1 ≤ st → st ≤ s.pwr.vfaStage →
      Yields (.vfaStageClear t st) s fun u =>
        u.pwr = { s.pwr with vfaStage := st - 1 } ∧ (s.pwr.vfaStage = 3 → ∀ n : Fin 12, (u.bank n).sag = false) ∧
        SameBut [.heart, .pwr, .arb, .banks, .led, .sup, .regs, .log, .summary, .loops] s u)) ∧
  (∀ (s : State) (t n : Nat),
    (s.powering n = true → s.sup.mode ≠ .boot →
      Yields (.domainPowerUp t n) s fun u => u.pwr = { s.pwr with powered := s.pwr.powered ||| 2 ^ n }) ∧
    (s.wanted n = false → (domEnables n).isEmpty = false → s.powered n = true →
      Yields (.domainPowerOff t n) s fun u => u.pwr = { s.pwr with powered := s.pwr.powered &&& (0xFFF ^^^ 2 ^ n) } ∧ u.powered n = false) ∧
    (s.aonRuns = true → s.powered n = true → (domEnables n).isEmpty = false →
      Yields (.domFault t n) s fun u => u.powered n = false ∧ u.can = s.can) ∧
    (s.aonRuns = true → s.powered n = true → n = 1 ∨ n = 5 →
      Yields (.domFault t n) s fun u => u.sup.mode = .boot ∧ u.sup.boot = .coreReset ∧ u.sup.resetCause = .watchdog))

/-- The recharge grants of one slot (R402), no phase and no inrush waiting: none while recharge is refused, each at least 0.5 A, and
together no more than the budget A_RB. -/
def Obligations.RechargeGrants : Prop :=
  ∀ (s : State) (t iVfa iVff : Nat), s.arbRuns = true → s.arb.pending = [] → s.arb.inrush = [] →
    Yields (.arbiterSlot t iVfa iVff) s fun u =>
      u.arb.pending = [] ∧ (∀ g ∈ u.arb.rechg, g = 0 ∨ 5 ≤ g) ∧ u.arb.rechg.sum ≤ s.rechgBudget ∧
      (s.rechgRefused = true → u.arb.rechg = List.replicate 6 0)

/-- LEDGER_UPDATE (R405, R407): with its clock enable 1 and no clock fault every converter is updated at this instant of Heartwood, and the energy taken off
for starts is that of the events that start after it. USE_SPAN (R410) begins a new second. ENERGY_LIMIT_EXPIRY (R408): 1 s after the last
limit ended, with none in force, ENERGY_LIMIT ends and CONSTRAINED with it. -/
def Obligations.LedgerRows : Prop :=
  ∀ (s : State) (t : Nat),
    (s.clocked .ledger = true → s.clockFault = false →
      Yields (.ledgerUpdate t) s fun u =>
        u.led.conv.length = s.led.conv.length ∧
        ∀ (b : Nat) c, b < 6 → u.led.conv[b]? = some c → c.lastUpdate = (s.advance t).hwNs ∧ (∀ h : b < 6, c.started = (s.advance t).startingUnits ⟨b, h⟩)) ∧
    (s.aonRuns = true → s.powered 1 = true →
      Yields (.useSpan t) s fun u =>
        u.led = { s.led with secSum := List.replicate 4 0, secN := 0 } ∧
        u.rd (ledBase + 0x104) = toWord (satU 16 (roundDiv (s.led.secSum.getD 0 0) (1000 * max 1 s.led.secN))) ∧ SameBut [.heart, .led, .regs] s u) ∧
    (s.led.energyLimit = true → s.led.limiting = false → s.led.rcut = false → s.led.limitEnd + 1000000000 ≤ (s.advance t).now →
      (∀ n : Fin 12, (s.bank n).queue = []) →
      Yields (.energyLimitExpiry t) s fun u =>
        u.led = { s.led with energyLimit := false } ∧ (s.sup.mode = .constrained → s.enfLevel = 0 → u.sup.mode = .run))

/-! ### Thermal supervision and fans -/

/-- THR_EFF (R431): THR, lowered once by 10 °C where indicator 4 has ended, or indicator 7 for TS2 and TS4; the hysteresis is 5 °C
below the limit that was exceeded; a reading at a limit does not exceed it. A sensor with THR_EN = 1 is judged against THR_EFF;
one with THR_EN = 0 is not judged. -/
def Obligations.EffectiveThreshold : Prop :=
  ∀ (s : State) (n : Fin 10),
    let thr := signed 16 (s.fld (State.tsCfg n) 31 16)
    ((s.wear.ended[(4 : Fin 8)] = true ∨ (s.wear.ended[(7 : Fin 8)] = true ∧ (n = 2 ∨ n = 4))) → s.thrEff n = thr - 640) ∧
    (¬ (s.wear.ended[(4 : Fin 8)] = true ∨ (s.wear.ended[(7 : Fin 8)] = true ∧ (n = 2 ∨ n = 4))) → s.thrEff n = thr) ∧
    (∀ k : Nat, (s.sensor n).stage = .enforce k → s.fallLimit n = s.thrEff n + 320 * ((k : Int) - 1) - 320) ∧
    ((s.sensor n).stage = .request → s.fallLimit n = s.thrEff n - 320) ∧
    (∀ (x : Sensor) (lim : Int), lim ∈ x.hist → State.above4 x lim = false) ∧
    (s.thrEn n = false → s.judgeStage n = s) ∧
    (s.thrEn n = true → (s.sensor n).broken = false → (s.sensor n).stage = .none →
      ((s.judgeStage n).sensor n).stage = (if State.above4 (s.sensor n) (s.thrEff n) then .request else .none)) ∧
    (∀ k : Nat, s.thrEn n = true → (s.sensor n).broken = false → (s.sensor n).stage = .enforce k → k < 3 →
      State.above4 (s.sensor n) (s.thrEff n + 320 * k) = true → ((s.judgeStage n).sensor n).stage = .enforce (k + 1))

/-- ENF_LEVEL, THR_REQUEST and THR_ENFORCE of DEV_STAT (R433), and RUN and CONSTRAINED, which follow it. -/
def Obligations.EnforcementLevel : Prop :=
  ∀ s : State,
    (∀ (n : Fin 10) (k : Nat), s.sensors[n].stage = .enforce k → k ≤ s.enfLevel) ∧
    (s.enfLevel = 0 ∨ ∃ n : Fin 10, s.sensors[n].stage = .enforce s.enfLevel) ∧
    (s.thrRequest = true ↔ ∃ n : Fin 10, s.sensors[n].stage = .request) ∧
    (∀ w, (s.viewDev 0x48 w).getLsbD 2 = s.thrRequest ∧ (s.viewDev 0x48 w).getLsbD 3 = decide (0 < s.enfLevel)) ∧
    (s.sup.mode = .run → 0 < s.enfLevel → s.settleMode.sup.mode = .constrained) ∧
    (s.sup.mode = .constrained → s.enfLevel = 0 → s.led.energyLimit = false → s.settleMode.sup.mode = .run)

/-- THERM_SAMPLE (R428–R430): every sensor that is fitted with a diode has its new reading, or is broken and reads 0x7FFF; a value of the
other kind is no reading. In THERMAL_OFF it ends the mode at a sample that meets every condition of R439, and at no other.
GRACE_EXPIRY (R432): REQUEST becomes ENFORCE, level 1. CRITICAL_TRIP (R437, R438) of a comparator that can trip: THERMAL_OFF, SYS_SHDN_N low, the SAFE net, AON alone
powered; further trips add up. With SHDN_OPEN = 0 a broken sensor does not trip. -/
def Obligations.ThermalRows : Prop :=
  (∀ (s : State) (t : Nat) (v : Vector Sensed 10) (n : Fin 10) (mv : Nat) (milli : Int), s.aonRuns = true → s.tsType n = 1 → Alone s t 2 →
    v[n] = .diode mv milli →
    Yields (.thermSample t v) s fun u =>
      let x := u.sensors[n]
      x.valid = true ∧ x.stamp = (s.advance t).hwNs ∧ (200 ≤ mv ∧ mv ≤ 900 → x.broken = false ∧ x.temp = tempOfMilli milli) ∧
      (¬ (200 ≤ mv ∧ mv ≤ 900) → x.broken = true ∧ x.temp = 0x7FFF ∧ (s.thrEn n = true → x.stage = .enforce 3))) ∧
  (∀ (s : State) (t : Nat) (v : Vector Sensed 10) (n : Fin 10), s.aonRuns = true → s.tsType n ≠ 0 → Alone s t 2 →
    (∀ b, reading (s.tsType n) b v[n] = none) →
    Yields (.thermSample t v) s fun u => u.sensors[n].broken = true ∧ u.sensors[n].temp = 0x7FFF) ∧
  (∀ (s : State) (t : Nat) (v : Vector Sensed 10), s.aonRuns = true → s.sup.mode = .thermalOff →
    let a := s.advance t
    let cool := fun (n : Fin 10) => (reading 1 0 v[n]).any fun x => decide (x ≤ ((s.tCrit : Int) - 20) * 64)
    ((∀ n : Fin 10, n.val < 6 → s.tsType n = 1) → (∀ n : Fin 10, n.val < 6 → cool n = true) → s.sup.thermalAt + 60000000000 ≤ a.now →
      a.thermCount < 3 → s.sup.thermHold = false →
      Yields (.thermSample t v) s fun u =>
        u.sup.mode = .boot ∧ u.sup.boot = .clocks ∧ u.sup.resetCause = .thermal ∧ u.sup.bootStart = a.now - 3000000 ∧ u.sup.shdnLow = false ∧
        u.sup.safeNet = true ∧ u.sup.tripNow = 0 ∧ u.sup.lifeWave = false ∧ (∀ i : Fin 8, u.can.sess[i] = none) ∧ u.store = s.store) ∧
    (Alone s t 2 →
      s.sup.thermHold = true ∨ 3 ≤ a.thermCount ∨ a.now < s.sup.thermalAt + 60000000000 ∨
        (∃ n : Fin 10, n.val < 6 ∧ s.tsType n = 1 ∧ (reading 1 0 v[n]).isSome = true ∧ cool n = false) →
      Yields (.thermSample t v) s fun u => u.sup.mode = .thermalOff ∧ u.sup.shdnLow = s.sup.shdnLow ∧ u.sup.thermalAt = s.sup.thermalAt)) ∧
  (∀ (s : State) (t : Nat),
    (∀ n : Fin 10, (s.sensor n).stage = .request → s.thrEn n = true →
      (s.sensor n).graceAt + s.fld (thermBase + 0x40) 9 0 * 1000000000 ≤ (s.advance t).now →
      Yields (.graceExpiry t n) s fun u => u.sensors[n].stage = .enforce 1 ∧ u.sensors[n].lowSince = none ∧ ∀ m : Fin 10, m ≠ n → u.sensors[m] = s.sensors[m]) ∧
    (∀ mask, s.sup.straps.shdnOpen = true → s.armedTrips mask = mask % 64) ∧
    (∀ mask, Alone s t 2 → s.aonRuns = true → s.armedTrips mask ≠ 0 → s.sup.mode ≠ .thermalOff →
      Yields (.criticalTrip t mask) s fun u =>
        u.sup.mode = .thermalOff ∧ u.sup.shdnLow = true ∧ u.sup.safeNet = true ∧ u.sup.lifeWave = false ∧ u.sup.tripMask = s.armedTrips mask ∧
        u.sup.thermalAt = (s.advance t).now ∧ (∀ n, 0 < n → u.powered n = false) ∧ u.regs = s.store) ∧
    (∀ (mask : Nat) (n : Fin 6), s.sup.straps.shdnOpen = false → s.sensors[n.val].broken = true → (s.armedTrips mask).testBit n = false) ∧
    (∀ mask, Alone s t 2 → s.aonRuns = true → s.armedTrips mask ≠ 0 → s.sup.mode = .thermalOff →
      Yields (.criticalTrip t mask) s fun u => u.sup = { s.sup with tripNow := s.sup.tripNow ||| s.armedTrips mask } ∧ SameBut [.heart, .sup] s u))

/-- TACH_STRETCH (R441): the speed of a conducting channel is 60,000,000 µs over its pulses per revolution times the stretch, 16 bits, and what the
on-interval was stretched by, at most 100 ms, is to be given back, except at 100 %; a stretch without tach, or with edges further apart
than it is long, ends the run of tach.
FAN_SPEED_LOOP (R444) posts speed and duty.
FAN_PERIOD_END (R440, R442, R446): a running channel takes the duty of its target, moved out of the skip bands; a channel whose page
is disabled, or whose block has no supply or clock, goes off; under VFF_UV a running channel keeps its duty (R447); under the SAFE net nothing changes. -/
def Obligations.FanRegulation : Prop :=
  (∀ (s : State) (t : Nat) (f : Fin 8), s.fanLive = true →
    (∀ gap len, (s.fan f).duty ≠ 0 → s.ppr f ≠ 0 →
      Yields (.tachStretch t f gap len) s fun u =>
        (∀ g, gap = some g → 0 < g → (if (s.fan f).duty = 1000 then g < 1000000 else g ≤ len ∧ g ≤ 100000) →
          (u.fan f).speed = satU 16 (60000000 / (s.ppr f * g)) ∧ (u.fan f).tachRun = (s.fan f).tachRun + 1) ∧
        ((∀ g, gap = some g → if (s.fan f).duty = 1000 then 1000000 ≤ g else len < g ∨ 100000 < g) → (u.fan f).speed = (s.fan f).speed ∧ (u.fan f).tachRun = 0) ∧
        (u.fan f).stretch = (if (s.fan f).duty = 1000 then 0 else min len 100000 / 10) ∧ (u.fan f).debt = (u.fan f).stretch ∧
        (u.fan f).duty = (s.fan f).duty ∧ (∀ h : Fin 8, h ≠ f → u.fan h = s.fan h) ∧ SameBut [.heart, .fans] s u) ∧
    (∀ iPeak iMean,
      Yields (.fanSpeedLoop t f iPeak iMean) s fun u =>
        u.rd (fanBase f + 0x104) = fieldAt 31 16 (u.fanSpeed f) ||| fieldAt 15 0 (u.fan f).duty ∧
        u.rd (fanBase f + 0x108) = fieldAt 31 16 (satU 16 iPeak) ||| fieldAt 15 0 (satU 16 iMean) ∧
        (u.fan f).stamp = (s.advance t).hwNs ∧ (∀ h : Fin 8, h ≠ f → u.fan h = s.fan h) ∧ SameBut [.heart, .fans, .regs, .log, .summary] s u)) ∧
  (∀ (s : State) (t : Nat) (f : Fin 8),
    (s.sup.safeNet = true → Yields (.fanPeriodEnd t f) s fun u => SameBut [.heart] s u) ∧
    (s.sup.safeNet = false → (s.powered 11 && s.clocked .fan && s.en (fanBase f)) = false → (s.fan f).st ≠ .off →
      Yields (.fanPeriodEnd t f) s fun u =>
        (u.fan f).st = .off ∧ (u.fan f).duty = 0 ∧ (u.fan f).on = 0 ∧ (u.fan f).speed = 0 ∧ SameBut [.heart, .fans, .arb] s u) ∧
    (∀ d k, s.sup.safeNet = false → s.powered 11 = true → s.clocked .fan = true → s.en (fanBase f) = true → (s.fan f).overload = false → (s.fan f).shortSup = false →
      s.pwr.vffUv = false → (s.fan f).st = .run →
      ({ s with fans := s.fans.set f { s.fan f with waiting := false, thermOff := s.thermStopped f } } : State).fanTarget f = .duty d k → d ≠ 0 →
      Yields (.fanPeriodEnd t f) s fun u =>
        (u.fan f).st = .run ∧ (u.fan f).duty = (if k then s.skipped f (s.fan f).duty d else d) ∧ (∀ h : Fin 8, h ≠ f → u.fan h = s.fan h) ∧
        (u.fan f).on + ((s.fan f).debt - (u.fan f).debt) = (u.fan f).duty * (100000 / max 1 (s.fanCfg f 31 24)) / 1000 ∧
        SameBut [.heart, .arb, .fans, .regs, .log, .summary] s u) ∧
    (s.sup.safeNet = false → s.powered 11 = true → s.clocked .fan = true → s.en (fanBase f) = true → (s.fan f).overload = false →
      (s.fan f).shortSup = false → s.pwr.vffUv = true → (s.fan f).st = .run →
      Yields (.fanPeriodEnd t f) s fun u => (u.fan f).st = .run ∧ (u.fan f).duty = (s.fan f).duty ∧ SameBut [.heart, .fans] s u))

/-- Starting a fan (R447, R448, R404): FAN_START and STALL_RETRY ask for inrush, FAN_INRUSH_JUDGE grants a request that VFF carries,
FAN_INRUSH_RELEASE and KICK_END give the grant back.
Fan faults (R448, R449): a stalled channel waits; an overload or a short takes the channel off until it is cleared; a stall within a KICK is counted once and leaves the KICK its 3 s; a
short to the supply is flagged on a channel driven off, which it keeps off. -/
def Obligations.FanStartsAndFaults : Prop :=
  (∀ (s : State) (t : Nat) (f : Fin 8),
    let a := s.advance t
    (s.fanLive = true → (s.fan f).st = .off → (s.fan f).offSince + 1000000000 ≤ a.now → (s.fanTarget f).runs = true → s.sup.safeNet = false →
      Yields (.fanStart t f) s fun u =>
        (u.fan f).st = .starting ∧ (u.fan f).waiting = true ∧ u.arb.inrush = s.arb.inrush ++ [⟨f, s.fld (fanBase f + 0x48) 6 0, a.now⟩] ∧
        SameBut [.heart, .fans, .arb] s u) ∧
    (s.fanLive = true → (s.fan f).st = .stallWait → (s.fan f).shortSup = false → s.sup.safeNet = false →
      (s.fan f).stallAt + s.fld (fanBase f + 0x44) 25 16 * 1000000000 ≤ a.now →
      Yields (.stallRetry t f) s fun u =>
        (u.fan f).st = .kick ∧ (u.fan f).waiting = true ∧ u.bit (fanBase f + 0x10) 6 = true ∧
        u.arb.inrush = s.arb.inrush ++ [⟨f, s.fld (fanBase f + 0x48) 6 0, a.now⟩]) ∧
    (∀ (iVff : Nat) (r : Inrush), s.fanLive = true → s.arbRuns = false → s.arb.inrush = [r] → s.pwr.vffUv = false →
      ((r.amps * 10 : Nat) : Int) ≤ ((s.fld (pwrBase + 0x48) 4 0 * 100 : Nat) : Int) - iVff - s.inrushHeld →
      Yields (.fanInrushJudge t iVff) s fun u => u.arb = { s.arb with inrush := [], inrushHeld := { r with since := a.now } :: s.arb.inrushHeld }) ∧
    ((s.fan f).st = .starting → (s.fan f).waiting = false → s.rpmMax f ≤ 5 * s.fanSpeed f →
      Yields (.fanInrushRelease t f) s fun u =>
        (∀ r ∈ u.arb.inrushHeld, r.fan ≠ f.val) ∧ (u.fan f).st = .run ∧ (u.fan f).waiting = false ∧ (u.fan f).duty = (s.fan f).duty) ∧
    (∀ i, (s.fan f).st = .kick → (s.fan f).waiting = false → s.pwr.vffUv = false → (s.fan f).startReq + 3000000000 ≤ a.now → s.ppr f ≠ 0 →
      Yields (.kickEnd t f i false) s fun u =>
        (u.fan f).st = .stallWait ∧ (u.fan f).duty = 0 ∧ (u.fan f).stallAt = a.now ∧ (∀ r ∈ u.arb.inrushHeld, r.fan ≠ f.val) ∧
        SameBut [.heart, .fans, .arb] s u)) ∧
  (∀ (s : State) (t : Nat) (f : Fin 8), (s.fan f).duty ≠ 0 →
    (∀ i, (s.fan f).st ≠ .kick → s.fanLive = true → s.sup.safeNet = false → s.pwr.vffUv = false → 15 * s.fanCfg f 4 0 < i →
      Yields (.fanWindow t f i false) s fun u =>
        (u.fan f).st = .stallWait ∧ (u.fan f).duty = 0 ∧ (u.fan f).stallAt = (s.advance t).now ∧ u.bit (fanBase f + 0x10) 0 = true ∧
        u.rd (fanBase f + 0x120) = satInc (s.rd (fanBase f + 0x120))) ∧
    (∀ i, (s.fan f).st = .kick → s.fanLive = true → s.sup.safeNet = false → s.pwr.vffUv = false → 15 * s.fanCfg f 4 0 < i →
      Yields (.fanWindow t f i false) s fun u =>
        (u.fan f).st = .kick ∧ (u.fan f).duty = (s.fan f).duty ∧
        ((s.fan f).kickStall = false → (u.fan f).kickStall = true ∧ u.rd (fanBase f + 0x120) = satInc (s.rd (fanBase f + 0x120))) ∧
        ((s.fan f).kickStall = true → u.regs = s.regs)) ∧
    (s.sup.safeNet = false →
      Yields (.fanOverload t f) s fun u => (u.fan f).duty = 0 ∧ (u.fan f).overload = true ∧ u.bit (fanBase f + 0x10) 2 = true ∧ u.sup = s.sup) ∧
    Yields (.fanShortTrip t f) s (fun u => (u.fan f).duty = 0 ∧ (u.fan f).overload = true ∧ u.bit (fanBase f + 0x10) 2 = true ∧ u.sup = s.sup) ∧
    ∀ h : Fin 8, (s.fan h).duty = 0 →
      Yields (.fanShortSup t h) s fun u =>
        u.bit (fanBase h + 0x10) 3 = true ∧ (u.fan h).st = .off ∧ (u.fan h).duty = 0 ∧ (u.fan h).shortSup = true ∧
        (s.sup.safeNet = false → u.fanTarget h = .duty 0 false) ∧ SameBut [.heart, .fans, .arb, .regs, .log, .summary] s u)

/-! ### Actuator banks -/

/-- Events at their due instant and at a slot (R193, R194, R199, R209, R216, R220): with one event queued, a faulted channel or a locked
bank drops it FAULTED, gate 3 holds it, and an event whose gates pass and whose profile begins with an HLD takes its channel and is in
HOLD from the slot boundary, prepared until then; an event still held at its latest permitted start, or at gate 4 for MAX_DELAY, is
dropped with the outcome of its gate. -/
def Obligations.EventsAreJudged : Prop :=
  ∀ (s : State) (t : Nat) (n : Fin 12) (k : Fin 4) (ev : Event),
    let a := s.atBank t n
    let entry := s.fld (ucBase n + 0x80 + 4 * ev.prof) 8 0
    let first := s.storeWord n entry
    let bound := slotCeil a.hwNs
    let record := fun (u : State) (estate outcome : Nat) =>
      u.fld (chAddr n k 0x114) 21 20 = estate ∧ u.fld (chAddr n k 0x114) 15 8 = outcome ∧ u.rd (chAddr n k 0x118) = toWord ev.id
    let starts := fun (u : State) =>
      let x := (u.chan n k).ctx
      (u.bank n).queue = [] ∧ (u.chan n k).run.map (fun r => (r.ev.id, r.startHw)) = some (ev.id, bound) ∧ x.active = true ∧
      (a.atHw bound ≤ a.now →
        (u.chan n k).conduct = true ∧ x.phase = .hold ∧ x.itgt = fieldOf first 23 12 ∧ x.pc = (entry + 1) % 512 ∧ x.next = none) ∧
      (a.now < a.atHw bound →
        x.next = some ⟨a.atHw bound, bound, .hold, offModeOf (fieldOf first 25 24), fieldOf first 23 12, false⟩ ∧ x.pc = entry ∧
        (u.chan n k).conduct = false)
    a.actLive n = true → s.time.stepDue = false → (a.bank n).queue = [ev] → ev.ch = k.val → (∀ j, (a.chan n j).next = none) →
    (a.chan n k).switchOff = none → (a.chan n k).ctx.active = false → (a.chan n k).conduct = false → uopOf first = some .hld →
    (ev.held = 0 → a.dueOf n ev ≤ a.hwNs →
      ((a.bank n).lock = true ∨ (a.chan n k).fault ≠ 0 →
        Yields (.eventDue t n) s fun u => (u.bank n).queue = [] ∧ record u 3 20 ∧ (u.chan n k).run = (a.chan n k).run ∧ SameBut grantParts s u) ∧
      ((a.bank n).lock = false → (a.chan n k).fault = 0 → a.gate3 ev = false →
        Yields (.eventDue t n) s fun u => (u.bank n).queue = [{ ev with dueAt := a.dueOf n ev, held := 3 }] ∧ SameBut grantParts s u) ∧
      ((a.bank n).lock = false → (a.chan n k).fault = 0 → a.gate3 ev = true → a.gate4 n ev = true → a.gate5 n ev bound = true →
        Yields (.eventDue t n) s fun u => starts u ∧ SameBut grantParts s u)) ∧
    (ev.held = 3 ∨ ev.held = 4 → (a.chan n k).minOffEnd ≤ a.hwNs →
      ((a.bank n).lock = true ∨ (a.chan n k).fault ≠ 0 →
        Yields (.eventRejudge t n) s fun u => (u.bank n).queue = [] ∧ record u 3 20 ∧ SameBut grantParts s u) ∧
      ((a.bank n).lock = false → (a.chan n k).fault = 0 → a.gate3 ev = false →
        Yields (.eventRejudge t n) s fun u => (u.bank n).queue = [{ ev with held := 3 }] ∧ SameBut grantParts s u) ∧
      ((a.bank n).lock = false → (a.chan n k).fault = 0 → a.gate3 ev = true → a.gate4 n ev = true → a.gate5 n ev a.hwNs = true →
        Yields (.eventRejudge t n) s fun u => starts u ∧ SameBut grantParts s u)) ∧
    (∀ h o, (h, o) ∈ [(3, 16), (4, 17), (5, 18)] → ev.held = h → ev.latest ≤ a.hwNs →
      Yields (.eventLatestDrop t n) s fun u => (u.bank n).queue = [] ∧ record u 3 o ∧ SameBut grantParts s u) ∧
    (ev.held = 4 → ev.dueAt + s.fld (chAddr n k 0x100) 31 16 * 1000 ≤ a.hwNs →
      Yields (.maxDelayDrop t n) s fun u =>
        (u.bank n).queue = [] ∧ record u 3 17 ∧ u.bit (actBase n + 0x10) 2 = true ∧ SameBut grantParts s u)

/-- A channel in time: the end of a switch-off (R187, R201) starts MIN_OFF, restarts TPH after an OFF (R219) and writes the record of an
event that has ended; the event waiting for MIN_OFF starts when it ends (R202), one that needs a
grant a slot later where its request was not known 1 µs ahead (R203), on a faulted channel or a locked bank it is
dropped FAULTED (R209); a phase that reaches 2.00 ms becomes HOLD at 6.00 A or less and loses its grant (R230); a window
whose WIN_US has passed closes (R198); a phase prepared for a slot boundary takes effect at it (R220); a current sample sets TGT
and begins an off-interval above the band (R219, R224). -/
def Obligations.ChannelTimes : Prop :=
  ∀ (s : State) (t : Nat) (n : Fin 12) (k : Fin 4),
    let a := s.atBank t n
    let c := a.chan n k
    let x := c.ctx
    s.time.stepDue = false →
    (∀ m e, c.switchOff = some m →
      Yields (.switchOffEnd t n k e) s fun u =>
        (u.chan n k).switchOff = none ∧ (u.chan n k).conduct = false ∧
        (u.chan n k).minOffEnd = a.hwNs + s.fld (chAddr n k 0x104) 15 0 * 10000 ∧
        (u.chan n k).ctx.tph0 = (if x.offTph then some a.now else x.tph0) ∧
        (∀ r o, c.run = some r → r.ending = some o →
          (u.chan n k).run = none ∧ u.fld (chAddr n k 0x114) 21 20 = 2 ∧ u.fld (chAddr n k 0x114) 15 8 = o % 256 ∧
          u.rd (chAddr n k 0x118) = toWord r.ev.id) ∧
        (∀ r, c.run = some r → r.ending = none → (u.chan n k).run = some r) ∧
        SameBut (.wear :: .dio :: bankParts) s u) ∧
    (∀ ev, a.actLive n = true → c.next = some ev → c.switchOff = none →
      ((a.bank n).lock = false → c.fault = 0 → c.minOffEnd ≤ a.hwNs + 1000 → c.minOffEnd ≤ ev.latest →
        let began := c.minOffEnd - s.fld (chAddr n k 0x104) 15 0 * 10000
        let late := a.needsGrant n ev = true ∧ slotCeil c.minOffEnd < began + 1000
        Yields (.minOffEnd t n k) s fun u =>
          (u.chan n k).next = none ∧ (u.chan n k).ctx.active = true ∧
          (u.chan n k).run.map (fun r => (r.ev.id, r.startHw)) = some (ev.id, slotCeil (max c.minOffEnd a.hwNs) + if late then 1000 else 0) ∧ SameBut grantParts s u) ∧
      ((a.bank n).lock = true ∨ c.fault ≠ 0 → c.minOffEnd ≤ a.hwNs → ev.ch = k.val →
        Yields (.minOffEnd t n k) s fun u =>
          (u.chan n k).next = none ∧ (u.chan n k).run = c.run ∧ u.fld (chAddr n k 0x114) 21 20 = 3 ∧
          u.fld (chAddr n k 0x114) 15 8 = 20 ∧ SameBut grantParts s u)) ∧
    (x.active = true → x.phase = .boost ∨ x.phase = .peak → 200000 ≤ x.tph a.now →
      Yields (.phaseLimit t n k) s fun u =>
        let y := (u.chan n k).ctx
        y.phase = .hold ∧ y.itgt = min x.itgt 600 ∧ y.offm = x.offm ∧ y.ramp = x.ramp ∧ y.pc = x.pc ∧ y.wait = x.wait ∧ y.tph0 = x.tph0 ∧
        (y.itgt + x.band < c.i → y.firstOff = some x.offm ∧ y.onInt = false) ∧
        u.arb.pending = s.arb.pending ∧ (x.next = none → ∀ g ∈ u.arb.grants, ¬(g.bank = n.val ∧ g.ch = k.val ∧ g.pre = none)) ∧
        u.bit (ucBase n + 0x10) 2 = true ∧ SameBut grantParts s u) ∧
    Yields (.windowExpiry t n) s (fun u =>
      (u.bank n).wins = (a.bank n).wins.filter (fun w => w.closeAt.all fun z => decide (a.now < z)) ∧
      (u.bank n).ch = (a.bank n).ch ∧ SameBut bankParts s u) ∧
    (∀ p, (s.chan n k).ctx.next = some p →
      let x0 := (s.chan n k).ctx
      (p.at_ ≤ a.now →
        Yields (.windowExpiry t n) s fun u =>
          let y := (u.chan n k).ctx
          (u.chan n k).conduct = true ∧ (u.chan n k).switchOff = none ∧ y.phase = p.ph ∧ y.offm = p.offm ∧ y.itgt = p.itgt ∧ y.tph0 = some p.at_ ∧
          y.tgt = false ∧ y.next = none ∧ y.wait = none ∧ y.refused = (x0.refused && !p.grant) ∧ y.refWin = (x0.refWin && !p.grant) ∧
          (x0.arm = none → y.pc = (x0.pc + 1) % 512) ∧
          (∀ r, (s.chan n k).run = some r → r.begun = false → (u.chan n k).run = some { r with startHw := p.hw, startAt := p.at_, begun := true })) ∧
      (a.now < p.at_ → Yields (.windowExpiry t n) s fun u => (u.chan n k).ctx = x0)) ∧
    (∀ i0 i1 i2 i3 hs, s.powered 8 = true → s.clocked .act = true → s.clockFault = false →
      let i := min #v[i0, i1, i2, i3][k] 4095
      Yields (.currentSample t n i0 i1 i2 i3 hs) s fun u =>
        (u.chan n k).i = i ∧ (∀ r, c.run = some r → (u.chan n k).run.map (·.peakI) = some (max r.peakI i)) ∧
        (x.active = true → c.conduct = true → c.switchOff = none → x.ramp = none → x.itgt ≤ i → (u.chan n k).ctx.tgt = true) ∧
        (x.active = true → c.conduct = true → c.switchOff = none → x.ramp = none → x.phase = .hold → x.firstOff = none →
          x.onInt = true → x.itgt + x.band ≤ i → x.tonMin ≤ (a.now - x.intAt) / 100 → (u.chan n k).ctx.onInt = false) ∧
        SameBut bankParts s u)

/-- The off-state test (R207): it starts DIAG_MS after the last on a quiet bank with DIAG_EN = 1, no event due within 250 µs; its end
classifies ACT_HSn and every channel by the voltages. Two tests that agree make a class the reported one, which UNKNOWN shows but
does not put in force; a short in force with no load on it faults the channel (R209). -/
def Obligations.OffStateTest : Prop :=
  ∀ (s : State) (t : Nat) (n : Fin 12), s.time.stepDue = false →
    let a := s.atBank t n
    let b := a.bank n
    (a.actLive n = true → s.bit (actBase n + 0x40) 16 = true → s.sup.mode ≠ .maintenance →
      (∀ p, b.lastTest = some p → p + s.fld (actBase n + 0x40) 9 0 * 1000000 ≤ a.now) →
      (∀ k, (a.chan n k).i < 5 ∧ (a.chan n k).conduct = false ∧ ((a.chan n k).next = none ∨ a.hwNs + 250000 < (a.chan n k).minOffEnd)) →
      (∀ ev ∈ b.queue, a.hwNs + 250000 < a.dueOf n ev ∨ ev.held ≠ 0) →
      Yields (.diagTestStart t n) s fun u => u.bank n = { b with testing := true, lastTest := some a.now } ∧ SameBut bankParts s u) ∧
    (∀ (v : Nat) (vu vd : Vector Nat 4), b.testing = true →
      Yields (.diagTestEnd t n v vu vd) s fun u =>
        let q := u.bank n
        q.testing = false ∧
        (1500 ≤ v → v ≤ 3500 → q.hsLast = 0) ∧ (v ≤ 1000 → q.hsLast = 2) ∧ (4000 ≤ v → q.hsLast = 3) ∧
        q.hsShown = (if b.hsLast = q.hsLast then q.hsLast else b.hsShown) ∧ q.hsClass = (if q.hsShown = 4 then b.hsClass else q.hsShown) ∧
        u.fld (actBase n + 0x50) 18 16 = q.hsShown % 8 ∧
        (∀ k : Fin 4,
          let c := a.chan n k
          let d := u.chan n k
          (1800 ≤ vd[k] → vu[k] ≤ 3200 → d.lastClass = 0) ∧ (4000 ≤ vu[k] → vd[k] ≤ 1000 → d.lastClass = 1) ∧
          (vu[k] ≤ 1000 → vd[k] ≤ 1000 → d.lastClass = 2) ∧ (4000 ≤ vu[k] → 4000 ≤ vd[k] → d.lastClass = 3) ∧
          d.shown = (if c.lastClass = d.lastClass then d.lastClass else c.shown) ∧ d.cls = (if d.shown = 4 then c.cls else d.shown) ∧
          (d.shown = 2 ∨ d.shown = 3 → 1500 ≤ v → v ≤ 3500 → b.hsClass = 0 → c.fault = 0 → d.fault = d.shown)) ∧
        SameBut grantParts s u)

/-- The monitors of a conducting channel or bank (R208): each stops the context and begins the switch-off it names; DESAT_LS and
OVERCURRENT set the channel fault, DESAT_HS and LEAK_GND lock the bank, NO_CURRENT is a flag only. At 68 V the currents in REGEN pass
to the clamps (R188), and a measurement posts the reservoir voltage and READY (R189, R204). -/
def Obligations.BankMonitors : Prop :=
  ∀ (s : State) (t : Nat) (n : Fin 12) (k : Fin 4),
    let a := s.atBank t n
    let c := a.chan n k
    let ends := fun (u : State) (m : OffMode) =>
      (u.chan n k).ctx.active = false ∧ (u.chan n k).switchOff = some m ∧ ∀ r, c.run = some r → (u.chan n k).run = some { r with ending := some (r.ending.getD 3) }
    let locks := fun (u : State) (cause : Nat) =>
      (u.bank n).lock = true ∧ (u.bank n).lockCause = cause ∧ u.fld (actBase n + 0x54) 2 0 = cause ∧ u.bit (actBase n + 0x10) 4 = true ∧ ends u .fast
    s.time.stepDue = false →
    (c.conduct = true →
      Yields (.desatLs t n k) s (fun u =>
        ends u .fast ∧ (u.chan n k).fault = 4 ∧ u.bit (actBase n + 0x10) 5 = true ∧ u.bit (actBase n + 0x10) 3 = true ∧ SameBut grantParts s u) ∧
      Yields (.overcurrent t n k) s (fun u =>
        ends u .fast ∧ (u.chan n k).fault = 5 ∧ u.bit (actBase n + 0x10) 6 = true ∧ u.bit (actBase n + 0x10) 3 = true ∧ SameBut grantParts s u) ∧
      Yields (.desatHs t n) s (fun u =>
        locks u 3 ∧ u.fld (actBase n + 0x54) 11 8 = (if ∀ j : Fin 4, j ≠ k → (a.chan n j).conduct = false then k.val else 0xF) ∧ SameBut grantParts s u) ∧
      Yields (.leakGnd t n) s (fun u => locks u 4 ∧ u.fld (actBase n + 0x54) 11 8 = 0xF ∧ SameBut grantParts s u) ∧
      Yields (.peakTo t n k) s (fun u =>
        ends u (a.effOff n k .fast) ∧ (u.chan n k).fault = c.fault ∧ u.bit (actBase n + 0x10) 7 = true ∧ SameBut grantParts s u) ∧
      Yields (.bankOvl t n) s (fun u => ends u (a.effOff n k c.ctx.offm) ∧ u.bit (actBase n + 0x10) 9 = true ∧ SameBut grantParts s u) ∧
      (c.ctx.active = true → 20 ≤ c.ctx.itgt → 20000 ≤ c.ctx.tph a.now → c.i < 10 →
        Yields (.noCurrent t n k) s fun u => u.bit (actBase n + 0x10) 14 = true ∧ u.banks = a.banks ∧ SameBut bankParts s u)) ∧
    ((s.chan n k).switchOff = some .regen →
      Yields (.regenOvf t (convOf n)) s fun u =>
        (u.chan n k).switchOff = some .fast ∧ u.bit (actBase n + 0x10) 12 = true ∧ SameBut [.heart, .regs, .banks, .log, .summary] s u) ∧
    (∀ v, s.powered 8 = true → s.clocked .act = true → s.clockFault = false →
      Yields (.reservoirMeasure t (convOf n) v) s fun u =>
        u.rd (actBase n + 0x48) = s.stamped (actBase n + 0x48) (fieldAt 17 17 (b2n (decide (s.boostV (convOf n) * 5 * 98 ≤ v * 100))) ||| fieldAt 9 0 (satU 10 v)) ∧
        (∀ sess w, (u.viewAct sess n 0x48 w).getLsbD 16 = s.derated (convOf n)) ∧ SameBut [.heart, .regs] s u)

/-! ### Microcode -/

/-- The instructions that change their context only, issued by an active context that does not wait (R221, R225–R228): branches, timers,
waits, BAND, RAMP, DIPW, and the end of a wait and of the ARM timer. Nothing else of the bank changes. -/
def Obligations.MicrocodeContext : Prop :=
  ∀ (s : State) (t : Nat) (n : Fin 12) (k : Fin 4) (w : Word),
    let a := s.atBank t n
    let c := a.chan n k
    let x := c.ctx
    let next := (x.pc + 1) % 512
    let adr := fieldOf w 8 0
    let goes := fun (i : Instr) (y : Ctx) =>
      Yields i s fun u => u.banks = (a.updCtx n k fun _ => y).banks ∧ SameBut bankParts s u
    let branch := fun (i : Instr) (taken : Prop) =>
      (taken → goes i { x with pc := adr }) ∧ (¬taken → goes i { x with pc := next })
    s.time.stepDue = false →
    (a.issue n k .nop = some w → goes (.nop t n k) { x with pc := next }) ∧
    (a.issue n k .jmp = some w → goes (.jmp t n k) { x with pc := adr }) ∧
    (a.issue n k .bc = some w →
      (fieldOf w 25 22 = 0 → branch (.bc t n k) (x.refused = true)) ∧ (fieldOf w 25 22 = 1 → branch (.bc t n k) (x.refWin = true)) ∧
      (fieldOf w 25 22 = 2 → branch (.bc t n k) (x.dip = true)) ∧ (fieldOf w 25 22 = 3 → branch (.bc t n k) (x.dip = false)) ∧
      (fieldOf w 25 22 = 4 → branch (.bc t n k) (x.tgt = true)) ∧ (fieldOf w 25 22 = 5 → branch (.bc t n k) (x.tgt = false))) ∧
    (a.issue n k .bi = some w →
      (fieldOf w 25 25 = 0 → branch (.bi t n k) (fieldOf w 23 12 ≤ c.i)) ∧ (fieldOf w 25 25 = 1 → branch (.bi t n k) (c.i < fieldOf w 23 12))) ∧
    (a.issue n k .btm = some w →
      let timer := if fieldOf w 25 25 = 0 then x.tph a.now else x.tev a.now
      (fieldOf w 24 24 = 0 → branch (.btm t n k) (x.v (fieldOf w 13 12) ≤ timer)) ∧
      (fieldOf w 24 24 = 1 → branch (.btm t n k) (timer < x.v (fieldOf w 13 12)))) ∧
    (a.issue n k .bcmp = some w →
      (fieldOf w 21 21 = 0 → branch (.bcmp t n k) (x.v (fieldOf w 23 22) ≤ x.v (fieldOf w 25 24))) ∧
      (fieldOf w 21 21 = 1 → branch (.bcmp t n k) (x.v (fieldOf w 25 24) < x.v (fieldOf w 23 22)))) ∧
    (a.issue n k .wt = some w → goes (.wt t n k) { x with wait := some (.until (a.now + fieldOf w 25 0 * 10)) }) ∧
    (a.issue n k .wtr = some w →
      (x.v (fieldOf w 1 0) = 0 → goes (.wtr t n k) { x with pc := next }) ∧
      (x.v (fieldOf w 1 0) ≠ 0 → goes (.wtr t n k) { x with wait := some (.until (a.now + x.v (fieldOf w 1 0) * 10)) })) ∧
    (a.issue n k .wi = some w → goes (.wi t n k) { x with wait := some (.current (decide (fieldOf w 25 25 = 1)) (fieldOf w 23 12)) }) ∧
    (a.issue n k .wp = some w → goes (.wp t n k) { x with wait := some (.tph (x.v (fieldOf w 1 0))) }) ∧
    (a.issue n k .wd = some w → goes (.wd t n k) { x with wait := some .dip }) ∧
    (∀ p, x.wait = some p →
      (match p with
        | .decision => False | .until at_ => at_ ≤ a.now | .current true thr => c.i ≤ thr | .current false thr => thr ≤ c.i
        | .tph ticks => ticks ≤ x.tph a.now | .dip => x.dip = true | .offEnd => c.conduct = false) →
      goes (.ucWaitEnd t n k) { x with pc := next, wait := none }) ∧
    (a.issue n k .arm = some w →
      (fieldOf w 25 9 = 0 → goes (.arm t n k) { x with pc := next, arm := none }) ∧
      (fieldOf w 25 9 ≠ 0 → goes (.arm t n k) { x with pc := next, arm := some (a.now + fieldOf w 25 9 * 1000, adr) })) ∧
    (∀ p b, x.arm = some (p, b) → x.active = true → p ≤ a.now → x.wait ≠ some .decision →
      goes (.armExpiry t n k) { x with arm := none, wait := none, pc := b }) ∧
    (a.issue n k .band = some w →
      goes (.band t n k) { x with pc := next, toffMin := fieldOf w 23 16, tonMin := fieldOf w 15 8, band := fieldOf w 7 0 }) ∧
    (a.issue n k .dipw = some w →
      (fieldOf w 12 12 = 1 → goes (.dipw t n k) { x with pc := next, dip := false, watch := some ⟨fieldOf w 11 0, c.i, false, 0, 0⟩ }) ∧
      (fieldOf w 12 12 = 0 → goes (.dipw t n k) { x with pc := next, watch := none })) ∧
    (a.issue n k .ramp = some w →
      let goal := fieldOf w 23 12
      (c.conduct = false ∨ fieldOf w 11 0 = 0 ∧ (x.phase ≠ .hold ∨ goal ≤ 600) →
        goes (.ramp t n k) { x with pc := next, ramp := none, itgt := goal }) ∧
      (c.conduct = true → fieldOf w 11 0 = 0 → x.phase = .hold → 600 < goal →
        goes (.ramp t n k) { x with pc := next, ramp := none, itgt := 600 }) ∧
      (c.conduct = true → fieldOf w 11 0 ≠ 0 →
        goes (.ramp t n k) { x with pc := next, ramp := some ⟨x.itgt, goal, a.now, fieldOf w 11 0⟩ }))

/-- ALU, DJNZ and the timers saturate (R222): a result below 0 gives 0, a result above 0xFFFF_FFFF gives 0xFFFF_FFFF. The results of
LDI, LDP, LDS and ALU go to Vd; DJNZ branches when Vd has not reached 0 (R221). -/
def Obligations.SaturatingArithmetic : Prop :=
  ∀ (s : State) (t : Nat) (n : Fin 12) (k : Fin 4) (w : Word),
    let a := s.atBank t n
    let now := a.now
    let x := (a.chan n k).ctx
    let sat := fun (z : Int) => if z < 0 then 0 else if 0xFFFFFFFF < z then 0xFFFFFFFF else z.toNat
    let d := fieldOf w 25 24
    let stays := fun (u : State) => (∀ j : Fin 4, j.val ≠ d → (u.chan n k).ctx.v j = x.v j) ∧ (∀ j : Fin 4, j ≠ k → u.chan n j = a.chan n j) ∧ SameBut bankParts s u
    let loads := fun (i : Instr) (v : Nat) =>
      Yields i s fun u => (u.chan n k).ctx.v d = v ∧ (u.chan n k).ctx.pc = (x.pc + 1) % 512 ∧ stays u
    s.time.stepDue = false →
    (a.issue n k .alu = some w →
      let vd := (x.v d : Int)
      let vs := (x.v (fieldOf w 23 22) : Int)
      let imm := fieldOf w 17 0
      ∀ fn z, (fn, z) ∈ [(0, vs), (1, vd + vs), (2, vd - vs), (3, min vd vs), (4, max vd vs), (5, vd + imm), (6, vd - imm), (7, min vd imm),
        (8, max vd imm), (9, vd * imm), (10, vd / 2 ^ imm), (11, vd * 2 ^ imm)] → fieldOf w 21 18 = fn → loads (.alu t n k) (sat z)) ∧
    (a.issue n k .djnz = some w →
      Yields (.djnz t n k) s fun u =>
        (u.chan n k).ctx.v d = (if x.v d = 0 then 0 else x.v d - 1) ∧
        (u.chan n k).ctx.pc = (if x.v d ≤ 1 then (x.pc + 1) % 512 else fieldOf w 8 0) ∧ stays u) ∧
    (a.issue n k .ldi = some w → loads (.ldi t n k) (fieldOf w 23 0)) ∧
    (a.issue n k .ldp = some w → loads (.ldp t n k) x.param) ∧
    (a.issue n k .lds = some w →
      (fieldOf w 3 0 = 0 → loads (.lds t n k) (a.chan n k).i) ∧
      (∀ p, fieldOf w 3 0 = 1 → x.tph0 = some p → loads (.lds t n k) (sat (((now - p) / 10 : Nat) : Int))) ∧
      (fieldOf w 3 0 = 2 → loads (.lds t n k) (sat (((now - x.tev0) / 10 : Nat) : Int))) ∧
      (∀ r m, fieldOf w 3 0 = 3 → (a.chan n k).run = some r → r.motT = some m → loads (.lds t n k) (sat m)) ∧
      (∀ r, fieldOf w 3 0 = 3 → (a.chan n k).run = some r → r.motT = none → loads (.lds t n k) 0) ∧
      (fieldOf w 3 0 = 4 → loads (.lds t n k) (s.vres (convOf n))))

/-- The instructions that act on the channel (R221, R203, R224, R229, R233): BST and PK ask the arbiter inside the event's open window and
are refused by the window outside it; HLD starts a HOLD phase; OFF and END switch the channel off, END ending the event DONE; MARK
posts CTX_MARK, flags, and logs under its enable. -/
def Obligations.MicrocodePhases : Prop :=
  ∀ (s : State) (t : Nat) (n : Fin 12) (k : Fin 4) (w : Word),
    let a := s.atBank t n
    let c := a.chan n k
    let x := c.ctx
    let next := (x.pc + 1) % 512
    let m := if fieldOf w 25 24 = 3 then x.offm else offModeOf (fieldOf w 25 24)
    let asks := fun (i : Instr) (kind : ReqKind) =>
      (a.winOpenFor n k = true →
        Yields i s fun u =>
          (u.chan n k).ctx = { x with watch := none, ramp := none, wait := some .decision } ∧
          (∃ r, u.arb.pending = s.arb.pending ++ [r] ∧ r.kind = kind ∧ r.bank = n.val ∧ r.ch = k.val ∧ r.target = fieldOf w 23 12 ∧
            r.offm = fieldOf w 25 24 ∧ r.raddr = fieldOf w 8 0 ∧ r.first = false) ∧ SameBut grantParts s u) ∧
      (a.winOpenFor n k = false →
        Yields i s fun u =>
          (u.chan n k).ctx.refused = true ∧ (u.chan n k).ctx.refWin = true ∧ (u.chan n k).ctx.wait = none ∧ (u.chan n k).ctx.ramp = none ∧
          (u.chan n k).ctx.phase = x.phase ∧ (u.chan n k).ctx.itgt = x.itgt ∧ (u.chan n k).ctx.offm = x.offm ∧ (u.chan n k).ctx.tph0 = x.tph0 ∧
          (u.chan n k).conduct = c.conduct ∧ (x.arm = none → (u.chan n k).ctx.pc = fieldOf w 8 0) ∧
          u.rd (ucBase n + 0x190 + 4 * k) = satInc (s.rd (ucBase n + 0x190 + 4 * k)) ∧ u.bit (ucBase n + 0x10) 1 = true ∧ SameBut grantParts s u)
    s.time.stepDue = false →
    (a.issue n k .bst = some w → asks (.bst t n k) .boost) ∧
    (a.issue n k .pk = some w → asks (.pk t n k) .peak) ∧
    (a.issue n k .hld = some w →
      Yields (.hld t n k) s fun u =>
        (u.chan n k).conduct = true ∧ (u.chan n k).switchOff = none ∧ (∀ g ∈ u.arb.grants, ¬(g.bank = n.val ∧ g.ch = k.val)) ∧
        (u.chan n k).ctx.phase = .hold ∧ (u.chan n k).ctx.offm = offModeOf (fieldOf w 25 24) ∧ (u.chan n k).ctx.itgt = fieldOf w 23 12 ∧
        (u.chan n k).ctx.tph0 = some a.now ∧ (u.chan n k).ctx.tgt = false ∧ (u.chan n k).ctx.pc = next ∧
        (∀ r, c.run = some r → s.winClose n r.ev.prof = true → ∀ v ∈ (u.bank n).wins, v.ev = r.ev.seq → v.closeAt = none) ∧
        (∀ j : Fin 4, j ≠ k → (a.chan n j).switchOff = some .slow → (u.chan n j).switchOff = some .regen) ∧ SameBut grantParts s u) ∧
    (a.issue n k .off = some w →
      (c.conduct = true →
        Yields (.off t n k) s fun u =>
          (u.chan n k).switchOff = some (a.effOff n k m) ∧
          (u.chan n k).ctx = { x with phase := .off, offm := m, ramp := none, watch := none, offTph := true, wait := some .offEnd } ∧
          SameBut grantParts s u) ∧
      (c.conduct = false →
        Yields (.off t n k) s fun u =>
          u.chan n k = { c with ctx := { x with pc := next, phase := .off, offm := m, ramp := none, watch := none, tph0 := some a.now } } ∧ SameBut grantParts s u)) ∧
    (∀ r, a.issue n k .endp = some w → c.run = some r →
      (c.conduct = true →
        Yields (.endProfile t n k) s fun u =>
          (u.chan n k).ctx.active = false ∧ (u.chan n k).switchOff = some (a.effOff n k m) ∧
          (u.chan n k).run = some { r with ending := some (r.ending.getD 1) } ∧ SameBut grantParts s u) ∧
      (c.conduct = false →
        Yields (.endProfile t n k) s fun u =>
          (u.chan n k).ctx.active = false ∧ (u.chan n k).run = none ∧ (u.chan n k).minOffEnd = c.minOffEnd ∧
          u.fld (chAddr n k 0x114) 21 20 = 2 ∧ u.fld (chAddr n k 0x114) 15 8 = 1 ∧ u.rd (chAddr n k 0x118) = toWord r.ev.id ∧ SameBut grantParts s u)) ∧
    (a.issue n k .mark = some w →
      let r := ucBase n + 0x180 + 4 * k
      Yields (.mark t n k) s fun u =>
        u.rd r = s.stamped r (fieldAt 16 8 x.pc ||| fieldAt 7 0 (fieldOf w 7 0)) ∧ u.bit (ucBase n + 0x10) 0 = true ∧
        (u.chan n k).ctx = { x with pc := next } ∧ (s.bit (ucBase n + 0x14) 0 = true → ∃ e ∈ u.log.ring, e.code = 0x0111 ∧ e.cls = 0) ∧
        SameBut bankParts s u)

/-! ### Loop engine -/

/-- LOOP_SAMPLE (R239, R251, R256, R259, R260): of the loop the engine takes next, a boundary at which the engine did not latch is skipped,
and one whose sample would end after the deadline is; else the sample runs on what was latched at the boundary, and its result is
posted with the boundary's stamp, SAMPLE_CNT and LSTATE. In MANUAL its value is MAN_OUT (R263); in TRACK no output is touched. In AUTO with LAW = COMP, every
source in use valid, the error, the compensator's sum, its limits and its slew give the value and the integral (R244, R245, R264), and with LAW = SFB the values, the integrals and the next
estimate (R246).
LOOP_SKIP (R260) counts a boundary that passes while the engine does not run. -/
def Obligations.LoopRows : Prop :=
  ∀ (s : State) (t : Nat) (l : Fin 256) (b : Nat),
    let a := s.advance t
    let base := loopBase l
    let skips := fun (i : Instr) (counter flag : Nat) =>
      Yields i s fun u =>
        u.rd (base + counter) = satInc (s.rd (base + counter)) ∧ u.bit (base + 0x10) flag = true ∧ (u.loop l).done = b + 1 ∧
        SameBut [.heart, .regs, .log, .summary, .loops] s u
    a.pendingB l = some b →
    (s.engineRuns = true → a.loopNext = some l → b + 1000 ≤ a.hwNs →
      (a.latchOf l b = none → skips (.loopSample t l) 0x244 1) ∧
      (∀ o, a.latchOf l b = some o → s.deadline l b < a.hwNs + s.cost l * 4 → skips (.loopSample t l) 0x240 0) ∧
      (∀ o, a.latchOf l b = some o → a.hwNs + s.cost l * 4 ≤ s.deadline l b →
        Yields (.loopSample t l) s fun u =>
          (u.loop l).done = b + 1 ∧ u.fld (base + 0x200) 31 24 = (s.fld (base + 0x200) 31 24 + 1) % 256 ∧ u.bit (base + 0x200) 23 = true ∧
          u.rd (base + 0x204) = loWord b ∧ u.rd (base + 0x208) = hiWord b ∧ u.rd (base + 0x20C) = toWord (u.loop l).cnt ∧
          u.fld (base + 0x200) 18 16 = (u.loop l).lst ∧ u.rd (base + 0x214) = (a.latch l b o).x[0] ∧
          (s.modePermits l = false → (u.loop l).lst = 5 ∧ SameBut [.heart, .regs, .log, .summary, .loops] s u) ∧
          (s.modePermits l = true → s.badConsumer l = none → (s.loop l).latch = 0 → (s.loop l).tune = none → s.cmode l = 1 →
            s.outKind l 0 = 0 → s.loopNU l = 1 → (u.loop l).latch = 0 → (u.loop l).lst = 1 ∧ u.rd (base + 0x218) = s.rd (base + 0xA8)) ∧
          SameBut [.heart, .regs, .store, .freeCtr, .led, .banks, .log, .summary, .loops, .dio] s u) ∧
      (∀ o, a.latchOf l b = some o → a.hwNs + s.cost l * 4 ≤ s.deadline l b → s.modePermits l = true → s.badConsumer l = none →
        (s.loop l).latch = 0 → (s.loop l).tune = none → s.cmode l ≠ 1 → s.law l = 1 → s.plEn l = false → s.schedEn l = false →
        s.setSel l = (s.loop l).set_ → (s.loop l).swapDue = false → s.outKind l 0 = 0 → (∀ i ∈ s.usedSels l, (a.latch l b o).ok[i] = true) →
        let v := a.latch l b o
        let x := s.loop l
        let c := fun (off : Nat) => s.rd (base + 0x800 + 0x100 * x.set_ + off)
        let ts := E32.ofRat (s.period l) 1000
        let sp := if s.selKind l 4 = 0 then s.rd (base + 0xA0) else v.x[4]
        let ff := if s.selKind l 1 = 0 then F32.zero else v.x[1]
        let e := if s.loopDir l = 0 then E32.sub sp v.x[0] else E32.sub v.x[0] sp
        let en := if (c 0).getLsbD 1 then E32.add (E32.mul (c 0x24) e) x.w1 else e
        let p := E32.add (E32.add (E32.mul (c 0x10) en) x.s1) (E32.mul (c 0x38) ff)
        let first : Bool := x.lst != 2 || x.presetDue
        let uRef := x.uRef.getD x.up[0]
        let i0 := if first then E32.sub uRef p
          else E32.add x.i[0] (if (c 0).getLsbD 0 then E32.mul (E32.mul (c 0x0C) ts) en else F32.zero)
        let want := if first then uRef else E32.add i0 p
        let cut := fun (lo hi w : F32) => let y := if E32.lt hi w then hi else w; if E32.lt y lo then lo else y
        let sat := E32.lt (c 0x40) want || E32.lt (if E32.lt (c 0x40) want then c 0x40 else want) (c 0x3C)
        let u0 := cut (c 0x3C) (c 0x40) want
        let step := E32.mul (c 0x44) ts
        Yields (.loopSample t l) s fun u =>
          (u.loop l).latch = 0 →
            (u.loop l).lst = 2 ∧ u.rd (base + 0x210) = sp ∧
            u.rd (base + 0x218) = (if E32.lt F32.zero (c 0x44) then cut (E32.sub x.up[0] step) (E32.add x.up[0] step) u0 else u0) ∧
            u.rd (base + 0x220) = (if sat && (c 0).getLsbD 0 then E32.sub u0 p else i0) ∧ u.bit (base + 0x200) 1 = sat ∧
            (u.loop l).up[0] = u.rd (base + 0x218) ∧ (u.loop l).i[0] = u.rd (base + 0x220) ∧ (u.loop l).presetDue = false) ∧
      (∀ o, a.latchOf l b = some o → a.hwNs + s.cost l * 4 ≤ s.deadline l b → s.modePermits l = true → s.badConsumer l = none →
        (s.loop l).latch = 0 → (s.loop l).tune = none → s.cmode l ≠ 1 → s.law l = 2 → s.plEn l = false → s.schedEn l = false →
        s.setSel l = (s.loop l).set_ → (s.loop l).swapDue = false → s.outKind l 0 = 0 → (s.loopNU l = 2 → s.outKind l 1 = 0) →
        (∀ i ∈ s.usedSels l, (a.latch l b o).ok[i] = true) →
        let v := a.latch l b o
        let x := s.loop l
        let c := fun (off : Nat) => s.rd (loopBase (l + x.set_ / 2) + 0x800 + 0x400 * (x.set_ % 2) + off)
        let ts := E32.ofRat (s.period l) 1000
        let sp := if s.selKind l 4 = 0 then s.rd (base + 0xA0) else v.x[4]
        let e0 := if s.loopDir l = 0 then E32.sub sp v.x[0] else E32.sub v.x[0] sp
        let xh := fun (j : Nat) => x.xh.toList.getD j F32.zero
        let nx := s.loopNX l
        let dot := fun (off : Nat) => Law.sum nx fun j => E32.mul (c (off + 4 * j)) (xh j)
        let ni := fun (m : Nat) => if m < s.loopNY l then E32.sub ((v.x.toList.take 4).getD m F32.zero) (dot (0x180 + 0x20 * m)) else F32.zero
        let first : Bool := x.lst != 2 || x.presetDue
        let ref := fun (k : Fin 2) => if k = 0 then x.uRef.getD x.up[0] else x.up[1]
        let p := fun (k : Fin 2) => E32.sub (E32.mul (c (0x14 + 4 * k)) sp) (dot (0x280 + 0x20 * k))
        let i0 := fun (k : Fin 2) => if first then E32.sub (ref k) (p k)
          else E32.add x.i[k] (if (c 0).getLsbD 0 then E32.mul (E32.mul (c (0x0C + 4 * k)) ts) e0 else F32.zero)
        let want := fun (k : Fin 2) => if first then ref k else E32.add (i0 k) (p k)
        let lo := fun (k : Fin 2) => c (0x1C + 0x0C * k)
        let hi := fun (k : Fin 2) => c (0x20 + 0x0C * k)
        let slew := fun (k : Fin 2) => c (0x24 + 0x0C * k)
        let cut := fun (lo hi w : F32) => let y := if E32.lt hi w then hi else w; if E32.lt y lo then lo else y
        let sat := fun (k : Fin 2) => E32.lt (hi k) (want k) || E32.lt (if E32.lt (hi k) (want k) then hi k else want k) (lo k)
        let u0 := fun (k : Fin 2) => cut (lo k) (hi k) (want k)
        let step := fun (k : Fin 2) => E32.mul (slew k) ts
        Yields (.loopSample t l) s fun u =>
          (u.loop l).latch = 0 →
            (u.loop l).lst = 2 ∧ u.rd (base + 0x210) = sp ∧
            (∀ k : Fin 2, k.val < s.loopNU l →
              u.rd (base + 0x218 + 4 * k) =
                (if E32.lt F32.zero (slew k) then cut (E32.sub x.up[k] (step k)) (E32.add x.up[k] (step k)) (u0 k) else u0 k) ∧
              u.rd (base + 0x220 + 4 * k) = (if sat k && (c 0).getLsbD 0 then E32.sub (u0 k) (p k) else i0 k)) ∧
            (∀ i : Fin 8, (u.loop l).xh[i] = if i.val < nx then
              E32.add (E32.add (dot (0x40 + 0x20 * i)) (Law.sum (s.loopNU l) fun k => E32.mul (c (0x140 + 8 * i + 4 * k)) ((u.loop l).up.toList.getD k F32.zero)))
                (Law.sum (s.loopNY l) fun m => E32.mul (c (0x200 + 0x10 * i + 4 * m)) (if m < 4 then ni m else F32.zero)) else x.xh[i]))) ∧
    (s.engineRuns = false → s.powered 2 = true → s.loopEn l = true → skips (.loopSkip t l) 0x244 1)

/-! ### Rootline -/

/-- The power of the segments: the check 200 ms after switch-on (R288), overload and short (R315) outside the
blanking of R288, within which and off they do nothing, the restart (R315), which waits
for VR (R317), surges (R316), and the undervoltage of VR (R317). -/
def Obligations.SegmentPower : Prop :=
  ∀ (s : State) (t : Nat) (g : Fin 16),
    let now := (s.advance t).now
    let x := s.seg g
    let wide : List Part := [.heart, .regs, .log, .summary, .root]
    let others := fun (u : State) => ∀ h : Fin 16, h ≠ g → u.seg h = s.seg h
    let fails := fun (i : Instr) (flag : Nat) =>
      Yields i s fun u =>
        (u.seg g).pwr = 3 ∧ (u.seg g).faultAt = now ∧ (u.seg g).round = none ∧ (u.seg g).enum = none ∧ (u.seg g).cmd = none ∧
        u.bit (segBase g + 0x10) flag = true ∧ others u ∧ SameBut wide s u
    (x.pwr = 1 → x.checked = false → x.onAt + 200000000 ≤ now →
      Yields (.startCheck t g true) s (fun u => u.seg g = { x with checked := true } ∧ others u ∧ SameBut [.heart, .root] s u) ∧
      fails (.startCheck t g false) 13) ∧
    (x.pwr = 2 ∨ x.pwr = 1 ∧ x.checked = true → fails (.segOverload t g) 5) ∧
    (x.pwr = 2 ∨ x.pwr = 1 ∧ x.checked = true → fails (.segShort t g) 6) ∧
    (x.pwr ≠ 2 → (x.pwr = 1 → x.checked = false) →
      exec (.segOverload t g) s = .next (s.advance t) ∧ exec (.segShort t g) s = .next (s.advance t)) ∧
    (x.pwr = 3 → s.en (segBase g) = true → s.rootRuns = true → x.faultAt + s.fld (segBase g + 0x44) 11 0 * 1000000000 ≤ now →
      Yields (.segRestart t g) s fun u =>
        u.seg g = (if s.root.vrLow then { x with pwr := 4 } else { x with pwr := 1, onAt := now, checked := false, syncAt := none, autoDue := false }) ∧
        others u ∧ SameBut [.heart, .root] s u) ∧
    Yields (.surge t g) s (fun u =>
      u.rd (segBase g + 0x50) = satInc (s.rd (segBase g + 0x50)) ∧ u.wear.surges[g] = s.wear.surges[g] + 1 ∧
      u.bit (segBase g + 0x10) 7 = true ∧ u.root = s.root ∧ SameBut [.heart, .regs, .wear, .dio, .log, .summary] s u) ∧
    Yields (.vrUv t) s (fun u =>
      u.root.vrLow = true ∧ u.bit (rootBase + 0x10) 4 = true ∧ (x.pwr = 1 ∨ x.pwr = 2 → (u.seg g).pwr = 4 ∧ (u.seg g).round = none) ∧
      (x.pwr ≠ 1 → x.pwr ≠ 2 → u.seg g = x) ∧ SameBut wide s u) ∧
    Yields (.vrRestore t) s (fun u =>
      u.root.vrLow = false ∧ (x.pwr = 4 → s.en (segBase g) = true → (u.seg g).pwr = 1 ∧ (u.seg g).onAt = now ∧ (u.seg g).checked = false) ∧
      (x.pwr = 4 → s.en (segBase g) = false → u.seg g = { x with pwr := 0 }) ∧ (x.pwr ≠ 4 → u.seg g = x) ∧ SameBut [.heart, .root] s u)

/-- Beacon periods and rounds: the measurements and SYNCs of a period (R288, R296), which a period that Heartwood
has stepped into does not carry (R297), the start of a round (R298, R299), which ends at
once for a segment whose period 0 was missed (R297), its SAMPLE 1,520 µs into a period 0 that carries its SYNC (R299, R297),
an overrun (R298), a slot and a retry as the receiver judges them (R289, R291, R300, R301), and the end of the round with its
posted span (R302). -/
def Obligations.RoundRows : Prop :=
  ∀ (s : State) (t : Nat) (g : Fin 16),
    let a := s.advance t
    let x := s.seg g
    let bound := a.hwNs / 100000000 * 100000000
    let wide : List Part := [.heart, .regs, .log, .summary, .root]
    let pulls := fun (y : Seg) => y.pwr = 2 ∧ y.enum = none ∧ y.autoDue = false
    s.rootRuns = true →
    (∀ p vr (ms : Vector (Nat × Nat) 16),
      Yields (.periodBoundary t p vr ms) s fun u =>
        u.rd (rootBase + 0x60) = s.stamped (rootBase + 0x60) (fieldAt 9 0 vr) ∧
        u.rd (segBase g + 0x48) = s.stamped (segBase g + 0x48) (fieldAt 22 12 ms[g].1 ||| fieldAt 9 0 ms[g].2) ∧
        (p = false ∨ bound < s.root.resumeAt → SameBut [.heart, .regs] s u) ∧
        (p = true → s.root.resumeAt ≤ bound → x.pwr = 1 → x.checked = true → x.onAt + 300000000 ≤ a.now → (u.seg g).pwr = 2 ∧ (u.seg g).syncAt = some bound) ∧
        (p = true → s.root.resumeAt ≤ bound → x.pwr = 2 → (u.seg g).syncAt = some bound) ∧
        (p = true → s.root.resumeAt ≤ bound → x.pwr = 2 → x.round = none → x.syncAt ≠ some bound →
          ⟨a.now, .seg g, downFrame 1 x.tn (beBytes 2 s.root.round ++ beBytes 2 0 ++ [0#8, 0x10#8])⟩ ∈ u.sent ∧ (u.seg g).lineAt = bound) ∧
        (∀ r, p = true → s.root.resumeAt ≤ bound → x.pwr = 2 → x.round = some r → r.sampled = false → r.startHw < bound →
          (u.seg g).round = none ∧ u.bit (segBase g + 0x10) 12 = true) ∧
        SameBut (.sent :: wide) s u) ∧
    (∀ p, s.rootMode = true → s.en rootBase = true → a.startInstant = true → s.root.resumeAt ≤ bound → s.root.part = 0 → pulls x →
      Yields (.roundStart t p) s fun u =>
        u.root.round = (s.root.round + 1) % 2 ^ 32 ∧ u.root.part ≠ 0 ∧ u.bit (rootBase + 0x10) 0 = true ∧
        (∀ h : Fin 16, pulls (s.seg h) → (u.seg h).syncAt = (if p then some bound else (s.seg h).syncAt) ∧
          ∃ r, (u.seg h).round = some r ∧ r.num = u.root.round ∧ r.span = s.segSpan h ∧ r.sampled = false ∧
            r.missed = [] ∧ r.nOk = 0 ∧ r.startHw = bound ∧ r.stamp = bound + 2720000) ∧
        (∀ h : Fin 16, ¬pulls (s.seg h) → u.seg h = s.seg h) ∧ SameBut (.sent :: wide) s u) ∧
    (s.rootMode = true → s.en rootBase = true → a.startInstant = true → s.root.part ≠ 0 →
      Yields (.roundOverrun t) s fun u =>
        u.rd (rootBase + 0x64) = satInc (s.rd (rootBase + 0x64)) ∧ u.bit (rootBase + 0x10) 2 = true ∧ SameBut [.heart, .regs, .log, .summary] s u) ∧
    (∀ r, x.round = some r →
      (r.sampled = false → r.startHw + 1520000 ≤ a.hwNs → a.hwNs < r.startHw + 100000000 →
        (x.syncAt = some r.startHw →
          Yields (.sendSample t g) s fun u =>
            u.seg g = { x with
              tn := (x.tn + 1) % 256, round := some { r with sampled := true }, line := downLevels (downFrame 2 x.tn (beBytes 4 r.num))
              lineAt := r.startHw + 1520000, busyTo := r.startHw + 1520000 + frameNs 4 } ∧
            u.sent = ⟨a.now, .seg g, downFrame 2 x.tn (beBytes 4 r.num)⟩ :: s.sent ∧ SameBut [.heart, .root, .sent] s u) ∧
        (x.syncAt ≠ some r.startHw → exec (.sendSample t g) s = .next a)) ∧
      (∀ rx, r.next < r.limit → a.slotEnd g r r.next ≤ a.hwNs →
        let lost := { r with next := r.next + 1, missed := r.missed ++ [r.next], retry := r.retry ++ [r.next] }
        let slot := fun (u : State) => slotGet (u.seg g).rd r.next
        (slotGet x.dir r.next = none →
          Yields (.readSlot t g rx) s fun u =>
            (u.seg g).round = some { r with next := r.next + 1 } ∧
            (upCurrent rx = true → u.rd (segBase g + 0x64) = satInc (s.rd (segBase g + 0x64)) ∧ u.bit (segBase g + 0x10) 14 = true) ∧ SameBut wide s u) ∧
        ((slotGet x.dir r.next).isSome = true →
          (∀ b, upJudge rx = .frame b → upOk b = true → upField b 23 16 = r.num % 256 →
            Yields (.readSlot t g rx) s fun u =>
              (u.seg g).round = some { r with next := r.next + 1, nOk := r.nOk + 1 } ∧
              (slot u).map (fun e => (e.v0, e.v1, e.round, e.valid, e.missed, e.retried)) =
                some (upField b 63 48, upField b 47 32, r.num, true, false, false) ∧ SameBut wide s u) ∧
          (∀ b, upJudge rx = .frame b → upOk b = false →
            Yields (.readSlot t g rx) s fun u =>
              (u.seg g).round = some lost ∧ u.rd (segBase g + 0x58) = satInc (s.rd (segBase g + 0x58)) ∧ SameBut wide s u) ∧
          (upJudge rx = .missing ∨ upJudge rx = .none →
            Yields (.readSlot t g rx) s fun u => (u.seg g).round = some lost ∧ (slot u).map (·.missed) = some true ∧ SameBut wide s u) ∧
          (upJudge rx = .pre ∨ (∃ b c gap, upJudge rx = .coll b c gap) →
            Yields (.readSlot t g rx) s fun u =>
              (u.seg g).round = some { r with next := r.next + 1, missed := r.missed ++ [r.next] } ∧
              u.rd (segBase g + 0x60) = satInc (s.rd (segBase g + 0x60)) ∧ u.bit (segBase g + 0x10) 11 = true ∧ SameBut wide s u))) ∧
      (∀ k rest d rx, r.retry = k :: rest → a.cmdSpace g 9 = true → r.span ≤ 80 * r.periods → r.sent < s.segCfg g 23 16 → slotGet x.dir k = some d →
        let f : Sent := ⟨a.now, .seg g, downFrame 3 x.tn (serialBytes d.serial ++ [BitVec.ofNat 8 r.num])⟩
        (∀ b, upJudge rx = .frame b → upOk b = true → upField b 23 16 = r.num % 256 →
          Yields (.readRound t g rx) s fun u =>
            (u.seg g).round = some { r with retry := rest, sent := r.sent + 1, nOk := r.nOk + 1, missed := r.missed.filter fun j => j != k } ∧
            u.sent = f :: s.sent ∧
            (slotGet (u.seg g).rd k).map (fun e => (e.v0, e.valid, e.retried)) = some (upField b 63 48, true, true) ∧ SameBut [.heart, .regs, .root, .sent] s u) ∧
        ((match upJudge rx with | .frame _ => true | _ => false) = false →
          Yields (.readRound t g rx) s fun u =>
            (u.seg g).round = some { r with retry := rest, sent := r.sent + 1 } ∧ (u.seg g).tn = (x.tn + 1) % 256 ∧ (u.seg g).rd = x.rd ∧
            u.sent = f :: s.sent ∧ SameBut [.heart, .root, .sent] s u)) ∧
      (r.sampled = true → r.span ≤ 80 * r.periods → r.limit ≤ r.next → r.retry = [] →
        Yields (.roundEnd t g) s fun u =>
          (u.seg g).round = none ∧ u.rd (segBase g + 0x104) = toWord r.num ∧ u.rd (segBase g + 0x108) = loWord r.stamp ∧
          u.rd (segBase g + 0x10C) = hiWord r.stamp ∧ u.rd (segBase g + 0x110) = (fieldAt 31 16 r.missed.length ||| fieldAt 15 0 r.nOk) ∧
          u.rd (segBase g + 0x5C) = satAdd (s.rd (segBase g + 0x5C)) r.missed.length ∧ u.bit (segBase g + 0x10) 0 = true ∧
          (r.missed ≠ [] → u.bit (segBase g + 0x10) 1 = true) ∧ SameBut wide s u))

/-- Enumeration and host commands in the command space that the round leaves (R305): a collision splits the prefix, a missing bit is asked for again, an answer names a
serial (R303); a READ_INFO verifies a node or quarantines one of another version (R304, R306); an ASSIGN_SLOT that is acknowledged
puts the node into the directory (R304); an addressed command ends with its result and the last frame received (R314). -/
def Obligations.EnumerationRows : Prop :=
  ∀ (s : State) (t : Nat) (g : Fin 16) (rx : List UpBit),
    let a := s.advance t
    let x := s.seg g
    let wide : List Part := [.heart, .regs, .log, .summary, .root, .sent]
    (∀ e p n rest found, a.workSpace g 10 = true → x.enum = some e → e.phase = .search ((p, n) :: rest) found →
      let frame : Sent := ⟨a.now, .seg g, downFrame 4 x.tn (BitVec.ofNat 8 (b2n e.all) :: BitVec.ofNat 8 n :: serialBytes (State.prefixBits p n))⟩
      let goes := fun (e' : EnumRun) =>
        Yields (.enumExchange t g rx) s fun u => (u.seg g).enum = some e' ∧ u.sent = frame :: s.sent ∧ SameBut wide s u
      (∀ b c, upJudge rx = .coll b c false →
        goes { e with
          tries := 0
          phase := .search ((State.prefixBits b c, c + 1) :: (State.prefixBits b c ||| BitVec.ofNat 64 (2 ^ (63 - c)), c + 1) :: rest) found }) ∧
      (upJudge rx = .missing ∨ upJudge rx = .pre ∨ (∃ b c, upJudge rx = .coll b c true) → e.tries < s.cmdRetry g → goes { e with tries := e.tries + 1 }) ∧
      (∀ b, upJudge rx = .frame b →
        (rest ≠ [] → goes { e with tries := 0, last := b.toNat, phase := .search rest (found ++ [b]) }) ∧
        (rest = [] → goes { e with tries := 0, last := b.toNat, nFound := found.length + 1, phase := .info (found ++ [b]) (found ++ [b]) [] })) ∧
      (upJudge rx = .none → rest ≠ [] → goes { e with tries := 0, phase := .search rest found })) ∧
    (∀ e y rest found ok b, a.workSpace g 9 = true → x.enum = some e → e.phase = .info (y :: rest) found ok → upJudge rx = .frame b → upOk b = true →
      (upField b 63 56 / 16 = 1 → rest ≠ [] →
        Yields (.enumReadInfo t g rx) s fun u =>
          (u.seg g).enum = some { e with
            tries := 0, last := b.toNat
            phase := .info rest found (ok ++ [⟨y, upField b 63 56, upField b 55 48, upField b 47 32, upField b 31 16⟩]) } ∧ SameBut wide s u) ∧
      (upField b 63 56 / 16 ≠ 1 →
        Yields (.enumReadInfo t g rx) s fun u => y ∈ (u.seg g).quar ∧ u.bit (segBase g + 0x10) 4 = true ∧ SameBut wide s u)) ∧
    (∀ e f k fresh rest b, a.workSpace g 10 = true → x.enum = some e → e.phase = .assign ((f, k, fresh) :: rest) → upJudge rx = .frame b →
      State.ackOf 5 (if e.tries = 0 then x.tn else e.tn) b = true → upField b 31 24 = 0 →
      Yields (.enumAssign t g rx) s fun u =>
        (slotGet (u.seg g).dir k).map (fun d => (d.serial, d.pos, d.kind, d.new_, d.missing)) = some (f.serial, f.pos, f.kind, fresh, false) ∧
        (fresh = true → u.bit (segBase g + 0x10) 2 = true) ∧
        (rest = [] → (u.seg g).enum = none ∧ (u.seg g).saved = (u.seg g).dir ∧ u.bit (segBase g + 0x10) 8 = true) ∧ SameBut wide s u) ∧
    (∀ c, x.cmd = some c → a.workSpace g (8 + (State.cmdFrame c).2.length) = true →
      let tn := if c.tries = 0 then x.tn else c.tn
      let ends := fun (result last : Nat) =>
        Yields (.addressedExchange t g rx) s fun u =>
          (u.seg g).cmd = none ∧ u.fld (segBase g + 0x90) 18 16 = 2 ∧ u.fld (segBase g + 0x90) 11 8 = c.code % 16 ∧ u.fld (segBase g + 0x90) 2 0 = result ∧
          u.rd (segBase g + 0x94) = toWord (last / 2 ^ 48 % 2 ^ 16) ∧ u.rd (segBase g + 0x98) = toWord (last / 2 ^ 16) ∧
          u.bit (segBase g + 0x10) (if result = 0 then 9 else 10) = true ∧ SameBut wide s u
      (∀ b, upJudge rx = .frame b → c.code ≠ 4 → State.ackOf (State.cmdFrame c).1 tn b = true → ends (if upField b 31 24 = 0 then 0 else 2) b.toNat) ∧
      (∀ b, upJudge rx = .frame b → c.code = 4 → upOk b = true → ends 0 b.toNat) ∧
      ((match upJudge rx with | .frame _ => true | _ => false) = false →
        (c.tries < s.cmdRetry g →
          Yields (.addressedExchange t g rx) s fun u =>
            (u.seg g).cmd = some { c with tn := tn, tries := c.tries + 1 } ∧
            u.sent = ⟨a.now, .seg g, downFrame (State.cmdFrame c).1 tn (serialBytes c.serial ++ (State.cmdFrame c).2)⟩ :: s.sent ∧
            SameBut [.heart, .root, .sent] s u) ∧
        (s.cmdRetry g ≤ c.tries → ends 1 c.last)))

/-! ### Digital inputs and outputs -/

/-- Digital inputs: a channel shows a level at once, and one that has lasted DEB is accepted (R326, R329) and leaves an edge record (R332);
a pulse window takes the comparators (R326), a channel changes its sampling with it and its debounce restarts (R331); a gate end
posts the count and the rate, whether the page is enabled or not (R334). -/
def Obligations.DigitalInputs : Prop :=
  ∀ (s : State) (t : Nat) (g : Fin 8),
    let a := s.advance t
    let wide : List Part := [.heart, .regs, .log, .summary, .dio]
    s.dioRuns (dig g) = true →
    (s.en (diBase g) = true →
      (∀ (k : Fin 8) (level : Bool) (seen : Nat),
        let c := (s.diGroup g).ch[k]
        let cfg := s.rd (diBase g + 0x80 + 4 * k)
        let first := if c.raw = level then c.first else max c.first (min seen a.now)
        let takes := fun (stamp : Nat) (u : State) =>
          (u.diGroup g).ch[k].acc = level ∧ u.bit (diBase g + 0x40) k = level ∧
          (fieldOf cfg 9 8 = 3 →
            let n := s.rd (diBase g + 0x4C) + 1
            let r := diBase g + 0x800 + 16 * (n.toNat % 128)
            u.rd (diBase g + 0x4C) = n ∧ u.rd r = loWord stamp ∧ u.rd (r + 4) = hiWord stamp ∧ u.rd (r + 8) = n ∧
            u.bit (diBase g + 0x10) 0 = true) ∧ SameBut wide s u
        (c.pulsed = false →
          (c.acc ≠ level → first + fieldOf cfg 31 16 * 1000 ≤ a.now →
            Yields (.diAccept t g k level seen) s (takes (a.hwAt first - 240))) ∧
          (c.acc = level ∨ a.now < first + fieldOf cfg 31 16 * 1000 →
            Yields (.diAccept t g k level seen) s fun u =>
              (u.diGroup g).ch[k] = { c with raw := level, first := first } ∧ SameBut [.heart, .dio] s u)) ∧
        (c.pulsed = true → c.acc ≠ level → c.raw = level →
          1 + ceilDiv (fieldOf cfg 31 16) (s.fld (diBase g + 0x48) 13 0) ≤ c.run →
          Yields (.diAccept t g k level seen) s (takes c.first))) ∧
      (∀ levels, a.hwNs / 1000 % s.fld (diBase g + 0x48) 13 0 = 0 →
        Yields (.diPulseWindow t g levels) s fun u =>
          (∀ k : Fin 8,
            let c := (s.diGroup g).ch[k]
            let d := (u.diGroup g).ch[k]
            let goes := c.pulsed = true ∧ c.raw = levels.testBit k ∧ 0 < c.run
            d.acc = c.acc ∧
            (s.bit (diBase g + 0x80 + 4 * k) 1 = false → d = if c.pulsed then { c with pulsed := false, run := 0, first := a.now } else c) ∧
            (s.bit (diBase g + 0x80 + 4 * k) 1 = true →
              d.pulsed = true ∧ d.raw = levels.testBit k ∧ d.stamp = a.hwNs + 5100 ∧ (goes → d.run = c.run + 1 ∧ d.first = c.first) ∧
              (¬ goes → d.run = 1 ∧ d.first = a.hwNs + 5100))) ∧
          SameBut [.heart, .dio] s u)) ∧
    (∀ c : Fin 2,
      let b := State.cntBase g c
      let x := (s.diGroup g).cnt[c]
      let hw := a.hwNs / 1000000 * 1000000
      let sec := fun ns => F64.div (F64.ofNat ns) (F64.ofNat 1000000000)
      s.bit b 0 = true → hw / 1000000 % s.fld b 13 4 = 0 →
      Yields (.diGateEnd t g c) s fun u =>
        u.bit (b + 8) 23 = true ∧ u.bit (b + 8) 0 = s.diInvalid g ∧ u.rd (b + 0xC) = toWord x.count ∧ u.rd (b + 0x14) = loWord hw ∧
        u.rd (b + 0x18) = hiWord hw ∧
        (u.diGroup g).cnt[c] = { x with k := 0, tRef := x.tLast } ∧ (x.tLast = none → u.rd (b + 0x10) = F64.narrow F64.zero) ∧
        (∀ l, x.tLast = some l →
          (∀ r, x.tRef = some r → 1 ≤ x.k → u.rd (b + 0x10) = F64.narrow (F64.div (F64.ofNat x.k) (sec (l - r)))) ∧
          (x.tRef = none → 2 ≤ x.k → u.rd (b + 0x10) = F64.narrow (F64.div (F64.ofNat (x.k - 1)) (sec (l - x.tFirst)))) ∧
          (x.k = 0 → s.fld b 31 16 * 1000000 ≤ hw - l → u.rd (b + 0x10) = F64.narrow F64.zero ∧ u.bit (b + 8) 1 = true)) ∧
        SameBut wide s u)

/-- The links of the field sides (R323, R324, R343): CMD frames go out and arrive, or are discarded and counted, good STATUS frames keep the link, a bad one is
counted, their absence ends it; a field side without commands goes SILENT, one whose monitor trips or whose supply is too low holds its outputs off. -/
def Obligations.FieldLinks : Prop :=
  ∀ (s : State) (t : Nat) (g : Fin 12),
    let a := s.advance t
    let f := s.field g
    let wide : List Part := [.heart, .regs, .log, .summary, .dio]
    let offs := fun (u : State) => ∀ i : Fin 32, dog (outGroup i) = g → (u.out i).out = .steady false ∧ (u.out i).row = 1
    Yields (.dioCmdFrame t) s (fun u =>
      (s.dioRuns g = true → u.field g = { f with sent := some (s.cmdWords g, if g.val < 8 then 50 else s.fld (doBase (g - 8) + 0x40) 9 0, f.clears), clears := 0 }) ∧
      (s.dioRuns g = false → u.field g = f) ∧ SameBut [.heart, .dio] s u) ∧
    (∀ loads ws sil clr, f.on = true → f.sent = some (ws, sil, clr) →
      Yields (.fieldCmdFrame t g true loads) s fun u =>
        (u.field g).sent = none ∧ (u.field g).silent = false ∧ (u.field g).rcStop = false ∧ (u.field g).lastCmd = a.now ∧ (u.field g).silMs = sil ∧
        (u.field g).cfg = Vector.ofFn (fun k => ws.getD k 0) ∧
        (∀ d k : Fin 8, dig d = g → (u.diGroup d).ch[k] =
          if bitOf f.cfg[k] 0 = bitOf (ws.getD k 0) 0 then (s.diGroup d).ch[k] else { (s.diGroup d).ch[k] with run := 0, first := a.now }) ∧
        (∀ i : Fin 32, dog (outGroup i) = g → clr.testBit (i % 8) = true → (u.out i).overload = false) ∧ SameBut (.wear :: wide) s u) ∧
    (∀ loads ws sil clr, f.on = true → f.sent = some (ws, sil, clr) →
      Yields (.fieldCmdFrame t g false loads) s fun u =>
        let r := if g.val < 8 then diBase g + 0x50 else doBase (g - 8) + 0x44
        u.field g = { f with sent := none, clears := f.clears ||| clr } ∧ u.rd r = satInc (s.rd r) ∧
        (g.val < 8 → u.bit (diBase g + 0x10) 5 = true) ∧ (∀ i, u.out i = s.out i) ∧ SameBut wide s u) ∧
    (∀ limits, s.dioRuns g = true → f.on = true →
      (Yields (.statusFrame t g true limits) s fun u =>
        (u.field g).linkOk = true ∧ (u.field g).lastStatus = a.now ∧ (u.field g).rcStop = false ∧
        (u.field g).repUv18 = f.uv18 ∧ (u.field g).repUv15 = f.uv15 ∧
        (u.field g).sent = (if f.linkOk then f.sent else
          some (s.cmdWords g, if g.val < 8 then 50 else s.fld (doBase (g - 8) + 0x40) 9 0, f.clears)) ∧
        (∀ d : Fin 8, dig d = g → s.en (diBase d) = true → (u.diGroup d).seen = true) ∧
        (∀ i : Fin 32, dog (outGroup i) = g → (u.out i).limit = limits.testBit (i % 8)) ∧ SameBut wide s u) ∧
      (Yields (.statusFrame t g false limits) s fun u =>
        let r := if g.val < 8 then diBase g + 0x50 else doBase (g - 8) + 0x44
        u.rd r = satInc (s.rd r) ∧ (g.val < 8 → u.bit (diBase g + 0x10) 5 = true) ∧ SameBut [.heart, .regs, .log, .summary] s u)) ∧
    (s.dioRuns g = true → f.linkOk = true → f.lastStatus + 900000 ≤ a.now →
      Yields (.statusTimeout t g) s fun u =>
        u.field g = { f with linkOk := false } ∧ (g.val < 8 → u.bit (diBase g + 0x10) 3 = true ∧ u.fld (diBase g + 0x40) 15 8 = 0xFF) ∧
        (8 ≤ g.val → u.bit (doBase (g - 8) + 0x10) 8 = true) ∧ SameBut wide s u) ∧
    (f.on = true → f.silent = false → f.lastCmd + f.silMs * 900000 ≤ a.now →
      Yields (.silence t g) s fun u =>
        u.field g = { f with silent := true, silReport := true } ∧
        (∀ i : Fin 32, dog (outGroup i) = g → s.sup.safeNet = false → f.uv15 = false → f.recover = none → f.rcStop = false →
          (s.out i).overload = false → (s.out i).ot = false →
          (u.out i).row = 4 ∧ (u.out i).out = .steady (State.safeLevel (fieldOf (s.fieldCfg i) 31 30)
            (if (s.out i).row = 4 then (s.out i).held else a.driveOn (s.out i).out))) ∧ SameBut wide s u) ∧
    Yields (.rcStop t g) s (fun u => u.field g = { f with rcStop := true } ∧ offs u ∧ SameBut wide s u) ∧
    Yields (.vfdUndervolt t g 0) s (fun u => (u.field g).uv18 = true ∧
      (s.dioRuns g = true → f.linkOk = true → f.repUv18 = false →
        u.bit ((if g.val < 8 then diBase g else doBase (g - 8)) + 0x10) (if g.val < 8 then 1 else 5) = true) ∧ SameBut wide s u) ∧
    Yields (.vfdUndervolt t g 1) s (fun u => (u.field g).uv15 = true ∧ (u.field g).recover = none ∧ offs u ∧
      (s.dioRuns g = true → f.linkOk = true → f.repUv15 = false →
        u.bit ((if g.val < 8 then diBase g else doBase (g - 8)) + 0x10) (if g.val < 8 then 2 else 6) = true) ∧ SameBut wide s u) ∧
    Yields (.vfdUndervolt t g 2) s (fun u => (u.field g).on = false ∧ offs u ∧
      (∀ d k : Fin 8, dig d = g → (s.diGroup d).ch[k].pulsed = false → (u.diGroup d).ch[k].raw = false) ∧ SameBut wide s u) ∧
    Yields (.vfdUvClear t g 0) s (fun u => (u.field g).uv18 = false ∧ (u.field g).uv15 = f.uv15 ∧ SameBut wide s u) ∧
    Yields (.vfdUvClear t g 1) s (fun u =>
      (u.field g).uv15 = false ∧ (f.uv15 = true → (u.field g).recover = some a.now ∧ offs u) ∧ SameBut wide s u) ∧
    (f.on = false → Yields (.vfdUvClear t g 2) s fun u =>
      (u.field g).on = true ∧ (u.field g).silent = true ∧ (u.field g).silMs = 50 ∧ (u.field g).recover = some a.now ∧ offs u ∧ SameBut wide s u) ∧
    (∀ p, f.recover = some p → p + 90000000 ≤ a.now →
      Yields (.vfdRecover t g) s fun u => u.field g = { f with recover := none } ∧ SameBut wide s u)

/-- Digital outputs: overload and overtemperature take an output off until cleared or retried (R340), readback flags come and go (R341), a
mirror follows its source or is invalid (R339), and a new value takes effect at the end of a period (R338, R344). -/
def Obligations.DigitalOutputs : Prop :=
  ∀ (s : State) (t : Nat) (i : Fin 32),
    let a := s.advance t
    let g := dog (outGroup i)
    let o := s.out i
    let stat := outBase i + 0x20
    let wide : List Part := [.heart, .regs, .log, .summary, .dio]
    let heard := s.dioRuns g = true ∧ (s.field g).linkOk = true
    (a.driveOn o.out = true →
      Yields (.doOverload t i) s fun u =>
        (u.out i).overload = true ∧ (u.out i).overAt = a.now ∧ (u.out i).out = .steady false ∧
        (heard → u.bit stat 0 = true ∧ (s.bit stat 0 = false → u.bit (doBase (i / 8) + 0x10) 0 = true)) ∧ SameBut wide s u) ∧
    (∀ b, o.overload = true → o.ot = false → bitOf (s.fieldCfg i) 8 = true → o.overAt + 900000000 ≤ a.now → s.sup.safeNet = false →
      (s.field g).on = true → (s.field g).uv15 = false → (s.field g).recover = none → (s.field g).rcStop = false → (s.field g).silent = false →
      s.dioRuns g = true → s.laneRow i = 8 → s.outSrc i = 0 → s.outMode i = 0 → 1 ≤ s.fld (outBase i + 4) 23 0 → o.lane = .steady b →
      Yields (.doRetry t i) s fun u =>
        (u.out i).overload = false ∧ (u.out i).out = .steady true ∧ (u.out i).row = 8 ∧ SameBut wide s u) ∧
    Yields (.doOt t i) s (fun u =>
      (u.out i).ot = true ∧ (u.out i).out = .steady false ∧ (heard → u.bit stat 3 = true) ∧ SameBut wide s u) ∧
    Yields (.doOtClear t i) s (fun u => (u.out i).ot = false ∧ (heard → u.bit stat 3 = false) ∧ SameBut wide s u) ∧
    (s.rbRuns i = true →
      let since := a.driveSince o.since o.out
      (a.driveOn o.out = false → since + 2000000 ≤ a.now →
        Yields (.doReadbackFlag t i 0) s fun u => (u.out i).shortSup = true ∧ u.bit stat 1 = true ∧ SameBut wide s u) ∧
      (a.driveOn o.out = true → o.limit = false → o.ot = false → (s.field g).uv15 = false → since + 2000000 ≤ a.now →
        Yields (.doReadbackFlag t i 1) s fun u => (u.out i).rbFail = true ∧ u.bit stat 4 = true ∧ SameBut wide s u) ∧
      (a.driveOn o.out = true → s.bit (outBase i) 4 = true → since + 10000000 ≤ a.now →
        Yields (.doReadbackFlag t i 2) s fun u => (u.out i).opened = true ∧ u.bit stat 2 = true ∧ SameBut wide s u) ∧
      Yields (.doReadbackClear t i 0) s (fun u => (u.out i).shortSup = false ∧ u.bit stat 1 = false ∧ SameBut wide s u) ∧
      Yields (.doReadbackClear t i 1) s (fun u => (u.out i).rbFail = false ∧ u.bit stat 4 = false ∧ SameBut wide s u) ∧
      Yields (.doReadbackClear t i 2) s (fun u => (u.out i).opened = false ∧ u.bit stat 2 = false ∧ SameBut wide s u)) ∧
    (s.outSrc i = 2 → s.dioRuns g = true →
      let w := s.rd (outBase i + 0x10)
      let source := a.source (fieldOf w 31 24) (fieldOf w 23 16) (fieldOf w 15 8)
      (source = none → Yields (.mirrorEval t i) s fun u => (u.out i).mirInv = true ∧ u.bit stat 5 = true ∧ SameBut wide s u) ∧
      (∀ r, source = some r → r.ok = true → a.hwNs ≤ r.stamp + s.fld (outBase i + 0x14) 15 0 * 1000000 →
        let x := E32.add (E32.mul (s.rd (outBase i + 0x18)) r.raw) (s.rd (outBase i + 0x1C))
        let above := E32.lt (E32.ofNat (if s.outMode i = 0 then 1 else s.doLimit i / 100)) x
        Yields (.mirrorEval t i) s fun u =>
          (u.out i).mirInv = false ∧ u.bit stat 5 = false ∧ u.bit stat 6 = (u.out i).clip ∧
          (F32.isNan x = false →
            (u.out i).clip = above ∧ (above = true → (u.out i).mir = some (s.doLimit i)) ∧
            (above = true → o.clip = false → u.bit (doBase (i / 8) + 0x10) 10 = true) ∧
            (above = false → s.outMode i = 0 → (u.out i).mir = some (if E32.le 0x3F000000#32 x then 1 else 0)) ∧
            (above = false → s.outMode i = 1 → E32.lt x 0x3DCCCCCD#32 = true → (u.out i).mir = some 0)) ∧
          (∃ v, (u.out i).mir = some v ∧ v ≤ s.doLimit i) ∧ SameBut (.freeCtr :: wide) s u)) ∧
    (∀ st p h load, o.lane = .wave st p h → s.dioRuns g = true → st + p ≤ a.now →
      (load ≤ 100 → s.laneRow i = 8 → s.mirSafe i = false →
        Yields (.doPeriodEnd t i load) s fun u =>
          (u.out i).value = s.deratedValue i (s.outValue i) ∧ u.rd (outBase i + 0x24) = toWord (s.deratedValue i (s.outValue i)) ∧
          u.wear = s.wear ∧ SameBut wide s u) ∧
      (100 < load → o.out = o.lane → 0 < h → h < p →
        Yields (.doPeriodEnd t i load) s fun u =>
          u.rd (outBase i + 0x28) = satInc (s.rd (outBase i + 0x28)) ∧ u.wear.doCycles[i] = s.wear.doCycles[i] + 1 ∧ SameBut (.wear :: wide) s u))

/-! ### The analog island -/

/-- Analog inputs (R164, R165, R166, R172, R175, R177, R178): a gate end puts the reading into AFE_RX with its midpoint stamp and starts the
next channel by the configuration the island holds; a wire break of a channel with open detection shortens the gate; a result frame
posts the oldest reading or counts it for a lead measurement, brings the count of discarded command frames, or is lost and
counted; the mean of eight readings is LEAD_MEAS; the island's clock stops, and with its return the configuration goes out; the
island holds it from the frame that brings it, with which an idle converter starts, and discards and counts a bad one (R164, R172). -/
def Obligations.AnalogInputs : Prop :=
  ∀ (s : State) (t : Nat) (c : Fin 8),
    let a := s.advance t
    let wide : List Part := [.heart, .regs, .log, .summary, .afe]
    let fb := fun (r : AiReading) => r.clkFb || s.afe.onRc || (s.conv c).onRc
    (∀ (r : AiReading) (count : Nat), s.powered 6 = true → (s.conv c).busy = some r → r.start + r.lead0 < a.now →
      let g0 := r.start + r.lead0
      (r.typ = 4 → r.countA = none →
        Yields (.aiPhaseSwap t c count) s fun u =>
          (u.conv c).busy = some { r with countA := some (count % 2 ^ 32), clkFb := r.clkFb || s.afe.onRc } ∧ SameBut [.heart, .afe] s u) ∧
      (∀ ovr exc, (r.typ = 4 → r.countA.isSome = true) → s.afe.rx.length < 32 →
        Yields (.aiGateEnd t c count ovr exc) s fun u =>
          u.afe.rx = s.afe.rx ++ [.ai { r with count := count % 2 ^ 32, ovr := ovr, exc := exc && r.typ == 7, clkFb := fb r, stamp := a.hwAt (g0 + (a.now - g0) / 2) }] ∧
          (s.aiChans c = [] → (u.conv c).busy = none) ∧
          (∀ j l, (s.aiChans c).filter (fun j => decide (r.ch < j)) ++ s.aiChans c = j :: l →
            (u.conv c).busy.map (fun x => (x.ch, x.start, x.cfg.head?)) = some (j, a.now, some (s.islandCfg c j).1)) ∧ SameBut wide s u) ∧
      (3 ≤ r.typ → s.afe.rx.length < 32 →
        Yields (.aiWireBreak t c) s fun u =>
          ∃ x, u.afe.rx = s.afe.rx ++ [.ai x] ∧ x.ch = r.ch ∧ x.short = some (a.now - g0) ∧ x.stamp = a.hwAt (g0 + (a.now - g0) / 2) ∧
            x.count ≤ 8 * 4000000 * (a.now - g0) / 1000000000 ∧ SameBut (.freeCtr :: wide) s u)) ∧
    (∀ (r : AiReading) rest (k : Fin 4), s.aiRuns = true → s.afe.rx = .ai r :: rest → r.conv = c.val → r.ch = k.val →
      (match rest with | .ao .. :: _ => false | _ => true) = true →
      let res := aiRes c k
      let reported := fun (u : State) =>
        u.afe.rx = rest ∧ (u.conv c).linkOk = true ∧ u.afe.cmdErr = 0 ∧ (∀ d : Fin 8, u.rd (aiBase d + 0x4C) = satAdd (s.rd (aiBase d + 0x4C)) s.afe.cmdErr)
      ((s.conv c).lead[k] = none → r.lead = false →
        Yields (.afeResultFrame t true) s fun u =>
          reported u ∧ u.fld res 3 0 = r.flags ∧ u.bit res 23 = true ∧ u.rd (res + 4) = loWord r.stamp ∧
          u.rd (res + 8) = hiWord r.stamp ∧ u.rd (res + 0x10) = F64.narrow r.figures.freq ∧
          u.rd (res + 0x14) = (if r.flags = 0 then F64.narrow r.figures.value else 0x7FC00000#32) ∧
          u.bit (aiBase c + 0x10) 0 = true ∧ (r.figures.ovr = true → u.bit (aiBase c + 0x10) 1 = true) ∧ SameBut wide s u) ∧
      (∀ l, (s.conv c).lead[k] = some l → r.lead = true → l.n < 8 →
        Yields (.afeResultFrame t true) s fun u =>
          reported u ∧ (u.conv c).lead[k] = some ⟨l.n + 1, F64.add l.sum r.figures.raw, l.flagged || r.flags != 0⟩ ∧ u.rd res = s.rd res ∧ SameBut wide s u) ∧
      Yields (.afeResultFrame t false) s (fun u =>
        u.afe.rx = rest ∧ (∀ d : Fin 8, u.rd (aiBase d + 0x4C) = satAdd (s.rd (aiBase d + 0x4C)) 1) ∧ u.bit (aiBase c + 0x10) 9 = true ∧
        u.bit (aiBase c + 0x10) 6 = true ∧ u.rd res = s.rd res ∧ SameBut wide s u)) ∧
    (∀ (k : Fin 4) (l : LeadRun), (s.conv c).lead[k] = some l → 8 ≤ l.n →
      let r := aiBase c + 0x104 + 0x10 * k
      let mean := F64.div l.sum (F64.ofNat 8)
      (l.flagged = false → F64.lt (F64.ofNat 50) mean = false →
        Yields (.leadMeasureDone t c k) s fun u =>
          (u.conv c).lead[k] = none ∧ u.fld r 2 0 = 2 ∧ u.rd (r + 4) = F64.narrow mean ∧ u.bit (aiBase c + 0x10) 7 = true ∧ SameBut wide s u) ∧
      (l.flagged = true ∨ F64.lt (F64.ofNat 50) mean = true →
        Yields (.leadMeasureDone t c k) s fun u =>
          (u.conv c).lead[k] = none ∧ u.fld r 2 0 = 3 ∧ u.bit (aiBase c + 0x10) 8 = true ∧ SameBut wide s u)) ∧
    (s.powered 6 = true → s.afe.onRc = false →
      Yields (.afeClockStop t) s fun u =>
        u.afe.onRc = true ∧ (u.conv c).onRc = true ∧ u.bit (aoBase + 0x10) 3 = true ∧ SameBut wide s u) ∧
    Yields (.afeClockReturn t) s (fun u =>
      u.afe.onRc = false ∧
      u.conv c = s.conv c ∧ (s.aiRuns = true → u.afe.cfgOut = some s.aiConfig) ∧
      SameBut [.heart, .afe] s u) ∧
    (∀ cfg, s.powered 6 = true → s.afe.onRc = false → s.afe.cfgOut = some cfg →
      (Yields (.islandCmdReceive t false) s fun u =>
        u.afe = { s.afe with cfgOut := none, cmdErr := s.afe.cmdErr + 1 } ∧ SameBut [.heart, .afe] s u) ∧
      Yields (.islandCmdReceive t true) s fun u =>
        u.afe.cfgOut = none ∧ (u.conv c).en = cfg[c].1 ∧ (u.conv c).cfg = cfg[c].2 ∧ u.afe.cmd = s.afe.cmd ∧
        ((s.conv c).busy.isSome = true → (u.conv c).busy = (s.conv c).busy) ∧
        (∀ k l, s.aiRuns = true → (s.conv c).busy = none → u.aiChans c = k :: l →
          (u.conv c).busy.map (fun x => (x.ch, x.start)) = some (k, a.now)) ∧ SameBut [.heart, .afe, .regs] s u)

/-- Analog outputs (R163–R165, R179–R181): the command frame carries the set codes in RUN and the safe codes elsewhere; the island takes a good
frame, counts a bad one, and after 47.5 ms without one drives the safe codes; the readback frame passes AFE_RX, and posts the current
and OPEN after 10 ms. -/
def Obligations.AnalogOutputs : Prop :=
  ∀ (s : State) (t : Nat) (n : Fin 8),
    let a := s.advance t
    let set_ := s.fld (aoBase + 0x40 + 4 * n) 15 0
    let safe := s.fld (aoBase + 0x60 + 4 * n) 15 0
    s.powered 6 = true →
    (s.clocked .ao = true → s.clockFault = false →
      Yields (.afeCmdFrame t) s fun u =>
        (∃ codes safes, u.afe = { s.afe with cmd := some (codes, safes), cfgOut := u.afe.cfgOut } ∧ safes.getD n 0 = safe ∧
          (s.en aoBase = true → s.sup.mode = .run ∨ s.sup.mode = .constrained → codes.getD n 0 = set_) ∧
          (s.en aoBase = false ∨ s.sup.mode = .standby ∨ s.sup.mode = .safeHold → codes.getD n 0 = safe)) ∧ SameBut [.heart, .afe] s u) ∧
    (∀ codes safes, s.afe.cmd = some (codes, safes) → s.afe.onRc = false → s.afe.cfgOut = none →
      (Yields (.islandCmdReceive t false) s fun u => u.afe = { s.afe with cmd := none, cmdErr := s.afe.cmdErr + 1 } ∧ SameBut [.heart, .afe] s u) ∧
      Yields (.islandCmdReceive t true) s fun u =>
        u.afe.cmd = none ∧ u.afe.refreshTo = false ∧ u.afe.lastCmd = a.now ∧ u.afe.ao[n] = { s.afe.ao[n] with code := codes.getD n 0, safe := safes.getD n 0 } ∧
        (s.sup.safeNet = false → u.aoDriven n = codes.getD n 0) ∧ SameBut [.heart, .afe] s u) ∧
    (s.afe.refreshTo = false → s.afe.lastCmd + 47500000 ≤ a.now →
      Yields (.aoRefreshTimeout t) s fun u =>
        u.afe = { s.afe with refreshTo := true } ∧ u.bit (aoBase + 0x10) 2 = true ∧ u.aoDriven n = s.afe.ao[n].safe ∧
        SameBut [.heart, .regs, .log, .summary, .afe] s u) ∧
    (∀ code high, s.clockFault = false →
      let span := aoBase + 0x80 + 4 * n
      (s.afe.rx = [] →
        (Yields (.aoReadback t n code high true) s fun u =>
          u.fld span 15 0 = satU 16 code ∧ u.bit span 23 = true ∧ u.afe.ao[n].stamp = a.hwNs ∧ u.afe.rx = [] ∧
          (∀ p, high = true → code + 250 < s.aoDriven n → s.afe.ao[n].openF = false → s.afe.ao[n].openAt = some p → p + 10000000 ≤ a.now →
            u.afe.ao[n].openF = true ∧ u.bit span 16 = true ∧ (s.bit span 16 = false → u.bit (aoBase + 0x10) 0 = true)) ∧
          (s.afe.ao[n].openF = false → s.afe.ao[n].openAt = none → u.afe.ao[n].openF = false) ∧
          SameBut [.heart, .regs, .log, .summary, .afe] s u) ∧
        (Yields (.aoReadback t n code high false) s fun u =>
          u.rd span = s.rd span ∧ u.afe.rx = [] ∧ (∀ d : Fin 8, u.rd (aiBase d + 0x4C) = satAdd (s.rd (aiBase d + 0x4C)) 1) ∧
          SameBut [.heart, .regs, .afe] s u)) ∧
      (∀ r l good, s.afe.rx = .ai r :: l → l.length < 31 →
        Yields (.aoReadback t n code high good) s fun u =>
          u.afe.rx = s.afe.rx ++ [.ao n code u.afe.ao[n].openF u.afe.ao[n].shortF a.hwNs good] ∧ SameBut [.heart, .afe] s u))

/-! ### Moisture cells, MOIST, XFORM -/

/-- Moisture cells: the rotation dumps the dwells and begins the next (R117), the RTD of a dwelling cell (R135), a posted reading (R125, R133), the end
of a range calibration (R127), a cable measurement judged (R131), and a scan (R137). -/
def Obligations.CellRows : Prop :=
  ∀ (s : State) (t : Nat) (c : Fin 4),
    let a := s.advance t
    s.cellRuns = true →
    (∀ ws : Vector Window 4,
      Yields (.cellSlotStart t ws) s fun u =>
        u.cells.slot = (s.cells.slot + 1) % 4 ∧
        (∀ d, (s.grp c).dwell = some d → d.kind = .read →
          (u.grp c).done.map (fun x => (x.dwell, x.acc, x.peak, x.ovr, x.stamp)) =
            some (d, State.accOf d ws[c], peakOf ws[c].samples, State.ovrOf ws[c], a.hwAt (d.start + 10500000))) ∧
        ((∀ b, (s.grp b).dwell = none) → s.cells.slot ≠ 0 → s.cells.idle = false → (u.grp c).dwell = a.dwellOf c (cellOf c s.cells.slot)) ∧
        SameBut [.heart, .regs, .log, .summary, .cells, .moist, .xf] s u) ∧
    (∀ d r brk, (s.grp c).dwell = some d → d.kind = .read → s.bit (cellBase d.cell + 0x40) 8 = true →
      Yields (.rtdGateEnd t c r brk) s fun u => u.cells = (s.updCell d.cell fun x => { x with rtd := some ⟨r, brk⟩ }).cells ∧ SameBut [.heart, .cells] s u) ∧
    (∀ d, (s.grp c).done = some d →
      let n := d.dwell.cell
      let b := cellBase n
      Yields (.cellPost t c) s fun u =>
        (u.grp c).done = none ∧ u.bit (b + 0x100) 23 = true ∧ u.bit (b + 0x100) 0 = d.ovr ∧ u.fld (b + 0x100) 21 20 = d.dwell.range % 4 ∧
        u.bit (b + 0x100) 8 = (!(s.cell n).calValid || s.bit (b + 8) 1) ∧
        u.rd (b + 0x104) = loWord d.stamp ∧ u.rd (b + 0x108) = hiWord d.stamp ∧ u.rd (b + 0x144) = toWord (State.grainT d).1 ∧
        u.rd (b + 0x88) = satInc (s.rd (b + 0x88)) ∧ u.bit (b + 0x10) 0 = true ∧ (d.ovr = true → u.bit (b + 0x10) 1 = true) ∧
        (u.moistCell n).due.map (fun x => (x.tones, x.resid)) = some (d.dwell.tones, d.resid) ∧ SameBut [.heart, .regs, .log, .summary, .cells, .moist] s u) ∧
    ((s.grp c).rcal = 1 → 12 ≤ (s.grp c).slots →
      let ys := (withIndex (s.grp c).run).map fun x => Cx.div x.2 ⟨Config.yrefRe (4 * c + x.1 / 24) (x.1 % 24), Config.yrefIm (4 * c + x.1 / 24) (x.1 % 24)⟩
      let near := ys.all fun y => F64.le (Cx.sub y Cx.one).abs (F64.dec 2 1)
      Yields (.rcalDone t c) s fun u =>
        (near = true → (u.grp c).rcal = 2 ∧ (u.grp c).g = ys) ∧ (near = false → (u.grp c).rcal = 3 ∧ (u.grp c).g = (s.grp c).g) ∧ SameBut [.heart, .cells] s u) ∧
    (∀ (n : Fin 16) (r : CalRun), (s.cell n).cal = some r → 3 ≤ r.grp →
      let q := cellBase n + 0x74
      (r.bad = true →
        Yields (.calMeasDone t n) s fun u =>
          (u.cell n).cal = none ∧ (u.cell n).pend = (s.cell n).pend ∧ u.fld q 2 0 = 3 ∧ u.fld q 11 8 = 1 ∧ u.bit (cellBase n + 0x10) 10 = true ∧
          SameBut [.heart, .regs, .log, .summary, .cells] s u) ∧
      (r.bad = false → r.std = 0 →
        ((withIndex r.done).all fun y => F64.le y.2.abs (F64.mul (omega y.1) (F64.ofRat false 50 1000000000000))) = true →
        Yields (.calMeasDone t n) s fun u =>
          (u.cell n).cal = none ∧ (u.cell n).pend[(0 : Fin 3)] = some r.done ∧ u.fld q 2 0 = 2 ∧ u.fld q 11 8 = 0 ∧ u.bit q 4 = true ∧
          u.bit (cellBase n + 0x10) 9 = true ∧ SameBut [.heart, .regs, .log, .summary, .cells] s u)) ∧
    (∀ (n : Fin 16) xs ovr, (s.cell n).scanCap = some (xs, ovr) → s.xfDone (.scan n) 1 = true →
      Yields (.scanDone t n) s fun u =>
        (u.cell n).scanCap = none ∧ u.bit (cellBase n + 0x700) 0 = ovr ∧ u.bit (cellBase n + 0x10) 11 = true ∧
        (∀ j : Fin 12, u.rd (cellBase n + 0x704 + 4 * j) = (fieldAt 31 16 (noisePa xs (2 * j + 1)) ||| fieldAt 15 0 (noisePa xs (2 * j)))) ∧
        SameBut [.heart, .regs, .log, .summary, .cells, .xf] s u)

/-- MOIST and XFORM: the result of a posted reading, with its residual or waiting for it (R141, R154, R160), the slots of a sweep (R159), a
residual whose transform is done (R160), the step that the transform engine completes (R25, R373), and its use (R27). -/
def Obligations.MoistureRows : Prop :=
  ∀ (s : State) (t : Nat) (n : Fin 16),
    let m := s.moistCell n
    let res := moistRes n
    let wide : List Part := [.heart, .regs, .log, .summary, .moist]
    (∀ d : CellRead, m.due = some d → s.moistRuns = true →
      let v := s.withReading n d
      let r := v.moistCompute n d.tones
      (s.residWaits n d = true → Yields (.moistResult t n) s fun u => SameBut [.heart] s u) ∧
      (s.residWaits n d = false →
        Yields (.moistResult t n) s fun u =>
          (u.moistCell n).due = none ∧ (s.bit (mcfg n) 7 = false → u.rd res = s.rd res) ∧
          (s.bit (mcfg n) 7 = true →
            u.bit res 23 = true ∧ u.fld res 7 0 = r.flags % 256 ∧ u.fld res 20 16 = s.fld (mcfg n) 4 0 ∧
            u.rd (res + 4) = v.rd (cellBase n + 0x104) ∧ u.rd (res + 8) = v.rd (cellBase n + 0x108) ∧ u.fld (res + 0xC) 15 0 = r.moist % 65536 ∧
            u.fld (res + 0x14) 31 16 = r.temp % 65536 ∧ u.fld (res + 0x14) 15 0 = r.density % 65536 ∧
            (v.fld (cellBase n + 0x100) 9 0 &&& 0x13F ≠ 0 → u.bit res 0 = true ∧ u.fld (res + 0xC) 15 0 = 0) ∧
            (d.resid = true → s.enfLevel = 0 → ∀ x noisy, m.resid = some (x, noisy) →
              u.bit (res + 0x30) 17 = true ∧ u.bit (res + 0x30) 16 = noisy ∧ u.fld (res + 0x30) 15 0 = satS 16 x % 65536 ∧
              (noisy = true → u.bit (moistBase + 0x10) 6 = true)) ∧
            u.bit (moistBase + 0x10) 0 = true ∧ (r.flags ≠ 0 → u.bit (moistBase + 0x10) 1 = true)) ∧ SameBut wide s u)) ∧
    (∀ (w : Sweep) d win, s.moist.sweep = some w → w.cap = some (d, win) → s.cellRuns = true →
      XfJob.sweep ∉ s.xf.moistQ ∨ s.xfRuns = false ∨ s.enfLevel ≠ 0 →
      let state := fun (u : State) => u.fld (moistBase + 0x150) 2 0
      let swept : List Part := .xf :: wide
      (State.ovrOf win = true → w.retries < 3 →
        Yields (.sweepSlotDone t) s fun u => u.moist = { s.moist with sweep := some { w with cap := none, retries := w.retries + 1 } } ∧ SameBut wide s u) ∧
      (State.ovrOf win = true → 3 ≤ w.retries →
        Yields (.sweepSlotDone t) s fun u => u.moist.sweep = none ∧ state u = 3 ∧ u.bit (moistBase + 0x10) 5 = true ∧ SameBut wide s u) ∧
      (State.ovrOf win = false → w.grp < 2 →
        Yields (.sweepSlotDone t) s fun u =>
          u.moist.sweep.map (fun x => (x.cell, x.grp, x.retries, x.cap)) = some (w.cell, w.grp + 1, 0, none) ∧ SameBut swept s u) ∧
      (State.ovrOf win = false → 2 ≤ w.grp →
        Yields (.sweepSlotDone t) s fun u =>
          u.moist.sweep = none ∧ state u = 2 ∧ u.fld (moistBase + 0x150) 19 16 = w.cell.val ∧ u.bit (moistBase + 0x10) 4 = true ∧ SameBut swept s u)) ∧
    (∀ tones xs, (s.cell n).residCap = some (tones, xs) → s.xfDone (.resid n) 1 = true → s.moistRuns = true → s.enfLevel = 0 →
      let r := F64.nearest (residual tones xs)
      Yields (.residualDone t n) s fun u =>
        (u.cell n).residCap = none ∧ (u.moistCell n).resid = some (r, decide (s.residLim < r)) ∧
        XfJob.resid n ∉ u.xf.ready ∧ SameBut [.heart, .cells, .moist, .xf] s u) ∧
    (s.xfRuns = true →
      (s.xf.work = 1 →
        Yields (.xformBlockDone t) s fun u =>
          u.xf.moistNs = s.xf.moistNs + 118784 ∧ u.rd (xformBase + 0x50) = satInc (s.rd (xformBase + 0x50)) ∧
          u.xf.ready = s.xf.ready ++ s.xf.moistQ.take 1 ∧ (s.enfLevel = 0 → u.xf.moistQ = s.xf.moistQ.drop 1) ∧
          (u.xf.moistQ ≠ [] → u.xf.work = 1) ∧ SameBut [.heart, .regs, .log, .summary, .xf] s u) ∧
      (s.xf.work = 2 → s.xf.sub = 2 → s.xf.moistQ = [] →
        Yields (.xformBlockDone t) s fun u =>
          u.xf.gnssNs = s.xf.gnssNs + 28672 ∧ u.xf.sub = 0 ∧ u.xf.gnss4 = s.xf.gnss4 - 1 ∧
          u.rd (xformBase + 0x54) = satInc (s.rd (xformBase + 0x54)) ∧ SameBut [.heart, .regs, .log, .summary, .xf] s u) ∧
      Yields (.xformUsePost t) s (fun u =>
        u.rd (xformBase + 0x44) = toWord (s.xf.moistNs / 1000) ∧ u.rd (xformBase + 0x48) = toWord (s.xf.gnssNs / 1000) ∧
        u.xf = { s.xf with moistNs := 0, gnssNs := 0 } ∧ SameBut [.heart, .regs, .xf] s u))

/-! ### Heartwood: PTP, sources, TP_OUT -/

/-- PTP as a slave (R352, R354, R355): a Sync of the master makes the source present, and with its Follow_Up gives the master's
time and, with the path delay known, an offset; Delay_Req is sent and its response gives the mean path delay; an Announce chooses
the master, or leaves the clock passive; without Announce or Sync the source is lost, and a clock without a master becomes one. -/
def Obligations.PtpSlave : Prop :=
  ∀ (s : State) (t : Nat) (p : Fin 2) (m : PtpMsg),
    let a := s.advance t
    let wide : List Part := [.heart, .regs, .freeCtr, .led, .banks, .log, .summary, .loops, .root, .time, .gnss]
    let unsteered := s.time.active = none ∧ s.time.ptpS.trusted = false ∧ s.time.gnssS.trusted = false
    let offsets := fun (u : State) (master : Int) (t2 : Nat) =>
      u.time.ptp.pend = none ∧ u.time.ptp.last = some (master, t2) ∧
      (∀ d, s.p2p = false → s.time.ptp.mpd = some d → unsteered →
        u.time.ptpS.raw = ((master + d + s.asym p - t2) :: s.time.ptpS.raw).take 16) ∧ SameBut wide s u
    s.ptpOn = true →
    (s.ptpUp p = true → s.fromParent p m = true →
      (m.twoStep = true →
        Yields (.ptpSync t p m) s fun u =>
          u.time.ptp.syncAt = some a.now ∧ u.time.ptp.pend = some (m.seq, m.corr, a.hwNs) ∧ u.time.ptpS.present = true ∧
          SameBut [.heart, .time] s u) ∧
      (m.twoStep = false →
        Yields (.ptpSync t p m) s fun u =>
          u.time.ptp.syncAt = some a.now ∧ (unsteered → u.time.ptpS.present = true) ∧ offsets u ((m.ts : Int) + m.corr / 65536) a.hwNs) ∧
      (∀ corr t2, s.time.ptp.pend = some (m.seq, corr, t2) →
        Yields (.ptpFollowUp t p m) s fun u => offsets u ((m.ts : Int) + (corr + m.corr) / 65536) t2)) ∧
    (∀ q, s.p2p = false → s.time.ptp.parent = some q →
      let n := (s.time.ptp.seqD + 1) % 65536
      Yields (.ptpDelayReq t none) s fun u =>
        u.time.ptp.dreq = some (n, a.hwNs) ∧
        (s.ptpUp q.port = true →
          u.sent = ⟨a.now, .ptp q.port, ptpEther false (ptpFrame 1 (s.ptpCfg 7 0) 0 0 1 n 1 0x7F (ptpStamp 0))⟩ :: s.sent) ∧ SameBut [.heart, .time, .sent] s u) ∧
    (∀ t3 t1 t2, s.p2p = false → s.ptpUp p = true → s.fromParent p m = true → m.reqClock = clockId → s.time.ptp.dreq = some (m.seq, t3) →
      s.time.ptp.last = some (t1, t2) →
      let d := (((t2 : Int) - t1) + (((m.ts : Int) - m.corr / 65536) - t3)) / 2
      Yields (.ptpDelayResp t p m) s fun u =>
        u.time.ptp.mpd = some d ∧ u.time.ptp.dreq = none ∧
        (∀ o, s.time.ptp.mpd = some o → 1000 < (d - o).natAbs → u.bit (timeBase + 0x10) 5 = true ∧ u.time.ptpS.trusted = false ∧ u.time.ptpS.qualAt = none ∧ u.time.ptpS.pass = s.time.ptpS.pass) ∧
        SameBut wide s u) ∧
    (∀ ann, s.ptpUp p = true → m.domain = s.ptpCfg 7 0 → m.clock ≠ clockId →
      let q : Parent := ⟨p, m.clock, m.portNum, ann, m.logInt⟩
      (s.slaveOnly = true → s.time.ptp.parent = none → s.time.ptp.rival = none →
        Yields (.ptpAnnounce t p m ann) s fun u =>
          u.time.ptp.parent = some q ∧ u.time.ptp.annAt = a.now ∧ u.time.ptp.master = false ∧ u.time.ptpS.pass = !s.annFails ann ∧
          u.time.ptp.syncAt = (if s.time.ptpS.present then some a.now else none) ∧ SameBut wide s u) ∧
      (∀ o, s.slaveOnly = true → s.time.ptp.parent = some o → o.ann.gm ≠ ann.gm →
        lexLt (ann.key ++ [m.clock, m.portNum]) (o.ann.key ++ [o.clock, o.portNum]) = true →
        Yields (.ptpAnnounce t p m ann) s fun u =>
          u.time.ptp.parent = some q ∧ u.bit (timeBase + 0x10) 6 = true ∧ u.time.ptpS.trusted = false ∧ SameBut wide s u) ∧
      (s.slaveOnly = false → s.time.ptp.parent = none → s.time.ptp.rival = none → lexLt a.ownAnnounce.key ann.key = true →
        Yields (.ptpAnnounce t p m ann) s fun u => u.time.ptp.master = true ∧ u.time.ptp.parent = none ∧ SameBut wide s u) ∧
      (∀ o, s.slaveOnly = false → s.time.ptp.parent = none → s.time.ptp.rival = some o → (o.port, o.clock, o.portNum) ≠ (p, m.clock, m.portNum) →
        lexLt a.ownAnnounce.key ann.key = true → exec (.ptpAnnounce t p m ann) s = .next a) ∧
      (s.slaveOnly = false → lexLt a.ownAnnounce.key ann.key = false → a.ownAnnounce.cls ≤ 127 →
        (∀ o, s.time.ptp.parent.or s.time.ptp.rival = some o → lexLt (ann.key ++ [m.clock, m.portNum]) (o.ann.key ++ [o.clock, o.portNum]) = true) →
        Yields (.ptpAnnounce t p m ann) s fun u =>
          u.time.ptp.passive = true ∧ u.time.ptp.rival = some q ∧ u.time.ptp.parent = none ∧ u.time.ptp.listenAt = a.now ∧ SameBut wide s u)) ∧
    (s.time.ptp.parent = none → s.slaveOnly = false → s.time.ptp.master = false →
      s.time.ptp.listenAt + s.ptpInt 11 8 * intervalNs (s.time.ptp.rival.elim (s.ptpInt 7 4 : Int) fun q => q.logAnn) ≤ a.now →
      Yields (.ptpLoss t) s fun u => u.time.ptp.master = true ∧ u.time.ptp.passive = false ∧ SameBut [.heart, .time] s u) ∧
    (∀ q x, s.time.ptp.parent = some q → a.now < s.time.ptp.annAt + s.ptpInt 11 8 * intervalNs q.logAnn → s.time.ptp.syncAt = some x →
      x + 3 * intervalNs s.time.ptp.logSync ≤ a.now →
      Yields (.ptpLoss t) s fun u =>
        u.time.ptp.parent = some q ∧ u.time.ptp.syncAt = none ∧ u.time.ptpS.present = false ∧ u.time.ptpS.trusted = false ∧ SameBut wide s u) ∧
    (∀ q, s.time.ptp.parent = some q → s.time.ptp.annAt + s.ptpInt 11 8 * intervalNs q.logAnn ≤ a.now →
      Yields (.ptpLoss t) s fun u =>
        u.time.ptp.parent = none ∧ u.time.ptp.listenAt = a.now ∧ u.time.ptpS.present = false ∧ u.time.ptpS.trusted = false ∧
        (s.time.ptpS.present = true → u.bit (timeBase + 0x10) 3 = true) ∧ SameBut wide s u)

/-- PTP as a master, a peer and a transparent clock (R352, R353): Sync, Follow_Up and Announce go out on the ports that pass frames, to
Annex E's multicast address, and a slave's Delay_Req is answered; whatever PTP_EN holds, a Pdelay_Req is sent and answered and a
response gives the link delay; an event message is forwarded with its residence time, a Sync also with its link delay, added. -/
def Obligations.PtpMaster : Prop :=
  ∀ (s : State) (t : Nat) (p : Fin 2) (m : PtpMsg),
    let a := s.advance t
    let dom := s.ptpCfg 7 0
    let wide : List Part := [.heart, .regs, .freeCtr, .led, .banks, .log, .summary, .loops, .root, .time, .gnss]
    let pd := s.time.ptp.pd[p]
    (s.ptpOn = true → s.time.ptp.master = true →
      let goes := fun (u : State) (bs : List Byte) => s.ptpUp p = true → ⟨a.now, .ptp p, ptpEther false bs⟩ ∈ u.sent
      let n := (s.time.ptp.seqS + 1) % 65536
      Yields (.ptpMasterSend t 0) s (fun u =>
        u.time.ptp.seqS = n ∧ u.time.ptp.syncTx = some a.hwNs ∧ goes u (ptpFrame 0 dom 0x0200 0 1 n 0 s.logSync (ptpStamp 0)) ∧
        SameBut [.heart, .time, .sent] s u) ∧
      (∀ x, s.time.ptp.syncTx = some x →
        Yields (.ptpMasterSend t 1) s fun u =>
          u.time.ptp.syncTx = none ∧ goes u (ptpFrame 8 dom 0 0 1 s.time.ptp.seqS 2 s.logSync (ptpStamp x)) ∧ SameBut [.heart, .time, .sent] s u) ∧
      Yields (.ptpMasterSend t 2) s (fun u =>
        u.time.ptp.seqA = (s.time.ptp.seqA + 1) % 65536 ∧
        (s.ptpUp p = true → ∃ bs, ⟨a.now, .ptp p, ptpEther false (BitVec.ofNat 8 11 :: bs)⟩ ∈ u.sent) ∧ SameBut [.heart, .time, .sent] s u) ∧
      (s.p2p = false → s.ptpUp p = true → m.domain = dom → m.clock ≠ clockId →
        Yields (.ptpDelayReq t (some (p, m))) s fun u =>
          u.sent = ⟨a.now, .ptp p, ptpEther false (ptpFrame 9 dom 0 m.corr 1 m.seq 3 (s.ptpInt 27 24)
            (ptpStamp a.hwNs ++ beBytes 8 m.clock ++ beBytes 2 m.portNum))⟩ :: s.sent ∧ SameBut [.heart, .sent] s u)) ∧
    (s.timeOn = true → s.p2p = true → s.ptpUp p = true →
      (let n := (s.time.ptp.seqP + 1) % 65536
       Yields (.ptpDelayReq t none) s fun u =>
         u.time.ptp.pd[p] = { pd with sent := some (n, a.hwNs), resp := none } ∧
         ⟨a.now, .ptp p, ptpEther true (ptpFrame 2 dom 0 0 (p + 1) n 5 0 (List.replicate 20 0#8))⟩ ∈ u.sent ∧ SameBut [.heart, .time, .sent] s u) ∧
      (∀ turn,
        let who := beBytes 8 m.clock ++ beBytes 2 m.portNum
        Yields (.ptpPdelayReq t p m turn) s fun u =>
          u.sent = ⟨a.now, .ptp p, ptpEther true (ptpFrame 10 dom 0 m.corr (p + 1) m.seq 5 0x7F (ptpStamp (a.hwNs + turn) ++ who))⟩ ::
            ⟨a.now, .ptp p, ptpEther true (ptpFrame 3 dom 0x0200 0 (p + 1) m.seq 5 0x7F (ptpStamp a.hwNs ++ who))⟩ :: s.sent ∧
          SameBut [.heart, .sent] s u) ∧
      (m.reqClock = clockId → m.reqPort = p + 1 →
        let known := fun (u : State) (d : Int) =>
          u.time.ptp.pd[p] = ⟨none, none, some d⟩ ∧ u.rd (timeBase + 0xE4 + 4 * p) = fieldAt 31 0 (satS 32 d) ∧ SameBut wide s u
        (∀ t1, pd.sent = some (m.seq, t1) →
          (m.twoStep = true →
            Yields (.ptpPdelayResp t p m) s fun u =>
              u.time.ptp.pd[p] = { pd with resp := some (m.seq, m.ts, m.corr, a.hwNs) } ∧ SameBut [.heart, .time] s u) ∧
          (m.twoStep = false → Yields (.ptpPdelayResp t p m) s fun u => known u (((a.hwNs : Int) - t1 - m.corr / 65536) / 2))) ∧
        (∀ q t1 t2 corr t4, pd.sent = some (q, t1) → pd.resp = some (m.seq, t2, corr, t4) →
          Yields (.ptpPdelayRespFollowUp t p m) s fun u =>
            known u ((((t4 : Int) - t1) - (((m.ts : Int) - t2) + (corr + m.corr) / 65536)) / 2)))) ∧
    (∀ udp residence msg, s.ptpUp 0 = true → s.ptpUp 1 = true →
      let out : Fin 2 := if p = 0 then 1 else 0
      (s.ptpCfg 10 10 = 0 →
        Yields (.ptpTcForward t p udp residence msg) s fun u => u.sent = ⟨a.now, .tc out, msg⟩ :: s.sent ∧ SameBut [.heart, .sent] s u) ∧
      (s.timeOn = true → s.ptpCfg 10 10 = 1 →
        let link := if s.p2p = true ∧ (msg.headD 0).toNat % 16 = 0 then pd.delay.getD 0 else 0
        Yields (.ptpTcForward t p 0 residence msg) s fun u =>
          u.sent = ⟨a.now, .tc out, msg.take 8 ++ beSigned 8 (signed 64 (ofBe (slice msg 8 8)) + ((residence : Int) + link) * 65536) ++
            msg.drop 16⟩ :: s.sent ∧
          u.rd (timeBase + 0xEC) = satInc (s.rd (timeBase + 0xEC)) ∧ SameBut [.heart, .regs, .sent] s u))

/-- Trust and TP_OUT (R357, R359, R364): a source that has qualified and given an offset is trusted and becomes active where no other is; ten failed cross-checks
take both sources' trust; the pulse begins at its instant and ends after TP_WIDTH. -/
def Obligations.TrustAndPulse : Prop :=
  ∀ (s : State) (t : Nat),
    let a := s.advance t
    let p := s.time.ptpS
    let g := s.time.gnssS
    let wide : List Part := [.heart, .regs, .freeCtr, .led, .banks, .log, .summary, .loops, .root, .time, .gnss]
    (∀ i q, s.timeOn = true → s.srcEn i = true → (s.src i).present = true → (s.src i).pass = true → (s.src i).trusted = false →
      (s.src i).qualAt = some q → q + 59900000000 ≤ a.now → (s.src i).filt ≠ [] →
      Yields (.sourceTrusted t i) s fun u =>
        (u.src i).trusted = true ∧ (u.src i).qualAt = none ∧
        ((∀ j, j ≠ i → (s.src j).trusted = false) → u.time.active = some i) ∧
        (a.bound < (s.offset i).natAbs → u.bit (timeBase + 0x10) 9 = true) ∧ SameBut wide s u) ∧
    (s.timeOn = true → s.srcEn .ptp = true → s.srcEn .gnss = true → p.present = true → g.present = true → p.trusted = true ∨ g.trusted = true →
      let d := (s.offset .ptp - s.offset .gnss).natAbs
      let lim := s.fld (timeBase + 0x6C) 15 0
      (d ≤ lim → Yields (.crossCheck t) s fun u => u.time = { s.time with xfail := 0 } ∧ SameBut [.heart, .time] s u) ∧
      (lim < d → s.time.xfail + 1 < 10 →
        Yields (.crossCheck t) s fun u => u.time = { s.time with xfail := s.time.xfail + 1 } ∧ SameBut [.heart, .time] s u) ∧
      (lim < d → 9 ≤ s.time.xfail →
        Yields (.crossCheck t) s fun u =>
          u.time.xfail = 0 ∧ u.time.ptpS.trusted = false ∧ u.time.gnssS.trusted = false ∧ u.time.active = none ∧
          u.bit (timeBase + 0x10) 2 = true ∧ SameBut wide s u)) ∧
    (let per := s.fld (timeBase + 0x94) 31 16 * 1000000
     let ph := s.fld (timeBase + 0x94) 15 0 * 1000000
     s.tpRuns = true → s.time.tpAt + 2000000 ≤ a.now → ph ≤ a.hwNs → (a.hwNs - ph) % max 1 per < 9 →
      Yields (.tpPulse t) s fun u =>
        u.time = { s.time with pulse := some (a.now + s.fld (timeBase + 0x98) 18 0 * 1000) } ∧ u.tpLevel = (true != s.bit (timeBase + 0x90) 1) ∧ SameBut [.heart, .time] s u) ∧
    (∀ x, s.time.pulse = some x → x ≤ a.now →
      Yields (.tpPulseEnd t) s fun u => u.time = { s.time with pulse := none } ∧ u.tpLevel = s.bit (timeBase + 0x90) 1 ∧ SameBut [.heart, .time] s u)

/-! ### GNSS -/

/-- Acquisition and tracking (R373–R380): a pass starts with its candidates, hands its search to XFORM, and a detection, a bin whose
largest sum stands more than ACQ_THR above the mean of its other cells, to a free channel with its code phase; a channel advances, is
given up when not confirmed or lost, and its messages are stored and logged as their bits decode. -/
def Obligations.GnssTracking : Prop :=
  ∀ (s : State) (t : Nat) (c : Fin 64),
    let a := s.advance t
    let x := s.gch c
    let page := gnssChBase (c / 16)
    let wide : List Part := [.heart, .regs, .log, .summary, .gnss]
    s.gnssRuns = true →
    (∀ vis, s.gnss.pass = none → a.candidates vis ≠ [] → s.freeCh.isSome = true → s.clk.tcxoOk = true → s.gnss.thr = 0 →
      Yields (.acqPassStart t vis) s fun u =>
        u.gnss = { s.gnss with pass := some ⟨a.now, false, a.candidates vis, 0⟩, lastPass := some a.now } ∧ SameBut [.heart, .gnss] s u) ∧
    (∀ q stamp, s.gnss.pass = some q → q.captured = false → q.start + 40000000 ≤ a.now →
      Yields (.acqCaptureDone t stamp) s fun u =>
        u.gnss = { s.gnss with pass := some { q with captured := true, stamp := stamp } } ∧ u.xf.gnss4 = s.xf.gnss4 + (s.passWork q.cand).1 ∧
        u.xf.gnss16 = s.xf.gnss16 + (s.passWork q.cand).2 ∧ SameBut (.xf :: wide) s u) ∧
    (∀ q y d smp (b : AcqBin) (k top : Nat), s.gnss.pass = some q → q.captured = true → s.xfGnssBusy = false → (y, d) ∈ q.cand →
      s.freeCh = some c → b.sat = y → (b.dop - d).natAbs ≤ State.dopHalf s.gnss.start → b.cells[k]? = some top →
      (∀ j : Fin b.cells.length, b.cells[j] ≤ top ∧ (j.val < k → b.cells[j] < top)) →
      let above := 10 ^ s.fld (gnssBase + 0x54) 7 0 * (b.cells.sum - top) ^ 100 < (top * (b.cells.length - 1)) ^ 100
      (above → s.tracked y = false → s.sysEn y.sys = true →
        Yields (.acqPassEnd t smp [b]) s fun u =>
          u.gnss.pass = none ∧
          u.gch c = { GnssCh.idle with
            sat := some y, handed := some a.now, code := some (smp, State.codePhase y q.stamp smp k b.dop, b.dop)
            pll := s.fld (gnssBase + 0x58) 15 8, dll := s.fld (gnssBase + 0x58) 7 0 } ∧
          u.bit (gnssBase + 0x10) 7 = true ∧ SameBut wide s u) ∧
      (¬above →
        Yields (.acqPassEnd t smp [b]) s fun u => u.gnss.pass = none ∧ u.gnss.ch = s.gnss.ch ∧ u.bit (gnssBase + 0x10) 7 = true ∧ SameBut wide s u)) ∧
    (∀ h y, x.handed = some h → x.sat = some y → x.cstate = 0 → h + 900000000 ≤ a.now →
      Yields (.acqConfirmTimeout t c) s fun u => u.gch c = GnssCh.idle ∧ y ∈ u.gnss.back ∧ SameBut wide s u) ∧
    (∀ cn0, x.cstate ≠ 0 → cn0 < s.fld (gnssBase + 0x58) 31 24 * 10 →
      Yields (.channelLoss t c cn0) s fun u => u.gch c = GnssCh.idle ∧ u.bit (page + 0x10) 1 = true ∧ SameBut wide s u) ∧
    (∀ y, x.sat = some y → x.cstate < 5 → (x.cstate = 4 → a.ephValid y = true) →
      Yields (.channelLock t c) s fun u =>
        u.gch c = { x with cstate := x.cstate + 1, handed := none } ∧ (x.cstate = 0 → u.bit (page + 0x10) 0 = true) ∧ SameBut wide s u) ∧
    (∀ y raw ago, x.sat = some y → 4 ≤ x.cstate →
      let m := Nav.decode y.sys y.prn raw
      let stamp := a.hwAt (a.now - ago)
      let n := (s.rd (gnssBase + 0xCC)).toNat + 1
      let entry := gnssBase + 0x400 + 64 * (n % 48)
      Yields (.navDecode t c raw ago) s fun u =>
        u.gnss.live.nav.head? = some ⟨y, m.typ, m.page, m.ok, m.data, stamp, a.runTenths⟩ ∧
        (∀ r ∈ s.gnss.live.nav, (r.sat, r.typ, r.page, r.ok) ≠ (y, m.typ, m.page, m.ok) → r ∈ u.gnss.live.nav) ∧
        (s.bit (gnssBase + 0x64) (y.sys - 1) = true →
          u.rd (gnssBase + 0xCC) = toWord n ∧ u.rd entry = loWord stamp ∧ u.rd (entry + 8) = toWord n ∧ u.rd (entry + 0x10) = toWord m.result ∧
          u.rd (entry + 0x14) = toWord (m.tow.getD 0xFFFFFFFF)) ∧
        SameBut [.heart, .regs, .gnss] s u)

/-- Epochs, solutions and the antenna (R356, R369, R382, R384): the pulse is stamped; a second with no epoch has no fix and loses the source, one
with enough satellites posts the solution with its stamps; a short or an open antenna loses the source, a retry restores the supply. -/
def Obligations.GnssSolutions : Prop :=
  ∀ (s : State) (t : Nat),
    let a := s.advance t
    let wide : List Part := [.heart, .regs, .freeCtr, .led, .banks, .log, .summary, .loops, .root, .time, .gnss]
    let lost := fun (u : State) => u.time.gnssS.present = false ∧ u.time.gnssS.trusted = false
    (∀ ref sec qerr, s.gnssRuns = true →
      Yields (.gnssEpoch t ref sec qerr) s fun u =>
        u.gnss.epoch.map (fun e => (e.stamp, e.tai, e.qerr)) = some (a.hwNs, (sec + (if ref = 2 then 33 else 19)) * 1000000000, qerr) ∧
        (s.gnss.lastSol = none → lost u) ∧ SameBut wide s u) ∧
    (∀ ms fx, s.gnssRuns = true → s.enfLevel = s.gnss.thr →
      (s.gnss.epoch = none →
        Yields (.gnssSolution t ms fx) s fun u =>
          u.gnss.fix = 0 ∧ u.bit (gnssBase + 0x80) 23 = false ∧ lost u ∧ SameBut (.xf :: wide) s u) ∧
      (∀ e, s.gnss.epoch = some e →
        let use := a.inUse (ms.filter fun m => s.gchOn m.ch)
        (use.2.length < a.unknowns use.1 use.2 + 1 →
          Yields (.gnssSolution t ms fx) s fun u =>
            u.gnss.fix = 0 ∧ u.bit (gnssBase + 0x80) 23 = false ∧ lost u ∧ SameBut (.xf :: wide) s u) ∧
        (use.1 ≠ 0 → a.unknowns use.1 use.2 + 1 ≤ use.2.length → (a.solve use.1 use.2).isSome = true → s.gcfg 9 8 = 1 →
        Yields (.gnssSolution t ms fx) s fun u =>
          u.gnss.fix = 2 ∧ u.gnss.lastSol = some a.now ∧ u.bit (gnssBase + 0x80) 23 = true ∧ u.fld (gnssBase + 0x80) 18 16 = 2 ∧
          u.rd (gnssBase + 0x88) = loWord e.stamp ∧ u.rd (gnssBase + 0x8C) = hiWord e.stamp ∧ u.rd (gnssBase + 0x90) = loWord e.tai ∧
          u.rd (gnssBase + 0x94) = hiWord e.tai ∧ SameBut (.xf :: wide) s u))) ∧
    (s.antOn = true → s.gnss.ant ≠ 2 →
      Yields (.antShort t) s fun u => u.gnss.ant = 2 ∧ u.gnss.antAt = a.now ∧ u.bit (gnssBase + 0x10) 3 = true ∧ lost u ∧ SameBut wide s u) ∧
    (∀ limits, s.antOn = true → s.gnss.ant = 2 → s.gnss.antAt + 4500000000 ≤ a.now →
      Yields (.antRetry t limits) s fun u =>
        u.gnss = { s.gnss with ant := if limits then 2 else 0, antAt := a.now } ∧ SameBut [.heart, .gnss] s u) ∧
    (∀ i, s.antOn = true →
      (s.gnss.ant = 0 → i < 20 →
        Yields (.antOpen t i) s fun u =>
          u.gnss.ant = 1 ∧ u.bit (gnssBase + 0x10) 2 = true ∧ u.fld (gnssBase + 0x6C) 15 0 = i ∧ lost u ∧ SameBut wide s u) ∧
      (s.gnss.ant = 1 → 30 ≤ i →
        Yields (.antOpen t i) s fun u =>
          u.gnss = { s.gnss with ant := 0 } ∧ u.fld (gnssBase + 0x6C) 15 0 = satU 16 i ∧ SameBut [.heart, .regs, .gnss] s u))
end

