-- ==== Sys2Proof/Laws/Regs.lean ====
section
/-!
SUPPORT. The register map: reading after writing, and the canonical form, which every operation on it keeps.
-/
namespace Sys2Proof.Machine

@[simp] theorem Regs.find_erase_same (r : Regs) (a : Nat) : (r.erase a).find a = none := by
  induction r with
  | nil => rfl
  | cons p r ih =>
    obtain ⟨b, w⟩ := p
    by_cases h : b = a
    · simpa [Regs.erase, h] using ih
    · simpa [Regs.erase, Regs.find, h] using ih

@[simp] theorem Regs.find_erase_other (r : Regs) {a b : Nat} (h : b ≠ a) : (r.erase a).find b = r.find b := by
  induction r with
  | nil => rfl
  | cons p r ih =>
    obtain ⟨c, w⟩ := p
    by_cases hc : c = a
    · have : c ≠ b := fun e => h (e ▸ hc)
      simpa [Regs.erase, Regs.find, hc, this, Ne.symm h] using ih
    · by_cases hb : c = b <;> simp [Regs.erase, Regs.find, hc, hb, ih]
      subst hb; simp [hc, Regs.find]

theorem Regs.find_insert_same (r : Regs) (a : Nat) (v : Word) (h : r.find a = none) : (r.insert a v).find a = some v := by
  induction r with
  | nil => simp [Regs.insert, Regs.find]
  | cons p r ih =>
    obtain ⟨b, w⟩ := p
    by_cases hb : b = a
    · simp [Regs.find, hb] at h
    · simp only [Regs.find, hb, if_false] at h
      by_cases hl : a < b
      · simp [Regs.insert, Regs.find, hl]
      · simp [Regs.insert, Regs.find, hl, hb, ih h]

theorem Regs.find_insert_other (r : Regs) {a b : Nat} (v : Word) (h : b ≠ a) : (r.insert a v).find b = r.find b := by
  induction r with
  | nil => simp [Regs.insert, Regs.find, Ne.symm h]
  | cons p r ih =>
    obtain ⟨c, w⟩ := p
    by_cases hl : a < c
    · simp [Regs.insert, Regs.find, hl, Ne.symm h]
    · simp [Regs.insert, Regs.find, hl, ih]

/-- Reading the address just written. -/
@[simp] theorem Regs.get_set_same (r : Regs) (a : Nat) (v : Word) : (r.set a v).get a = v := by
  unfold Regs.set Regs.get
  split
  · next h => simp [h]
  · simp [Regs.find_insert_same]

/-- Reading any other address. -/
@[simp] theorem Regs.get_set_other (r : Regs) {a b : Nat} (v : Word) (h : b ≠ a) : (r.set a v).get b = r.get b := by
  unfold Regs.set Regs.get
  split <;> simp [Regs.find_insert_other, h]

theorem Regs.get_set (r : Regs) (a b : Nat) (v : Word) : (r.set a v).get b = if b = a then v else r.get b := by
  by_cases h : b = a
  · subst h; simp
  · simp [h]

/-! ### The canonical form -/

theorem Regs.wfFrom_mono {r : Regs} {b c : Nat} (hbc : b ≤ c) (h : Regs.wfFrom c r = true) : Regs.wfFrom b r = true := by
  cases r with
  | nil => rfl
  | cons p r =>
    obtain ⟨a, v⟩ := p
    simp only [Regs.wfFrom, Bool.and_eq_true, decide_eq_true_eq] at h ⊢
    exact ⟨⟨Nat.le_trans hbc h.1.1, h.1.2⟩, h.2⟩

theorem Regs.wfFrom_erase (r : Regs) (a : Nat) : ∀ b, Regs.wfFrom b r = true → Regs.wfFrom b (r.erase a) = true := by
  induction r with
  | nil => intro _ _; rfl
  | cons p r ih =>
    obtain ⟨c, v⟩ := p
    intro b h
    simp only [Regs.wfFrom, Bool.and_eq_true, decide_eq_true_eq] at h
    unfold Regs.erase
    split
    · exact Regs.wfFrom_mono (by omega) (ih (c + 1) h.2)
    · simp only [Regs.wfFrom, Bool.and_eq_true, decide_eq_true_eq]
      exact ⟨h.1, ih _ h.2⟩

theorem Regs.wfFrom_insert (r : Regs) (a : Nat) (v : Word) (hv : v ≠ resetWord a) :
    ∀ b, b ≤ a → Regs.wfFrom b r = true → r.find a = none → Regs.wfFrom b (r.insert a v) = true := by
  induction r with
  | nil =>
    intro b hb _ _
    simp [Regs.insert, Regs.wfFrom, hb, hv]
  | cons p r ih =>
    obtain ⟨c, w⟩ := p
    intro b hb h hf
    simp only [Regs.wfFrom, Bool.and_eq_true, decide_eq_true_eq] at h
    by_cases hc : c = a
    · simp [Regs.find, hc] at hf
    · simp only [Regs.find, hc, if_false] at hf
      unfold Regs.insert
      split
      · next hl =>
        simp only [Regs.wfFrom, Bool.and_eq_true, decide_eq_true_eq]
        exact ⟨⟨hb, by simpa using hv⟩, ⟨by omega, h.1.2⟩, h.2⟩
      · next hl =>
        simp only [Regs.wfFrom, Bool.and_eq_true, decide_eq_true_eq]
        exact ⟨h.1, ih _ (by omega) h.2 hf⟩

/-- Writing keeps the canonical form. -/
theorem Regs.wf_set (r : Regs) (a : Nat) (v : Word) (h : r.wf = true) : (r.set a v).wf = true := by
  unfold Regs.set Regs.wf at *
  split
  · exact Regs.wfFrom_erase r a 0 h
  · next hv => exact Regs.wfFrom_insert _ a v hv 0 (Nat.zero_le _) (Regs.wfFrom_erase r a 0 h) (by simp)

/-- Leaving entries out keeps the canonical form. -/
theorem Regs.wfFrom_filter (r : Regs) (p : Nat × Word → Bool) : ∀ b, Regs.wfFrom b r = true → Regs.wfFrom b (r.filter p) = true := by
  induction r with
  | nil => intro _ _; rfl
  | cons q r ih =>
    obtain ⟨c, v⟩ := q
    intro b h
    simp only [Regs.wfFrom, Bool.and_eq_true, decide_eq_true_eq] at h
    rw [List.filter_cons]
    split
    · simp only [Regs.wfFrom, Bool.and_eq_true, decide_eq_true_eq]
      exact ⟨h.1, ih _ h.2⟩
    · exact Regs.wfFrom_mono (by omega) (ih (c + 1) h.2)

end Sys2Proof.Machine
end

