-- ==== Sys2Proof/Laws/Does.lean ====
section
/-!
SUPPORT. What an operation of the machine may do, said once: the parts of the state it may change, and what no operation
does to the rest: it leaves the clock and the queue alone, keeps the register maps canonical, bounds the event log, only
adds to what was sent and only uses up free values. The lemmas compose, so that each operation has one lemma `<op>_does`.
-/
namespace Sys2Proof.Machine

theorem Part.same_refl (p : Part) (s : State) : p.same s s := by cases p <;> rfl

theorem Part.same_trans {p : Part} {s t u : State} (h : p.same s t) (k : p.same t u) : p.same s u := by
  cases p <;> exact Eq.trans k h

/-- `ps` is part of `qs`. -/
def Part.sub : List Part → List Part → Bool
  | [], _ => true
  | p :: ps, qs => qs.contains p && Part.sub ps qs

theorem Part.of_sub {ps qs : List Part} (h : Part.sub ps qs = true) {p : Part} (hp : p ∈ ps) : p ∈ qs := by
  induction ps with
  | nil => cases hp
  | cons a ps ih =>
    simp only [Part.sub, Bool.and_eq_true, List.contains_iff_mem] at h
    cases hp with
    | head => exact h.1
    | tail _ hp => exact ih h.2 hp

/-- From `s` to `t` only the parts `ps` may have changed, and the clock, the queue, the canonical form, the depth of the
event log, what was sent and the count of free values are as every operation leaves them. -/
structure Does (ps : List Part) (s t : State) : Prop where
  only : ∀ p, p ∉ ps → p.same s t
  now : t.now = s.now
  queue : t.pending = s.pending
  canon : Canonical s → Canonical t
  ring : s.log.ring.length ≤ 16384 → t.log.ring.length ≤ 16384
  sent : s.sent <:+ t.sent
  free : s.freeCtr ≤ t.freeCtr

namespace Does

theorem refl (ps : List Part) (s : State) : Does ps s s :=
  ⟨fun p _ => p.same_refl s, rfl, rfl, id, id, List.suffix_refl _, Nat.le_refl _⟩

theorem mono {ps qs : List Part} {s t : State} (h : Does ps s t) (k : Part.sub ps qs = true) : Does qs s t :=
  ⟨fun p hp => h.only p fun hm => hp (Part.of_sub k hm), h.now, h.queue, h.canon, h.ring, h.sent, h.free⟩

theorem trans {ps : List Part} {s t u : State} (h : Does ps s t) (k : Does ps t u) : Does ps s u :=
  ⟨fun p hp => Part.same_trans (h.only p hp) (k.only p hp), k.now.trans h.now, k.queue.trans h.queue,
    fun c => k.canon (h.canon c), fun r => k.ring (h.ring r), h.sent.trans k.sent, Nat.le_trans h.free k.free⟩

/-- One more operation on the way. -/
theorem step {ps qs : List Part} {s t u : State} (h : Does ps s t) (k : Does qs t u) (e : Part.sub qs ps = true) : Does ps s u :=
  h.trans (k.mono e)

theorem fst {α : Type} {ps : List Part} {s t : State} {x : α} (h : Does ps s t) : Does ps s (t, x).1 := h

theorem ite {ps : List Part} {s a b : State} {c : Prop} [Decidable c] (h : Does ps s a) (k : Does ps s b) :
    Does ps s (if c then a else b) := by
  split
  · exact h
  · exact k

theorem dite {ps : List Part} {s : State} {c : Prop} [Decidable c] {a : c → State} {b : ¬ c → State}
    (h : ∀ x, Does ps s (a x)) (k : ∀ x, Does ps s (b x)) : Does ps s (if x : c then a x else b x) := by
  split
  · exact h _
  · exact k _

/-- A fold of steps that each keep the frame. -/
theorem foldl {α : Type} {ps : List Part} {s : State} {f : State → α → State} {l : List α} {a : State}
    (k : ∀ t x, Does ps t (f t x)) (h : Does ps s a) : Does ps s (l.foldl f a) := by
  induction l generalizing a with
  | nil => exact h
  | cons x l ih => exact ih (h.trans (k a x))

theorem opt {α : Type} {ps : List Part} {s a : State} {o : Option α} {f : α → State}
    (h : Does ps s a) (k : ∀ x, Does ps s (f x)) : Does ps s (match o with | some x => f x | none => a) := by
  cases o
  · exact h
  · exact k _

/-- A change of parts that are neither register maps nor log nor outputs nor free values. -/
theorem plain {ps : List Part} {s t : State} (only : ∀ p, p ∉ ps → p.same s t) (now : t.now = s.now) (queue : t.pending = s.pending)
    (regs : t.regs = s.regs) (store : t.store = s.store) (log : t.log = s.log) (sent : t.sent = s.sent) (free : t.freeCtr = s.freeCtr) :
    Does ps s t :=
  ⟨only, now, queue, by simp only [Canonical, regs, store]; exact id, by rw [log]; exact id, sent.symm ▸ List.suffix_refl s.sent,
    Nat.le_of_eq free.symm⟩

/-- One part is replaced. -/
theorem put {ps : List Part} {s t u : State} (p : Part) (h : Does ps s t) (k : Does [p] t u) (e : ps.contains p = true) : Does ps s u :=
  h.step k (by rw [Part.sub, e]; rfl)

theorem put_heart {ps : List Part} {s t : State} (h : Does ps s t) (v) (e : ps.contains .heart = true) : Does ps s { t with heart := v } :=
  put .heart h (plain (fun p hp => by cases p <;> first | exact absurd (by decide) hp | rfl) rfl rfl rfl rfl rfl rfl rfl) e

theorem put_sup {ps : List Part} {s t : State} (h : Does ps s t) (v) (e : ps.contains .sup = true) : Does ps s { t with sup := v } :=
  put .sup h (plain (fun p hp => by cases p <;> first | exact absurd (by decide) hp | rfl) rfl rfl rfl rfl rfl rfl rfl) e

theorem put_clk {ps : List Part} {s t : State} (h : Does ps s t) (v) (e : ps.contains .clk = true) : Does ps s { t with clk := v } :=
  put .clk h (plain (fun p hp => by cases p <;> first | exact absurd (by decide) hp | rfl) rfl rfl rfl rfl rfl rfl rfl) e

theorem put_pwr {ps : List Part} {s t : State} (h : Does ps s t) (v) (e : ps.contains .pwr = true) : Does ps s { t with pwr := v } :=
  put .pwr h (plain (fun p hp => by cases p <;> first | exact absurd (by decide) hp | rfl) rfl rfl rfl rfl rfl rfl rfl) e

theorem put_arb {ps : List Part} {s t : State} (h : Does ps s t) (v) (e : ps.contains .arb = true) : Does ps s { t with arb := v } :=
  put .arb h (plain (fun p hp => by cases p <;> first | exact absurd (by decide) hp | rfl) rfl rfl rfl rfl rfl rfl rfl) e

theorem put_led {ps : List Part} {s t : State} (h : Does ps s t) (v) (e : ps.contains .led = true) : Does ps s { t with led := v } :=
  put .led h (plain (fun p hp => by cases p <;> first | exact absurd (by decide) hp | rfl) rfl rfl rfl rfl rfl rfl rfl) e

theorem put_sensors {ps : List Part} {s t : State} (h : Does ps s t) (v) (e : ps.contains .sensors = true) : Does ps s { t with sensors := v } :=
  put .sensors h (plain (fun p hp => by cases p <;> first | exact absurd (by decide) hp | rfl) rfl rfl rfl rfl rfl rfl rfl) e

theorem put_fans {ps : List Part} {s t : State} (h : Does ps s t) (v) (e : ps.contains .fans = true) : Does ps s { t with fans := v } :=
  put .fans h (plain (fun p hp => by cases p <;> first | exact absurd (by decide) hp | rfl) rfl rfl rfl rfl rfl rfl rfl) e

theorem put_banks {ps : List Part} {s t : State} (h : Does ps s t) (v) (e : ps.contains .banks = true) : Does ps s { t with banks := v } :=
  put .banks h (plain (fun p hp => by cases p <;> first | exact absurd (by decide) hp | rfl) rfl rfl rfl rfl rfl rfl rfl) e

theorem put_wear {ps : List Part} {s t : State} (h : Does ps s t) (v) (e : ps.contains .wear = true) : Does ps s { t with wear := v } :=
  put .wear h (plain (fun p hp => by cases p <;> first | exact absurd (by decide) hp | rfl) rfl rfl rfl rfl rfl rfl rfl) e

theorem put_wearSaved {ps : List Part} {s t : State} (h : Does ps s t) (v) (e : ps.contains .wearSaved = true) : Does ps s { t with wearSaved := v } :=
  put .wearSaved h (plain (fun p hp => by cases p <;> first | exact absurd (by decide) hp | rfl) rfl rfl rfl rfl rfl rfl rfl) e

theorem put_summary {ps : List Part} {s t : State} (h : Does ps s t) (v) (e : ps.contains .summary = true) : Does ps s { t with summary := v } :=
  put .summary h (plain (fun p hp => by cases p <;> first | exact absurd (by decide) hp | rfl) rfl rfl rfl rfl rfl rfl rfl) e

theorem put_can {ps : List Part} {s t : State} (h : Does ps s t) (v) (e : ps.contains .can = true) : Does ps s { t with can := v } :=
  put .can h (plain (fun p hp => by cases p <;> first | exact absurd (by decide) hp | rfl) rfl rfl rfl rfl rfl rfl rfl) e

theorem put_loops {ps : List Part} {s t : State} (h : Does ps s t) (v) (e : ps.contains .loops = true) : Does ps s { t with loops := v } :=
  put .loops h (plain (fun p hp => by cases p <;> first | exact absurd (by decide) hp | rfl) rfl rfl rfl rfl rfl rfl rfl) e

theorem put_dio {ps : List Part} {s t : State} (h : Does ps s t) (v) (e : ps.contains .dio = true) : Does ps s { t with dio := v } :=
  put .dio h (plain (fun p hp => by cases p <;> first | exact absurd (by decide) hp | rfl) rfl rfl rfl rfl rfl rfl rfl) e

theorem put_afe {ps : List Part} {s t : State} (h : Does ps s t) (v) (e : ps.contains .afe = true) : Does ps s { t with afe := v } :=
  put .afe h (plain (fun p hp => by cases p <;> first | exact absurd (by decide) hp | rfl) rfl rfl rfl rfl rfl rfl rfl) e

theorem put_cells {ps : List Part} {s t : State} (h : Does ps s t) (v) (e : ps.contains .cells = true) : Does ps s { t with cells := v } :=
  put .cells h (plain (fun p hp => by cases p <;> first | exact absurd (by decide) hp | rfl) rfl rfl rfl rfl rfl rfl rfl) e

theorem put_moist {ps : List Part} {s t : State} (h : Does ps s t) (v) (e : ps.contains .moist = true) : Does ps s { t with moist := v } :=
  put .moist h (plain (fun p hp => by cases p <;> first | exact absurd (by decide) hp | rfl) rfl rfl rfl rfl rfl rfl rfl) e

theorem put_xf {ps : List Part} {s t : State} (h : Does ps s t) (v) (e : ps.contains .xf = true) : Does ps s { t with xf := v } :=
  put .xf h (plain (fun p hp => by cases p <;> first | exact absurd (by decide) hp | rfl) rfl rfl rfl rfl rfl rfl rfl) e

theorem put_root {ps : List Part} {s t : State} (h : Does ps s t) (v) (e : ps.contains .root = true) : Does ps s { t with root := v } :=
  put .root h (plain (fun p hp => by cases p <;> first | exact absurd (by decide) hp | rfl) rfl rfl rfl rfl rfl rfl rfl) e

theorem put_time {ps : List Part} {s t : State} (h : Does ps s t) (v) (e : ps.contains .time = true) : Does ps s { t with time := v } :=
  put .time h (plain (fun p hp => by cases p <;> first | exact absurd (by decide) hp | rfl) rfl rfl rfl rfl rfl rfl rfl) e

theorem put_gnss {ps : List Part} {s t : State} (h : Does ps s t) (v) (e : ps.contains .gnss = true) : Does ps s { t with gnss := v } :=
  put .gnss h (plain (fun p hp => by cases p <;> first | exact absurd (by decide) hp | rfl) rfl rfl rfl rfl rfl rfl rfl) e

/-- Free values are used up. -/
theorem addFree {ps : List Part} {s t : State} (h : Does ps s t) (n : Nat) (e : ps.contains .freeCtr = true) :
    Does ps s { t with freeCtr := t.freeCtr + n } :=
  put .freeCtr h ⟨fun p hp => by cases p <;> first | exact absurd (by decide) hp | rfl, rfl, rfl, id, id, List.suffix_refl _, Nat.le_add_right _ _⟩ e

/-- The register map is replaced by a canonical one. -/
theorem put_regs {ps : List Part} {s t : State} (h : Does ps s t) (r : Regs) (c : Canonical t → r.wf = true)
    (e : ps.contains .regs = true) : Does ps s { t with regs := r } :=
  put .regs h ⟨fun p hp => by cases p <;> first | exact absurd (by decide) hp | rfl, rfl, rfl, fun k => ⟨c k, k.2⟩, id, List.suffix_refl _,
    Nat.le_refl _⟩ e

end Does
end Sys2Proof.Machine
end

