-- ==== Sys2Proof/Laws/DoesOps.lean ====
section
/-!
SUPPORT. What each operation of these parts may do, one lemma per operation (`Sys2Proof.Laws.Does` says what `Does`
claims): the named operations, flags, the event log, claims, the epoch, the loop tunes and the mode.
-/
namespace Sys2Proof.Machine

theorem State.noteFresh_does (s : State) (base n : Nat) : Does [.log] s (State.noteFresh s base n) where
  only p hp := by cases p <;> first | exact absurd (by decide) hp | rfl
  now := rfl
  queue := rfl
  canon := id
  ring := id
  sent := List.suffix_refl _
  free := Nat.le_refl _

theorem State.wr_does (s : State) (a : Nat) (v : Word) : Does [.regs] s (State.wr s a v) where
  only p hp := by cases p <;> first | exact absurd (by decide) hp | rfl
  now := rfl
  queue := rfl
  canon h := ⟨Regs.wf_set _ _ _ h.1, h.2⟩
  ring := id
  sent := List.suffix_refl _
  free := Nat.le_refl _

theorem State.count_does (s : State) (a : Nat) : Does [.regs] s (State.count s a) := by
  unfold State.count
  exact (State.wr_does _ _ _).mono rfl

theorem State.flagOnly_does (s : State) (base n : Nat) : Does [.regs, .log] s (State.flagOnly s base n) := by
  unfold State.flagOnly
  exact Does.step (Does.step ((State.wr_does _ _ _).mono rfl) (State.count_does _ _) rfl) (State.noteFresh_does _ _ _) rfl

theorem State.mark_does (s : State) (cls : Nat) : Does [.summary] s (State.mark s cls) := by
  unfold State.mark
  exact Does.put_summary (Does.refl _ _) _ rfl

theorem State.addLog_does (s : State) (page flags : Nat) (e : Entry) : Does [.log, .summary] s (s.addLog page flags e) where
  only p hp := by cases p <;> first | exact absurd (by decide) hp | rfl
  now := rfl
  queue := rfl
  canon := id
  ring _ := by simp only [State.addLog, State.mark, List.length_take]; omega
  sent := List.suffix_refl _
  free := Nat.le_refl _

theorem State.flagWith_does (s : State) (base n : Nat) (e : Entry) : Does [.regs, .log, .summary] s (State.flagWith s base n
    e) := by
  unfold State.flagWith
  exact Does.ite (Does.step ((State.flagOnly_does _ _ _).mono rfl) (State.addLog_does _ _ _ _) rfl) ((State.flagOnly_does _ _
    _).mono rfl)

theorem State.flag_does (s : State) (base n : Nat) : Does [.regs, .log, .summary] s (State.flag s base n) := by
  unfold State.flag
  exact (State.flagWith_does _ _ _ _).mono rfl

theorem State.flagIf_does (s : State) (c : Bool) (base n : Nat) : Does [.regs, .log, .summary] s (State.flagIf s c base n) :=
    by
  unfold State.flagIf
  exact Does.ite ((State.flag_does _ _ _).mono rfl) (Does.refl _ _)

theorem State.tick_does (s : State) : Does [.freeCtr] s s.tick where
  only p hp := by cases p <;> first | exact absurd (by decide) hp | rfl
  now := rfl
  queue := rfl
  canon := id
  ring := id
  sent := List.suffix_refl _
  free := Nat.le_succ _

theorem State.send_does (s : State) (l : Line) (bs : List Byte) : Does [.sent] s (s.send l bs) where
  only p hp := by cases p <;> first | exact absurd (by decide) hp | rfl
  now := rfl
  queue := rfl
  canon := id
  ring := id
  sent := List.suffix_cons _ _
  free := Nat.le_refl _

theorem State.wrKept_does (s : State) (a : Nat) (v : Word) : Does [.regs, .store] s (s.wrKept a v) where
  only p hp := by cases p <;> first | exact absurd (by decide) hp | rfl
  now := rfl
  queue := rfl
  canon h := ⟨Regs.wf_set _ _ _ h.1, Regs.wf_set _ _ _ h.2⟩
  ring := id
  sent := List.suffix_refl _
  free := Nat.le_refl _

theorem State.bumpEpoch_does (s : State) (pages : List Nat) : Does [.regs, .store] s (State.bumpEpoch s pages) := by
  unfold State.bumpEpoch
  exact Does.foldl (fun _ _ => ((State.wrKept_does _ _ _).mono rfl)) ((State.wrKept_does _ _ _).mono rfl)

theorem State.updTime_does (s : State) (f : Time → Time) : Does [.time] s (State.updTime s f) := by
  unfold State.updTime
  exact Does.put_time (Does.refl _ _) _ rfl

theorem State.changeHeart_does (s : State) (f : Heart → Heart) : Does [.heart] s (State.changeHeart s f) := by
  unfold State.changeHeart
  exact Does.put_heart (Does.refl _ _) _ rfl

theorem State.flagForced_does (s : State) (base n : Nat) (e : Entry) : Does [.regs, .log, .summary] s (State.flagForced s
    base n e) := by
  unfold State.flagForced
  exact Does.step ((State.flagOnly_does _ _ _).mono rfl) (State.addLog_does _ _ _ _) rfl

theorem State.wrs_does (s : State) (a : Nat) (l : List Word) : Does [.regs] s (s.wrs a l) := by
  induction l generalizing s a with
  | nil => exact Does.refl _ _
  | cons w l ih => exact (State.wr_does s a w).trans (ih _ _)

theorem State.post_does (s : State) (a : Nat) (rest : Word) (ws : List Word) : Does [.regs] s (State.post s a rest ws) := by
  unfold State.post
  exact Does.step ((State.wr_does _ _ _).mono rfl) (State.wrs_does _ _ _) rfl

theorem State.setFld_does (s : State) (a hi lo v : Nat) : Does [.regs] s (State.setFld s a hi lo v) := by
  unfold State.setFld
  exact (State.wr_does _ _ _).mono rfl

theorem State.updLoop_does (s : State) (l : Fin 256) (f : Loop → Loop) : Does [.loops] s (State.updLoop s l f) := by
  unfold State.updLoop
  exact Does.put_loops (Does.refl _ _) _ rfl

theorem State.tuneEnd_does (s : State) (l : Fin 256) (st : Nat) : Does [.regs, .log, .summary, .loops] s (State.tuneEnd s l
    st) := by
  unfold State.tuneEnd
  exact by
    try dsimp only
    split
    · exact (Does.refl _ _)
    · exact (Does.ite (Does.step (Does.step ((State.updLoop_does _ _ _).mono rfl) (State.setFld_does _ _ _ _ _) rfl) (State.flag_does _ _ _) rfl) (Does.ite (Does.step (Does.step ((State.updLoop_does _ _ _).mono rfl) (State.setFld_does _ _ _ _ _) rfl) (State.flag_does _ _ _) rfl) (Does.step ((State.updLoop_does _ _ _).mono rfl) (State.setFld_does _ _ _ _ _) rfl)))

theorem State.tuneQuiet_does (s : State) (l : Fin 256) : Does [.regs, .log, .summary, .loops] s (State.tuneQuiet s l) := by
  unfold State.tuneQuiet
  exact by
    try dsimp only
    split
    · exact (Does.ite ((State.tuneEnd_does _ _ _).mono rfl) (Does.refl _ _))
    · exact (Does.refl _ _)

theorem State.saveSet_does (s : State) : Does [.sup] s (State.saveSet s) := by
  unfold State.saveSet
  exact Does.put_sup (Does.refl _ _) _ rfl

theorem State.tunesJudge_does (s : State) : Does [.regs, .log, .summary, .loops] s (State.tunesJudge s) := by
  unfold State.tunesJudge
  exact Does.ite (Does.refl _ _) (Does.foldl (fun _ _ => (Does.ite ((State.tuneEnd_does _ _ _).mono rfl) (Does.refl _ _)))
    (Does.refl _ _))

theorem State.settleLife_does (s : State) : Does [.sup] s (State.settleLife s) := by
  unfold State.settleLife
  exact Does.put_sup (Does.refl _ _) _ rfl

theorem State.setMode_does (s : State) (m : Mode) : Does [.regs, .sup, .log, .summary, .loops] s (State.setMode s m) := by
  unfold State.setMode
  exact Does.ite (Does.refl _ _) (Does.step (Does.step (Does.step (Does.ite (Does.step (Does.put_sup (Does.refl _ _) _ rfl)
    (State.saveSet_does _) rfl) (Does.put_sup (Does.refl _ _) _ rfl)) (State.settleLife_does _) rfl) (State.flag_does _ _ _)
    rfl) (State.tunesJudge_does _) rfl)

theorem State.settleMode_does (s : State) : Does [.regs, .sup, .log, .summary, .loops] s (State.settleMode s) := by
  unfold State.settleMode
  exact Does.ite ((State.setMode_does _ _).mono rfl) (Does.ite ((State.setMode_does _ _).mono rfl) (Does.refl _ _))

theorem State.syncCnt_does (s : State) (l : Fin 256) (hw : Nat) : Does [.loops] s (State.syncCnt s l hw) := by
  unfold State.syncCnt
  exact (State.updLoop_does _ _ _).mono rfl

theorem State.putClaim_does (s : State) (c : Claim) : Does [.can] s (State.putClaim s c) := by
  unfold State.putClaim
  exact Does.put_can (Does.refl _ _) _ rfl

theorem State.dropClaim_does (s : State) (page sub : Nat) : Does [.can] s (State.dropClaim s page sub) := by
  unfold State.dropClaim
  exact Does.put_can (Does.refl _ _) _ rfl

theorem State.keepFresh_does (s old : State) : Does [.log] s (State.keepFresh s old) where
  only p hp := by cases p <;> first | exact absurd (by decide) hp | rfl
  now := rfl
  queue := rfl
  canon := id
  ring := id
  sent := List.suffix_refl _
  free := Nat.le_refl _

end Sys2Proof.Machine
end

