-- ==== Sys2Proof/Laws/DoesActuator.lean ====
section
/-!
SUPPORT. What each operation of these parts may do, one lemma per operation (`Sys2Proof.Laws.Does` says what `Does`
claims): the actuator banks, their microcode, the wear and the energy ledger.
-/
namespace Sys2Proof.Machine

theorem State.settleLimit_does (s : State) : Does [.led] s (State.settleLimit s) := by
  unfold State.settleLimit
  exact Does.ite (Does.put_led (Does.ite (Does.put_led (Does.refl _ _) _ rfl) (Does.refl _ _)) _ rfl) (Does.ite (Does.put_led
    (Does.ite (Does.put_led (Does.refl _ _) _ rfl) (Does.refl _ _)) _ rfl) (Does.ite (Does.put_led (Does.refl _ _) _ rfl)
    (Does.refl _ _)))

theorem State.settle_does (s : State) : Does [.regs, .sup, .led, .log, .summary, .loops] s (State.settle s) := by
  unfold State.settle
  exact Does.step ((State.settleLimit_does _).mono rfl) (State.settleMode_does _) rfl

theorem State.updBank_does (s : State) (n : Fin 12) (f : Bank → Bank) : Does [.banks] s (State.updBank s n f) := by
  unfold State.updBank
  exact Does.put_banks (Does.refl _ _) _ rfl

theorem State.updChan_does (s : State) (n : Fin 12) (k : Fin 4) (f : Chan → Chan) : Does [.banks] s (State.updChan s n k f)
    := by
  unfold State.updChan
  exact (State.updBank_does _ _ _).mono rfl

theorem State.updCtx_does (s : State) (n : Fin 12) (k : Fin 4) (f : Ctx → Ctx) : Does [.banks] s (State.updCtx s n k f) := by
  unfold State.updCtx
  exact (State.updChan_does _ _ _ _).mono rfl

theorem State.armAfter_does (s : State) (n : Fin 12) (k : Fin 4) : Does [.banks] s (State.armAfter s n k) := by
  unfold State.armAfter
  exact by
    try dsimp only
    split
    · exact (Does.ite ((State.updCtx_does _ _ _ _).mono rfl) (Does.refl _ _))
    · exact (Does.refl _ _)

theorem State.refuse_does (s : State) (n : Fin 12) (k : Fin 4) (raddr : Nat) (byWin : Bool) : Does [.regs, .banks, .log,
    .summary] s (State.refuse s n k raddr byWin) := by
  unfold State.refuse
  exact Does.step (Does.step (Does.step ((State.updCtx_does _ _ _ _).mono rfl) (State.count_does _ _) rfl) (State.flag_does _ _
    _) rfl) (State.armAfter_does _ _ _) rfl

theorem State.issueGrant_does (s : State) (n : Fin 12) (k : Fin 4) (op : UOp) (kind : ReqKind) : Does [.regs, .arb, .banks,
    .log, .summary] s (State.issueGrant s n k op kind) := by
  unfold State.issueGrant
  exact by
    try dsimp only
    split
    · exact (Does.refl _ _)
    · exact (Does.ite (Does.put_arb (Does.step ((State.updCtx_does _ _ _ _).mono rfl) (State.updCtx_does _ _ _ _) rfl) _ rfl) (Does.step ((State.updCtx_does _ _ _ _).mono rfl) (State.refuse_does _ _ _ _ _) rfl))

theorem State.startPhase_does (s : State) (n : Fin 12) (k : Fin 4) (ph : Phase) (offm : OffMode) (itgt at_ hw : Nat) : Does
    [.banks] s (State.startPhase s n k ph offm itgt at_ hw) := by
  unfold State.startPhase
  exact Does.step ((State.updBank_does _ _ _).mono rfl) (State.updChan_does _ _ _ _) rfl

theorem State.closeWin_does (s : State) (n : Fin 12) (seq : Nat) : Does [.banks] s (State.closeWin s n seq) := by
  unfold State.closeWin
  exact (State.updBank_does _ _ _).mono rfl

theorem State.holdClosesWin_does (s : State) (n : Fin 12) (k : Fin 4) : Does [.banks] s (State.holdClosesWin s n k) := by
  unfold State.holdClosesWin
  exact by
    try dsimp only
    split
    · exact (Does.ite ((State.closeWin_does _ _ _).mono rfl) (Does.refl _ _))
    · exact (Does.refl _ _)

theorem State.ripenChan_does (s : State) (n : Fin 12) (k : Fin 4) : Does [.banks] s (State.ripenChan s n k) := by
  unfold State.ripenChan
  exact by
    try dsimp only
    split
    · exact (Does.refl _ _)
    · exact (Does.ite (Does.refl _ _) (Does.step (Does.ite (Does.step ((State.startPhase_does _ _ _ _ _ _ _ _).mono rfl) (State.updCtx_does _ _ _ _) rfl) (Does.step (Does.step ((State.startPhase_does _ _ _ _ _ _ _ _).mono rfl) (State.updCtx_does _ _ _ _) rfl) (State.holdClosesWin_does _ _ _) rfl)) (State.armAfter_does _ _ _) rfl))

theorem State.ripen_does (s : State) (n : Fin 12) : Does [.banks] s (State.ripen s n) := by
  unfold State.ripen
  exact Does.foldl (fun _ _ => ((State.ripenChan_does _ _ _).mono rfl)) (Does.refl _ _)

theorem State.dropGrants_does (s : State) (n k : Nat) : Does [.arb] s (State.dropGrants s n k) := by
  unfold State.dropGrants
  exact Does.put_arb (Does.refl _ _) _ rfl

theorem State.stopCtx_does (s : State) (n : Fin 12) (k : Fin 4) : Does [.arb, .banks] s (State.stopCtx s n k) := by
  unfold State.stopCtx
  exact Does.step ((State.updCtx_does _ _ _ _).mono rfl) (State.dropGrants_does _ _ _) rfl

theorem State.beginOff_does (s : State) (n : Fin 12) (k : Fin 4) (m : OffMode) : Does [.banks] s (State.beginOff s n k m) :=
    by
  unfold State.beginOff
  exact (State.updChan_does _ _ _ _).mono rfl

theorem State.endEvent_does (s : State) (n : Fin 12) (k : Fin 4) (ev : Event) (r : EvtRec) (forced : Bool) : Does [.regs,
    .banks, .log, .summary] s (State.endEvent s n k ev r forced) := by
  unfold State.endEvent
  exact Does.ite (Does.step (Does.step ((State.post_does _ _ _ _).mono rfl) (State.updChan_does _ _ _ _) rfl)
    (State.flagOnly_does _ _ _) rfl) (Does.ite (Does.step (Does.step ((State.post_does _ _ _ _).mono rfl) (State.updChan_does _
    _ _ _) rfl) (State.flagForced_does _ _ _ _) rfl) (Does.step (Does.step ((State.post_does _ _ _ _).mono rfl)
    (State.updChan_does _ _ _ _) rfl) (State.flagWith_does _ _ _ _) rfl))

theorem State.countMotion_does (s : State) (n : Fin 12) (k : Fin 4) (r : Running) : Does [.regs, .banks, .log, .summary] s
    (State.countMotion s n k r) := by
  unfold State.countMotion
  exact by
    try dsimp only
    split
    · exact (Does.step (Does.step ((State.count_does _ _).mono rfl) (State.updChan_does _ _ _ _) rfl) (State.wr_does _ _ _) rfl)
    · exact (Does.ite (Does.step ((State.count_does _ _).mono rfl) (State.flag_does _ _ _) rfl) (Does.refl _ _))

theorem State.finish_does (s : State) (n : Fin 12) (k : Fin 4) (o : Nat) : Does [.regs, .banks, .log, .summary] s
    (State.finish s n k o) := by
  unfold State.finish
  exact by
    try dsimp only
    split
    · exact (Does.refl _ _)
    · exact (Does.ite (Does.step (Does.step ((State.updChan_does _ _ _ _).mono rfl) (State.endEvent_does _ _ _ _ _ _) rfl) (State.countMotion_does _ _ _ _) rfl) (Does.step ((State.updChan_does _ _ _ _).mono rfl) (State.endEvent_does _ _ _ _ _ _) rfl))

theorem State.endThrough_does (s : State) (n : Fin 12) (k : Fin 4) (o : Nat) (m : OffMode) : Does [.regs, .arb, .banks, .log,
    .summary] s (State.endThrough s n k o m) := by
  unfold State.endThrough
  exact Does.ite (Does.step (Does.step (Does.step ((State.ripenChan_does _ _ _).mono rfl) (State.stopCtx_does _ _ _) rfl)
    (State.updChan_does _ _ _ _) rfl) (State.beginOff_does _ _ _ _) rfl) (Does.step (Does.step ((State.ripenChan_does _ _
    _).mono rfl) (State.stopCtx_does _ _ _) rfl) (State.finish_does _ _ _ _) rfl)

theorem State.peakTo_does (s : State) (n : Fin 12) (k : Fin 4) : Does [.regs, .arb, .banks, .log, .summary] s (State.peakTo s
    n k) := by
  unfold State.peakTo
  exact Does.ite (Does.refl _ _) (Does.step ((State.endThrough_does _ _ _ _ _).mono rfl) (State.flag_does _ _ _) rfl)

theorem State.safeChan_does (s : State) (n : Fin 12) (k : Fin 4) (o : Nat) : Does [.regs, .arb, .banks, .log, .summary] s
    (State.safeChan s n k o) := by
  unfold State.safeChan
  exact Does.step (Does.ite (Does.step (Does.step ((State.ripenChan_does _ _ _).mono rfl) (State.stopCtx_does _ _ _) rfl)
    (State.updChan_does _ _ _ _) rfl) (Does.step (Does.step ((State.ripenChan_does _ _ _).mono rfl) (State.stopCtx_does _ _ _)
    rfl) (State.finish_does _ _ _ _) rfl)) (State.updChan_does _ _ _ _) rfl

theorem State.dropPre_does (s : State) (n k : Nat) : Does [.arb] s (State.dropPre s n k) := by
  unfold State.dropPre
  exact Does.put_arb (Does.refl _ _) _ rfl

theorem State.dropEvent_does (s : State) (n : Fin 12) (ev : Event) (o : Nat) (forced : optParam Bool false) : Does [.regs,
    .arb, .banks, .log, .summary] s (State.dropEvent s n ev o forced) := by
  unfold State.dropEvent
  exact by
    try dsimp only
    split
    · exact (Does.refl _ _)
    · exact (Does.step (Does.ite ((State.updBank_does _ _ _).mono rfl) (Does.step ((State.updBank_does _ _ _).mono rfl) (State.dropPre_does _ _ _) rfl)) (State.endEvent_does _ _ _ _ _ _) rfl)

theorem State.dropQueue_does (s : State) (n : Fin 12) (o : Nat) (forced : Bool) : Does [.regs, .arb, .banks, .log, .summary]
    s (State.dropQueue s n o forced) := by
  unfold State.dropQueue
  exact Does.foldl (fun _ _ => (by
    try dsimp only
    split
    · exact (Does.step ((State.updChan_does _ _ _ _).mono rfl) (State.dropEvent_does _ _ _ _ _) rfl)
    · exact (Does.refl _ _))) (Does.foldl (fun _ _ => ((State.dropEvent_does _ _ _ _ _).mono rfl)) (Does.refl _ _))

theorem State.safeBank_does (s : State) (n : Fin 12) (o : Nat) : Does [.regs, .arb, .banks, .log, .summary] s (State.safeBank
    s n o) := by
  unfold State.safeBank
  exact Does.step (Does.step (Does.foldl (fun _ _ => ((State.safeChan_does _ _ _ _).mono rfl)) (Does.refl _ _))
    (State.dropQueue_does _ _ _ _) rfl) (State.updBank_does _ _ _) rfl

theorem State.safeAct_does (s : State) : Does [.regs, .arb, .banks, .log, .summary] s (State.safeAct s) := by
  unfold State.safeAct
  exact Does.put_arb (Does.foldl (fun _ _ => ((State.safeBank_does _ _ _).mono rfl)) (Does.refl _ _)) _ rfl

theorem State.issueEnd_does (s : State) (n : Fin 12) (k : Fin 4) : Does [.regs, .arb, .banks, .log, .summary] s
    (State.issueEnd s n k) := by
  unfold State.issueEnd
  exact by
    try dsimp only
    split
    · exact (Does.refl _ _)
    · exact ((State.endThrough_does _ _ _ _ _).mono rfl)

theorem State.stopActClock_does (s : State) : Does [.regs, .arb, .banks, .log, .summary] s (State.stopActClock s) := by
  unfold State.stopActClock
  exact Does.put_arb (Does.foldl (fun _ _ => ((State.safeBank_does _ _ _).mono rfl)) (Does.refl _ _)) _ rfl

theorem State.wearWarn_does (s : State) (i : Fin 8) : Does [.regs, .wear, .log, .summary] s (State.wearWarn s i) := by
  unfold State.wearWarn
  exact Does.ite (Does.refl _ _) (Does.step (Does.put_wear (Does.refl _ _) _ rfl) (State.flagWith_does _ _ _ _) rfl)

theorem State.wearEnd_does (s : State) (i : Fin 8) : Does [.regs, .wear, .log, .summary] s (State.wearEnd s i) := by
  unfold State.wearEnd
  exact Does.ite (Does.refl _ _) (Does.step (Does.put_wear (Does.refl _ _) _ rfl) (State.flag_does _ _ _) rfl)

theorem State.wearUse_does (s : State) (i : Fin 8) (use worst : Nat) (w e : Bool) : Does [.regs, .wear, .log, .summary] s
    (State.wearUse s i use worst w e) := by
  unfold State.wearUse
  exact Does.ite (Does.step (Does.ite (Does.step (Does.put_wear (Does.refl _ _) _ rfl) (State.wearWarn_does _ _) rfl)
    (Does.put_wear (Does.refl _ _) _ rfl)) (State.wearEnd_does _ _) rfl) (Does.ite (Does.step (Does.put_wear (Does.refl _ _) _
    rfl) (State.wearWarn_does _ _) rfl) (Does.put_wear (Does.refl _ _) _ rfl))

theorem State.wearCounted_does (s : State) (i : Fin 8) (use worst : Nat) : Does [.regs, .wear, .log, .summary] s
    (State.wearCounted s i use worst) := by
  unfold State.wearCounted
  exact (State.wearUse_does _ _ _ _ _ _).mono rfl

theorem State.wearErase_does (s : State) (sector n : Nat) : Does [.regs, .wear, .log, .summary] s (State.wearErase s sector
    n) := by
  unfold State.wearErase
  exact Does.step (Does.ite (Does.put_wear (Does.refl _ _) _ rfl) (Does.refl _ _)) (State.wearCounted_does _ _ _ _) rfl

theorem State.openWin_does (s : State) (n : Fin 12) (ev : Event) (us boundary : Nat) : Does [.banks] s (State.openWin s n ev
    us boundary) := by
  unfold State.openWin
  exact (State.updBank_does _ _ _).mono rfl

theorem State.enterCtx_does (s : State) (n : Fin 12) (k : Fin 4) (ev : Event) (boundary : Nat) (retrig : Bool) : Does
    [.banks] s (State.enterCtx s n k ev boundary retrig) := by
  unfold State.enterCtx
  exact (State.updCtx_does _ _ _ _).mono rfl

theorem State.granted_does (s : State) (r : ArbReq) : Does [.arb, .banks] s (State.granted s r) := by
  unfold State.granted
  exact Does.dite (fun _ => (Does.step (Does.step (Does.put_arb (Does.refl _ _) _ rfl) (State.updCtx_does _ _ _ _) rfl)
    (State.ripenChan_does _ _ _) rfl)) (fun _ => (Does.refl _ _))

theorem State.firstPhase_does (s : State) (n : Fin 12) (k : Fin 4) (ev : Event) (rq : ArbReq) : Does [.regs, .arb, .banks,
    .log, .summary] s (State.firstPhase s n k ev rq) := by
  unfold State.firstPhase
  exact Does.ite (Does.step ((State.dropPre_does _ _ _).mono rfl) (State.refuse_does _ _ _ _ _) rfl) (Does.ite (Does.step
    ((State.dropPre_does _ _ _).mono rfl) (State.granted_does _ _) rfl) (Does.ite ((State.refuse_does _ _ _ _ _).mono rfl)
    (Does.put_arb (Does.step ((State.dropPre_does _ _ _).mono rfl) (State.updCtx_does _ _ _ _) rfl) _ rfl)))

theorem State.beginEvent_does (s : State) (n : Fin 12) (k : Fin 4) (ev : Event) (boundaryHw : Nat) (retrig : Bool) : Does
    [.regs, .arb, .led, .banks, .log, .summary] s (State.beginEvent s n k ev boundaryHw retrig) := by
  unfold State.beginEvent
  exact Does.ite (Does.step (Does.step (Does.put_led (Does.step (Does.step (Does.step ((State.updBank_does _ _ _).mono rfl) (State.openWin_does _ _ _ _ _) rfl) (State.enterCtx_does _ _ _ _ _ _) rfl) (State.updChan_does _ _ _ _) rfl) _ rfl) (State.updCtx_does _ _ _ _) rfl) (State.ripenChan_does _ _ _) rfl) (by
    try dsimp only
    split
    · exact (Does.step (Does.put_led (Does.step (Does.step (Does.step ((State.updBank_does _ _ _).mono rfl) (State.openWin_does _ _ _ _ _) rfl) (State.enterCtx_does _ _ _ _ _ _) rfl) (State.updChan_does _ _ _ _) rfl) _ rfl) (State.firstPhase_does _ _ _ _ _) rfl)
    · exact (Does.put_led (Does.step (Does.step (Does.step ((State.updBank_does _ _ _).mono rfl) (State.openWin_does _ _ _ _ _) rfl) (State.enterCtx_does _ _ _ _ _ _) rfl) (State.updChan_does _ _ _ _) rfl) _ rfl))

theorem State.dropRun_does (s : State) (n k : Nat) : Does [.arb] s (State.dropRun s n k) := by
  unfold State.dropRun
  exact Does.put_arb (Does.refl _ _) _ rfl

theorem State.takeChannel_does (s : State) (n : Fin 12) (k : Fin 4) (ev : Event) (boundaryHw : Nat) : Does [.regs, .arb,
    .led, .banks, .log, .summary] s (State.takeChannel s n k ev boundaryHw) := by
  unfold State.takeChannel
  exact Does.ite (Does.ite (Does.step (Does.step ((State.dropRun_does _ _ _).mono rfl) (State.finish_does _ _ _ _) rfl)
    (State.beginEvent_does _ _ _ _ _ _) rfl) (Does.ite (Does.step (Does.step ((State.updBank_does _ _ _).mono rfl)
    (State.endThrough_does _ _ _ _ _) rfl) (State.updChan_does _ _ _ _) rfl) (Does.step (Does.step ((State.updBank_does _ _
    _).mono rfl) (State.endThrough_does _ _ _ _ _) rfl) (State.beginEvent_does _ _ _ _ _ _) rfl))) ((State.beginEvent_does _ _
    _ _ _ _).mono rfl)

theorem State.judgeRcut_does (s : State) (asks : Bool) : Does [.regs, .led, .log, .summary] s (State.judgeRcut s asks) := by
  unfold State.judgeRcut
  exact Does.ite (Does.step (Does.put_led (Does.refl _ _) _ rfl) (State.flag_does _ _ _) rfl) (Does.ite (Does.put_led
    (Does.refl _ _) _ rfl) (Does.refl _ _))

theorem State.preDecided_does (s : State) (r : ArbReq) (seq : Nat) (ok : Bool) : Does [.regs, .arb, .banks] s
    (State.preDecided s r seq ok) := by
  unfold State.preDecided
  exact Does.dite (fun _ => (Does.step (Does.ite (Does.put_arb (Does.refl _ _) _ rfl) ((State.count_does _ _).mono rfl))
    (State.updBank_does _ _ _) rfl)) (fun _ => (Does.ite (Does.put_arb (Does.refl _ _) _ rfl) ((State.count_does _ _).mono
    rfl)))

theorem State.refusedByArb_does (s : State) (r : ArbReq) : Does [.regs, .banks, .log, .summary] s (State.refusedByArb s r) :=
    by
  unfold State.refusedByArb
  exact Does.dite (fun _ => (Does.step ((State.count_does _ _).mono rfl) (State.refuse_does _ _ _ _ _) rfl)) (fun _ =>
    (Does.refl _ _))

theorem State.phaseDecided_does (s : State) (r : ArbReq) (ok : Bool) : Does [.regs, .arb, .banks, .log, .summary] s
    (State.phaseDecided s r ok) := by
  unfold State.phaseDecided
  exact by
    try dsimp only
    split
    · exact ((State.preDecided_does _ _ _ _).mono rfl)
    · exact (Does.ite ((State.granted_does _ _).mono rfl) ((State.refusedByArb_does _ _).mono rfl))

theorem State.arbOne_does (sc : State × Caps) (it : ArbItem) : Does [.regs, .arb, .banks, .log, .summary] sc.1 (State.arbOne sc it).1 := by
  obtain ⟨s, c⟩ := sc
  unfold State.arbOne
  dsimp only
  split
  · split
    · exact State.phaseDecided_does _ _ _
    · exact State.phaseDecided_does _ _ _
  · split
    · exact Does.refl _ _
    · split
      · exact Does.refl _ _
      · dsimp only
        exact Does.put_arb (Does.refl _ _) _ rfl
  · split
    · dsimp only
      exact Does.put_arb (Does.refl _ _) _ rfl
    · exact Does.refl _ _
theorem State.arbFold_does (l : List ArbItem) (sc : State × Caps) : Does [.regs, .arb, .banks, .log, .summary] sc.1 (l.foldl State.arbOne sc).1 := by
  induction l generalizing sc with
  | nil => exact Does.refl _ _
  | cons a l ih => exact (State.arbOne_does sc a).trans (ih _)

theorem State.arbSlot_does (s : State) (iVfa iVff : Nat) : Does [.regs, .arb, .led, .banks, .log, .summary] s (s.arbSlot iVfa iVff) := by
  unfold State.arbSlot
  exact Does.step (Does.put_arb ((State.judgeRcut_does _ _).mono rfl) _ rfl) (State.arbFold_does _ (_, _)) rfl

theorem State.fltClear_does (s : State) (n : Fin 12) (k : Fin 4) : Does [.banks] s (State.fltClear s n k) := by
  unfold State.fltClear
  exact (State.updChan_does _ _ _ _).mono rfl

theorem State.issueCtx_does (s : State) (n : Fin 12) (k : Fin 4) (op : UOp) (f : Word → Chan → Ctx → Ctx) : Does [.banks] s
    (State.issueCtx s n k op f) := by
  unfold State.issueCtx
  exact by
    try dsimp only
    split
    · exact ((State.updChan_does _ _ _ _).mono rfl)
    · exact (Does.refl _ _)

theorem State.issueBcmp_does (s : State) (n : Fin 12) (k : Fin 4) : Does [.banks] s (State.issueBcmp s n k) := by
  unfold State.issueBcmp
  exact (State.issueCtx_does _ _ _ _ _).mono rfl

theorem State.regenOvf_does (s : State) (b : Fin 6) : Does [.regs, .banks, .log, .summary] s (State.regenOvf s b) := by
  unfold State.regenOvf
  exact Does.foldl (fun _ _ => (Does.step (Does.foldl (fun _ _ => ((State.updChan_does _ _ _ _).mono rfl)) (Does.refl _ _))
    (State.flagIf_does _ _ _ _) rfl)) (Does.refl _ _)

theorem State.issueWt_does (s : State) (n : Fin 12) (k : Fin 4) : Does [.banks] s (State.issueWt s n k) := by
  unfold State.issueWt
  exact (State.issueCtx_does _ _ _ _ _).mono rfl

theorem State.putEvent_does (s : State) (n : Fin 12) (ev : Event) : Does [.banks] s (State.putEvent s n ev) := by
  unfold State.putEvent
  exact (State.updBank_does _ _ _).mono rfl

theorem State.reserveWin_does (s : State) (n : Fin 12) (ev : Event) : Does [.banks] s (State.reserveWin s n ev) := by
  unfold State.reserveWin
  exact (State.updBank_does _ _ _).mono rfl

theorem State.judge_does (s : State) (n : Fin 12) (ev : Event) : Does [.regs, .arb, .led, .banks, .log, .summary] s
    (State.judge s n ev) := by
  unfold State.judge
  exact Does.ite ((State.putEvent_does _ _ _).mono rfl) (Does.ite (Does.ite (Does.step ((State.flag_does _ _ _).mono rfl)
    (State.dropEvent_does _ _ _ _ _) rfl) ((State.putEvent_does _ _ _).mono rfl)) (Does.ite (Does.step (Does.ite (Does.ite
    (Does.ite (Does.refl _ _) ((State.reserveWin_does _ _ _).mono rfl)) (Does.step (Does.step (Does.ite (Does.refl _ _)
    ((State.reserveWin_does _ _ _).mono rfl)) (State.count_does _ _) rfl) (State.flag_does _ _ _) rfl)) (Does.step (Does.ite
    (Does.ite (Does.refl _ _) ((State.reserveWin_does _ _ _).mono rfl)) (Does.step (Does.step (Does.ite (Does.refl _ _)
    ((State.reserveWin_does _ _ _).mono rfl)) (State.count_does _ _) rfl) (State.flag_does _ _ _) rfl)) (State.dropPre_does _ _
    _) rfl)) (State.putEvent_does _ _ _) rfl) (Does.step (Does.ite (Does.refl _ _) ((State.reserveWin_does _ _ _).mono rfl))
    (State.takeChannel_does _ _ _ _ _) rfl)))

theorem State.preRequest_does (s : State) (n : Fin 12) (ev : Event) (due : Nat) : Does [.arb, .banks] s (State.preRequest s n
    ev due) := by
  unfold State.preRequest
  exact by
    try dsimp only
    split
    · exact (Does.ite (Does.refl _ _) (Does.put_arb (Does.step ((State.reserveWin_does _ _ _).mono rfl) (State.putEvent_does _ _ _) rfl) _ rfl))
    · exact (Does.refl _ _)

theorem State.takeDue_does (s : State) (n : Fin 12) (ev : Event) : Does [.regs, .arb, .led, .banks, .log, .summary] s
    (State.takeDue s n ev) := by
  unfold State.takeDue
  exact Does.ite (Does.ite ((State.dropEvent_does _ _ _ _ _).mono rfl) (Does.step ((State.putEvent_does _ _ _).mono rfl)
    (State.judge_does _ _ _) rfl)) (Does.ite (Does.refl _ _) (Does.ite (Does.ite ((State.preRequest_does _ _ _ _).mono rfl)
    ((State.judge_does _ _ _).mono rfl)) (Does.refl _ _)))

theorem State.lockClear_does (s : State) (n : Fin 12) : Does [.regs, .banks] s (State.lockClear s n) := by
  unfold State.lockClear
  exact Does.step ((State.updBank_does _ _ _).mono rfl) (State.wr_does _ _ _) rfl

theorem State.issueArm_does (s : State) (n : Fin 12) (k : Fin 4) : Does [.banks] s (State.issueArm s n k) := by
  unfold State.issueArm
  exact (State.issueCtx_does _ _ _ _ _).mono rfl

theorem State.wearClamp_does (s : State) (n : Fin 12) (e : Nat) : Does [.regs, .wear, .log, .summary] s (State.wearClamp s n
    e) := by
  unfold State.wearClamp
  exact Does.step (Does.put_wear (Does.refl _ _) _ rfl) (State.wearCounted_does _ _ _ _) rfl

theorem State.switchOffEnd_does (s : State) (n : Fin 12) (k : Fin 4) (clampE : Nat) : Does [.regs, .banks, .wear, .log,
    .summary] s (State.switchOffEnd s n k clampE) := by
  unfold State.switchOffEnd
  exact by
    try dsimp only
    split
    · exact (Does.refl _ _)
    · exact (by
      try dsimp only
      split
      · exact (by
        try dsimp only
        split
        · exact (Does.step (Does.ite (Does.step ((State.updChan_does _ _ _ _).mono rfl) (State.wearClamp_does _ _ _) rfl) ((State.updChan_does _ _ _ _).mono rfl)) (State.finish_does _ _ _ _) rfl)
        · exact (Does.ite (Does.step ((State.updChan_does _ _ _ _).mono rfl) (State.wearClamp_does _ _ _) rfl) ((State.updChan_does _ _ _ _).mono rfl)))
      · exact (Does.ite (Does.step ((State.updChan_does _ _ _ _).mono rfl) (State.wearClamp_does _ _ _) rfl) ((State.updChan_does _ _ _ _).mono rfl)))

theorem State.minOffEnd_does (s : State) (n : Fin 12) (k : Fin 4) : Does [.regs, .arb, .led, .banks, .log, .summary] s
    (State.minOffEnd s n k) := by
  unfold State.minOffEnd
  exact Does.ite (Does.refl _ _) (by
    try dsimp only
    split
    · exact (Does.refl _ _)
    · exact (Does.ite (Does.refl _ _) (Does.ite (Does.ite (Does.refl _ _) (Does.step ((State.updChan_does _ _ _ _).mono rfl) (State.dropEvent_does _ _ _ _ _) rfl)) (Does.ite (Does.refl _ _) ((State.beginEvent_does _ _ _ _ _ _).mono rfl)))))

theorem State.issueHold_does (s : State) (n : Fin 12) (k : Fin 4) : Does [.arb, .banks] s (State.issueHold s n k) := by
  unfold State.issueHold
  exact by
    try dsimp only
    split
    · exact (Does.refl _ _)
    · exact (Does.step (Does.step (Does.step ((State.dropGrants_does _ _ _).mono rfl) (State.startPhase_does _ _ _ _ _ _ _ _) rfl) (State.updCtx_does _ _ _ _) rfl) (State.holdClosesWin_does _ _ _) rfl)

theorem State.issueWtr_does (s : State) (n : Fin 12) (k : Fin 4) : Does [.banks] s (State.issueWtr s n k) := by
  unfold State.issueWtr
  exact (State.issueCtx_does _ _ _ _ _).mono rfl

theorem State.wearHoldup_does (s : State) (c : Nat) : Does [.regs, .wear, .log, .summary] s (State.wearHoldup s c) := by
  unfold State.wearHoldup
  exact Does.step (Does.step (Does.put_wear (Does.refl _ _) _ rfl) (State.post_does _ _ _ _) rfl) (State.wearUse_does _ _ _ _ _
    _) rfl

theorem State.holdupMeasure_does (s : State) (c : Nat) : Does [.regs, .wear, .log, .summary] s (State.holdupMeasure s c) :=
    by
  unfold State.holdupMeasure
  exact Does.ite (Does.refl _ _) ((State.wearHoldup_does _ _).mono rfl)

theorem State.wearBoost_does (s : State) (b : Fin 6) (c esr : Nat) : Does [.regs, .wear, .log, .summary] s (State.wearBoost s
    b c esr) := by
  unfold State.wearBoost
  exact Does.step (Does.step (Does.put_wear (Does.refl _ _) _ rfl) (State.post_does _ _ _ _) rfl) (State.wearUse_does _ _ _ _ _
    _) rfl

theorem State.ledgerConv_does (s : State) (b : Fin 6) : Does [.regs, .led, .banks] s (State.ledgerConv s b) := by
  unfold State.ledgerConv
  exact Does.step (Does.put_led (Does.foldl (fun _ _ => ((State.putEvent_does _ _ _).mono rfl)) (Does.refl _ _)) _ rfl)
    (State.post_does _ _ _ _) rfl

theorem State.ledgerUpdate_does (s : State) : Does [.regs, .led, .banks] s (State.ledgerUpdate s) := by
  unfold State.ledgerUpdate
  exact Does.ite (Does.foldl (fun _ _ => ((State.ledgerConv_does _ _).mono rfl)) (Does.refl _ _)) (Does.refl _ _)

theorem State.ledgerQueued_does (s : State) : Does [.regs, .led, .banks] s (State.ledgerQueued s) := by
  unfold State.ledgerQueued
  exact (State.ledgerUpdate_does _).mono rfl

theorem State.queueEvent_does (s : State) (n : Fin 12) (k : Fin 4) (prof id start latest : Nat) (param : Word) (fromLoop :
    Bool) : Does [.regs, .led, .banks] s (State.queueEvent s n k prof id start latest param fromLoop) := by
  unfold State.queueEvent
  exact Does.step (Does.step ((State.updBank_does _ _ _).mono rfl) (State.updChan_does _ _ _ _) rfl) (State.ledgerQueued_does
    _) rfl

theorem State.diagChange_does (s : State) (n : Fin 12) (node old new : Nat) : Does [.regs, .log, .summary] s
    (State.diagChange s n node old new) := by
  unfold State.diagChange
  exact Does.ite (Does.refl _ _) ((State.flagWith_does _ _ _ _).mono rfl)

theorem State.issueWp_does (s : State) (n : Fin 12) (k : Fin 4) : Does [.banks] s (State.issueWp s n k) := by
  unfold State.issueWp
  exact (State.issueCtx_does _ _ _ _ _).mono rfl

theorem State.bankLock_does (s : State) (n : Fin 12) (cause ch : Nat) : Does [.regs, .arb, .banks, .log, .summary] s
    (State.bankLock s n cause ch) := by
  unfold State.bankLock
  exact Does.step (Does.step (Does.step (Does.foldl (fun _ _ => ((State.endThrough_does _ _ _ _ _).mono rfl)) (Does.refl _ _))
    (State.updBank_does _ _ _) rfl) (State.wr_does _ _ _) rfl) (State.flagWith_does _ _ _ _) rfl

theorem State.setUcValid_does (s : State) (n : Nat) (v : Bool) : Does [.regs, .log, .summary] s (State.setUcValid s n v) :=
    by
  unfold State.setUcValid
  exact Does.ite (Does.step (Does.step ((State.setFld_does _ _ _ _ _).mono rfl) (State.wr_does _ _ _) rfl) (State.flag_does _ _
    _) rfl) (Does.step ((State.setFld_does _ _ _ _ _).mono rfl) (State.wr_does _ _ _) rfl)

theorem State.ucPass_does (s : State) (n : Nat) : Does [.regs, .log, .summary] s (State.ucPass s n) := by
  unfold State.ucPass
  exact Does.step (Does.step ((State.setFld_does _ _ _ _ _).mono rfl) (State.setFld_does _ _ _ _ _) rfl) (State.setUcValid_does
    _ _ _) rfl

theorem State.chFault_does (s : State) (n : Fin 12) (k : Fin 4) (f : Nat) : Does [.regs, .banks, .log, .summary] s
    (State.chFault s n k f) := by
  unfold State.chFault
  exact Does.step ((State.updChan_does _ _ _ _).mono rfl) (State.flagWith_does _ _ _ _) rfl

theorem State.clampChan_does (s : State) (n : Fin 12) (k : Fin 4) : Does [.regs, .arb, .banks, .log, .summary] s
    (State.clampChan s n k) := by
  unfold State.clampChan
  exact Does.step ((State.endThrough_does _ _ _ _ _).mono rfl) (State.updChan_does _ _ _ _) rfl

theorem State.desatLs_does (s : State) (n : Fin 12) (k : Fin 4) : Does [.regs, .arb, .banks, .log, .summary] s (State.desatLs
    s n k) := by
  unfold State.desatLs
  exact Does.ite (Does.refl _ _) (Does.step (Does.step ((State.clampChan_does _ _ _).mono rfl) (State.flag_does _ _ _) rfl)
    (State.chFault_does _ _ _ _) rfl)

theorem State.armExpiry_does (s : State) (n : Fin 12) (k : Fin 4) : Does [.banks] s (State.armExpiry s n k) := by
  unfold State.armExpiry
  exact by
    try dsimp only
    split
    · exact (Does.refl _ _)
    · exact (Does.ite ((State.updCtx_does _ _ _ _).mono rfl) (Does.refl _ _))

theorem State.issueBi_does (s : State) (n : Fin 12) (k : Fin 4) : Does [.banks] s (State.issueBi s n k) := by
  unfold State.issueBi
  exact (State.issueCtx_does _ _ _ _ _).mono rfl

theorem State.disableBank_does (s : State) (n : Fin 12) : Does [.regs, .arb, .banks, .log, .summary] s (State.disableBank s
    n) := by
  unfold State.disableBank
  exact Does.step (Does.step (Does.foldl (fun _ _ => ((State.endThrough_does _ _ _ _ _).mono rfl)) (Does.refl _ _))
    (State.dropQueue_does _ _ _ _) rfl) (State.updBank_does _ _ _) rfl

theorem State.ucFail_does (s : State) (n : Nat) (e : Nat × Nat) : Does [.regs, .log, .summary] s (State.ucFail s n e) := by
  unfold State.ucFail
  exact Does.step (Does.step ((State.setFld_does _ _ _ _ _).mono rfl) (State.setFld_does _ _ _ _ _) rfl) (State.flag_does _ _
    _) rfl

theorem State.wearDo_does (s : State) (d : Fin 32) : Does [.regs, .wear, .log, .summary] s (State.wearDo s d) := by
  unfold State.wearDo
  exact Does.step (Does.put_wear (Does.refl _ _) _ rfl) (State.wearCounted_does _ _ _ _) rfl

theorem State.issueBand_does (s : State) (n : Fin 12) (k : Fin 4) : Does [.banks] s (State.issueBand s n k) := by
  unfold State.issueBand
  exact (State.issueCtx_does _ _ _ _ _).mono rfl

theorem State.eventDue_does (s : State) (n : Fin 12) : Does [.regs, .sup, .arb, .led, .banks, .log, .summary, .loops] s
    (State.eventDue s n) := by
  unfold State.eventDue
  exact Does.ite (Does.refl _ _) (Does.step (Does.foldl (fun _ _ => (by
    try dsimp only
    split
    · exact (Does.ite ((State.takeDue_does _ _ _).mono rfl) (Does.refl _ _))
    · exact (Does.refl _ _))) (Does.ite (Does.refl _ _) ((State.updBank_does _ _ _).mono rfl))) (State.settle_does _) rfl)

theorem State.issueLdi_does (s : State) (n : Fin 12) (k : Fin 4) : Does [.banks] s (State.issueLdi s n k) := by
  unfold State.issueLdi
  exact (State.issueCtx_does _ _ _ _ _).mono rfl

theorem State.endEvents_does (s : State) : Does [.regs, .banks, .log, .summary] s (State.endEvents s) := by
  unfold State.endEvents
  exact Does.foldl (fun _ _ => (Does.foldl (fun _ _ => (by
    try dsimp only
    split
    · exact ((State.finish_does _ _ _ _).mono rfl)
    · exact (Does.refl _ _))) (Does.refl _ _))) (Does.refl _ _)

theorem State.issueOff_does (s : State) (n : Fin 12) (k : Fin 4) : Does [.arb, .banks] s (State.issueOff s n k) := by
  unfold State.issueOff
  exact by
    try dsimp only
    split
    · exact (Does.refl _ _)
    · exact (Does.ite (Does.step (Does.step ((State.dropGrants_does _ _ _).mono rfl) (State.updCtx_does _ _ _ _) rfl) (State.beginOff_does _ _ _ _) rfl) (Does.step ((State.dropGrants_does _ _ _).mono rfl) (State.updCtx_does _ _ _ _) rfl))

theorem State.issueMark_does (s : State) (n : Fin 12) (k : Fin 4) : Does [.regs, .banks, .log, .summary] s (State.issueMark s
    n k) := by
  unfold State.issueMark
  exact by
    try dsimp only
    split
    · exact (Does.refl _ _)
    · exact (Does.step (Does.step ((State.wr_does _ _ _).mono rfl) (State.flagWith_does _ _ _ _) rfl) (State.updCtx_does _ _ _ _) rfl)

theorem State.diagTestStart_does (s : State) (n : Fin 12) : Does [.banks] s (State.diagTestStart s n) := by
  unfold State.diagTestStart
  exact Does.ite ((State.updBank_does _ _ _).mono rfl) (Does.refl _ _)

theorem State.wearCycle_does (s : State) (x : Int) : Does [.regs, .wear, .log, .summary] s (State.wearCycle s x) := by
  unfold State.wearCycle
  exact by
    try dsimp only
    first
    | exact (Does.step (Does.put_wear (Does.refl _ _) _ rfl) (State.wearCounted_does _ _ _ _) rfl)
    | (split; exact (Does.step (Does.put_wear (Does.refl _ _) _ rfl) (State.wearCounted_does _ _ _ _) rfl))

theorem State.wearIso_does (s : State) (x2 x4 : Int) : Does [.regs, .wear, .log, .summary] s (State.wearIso s x2 x4) := by
  unfold State.wearIso
  exact Does.ite (Does.step (Does.put_wear (Does.refl _ _) _ rfl) (State.wearCounted_does _ _ _ _) rfl) (Does.step
    (Does.put_wear (Does.refl _ _) _ rfl) (State.wearCounted_does _ _ _ _) rfl)

theorem State.endGrant_does (s : State) (n : Fin 12) (k : Fin 4) : Does [.arb] s (State.endGrant s n k) := by
  unfold State.endGrant
  exact Does.ite (Does.refl _ _) (Does.put_arb (Does.refl _ _) _ rfl)

theorem State.phaseLimit_does (s : State) (n : Fin 12) (k : Fin 4) : Does [.regs, .arb, .banks, .log, .summary] s
    (State.phaseLimit s n k) := by
  unfold State.phaseLimit
  exact Does.ite (Does.step (Does.step (Does.step ((State.endGrant_does _ _ _).mono rfl) (State.updCtx_does _ _ _ _) rfl)
    (State.holdClosesWin_does _ _ _) rfl) (State.flag_does _ _ _) rfl) (Does.refl _ _)

theorem State.diagChan_does (s : State) (n : Fin 12) (k : Fin 4) (vu vd : Nat) (hsShort : Bool) : Does [.regs, .banks, .log,
    .summary] s (State.diagChan s n k vu vd hsShort) := by
  unfold State.diagChan
  exact Does.ite (Does.step (Does.step (Does.step ((State.updChan_does _ _ _ _).mono rfl) (State.post_does _ _ _ _) rfl)
    (State.diagChange_does _ _ _ _ _) rfl) (State.chFault_does _ _ _ _) rfl) (Does.step (Does.step ((State.updChan_does _ _ _
    _).mono rfl) (State.post_does _ _ _ _) rfl) (State.diagChange_does _ _ _ _ _) rfl)

theorem State.diagHs_does (s : State) (n : Fin 12) (v : Nat) : Does [.regs, .arb, .banks, .log, .summary] s (State.diagHs s n
    v) := by
  unfold State.diagHs
  exact Does.ite (Does.step (Does.step (Does.step ((State.updBank_does _ _ _).mono rfl) (State.post_does _ _ _ _) rfl)
    (State.diagChange_does _ _ _ _ _) rfl) (State.bankLock_does _ _ _ _) rfl) (Does.step (Does.step ((State.updBank_does _ _
    _).mono rfl) (State.post_does _ _ _ _) rfl) (State.diagChange_does _ _ _ _ _) rfl)

theorem State.diagTestEnd_does (s : State) (n : Fin 12) (vHs : Nat) (vu vd : Vector Nat 4) : Does [.regs, .arb, .banks, .log,
    .summary] s (State.diagTestEnd s n vHs vu vd) := by
  unfold State.diagTestEnd
  exact Does.ite (Does.refl _ _) (Does.step (Does.foldl (fun _ _ => ((State.diagChan_does _ _ _ _ _ _).mono rfl))
    ((State.updBank_does _ _ _).mono rfl)) (State.diagHs_does _ _ _) rfl)

theorem State.maxDelayDrop_does (s : State) (n : Fin 12) : Does [.regs, .sup, .arb, .led, .banks, .log, .summary, .loops] s
    (State.maxDelayDrop s n) := by
  unfold State.maxDelayDrop
  exact Does.ite (Does.refl _ _) (Does.step (Does.foldl (fun _ _ => (Does.ite (Does.step ((State.flag_does _ _ _).mono rfl)
    (State.dropEvent_does _ _ _ _ _) rfl) (Does.refl _ _))) (Does.refl _ _)) (State.settle_does _) rfl)

theorem State.issueWi_does (s : State) (n : Fin 12) (k : Fin 4) : Does [.banks] s (State.issueWi s n k) := by
  unfold State.issueWi
  exact (State.issueCtx_does _ _ _ _ _).mono rfl

theorem State.noCurrent_does (s : State) (n : Fin 12) (k : Fin 4) : Does [.regs, .log, .summary] s (State.noCurrent s n k) :=
    by
  unfold State.noCurrent
  exact Does.ite ((State.flag_does _ _ _).mono rfl) (Does.refl _ _)

theorem State.issueBtm_does (s : State) (n : Fin 12) (k : Fin 4) : Does [.banks] s (State.issueBtm s n k) := by
  unfold State.issueBtm
  exact (State.issueCtx_does _ _ _ _ _).mono rfl

theorem State.latestDrop_does (s : State) (n : Fin 12) (ev : Event) : Does [.regs, .arb, .banks, .log, .summary] s
    (State.latestDrop s n ev) := by
  unfold State.latestDrop
  exact Does.ite (Does.refl _ _) (Does.ite (Does.step (Does.ite (Does.step (Does.step (Does.ite ((State.flag_does _ _ _).mono
    rfl) (Does.refl _ _)) (State.count_does _ _) rfl) (State.flag_does _ _ _) rfl) (Does.ite ((State.flag_does _ _ _).mono rfl)
    (Does.refl _ _))) (State.dropEvent_does _ _ _ _ _) rfl) (Does.ite ((State.dropEvent_does _ _ _ _ _).mono rfl) (Does.refl _
    _)))

theorem State.nextDrop_does (s : State) (n : Fin 12) (k : Fin 4) : Does [.regs, .arb, .banks, .log, .summary] s
    (State.nextDrop s n k) := by
  unfold State.nextDrop
  exact by
    try dsimp only
    split
    · exact (Does.ite (Does.step ((State.updChan_does _ _ _ _).mono rfl) (State.dropEvent_does _ _ _ _ _) rfl) (Does.refl _ _))
    · exact (Does.refl _ _)

theorem State.eventLatestDrop_does (s : State) (n : Fin 12) : Does [.regs, .sup, .arb, .led, .banks, .log, .summary, .loops]
    s (State.eventLatestDrop s n) := by
  unfold State.eventLatestDrop
  exact Does.ite (Does.refl _ _) (Does.step (Does.foldl (fun _ _ => ((State.nextDrop_does _ _ _).mono rfl)) (Does.foldl (fun _
    _ => ((State.latestDrop_does _ _ _).mono rfl)) (Does.refl _ _))) (State.settle_does _) rfl)

theorem State.eventRejudge_does (s : State) (n : Fin 12) : Does [.regs, .sup, .arb, .led, .banks, .log, .summary, .loops] s
    (State.eventRejudge s n) := by
  unfold State.eventRejudge
  exact Does.ite (Does.refl _ _) (Does.step (Does.foldl (fun _ _ => (by
    try dsimp only
    split
    · exact (Does.ite (Does.refl _ _) (Does.ite ((State.dropEvent_does _ _ _ _ _).mono rfl) ((State.judge_does _ _ _).mono rfl)))
    · exact (Does.refl _ _))) (Does.refl _ _)) (State.settle_does _) rfl)

theorem State.overcurrent_does (s : State) (n : Fin 12) (k : Fin 4) : Does [.regs, .arb, .banks, .log, .summary] s
    (State.overcurrent s n k) := by
  unfold State.overcurrent
  exact Does.ite (Does.refl _ _) (Does.step (Does.step ((State.clampChan_does _ _ _).mono rfl) (State.flag_does _ _ _) rfl)
    (State.chFault_does _ _ _ _) rfl)

theorem State.issueLds_does (s : State) (n : Fin 12) (k : Fin 4) : Does [.banks] s (State.issueLds s n k) := by
  unfold State.issueLds
  exact (State.issueCtx_does _ _ _ _ _).mono rfl

theorem State.issueRamp_does (s : State) (n : Fin 12) (k : Fin 4) : Does [.regs, .banks, .log, .summary] s (State.issueRamp s
    n k) := by
  unfold State.issueRamp
  exact by
    try dsimp only
    split
    · exact (Does.refl _ _)
    · exact (Does.ite (Does.step ((State.updCtx_does _ _ _ _).mono rfl) (State.updCtx_does _ _ _ _) rfl) (Does.ite (Does.ite (Does.step (Does.step ((State.updCtx_does _ _ _ _).mono rfl) (State.updCtx_does _ _ _ _) rfl) (State.flag_does _ _ _) rfl) (Does.step ((State.updCtx_does _ _ _ _).mono rfl) (State.updCtx_does _ _ _ _) rfl)) (Does.step ((State.updCtx_does _ _ _ _).mono rfl) (State.updCtx_does _ _ _ _) rfl)))

theorem State.windowExpiry_does (s : State) (n : Fin 12) : Does [.banks] s (State.windowExpiry s n) := by
  unfold State.windowExpiry
  exact (State.updBank_does _ _ _).mono rfl

theorem State.issueDipw_does (s : State) (n : Fin 12) (k : Fin 4) : Does [.banks] s (State.issueDipw s n k) := by
  unfold State.issueDipw
  exact (State.issueCtx_does _ _ _ _ _).mono rfl

theorem State.sampleHs_does (s : State) (n : Fin 12) (hs : Nat) : Does [.regs, .banks] s (State.sampleHs s n hs) := by
  unfold State.sampleHs
  exact Does.ite (Does.step ((State.updBank_does _ _ _).mono rfl) (State.wr_does _ _ _) rfl) ((State.updBank_does _ _ _).mono
    rfl)

theorem State.stepRamp_does (s : State) (n : Fin 12) (k : Fin 4) : Does [.regs, .banks, .log, .summary] s (State.stepRamp s n
    k) := by
  unfold State.stepRamp
  exact by
    try dsimp only
    split
    · exact (Does.refl _ _)
    · exact (by
      try dsimp only
      first
      | exact (Does.ite (Does.step ((State.updCtx_does _ _ _ _).mono rfl) (State.flag_does _ _ _) rfl) ((State.updCtx_does _ _ _ _).mono rfl))
      | (split; exact (Does.ite (Does.step ((State.updCtx_does _ _ _ _).mono rfl) (State.flag_does _ _ _) rfl) ((State.updCtx_does _ _ _ _).mono rfl))))

theorem State.stepEnergy_does (s : State) (n : Fin 12) (k : Fin 4) (i : Nat) : Does [.banks] s (State.stepEnergy s n k i) :=
    by
  unfold State.stepEnergy
  exact (State.updChan_does _ _ _ _).mono rfl

theorem State.dipFound_does (s : State) (n : Fin 12) (k : Fin 4) (tmin : Nat) : Does [.banks] s (State.dipFound s n k tmin)
    := by
  unfold State.dipFound
  exact (State.updChan_does _ _ _ _).mono rfl

theorem State.stepWatch_does (s : State) (n : Fin 12) (k : Fin 4) (i : Nat) : Does [.banks] s (State.stepWatch s n k i) := by
  unfold State.stepWatch
  exact by
    try dsimp only
    split
    · exact (Does.refl _ _)
    · exact (by
      try dsimp only
      first
      | exact (by
        try dsimp only
        split
        · exact (Does.step ((State.updCtx_does _ _ _ _).mono rfl) (State.dipFound_does _ _ _ _) rfl)
        · exact ((State.updCtx_does _ _ _ _).mono rfl))
      | (split; exact (by
        try dsimp only
        split
        · exact (Does.step ((State.updCtx_does _ _ _ _).mono rfl) (State.dipFound_does _ _ _ _) rfl)
        · exact ((State.updCtx_does _ _ _ _).mono rfl))))

theorem State.sampleChan_does (s : State) (n : Fin 12) (k : Fin 4) (i : Nat) : Does [.regs, .banks, .log, .summary] s
    (State.sampleChan s n k i) := by
  unfold State.sampleChan
  exact Does.ite (Does.step (Does.step (Does.ite (Does.step ((State.updChan_does _ _ _ _).mono rfl) (State.stepRamp_does _ _ _)
    rfl) ((State.updChan_does _ _ _ _).mono rfl)) (State.stepWatch_does _ _ _ _) rfl) (State.stepEnergy_does _ _ _ _) rfl)
    (Does.step (Does.step (Does.step (Does.ite (Does.step ((State.updChan_does _ _ _ _).mono rfl) (State.stepRamp_does _ _ _)
    rfl) ((State.updChan_does _ _ _ _).mono rfl)) (State.stepWatch_does _ _ _ _) rfl) (State.updCtx_does _ _ _ _) rfl)
    (State.stepEnergy_does _ _ _ _) rfl)

theorem State.currentSample_does (s : State) (n : Fin 12) (i0 i1 i2 i3 hs : Nat) : Does [.regs, .banks, .log, .summary] s
    (State.currentSample s n i0 i1 i2 i3 hs) := by
  unfold State.currentSample
  exact Does.ite (Does.refl _ _) (Does.step (Does.step (Does.step (Does.step ((State.sampleChan_does _ _ _ _).mono rfl)
    (State.sampleChan_does _ _ _ _) rfl) (State.sampleChan_does _ _ _ _) rfl) (State.sampleChan_does _ _ _ _) rfl)
    (State.sampleHs_does _ _ _) rfl)

theorem State.issueNop_does (s : State) (n : Fin 12) (k : Fin 4) : Does [.banks] s (State.issueNop s n k) := by
  unfold State.issueNop
  exact (State.issueCtx_does _ _ _ _ _).mono rfl

theorem State.issueJmp_does (s : State) (n : Fin 12) (k : Fin 4) : Does [.banks] s (State.issueJmp s n k) := by
  unfold State.issueJmp
  exact (State.issueCtx_does _ _ _ _ _).mono rfl

theorem State.reservoirMeasure_does (s : State) (b : Fin 6) (v : Nat) : Does [.regs] s (State.reservoirMeasure s b v) := by
  unfold State.reservoirMeasure
  exact Does.ite (Does.refl _ _) (Does.foldl (fun _ _ => ((State.post_does _ _ _ _).mono rfl)) (Does.refl _ _))

theorem State.issueAlu_does (s : State) (n : Fin 12) (k : Fin 4) : Does [.banks] s (State.issueAlu s n k) := by
  unfold State.issueAlu
  exact (State.issueCtx_does _ _ _ _ _).mono rfl

theorem State.issueLdp_does (s : State) (n : Fin 12) (k : Fin 4) : Does [.banks] s (State.issueLdp s n k) := by
  unfold State.issueLdp
  exact (State.issueCtx_does _ _ _ _ _).mono rfl

theorem State.wearSurge_does (s : State) (g : Fin 16) : Does [.regs, .wear, .log, .summary] s (State.wearSurge s g) := by
  unfold State.wearSurge
  exact Does.step (Does.put_wear (Does.refl _ _) _ rfl) (State.wearCounted_does _ _ _ _) rfl

theorem State.issueWd_does (s : State) (n : Fin 12) (k : Fin 4) : Does [.banks] s (State.issueWd s n k) := by
  unfold State.issueWd
  exact (State.issueCtx_does _ _ _ _ _).mono rfl

theorem State.ucWaitEnd_does (s : State) (n : Fin 12) (k : Fin 4) : Does [.banks] s (State.ucWaitEnd s n k) := by
  unfold State.ucWaitEnd
  exact by
    try dsimp only
    split
    · exact (Does.refl _ _)
    · exact (Does.ite ((State.updCtx_does _ _ _ _).mono rfl) (Does.refl _ _))

theorem State.boostCapMeasure_does (s : State) (b : Fin 6) (c esr : Nat) : Does [.regs, .wear, .log, .summary] s
    (State.boostCapMeasure s b c esr) := by
  unfold State.boostCapMeasure
  exact Does.ite ((State.wearBoost_does _ _ _ _).mono rfl) (Does.refl _ _)

theorem State.lockOff_does (s : State) (n : Fin 12) (cause ch : Nat) : Does [.regs, .arb, .banks, .log, .summary] s
    (State.lockOff s n cause ch) := by
  unfold State.lockOff
  exact Does.foldl (fun _ _ => ((State.clampChan_does _ _ _).mono rfl)) ((State.bankLock_does _ _ _ _).mono rfl)

theorem State.desatHs_does (s : State) (n : Fin 12) : Does [.regs, .arb, .banks, .log, .summary] s (State.desatHs s n) := by
  unfold State.desatHs
  exact by
    try dsimp only
    split
    · exact (Does.refl _ _)
    · exact (Does.step ((State.flag_does _ _ _).mono rfl) (State.lockOff_does _ _ _ _) rfl)
    all_goals exact (Does.step ((State.flag_does _ _ _).mono rfl) (State.lockOff_does _ _ _ _) rfl)

theorem State.leakGnd_does (s : State) (n : Fin 12) : Does [.regs, .arb, .banks, .log, .summary] s (State.leakGnd s n) := by
  unfold State.leakGnd
  exact Does.ite (Does.refl _ _) ((State.lockOff_does _ _ _ _).mono rfl)

theorem State.bankOvl_does (s : State) (n : Fin 12) : Does [.regs, .arb, .banks, .log, .summary] s (State.bankOvl s n) := by
  unfold State.bankOvl
  exact Does.ite (Does.refl _ _) (Does.step (Does.foldl (fun _ _ => ((State.endThrough_does _ _ _ _ _).mono rfl)) (Does.refl _
    _)) (State.flag_does _ _ _) rfl)

theorem State.issueBc_does (s : State) (n : Fin 12) (k : Fin 4) : Does [.banks] s (State.issueBc s n k) := by
  unfold State.issueBc
  exact (State.issueCtx_does _ _ _ _ _).mono rfl

theorem State.issueDjnz_does (s : State) (n : Fin 12) (k : Fin 4) : Does [.banks] s (State.issueDjnz s n k) := by
  unfold State.issueDjnz
  exact (State.issueCtx_does _ _ _ _ _).mono rfl

end Sys2Proof.Machine
end

