-- ==== Sys2Proof/Laws/DoesDigital.lean ====
section
/-!
SUPPORT. What each operation of these parts may do, one lemma per operation (`Sys2Proof.Laws.Does` says what `Does`
claims): the isolated digital inputs and outputs.
-/
namespace Sys2Proof.Machine

theorem State.updOut_does (s : State) (i : Fin 32) (f : DoOut → DoOut) : Does [.dio] s (State.updOut s i f) := by
  unfold State.updOut
  exact Does.put_dio (Does.refl _ _) _ rfl

theorem State.takeOut_does (s : State) (i : Fin 32) : Does [.regs, .log, .summary, .dio] s (State.takeOut s i) := by
  unfold State.takeOut
  exact Does.step (Does.step (Does.step ((State.flagIf_does _ _ _ _).mono rfl) (State.updOut_does _ _ _) rfl) (State.wr_does _
    _ _) rfl) (State.setFld_does _ _ _ _ _) rfl

theorem State.settleLane_does (s : State) (i : Fin 32) : Does [.regs, .log, .summary, .dio] s (State.settleLane s i) := by
  unfold State.settleLane
  exact Does.ite ((State.updOut_does _ _ _).mono rfl) (by
    try dsimp only
    split
    · exact (by
      try dsimp only
      split
      · exact (Does.ite (Does.step ((State.updOut_does _ _ _).mono rfl) (State.takeOut_does _ _) rfl) ((State.updOut_does _ _ _).mono rfl))
      · exact (Does.step ((State.updOut_does _ _ _).mono rfl) (State.takeOut_does _ _) rfl))
    · exact (Does.step ((State.updOut_does _ _ _).mono rfl) (State.updOut_does _ _ _) rfl)
    all_goals exact (Does.step ((State.updOut_does _ _ _).mono rfl) (State.updOut_does _ _ _) rfl))

theorem State.settleFlags_does (s : State) (i : Fin 32) : Does [.regs, .dio] s (State.settleFlags s i) := by
  unfold State.settleFlags
  exact Does.step ((State.updOut_does _ _ _).mono rfl) (State.wr_does _ _ _) rfl

theorem State.driveTo_does (s : State) (i : Fin 32) (d : Drive) (row : Nat) : Does [.regs, .dio] s (State.driveTo s i d row)
    := by
  unfold State.driveTo
  exact Does.ite ((State.updOut_does _ _ _).mono rfl) (Does.step (Does.step ((State.settleFlags_does _ _).mono rfl)
    (State.updOut_does _ _ _) rfl) (State.settleFlags_does _ _) rfl)

theorem State.settleOut_does (s : State) (i : Fin 32) : Does [.regs, .log, .summary, .dio] s (State.settleOut s i) := by
  unfold State.settleOut
  exact by
    try dsimp only
    split
    · exact (Does.step ((State.settleLane_does _ _).mono rfl) (State.driveTo_does _ _ _ _) rfl)
    · exact (Does.step ((State.settleLane_does _ _).mono rfl) (State.driveTo_does _ _ _ _) rfl)

theorem State.settleOuts_does (s : State) : Does [.regs, .log, .summary, .dio] s (State.settleOuts s) := by
  unfold State.settleOuts
  exact Does.foldl (fun _ _ => ((State.settleOut_does _ _).mono rfl)) (Does.refl _ _)

theorem State.settleDi_does (s : State) (g : Fin 8) : Does [.regs] s (State.settleDi s g) := by
  unfold State.settleDi
  exact (State.wr_does _ _ _).mono rfl

theorem State.updField_does (s : State) (g : Fin 12) (f : FieldSide → FieldSide) : Does [.dio] s (State.updField s g f) := by
  unfold State.updField
  exact Does.put_dio (Does.refl _ _) _ rfl

theorem State.repBit_does (s : State) (i : Fin 32) (b : Nat) (v : Bool) (evt : Nat) : Does [.regs, .log, .summary] s
    (State.repBit s i b v evt) := by
  unfold State.repBit
  exact Does.step ((State.setFld_does _ _ _ _ _).mono rfl) (State.flagIf_does _ _ _ _) rfl

theorem State.report_does (s : State) (g : Fin 12) : Does [.regs, .log, .summary, .dio] s (State.report s g) := by
  unfold State.report
  exact Does.ite (Does.refl _ _) (Does.dite (fun _ => (Does.step (Does.step (Does.step ((State.flagIf_does _ _ _ _).mono rfl)
    (State.flagIf_does _ _ _ _) rfl) (State.updField_does _ _ _) rfl) (State.settleDi_does _ _) rfl)) (fun _ => (Does.foldl
    (fun _ _ => (Does.step ((State.repBit_does _ _ _ _ _).mono rfl) (State.repBit_does _ _ _ _ _) rfl)) (Does.step (Does.step
    (Does.step ((State.flagIf_does _ _ _ _).mono rfl) (State.flagIf_does _ _ _ _) rfl) (State.flagIf_does _ _ _ _) rfl)
    (State.updField_does _ _ _) rfl))))

theorem State.doRetry_does (s : State) (i : Fin 32) : Does [.regs, .log, .summary, .dio] s (State.doRetry s i) := by
  unfold State.doRetry
  exact Does.ite (Does.ite (Does.step (Does.step ((State.updOut_does _ _ _).mono rfl) (State.settleOut_does _ _) rfl)
    (State.report_does _ _) rfl) (Does.refl _ _)) (Does.refl _ _)

theorem State.lit_does (s u : State) : Does [.regs, .log, .summary, .dio] u (s.lit u) := by
  unfold State.lit
  exact Does.ite ((State.settleOuts_does _).mono rfl) (Does.refl _ _)

theorem State.linkErr_does (s : State) (g : Fin 12) : Does [.regs, .log, .summary] s (State.linkErr s g) := by
  unfold State.linkErr
  exact Does.step ((State.count_does _ _).mono rfl) (State.flagIf_does _ _ _ _) rfl

theorem State.updDi_does (s : State) (g : Fin 8) (f : DiGroup → DiGroup) : Does [.dio] s (State.updDi s g f) := by
  unfold State.updDi
  exact Does.put_dio (Does.refl _ _) _ rfl

theorem State.statusFrame_does (s : State) (g : Fin 12) (good : Bool) (limits : Nat) : Does [.regs, .log, .summary, .dio] s
    (State.statusFrame s g good limits) := by
  unfold State.statusFrame
  exact Does.ite (Does.refl _ _) (Does.ite ((State.linkErr_does _ _).mono rfl) (Does.step (Does.step (Does.ite (Does.ite
    (Does.step (Does.dite (fun _ => (Does.ite (Does.step ((State.updField_does _ _ _).mono rfl) (State.updDi_does _ _ _) rfl)
    ((State.updField_does _ _ _).mono rfl))) (fun _ => ((State.updField_does _ _ _).mono rfl))) (State.updField_does _ _ _)
    rfl) (Does.dite (fun _ => (Does.ite (Does.step ((State.updField_does _ _ _).mono rfl) (State.updDi_does _ _ _) rfl)
    ((State.updField_does _ _ _).mono rfl))) (fun _ => ((State.updField_does _ _ _).mono rfl)))) (Does.foldl (fun _ _ =>
    (Does.step ((State.updOut_does _ _ _).mono rfl) (State.settleFlags_does _ _) rfl)) (Does.ite (Does.step (Does.dite (fun _
    => (Does.ite (Does.step ((State.updField_does _ _ _).mono rfl) (State.updDi_does _ _ _) rfl) ((State.updField_does _ _
    _).mono rfl))) (fun _ => ((State.updField_does _ _ _).mono rfl))) (State.updField_does _ _ _) rfl) (Does.dite (fun _ =>
    (Does.ite (Does.step ((State.updField_does _ _ _).mono rfl) (State.updDi_does _ _ _) rfl) ((State.updField_does _ _ _).mono
    rfl))) (fun _ => ((State.updField_does _ _ _).mono rfl)))))) (State.report_does _ _) rfl) (State.settleOuts_does _) rfl))

theorem State.doOt_does (s : State) (i : Fin 32) : Does [.regs, .log, .summary, .dio] s (State.doOt s i) := by
  unfold State.doOt
  exact Does.step (Does.step ((State.updOut_does _ _ _).mono rfl) (State.settleOut_does _ _) rfl) (State.report_does _ _) rfl

theorem State.clearOver_does (s : State) (g mask : Nat) : Does [.dio] s (State.clearOver s g mask) := by
  unfold State.clearOver
  exact Does.foldl (fun _ _ => ((State.updOut_does _ _ _).mono rfl)) (Does.refl _ _)

theorem State.rcStopped_does (s : State) (g : Fin 12) : Does [.regs, .log, .summary, .dio] s (State.rcStopped s g) := by
  unfold State.rcStopped
  exact Does.step ((State.updField_does _ _ _).mono rfl) (State.settleOuts_does _) rfl

theorem State.diEnWritten_does (s : State) (g : Fin 8) (was now : Bool) : Does [.regs, .dio] s (State.diEnWritten s g was
    now) := by
  unfold State.diEnWritten
  exact Does.step ((State.updDi_does _ _ _).mono rfl) (State.settleDi_does _ _) rfl

theorem State.cntEnabled_does (s : State) (g : Fin 8) (c : Fin 2) : Does [.dio] s (State.cntEnabled s g c) := by
  unfold State.cntEnabled
  exact (State.updDi_does _ _ _).mono rfl

theorem State.cntClear_does (s : State) (g : Fin 8) (c : Fin 2) : Does [.regs, .dio] s (State.cntClear s g c) := by
  unfold State.cntClear
  exact Does.step ((State.updDi_does _ _ _).mono rfl) (State.wr_does _ _ _) rfl

theorem State.doOtClear_does (s : State) (i : Fin 32) : Does [.regs, .log, .summary, .dio] s (State.doOtClear s i) := by
  unfold State.doOtClear
  exact Does.step (Does.step ((State.updOut_does _ _ _).mono rfl) (State.settleOut_does _ _) rfl) (State.report_does _ _) rfl

theorem State.edgeRecord_does (s : State) (g k : Fin 8) (level pulsed : Bool) (stamp : Nat) : Does [.regs, .log, .summary] s
    (State.edgeRecord s g k level pulsed stamp) := by
  unfold State.edgeRecord
  exact Does.step (Does.step ((State.wr_does _ _ _).mono rfl) (State.wrs_does _ _ _) rfl) (State.flag_does _ _ _) rfl

theorem State.countEdge_does (s : State) (g : Fin 8) (c : Fin 2) (level : Bool) (stamp : Nat) : Does [.regs, .dio] s
    (State.countEdge s g c level stamp) := by
  unfold State.countEdge
  exact Does.ite (Does.step ((State.updDi_does _ _ _).mono rfl) (State.setFld_does _ _ _ _ _) rfl) (Does.refl _ _)

theorem State.acceptLevel_does (s : State) (g k : Fin 8) (level : Bool) (stamp : Nat) : Does [.regs, .log, .summary, .dio] s
    (State.acceptLevel s g k level stamp) := by
  unfold State.acceptLevel
  exact Does.dite (fun _ => (Does.step (Does.ite (Does.step (Does.step ((State.updDi_does _ _ _).mono rfl) (State.settleDi_does
    _ _) rfl) (State.edgeRecord_does _ _ _ _ _ _) rfl) (Does.step ((State.updDi_does _ _ _).mono rfl) (State.settleDi_does _ _)
    rfl)) (State.countEdge_does _ _ _ _ _) rfl)) (fun _ => (Does.ite (Does.step (Does.step ((State.updDi_does _ _ _).mono rfl)
    (State.settleDi_does _ _) rfl) (State.edgeRecord_does _ _ _ _ _ _) rfl) (Does.step ((State.updDi_does _ _ _).mono rfl)
    (State.settleDi_does _ _) rfl)))

theorem State.diAccept_does (s : State) (g k : Fin 8) (level : Bool) (seen : Nat) : Does [.regs, .log, .summary, .dio] s
    (State.diAccept s g k level seen) := by
  unfold State.diAccept
  exact Does.ite (Does.refl _ _) (Does.ite (Does.ite ((State.acceptLevel_does _ _ _ _ _).mono rfl) (Does.refl _ _)) (Does.ite
    (Does.step ((State.updDi_does _ _ _).mono rfl) (State.acceptLevel_does _ _ _ _ _) rfl) ((State.updDi_does _ _ _).mono
    rfl)))

theorem State.doFltClear_does (s : State) (i : Fin 32) : Does [.dio] s (State.doFltClear s i) := by
  unfold State.doFltClear
  exact (State.updField_does _ _ _).mono rfl

theorem State.doPeriodEnd_does (s : State) (i : Fin 32) (load : Nat) : Does [.regs, .wear, .log, .summary, .dio] s
    (State.doPeriodEnd s i load) := by
  unfold State.doPeriodEnd
  exact by
    try dsimp only
    split
    · exact (Does.ite (Does.refl _ _) (Does.step (Does.step (Does.step (Does.ite (Does.ite (Does.step (Does.step ((State.updOut_does _ _ _).mono rfl) (State.count_does _ _) rfl) (State.wearDo_does _ _) rfl) ((State.updOut_does _ _ _).mono rfl)) (Does.refl _ _)) (State.updOut_does _ _ _) rfl) (State.settleFlags_does _ _) rfl) (State.settleOut_does _ _) rfl))
    · exact (Does.refl _ _)

theorem State.doReadbackClear_does (s : State) (i : Fin 32) (which : Nat) : Does [.regs, .log, .summary, .dio] s
    (State.doReadbackClear s i which) := by
  unfold State.doReadbackClear
  exact Does.ite (Does.refl _ _) (by
    try dsimp only
    split
    · exact (Does.step ((State.updOut_does _ _ _).mono rfl) (State.repBit_does _ _ _ _ _) rfl)
    · exact (Does.step ((State.updOut_does _ _ _).mono rfl) (State.repBit_does _ _ _ _ _) rfl)
    · exact (Does.step ((State.updOut_does _ _ _).mono rfl) (State.repBit_does _ _ _ _ _) rfl)
    all_goals exact (Does.refl _ _))

theorem State.doReadbackFlag_does (s : State) (i : Fin 32) (which : Nat) : Does [.regs, .log, .summary, .dio] s
    (State.doReadbackFlag s i which) := by
  unfold State.doReadbackFlag
  exact Does.ite ((State.settleFlags_does _ _).mono rfl) (by
    try dsimp only
    split
    · exact (Does.ite (Does.step (Does.step ((State.settleFlags_does _ _).mono rfl) (State.updOut_does _ _ _) rfl) (State.repBit_does _ _ _ _ _) rfl) ((State.settleFlags_does _ _).mono rfl))
    · exact (Does.ite (Does.step (Does.step ((State.settleFlags_does _ _).mono rfl) (State.updOut_does _ _ _) rfl) (State.repBit_does _ _ _ _ _) rfl) ((State.settleFlags_does _ _).mono rfl))
    · exact (Does.ite (Does.step (Does.step ((State.settleFlags_does _ _).mono rfl) (State.updOut_does _ _ _) rfl) (State.repBit_does _ _ _ _ _) rfl) ((State.settleFlags_does _ _).mono rfl))
    all_goals exact ((State.settleFlags_does _ _).mono rfl))

theorem State.statusTimeout_does (s : State) (g : Fin 12) : Does [.regs, .log, .summary, .dio] s (State.statusTimeout s g) :=
    by
  unfold State.statusTimeout
  exact Does.ite (Does.refl _ _) (Does.dite (fun _ => (Does.step (Does.step ((State.updField_does _ _ _).mono rfl)
    (State.flag_does _ _ _) rfl) (State.settleDi_does _ _) rfl)) (fun _ => (Does.step ((State.updField_does _ _ _).mono rfl)
    (State.flag_does _ _ _) rfl)))

theorem State.restartDeb_does (s : State) (g k : Fin 8) : Does [.dio] s (State.restartDeb s g k) := by
  unfold State.restartDeb
  exact (State.updDi_does _ _ _).mono rfl

theorem State.typesTaken_does (s : State) (g : Fin 8) (old new : Vector Word 8) : Does [.dio] s (State.typesTaken s g old
    new) := by
  unfold State.typesTaken
  exact Does.foldl (fun _ _ => (Does.ite (Does.refl _ _) ((State.restartDeb_does _ _ _).mono rfl))) (Does.refl _ _)

theorem State.judgeOffs_does (s : State) (g : Nat) (loads : List Nat) : Does [.regs, .wear, .log, .summary, .dio] s
    (State.judgeOffs s g loads) := by
  unfold State.judgeOffs
  exact Does.foldl (fun _ _ => (Does.ite (Does.refl _ _) (Does.ite (Does.foldl (fun _ _ => (Does.step ((State.count_does _
    _).mono rfl) (State.wearDo_does _ _) rfl)) ((State.updOut_does _ _ _).mono rfl)) ((State.updOut_does _ _ _).mono rfl))))
    (Does.refl _ _)

theorem State.fieldCmdFrame_does (s : State) (g : Fin 12) (good : Bool) (loads : List Nat) : Does [.regs, .wear, .log,
    .summary, .dio] s (State.fieldCmdFrame s g good loads) := by
  unfold State.fieldCmdFrame
  exact by
    try dsimp only
    split
    · exact (Does.refl _ _)
    · exact (Does.ite (Does.refl _ _) (Does.ite (Does.step ((State.updField_does _ _ _).mono rfl) (State.linkErr_does _ _) rfl) (Does.dite (fun _ => (Does.step ((State.updField_does _ _ _).mono rfl) (State.typesTaken_does _ _ _ _) rfl)) (fun _ => (Does.step (Does.step (Does.step (Does.step ((State.updField_does _ _ _).mono rfl) (State.clearOver_does _ _ _) rfl) (State.judgeOffs_does _ _ _) rfl) (State.settleOuts_does _) rfl) (State.report_does _ _) rfl)))))

theorem State.silence_does (s : State) (g : Fin 12) : Does [.regs, .log, .summary, .dio] s (State.silence s g) := by
  unfold State.silence
  exact Does.ite (Does.refl _ _) (Does.step ((State.updField_does _ _ _).mono rfl) (State.settleOuts_does _) rfl)

theorem State.doOverload_does (s : State) (i : Fin 32) : Does [.regs, .log, .summary, .dio] s (State.doOverload s i) := by
  unfold State.doOverload
  exact Does.ite (Does.refl _ _) (Does.step (Does.step ((State.updOut_does _ _ _).mono rfl) (State.settleOut_does _ _) rfl)
    (State.report_does _ _) rfl)

theorem State.vfdUvClear_does (s : State) (g : Fin 12) (which : Nat) : Does [.regs, .log, .summary, .dio] s (State.vfdUvClear
    s g which) := by
  unfold State.vfdUvClear
  exact Does.step (Does.step ((State.updField_does _ _ _).mono rfl) (State.settleOuts_does _) rfl) (State.report_does _ _) rfl

theorem State.diPulseWindow_does (s : State) (g : Fin 8) (levels : Nat) : Does [.dio] s (State.diPulseWindow s g levels) :=
    by
  unfold State.diPulseWindow
  exact Does.ite (Does.refl _ _) ((State.updDi_does _ _ _).mono rfl)

theorem State.diGateEnd_does (s : State) (g : Fin 8) (c : Fin 2) : Does [.regs, .log, .summary, .dio] s (State.diGateEnd s g
    c) := by
  unfold State.diGateEnd
  exact Does.ite (Does.refl _ _) (Does.step (Does.step ((State.updDi_does _ _ _).mono rfl) (State.post_does _ _ _ _) rfl)
    (State.flagIf_does _ _ _ _) rfl)

theorem State.dioCmdFrame_does (s : State) : Does [.dio] s (State.dioCmdFrame s) := by
  unfold State.dioCmdFrame
  exact Does.foldl (fun _ _ => (Does.ite ((State.updField_does _ _ _).mono rfl) (Does.refl _ _))) (Does.refl _ _)

theorem State.lanesLow_does (s : State) (g : Fin 8) : Does [.dio] s (State.lanesLow s g) := by
  unfold State.lanesLow
  exact (State.updDi_does _ _ _).mono rfl

theorem State.vfdUndervolt_does (s : State) (g : Fin 12) (which : Nat) : Does [.regs, .log, .summary, .dio] s
    (State.vfdUndervolt s g which) := by
  unfold State.vfdUndervolt
  exact Does.step (Does.step (Does.dite (fun _ => (Does.step ((State.updField_does _ _ _).mono rfl) (State.lanesLow_does _ _)
    rfl)) (fun _ => ((State.updField_does _ _ _).mono rfl))) (State.settleOuts_does _) rfl) (State.report_does _ _) rfl

theorem State.vfdRecover_does (s : State) (g : Fin 12) : Does [.regs, .log, .summary, .dio] s (State.vfdRecover s g) := by
  unfold State.vfdRecover
  exact by
    try dsimp only
    split
    · exact (Does.ite (Does.step ((State.updField_does _ _ _).mono rfl) (State.settleOuts_does _) rfl) (Does.refl _ _))
    · exact (Does.refl _ _)

end Sys2Proof.Machine
end

