-- ==== Sys2Proof/Laws/DoesSense.lean ====
section
/-!
SUPPORT. What each operation of these parts may do, one lemma per operation (`Sys2Proof.Laws.Does` says what `Does`
claims): the analog island, the cells, MOIST and the transform engine.
-/
namespace Sys2Proof.Machine

theorem State.setGtValid_does (s : State) (g : Nat) (v : Bool) : Does [.regs, .log, .summary, .moist] s (State.setGtValid s g
    v) := by
  unfold State.setGtValid
  exact Does.step (Does.put_moist (Does.refl _ _) _ rfl) (State.flagIf_does _ _ _ _) rfl

theorem State.afeClockStop_does (s : State) : Does [.regs, .log, .summary, .afe] s (State.afeClockStop s) := by
  unfold State.afeClockStop
  exact Does.ite (Does.refl _ _) (Does.step (Does.put_afe (Does.refl _ _) _ rfl) (State.flag_does _ _ _) rfl)

theorem State.afeReset_does (s : State) : Does [.afe] s (State.afeReset s) := by
  unfold State.afeReset
  exact Does.put_afe (Does.refl _ _) _ rfl

theorem State.updXf_does (s : State) (f : Xform → Xform) : Does [.xf] s (State.updXf s f) := by
  unfold State.updXf
  exact Does.put_xf (Does.refl _ _) _ rfl

theorem State.xfNext_does (s : State) : Does [.regs, .log, .summary, .xf] s (State.xfNext s) := by
  unfold State.xfNext
  exact Does.ite ((State.updXf_does _ _).mono rfl) (Does.ite (by
    try dsimp only
    split
    · exact (Does.step (Does.ite (Does.step (Does.step (Does.ite (Does.refl _ _) ((State.updXf_does _ _).mono rfl)) (State.updXf_does _ _) rfl) (State.wr_does _ _ _) rfl) (Does.step (Does.ite (Does.refl _ _) ((State.updXf_does _ _).mono rfl)) (State.updXf_does _ _) rfl)) (State.flag_does _ _ _) rfl)
    · exact (Does.step (Does.ite (Does.refl _ _) ((State.updXf_does _ _).mono rfl)) (State.updXf_does _ _) rfl)) (Does.ite (Does.step (Does.ite (Does.refl _ _) ((State.updXf_does _ _).mono rfl)) (State.updXf_does _ _) rfl) (Does.ite (Does.step (Does.ite (Does.refl _ _) ((State.updXf_does _ _).mono rfl)) (State.updXf_does _ _) rfl) (Does.step (Does.ite (Does.refl _ _) ((State.updXf_does _ _).mono rfl)) (State.updXf_does _ _) rfl))))

theorem State.xfGnssDrop_does (s : State) : Does [.regs, .log, .summary, .xf] s (State.xfGnssDrop s) := by
  unfold State.xfGnssDrop
  exact Does.ite (Does.step ((State.updXf_does _ _).mono rfl) (State.xfNext_does _) rfl) ((State.updXf_does _ _).mono rfl)

theorem State.updConv_does (s : State) (c : Fin 8) (f : AiConv → AiConv) : Does [.afe] s (State.updConv s c f) := by
  unfold State.updConv
  exact Does.put_afe (Does.refl _ _) _ rfl

theorem State.abortLead_does (s : State) (c : Fin 8) (k : Fin 4) : Does [.regs, .afe] s (State.abortLead s c k) := by
  unfold State.abortLead
  exact Does.ite (Does.step ((State.updConv_does _ _ _).mono rfl) (State.setFld_does _ _ _ _ _) rfl) (Does.refl _ _)

theorem State.abortLeads_does (s : State) : Does [.regs, .afe] s (State.abortLeads s) := by
  unfold State.abortLeads
  exact Does.foldl (fun _ _ => (Does.foldl (fun _ _ => ((State.abortLead_does _ _ _).mono rfl)) (Does.refl _ _))) (Does.refl _
    _)

theorem State.updGrp_does (s : State) (c : Fin 4) (f : CellGrp → CellGrp) : Does [.cells] s (State.updGrp s c f) := by
  unfold State.updGrp
  exact Does.put_cells (Does.refl _ _) _ rfl

theorem State.loseDwell_does (s : State) (n : Fin 16) : Does [.cells] s (State.loseDwell s n) := by
  unfold State.loseDwell
  exact (State.updGrp_does _ _ _).mono rfl

theorem State.updCell_does (s : State) (n : Fin 16) (f : CellSt → CellSt) : Does [.cells] s (State.updCell s n f) := by
  unfold State.updCell
  exact Does.put_cells (Does.refl _ _) _ rfl

theorem State.calAbort_does (s : State) : Does [.regs, .cells] s (State.calAbort s) := by
  unfold State.calAbort
  exact Does.foldl (fun _ _ => (Does.ite (Does.step (Does.step ((State.updCell_does _ _ _).mono rfl) (State.wr_does _ _ _) rfl)
    (State.loseDwell_does _ _) rfl) (Does.refl _ _))) (Does.refl _ _)

theorem State.cellStop_does (s : State) : Does [.regs, .cells] s (State.cellStop s) := by
  unfold State.cellStop
  exact Does.put_cells (Does.put_cells (Does.step (Does.foldl (fun _ _ => ((State.updGrp_does _ _ _).mono rfl)) (Does.refl _
    _)) (State.calAbort_does _) rfl) _ rfl) _ rfl

theorem State.afeFault_does (s : State) : Does [.regs, .afe] s (State.afeFault s) := by
  unfold State.afeFault
  exact Does.put_afe ((State.abortLeads_does _).mono rfl) _ rfl

theorem State.capState_does (s : State) (n : Fin 16) (st mode count : Nat) : Does [.regs] s (State.capState s n st mode
    count) := by
  unfold State.capState
  exact Does.step (Does.step ((State.setFld_does _ _ _ _ _).mono rfl) (State.setFld_does _ _ _ _ _) rfl) (State.setFld_does _ _
    _ _ _) rfl

theorem State.updMoist_does (s : State) (n : Fin 16) (f : MoistCell → MoistCell) : Does [.moist] s (State.updMoist s n f) :=
    by
  unfold State.updMoist
  exact Does.put_moist (Does.refl _ _) _ rfl

theorem State.captureAbort_does (s : State) (n : Fin 16) : Does [.regs, .moist] s (State.captureAbort s n) := by
  unfold State.captureAbort
  exact by
    try dsimp only
    split
    · exact (Does.step ((State.updMoist_does _ _ _).mono rfl) (State.capState_does _ _ _ _ _) rfl)
    · exact (Does.refl _ _)

theorem State.sweepEnd_does (s : State) (st : Nat) : Does [.regs, .log, .summary, .moist] s (State.sweepEnd s st) := by
  unfold State.sweepEnd
  exact Does.step (Does.step (Does.put_moist (Does.refl _ _) _ rfl) (State.setFld_does _ _ _ _ _) rfl) (State.flagIf_does _ _ _
    _) rfl

theorem State.moistOff_does (s : State) : Does [.regs, .log, .summary, .moist] s (State.moistOff s) := by
  unfold State.moistOff
  exact Does.ite (Does.step (Does.foldl (fun _ _ => ((State.captureAbort_does _ _).mono rfl)) (Does.refl _ _))
    (State.sweepEnd_does _ _) rfl) (Does.foldl (fun _ _ => ((State.captureAbort_does _ _).mono rfl)) (Does.refl _ _))

theorem State.moistFault_does (s : State) : Does [.regs, .log, .summary, .moist] s (State.moistFault s) := by
  unfold State.moistFault
  exact Does.foldl (fun _ _ => ((State.updMoist_does _ _ _).mono rfl)) ((State.moistOff_does _).mono rfl)

theorem State.cellFault_does (s : State) : Does [.regs, .log, .summary, .cells] s (State.cellFault s) := by
  unfold State.cellFault
  exact Does.put_cells (Does.step (Does.foldl (fun _ _ => (by
    try dsimp only
    split
    · exact ((State.flag_does _ _ _).mono rfl)
    · exact (Does.refl _ _))) (Does.refl _ _)) (State.cellStop_does _) rfl) _ rfl

theorem State.xfFault_does (s : State) : Does [.regs, .log, .summary, .xf] s (State.xfFault s) := by
  unfold State.xfFault
  exact Does.step ((State.updXf_does _ _).mono rfl) (State.flagIf_does _ _ _ _) rfl

theorem State.startReading_does (s : State) (c : Fin 8) (k : Nat) : Does [.regs, .afe] s (State.startReading s c k) := by
  unfold State.startReading
  exact Does.step ((State.updConv_does _ _ _).mono rfl) (State.setFld_does _ _ _ _ _) rfl

theorem State.kickAi_does (s : State) (c : Fin 8) : Does [.regs, .afe] s (State.kickAi s c) := by
  unfold State.kickAi
  exact Does.ite (by
    try dsimp only
    split
    · exact (Does.refl _ _)
    · exact ((State.startReading_does _ _ _).mono rfl)) (Does.refl _ _)

theorem State.sendCfg_does (s : State) : Does [.afe] s (State.sendCfg s) := by
  unfold State.sendCfg
  exact Does.ite (Does.refl _ _) (Does.put_afe (Does.refl _ _) _ rfl)

theorem State.afeReturn_does (s : State) : Does [.regs, .afe] s (State.afeReturn s) := by
  unfold State.afeReturn
  exact Does.foldl (fun _ _ => ((State.kickAi_does _ _).mono rfl)) ((State.sendCfg_does _).mono rfl)

theorem State.xfResume_does (s : State) : Does [.regs, .log, .summary, .xf] s (State.xfResume s) := by
  unfold State.xfResume
  exact Does.ite ((State.xfNext_does _).mono rfl) (Does.refl _ _)

theorem State.xformBlockDone_does (s : State) : Does [.regs, .log, .summary, .xf] s (State.xformBlockDone s) := by
  unfold State.xformBlockDone
  exact Does.ite (Does.refl _ _) (by
    try dsimp only
    split
    · exact (Does.refl _ _)
    · exact (Does.step (Does.step ((State.updXf_does _ _).mono rfl) (State.count_does _ _) rfl) (State.xfNext_does _) rfl)
    all_goals exact (Does.step (Does.ite ((State.updXf_does _ _).mono rfl) (Does.step ((State.updXf_does _ _).mono rfl) (State.count_does _ _) rfl)) (State.xfNext_does _) rfl))

theorem State.nextReading_does (s : State) (c : Fin 8) (k : Nat) : Does [.regs, .afe] s (State.nextReading s c k) := by
  unfold State.nextReading
  exact by
    try dsimp only
    split
    · exact ((State.updConv_does _ _ _).mono rfl)
    · exact ((State.startReading_does _ _ _).mono rfl)

theorem State.endGate_does (s : State) (c : Fin 8) (r : AiReading) : Does [.regs, .log, .summary, .afe] s (State.endGate s c
    r) := by
  unfold State.endGate
  exact Does.step (Does.put_afe (Does.dite (fun _ => (Does.ite (Does.step ((State.flagIf_does _ _ _ _).mono rfl)
    (State.updConv_does _ _ _) rfl) (Does.refl _ _))) (fun _ => (Does.refl _ _))) _ rfl) (State.nextReading_does _ _ _) rfl

theorem State.aiWireBreak_does (s : State) (c : Fin 8) : Does [.regs, .freeCtr, .log, .summary, .afe] s (State.aiWireBreak s
    c) := by
  unfold State.aiWireBreak
  exact by
    try dsimp only
    split
    · exact (Does.ite (Does.refl _ _) (Does.step ((State.tick_does _).mono rfl) (State.endGate_does _ _ _) rfl))
    · exact (Does.refl _ _)

theorem State.leadStore_does (s : State) (c k : Nat) : Does [.regs, .store] s (State.leadStore s c k) := by
  unfold State.leadStore
  exact (State.wrKept_does _ _ _).mono rfl

theorem State.withReading_does (s : State) (n : Fin 16) (r : CellRead) : Does [.regs] s (State.withReading s n r) := by
  unfold State.withReading
  exact Does.step ((State.wrs_does _ _ _).mono rfl) (State.wrs_does _ _ _) rfl

theorem State.setCalValid_does (s : State) (n : Fin 16) (v : Bool) : Does [.cells] s (State.setCalValid s n v) := by
  unfold State.setCalValid
  exact (State.updCell_does _ _ _).mono rfl

theorem State.calCommit_does (s : State) (n : Fin 16) : Does [.regs, .store, .cells] s (State.calCommit s n) := by
  unfold State.calCommit
  exact Does.step (Does.step (Does.step (Does.foldl (fun _ _ => (by
    try dsimp only
    split
    · exact (Does.foldl (fun _ _ => (Does.step ((State.wrKept_does _ _ _).mono rfl) (State.wrKept_does _ _ _) rfl)) (Does.refl _ _))
    · exact (Does.refl _ _))) (Does.refl _ _)) (State.updCell_does _ _ _) rfl) (State.setFld_does _ _ _ _ _) rfl) (State.setCalValid_does _ _ _) rfl

theorem State.moistPost_does (s v : State) (n : Fin 16) (r : MoistOut) (resid : Option (Int × Bool)) : Does [.regs, .log,
    .summary, .moist] s (State.moistPost s v n r resid) := by
  unfold State.moistPost
  exact Does.step (Does.step (Does.step (Does.step ((State.updMoist_does _ _ _).mono rfl) (State.post_does _ _ _ _) rfl)
    (State.flag_does _ _ _) rfl) (State.flagIf_does _ _ _ _) rfl) (State.flagIf_does _ _ _ _) rfl

theorem State.takeConfig_does (s : State) (cfg : AiConfig) : Does [.regs, .afe] s (State.takeConfig s cfg) := by
  unfold State.takeConfig
  exact Does.foldl (fun _ _ => ((State.kickAi_does _ _).mono rfl)) (Does.put_afe (Does.refl _ _) _ rfl)

theorem State.islandCmdReceive_does (s : State) (good : Bool) : Does [.regs, .afe] s (State.islandCmdReceive s good) := by
  unfold State.islandCmdReceive
  exact Does.ite (Does.refl _ _) (by
    try dsimp only
    split
    · exact (Does.ite ((State.takeConfig_does _ _).mono rfl) (Does.put_afe (Does.refl _ _) _ rfl))
    · exact (Does.refl _ _)
    all_goals exact (Does.ite (Does.put_afe (Does.refl _ _) _ rfl) (Does.put_afe (Does.refl _ _) _ rfl)))

theorem State.xfMoist_does (s : State) (j : XfJob) (n : Nat) : Does [.regs, .log, .summary, .xf] s (State.xfMoist s j n) :=
    by
  unfold State.xfMoist
  exact Does.ite (Does.step ((State.updXf_does _ _).mono rfl) (State.xfNext_does _) rfl) ((State.updXf_does _ _).mono rfl)

theorem State.islandErr_does (s : State) (n : Nat) : Does [.regs] s (State.islandErr s n) := by
  unfold State.islandErr
  exact Does.foldl (fun _ _ => ((State.wr_does _ _ _).mono rfl)) (Does.refl _ _)

theorem State.islandReport_does (s : State) : Does [.regs, .afe] s (State.islandReport s) := by
  unfold State.islandReport
  exact Does.ite (Does.refl _ _) (Does.put_afe ((State.islandErr_does _ _).mono rfl) _ rfl)

theorem State.takeAo_does (s : State) (n : Fin 8) (code : Nat) (opened short : Bool) (stamp : Nat) (good : Bool) : Does
    [.regs, .log, .summary, .afe] s (State.takeAo s n code opened short stamp good) := by
  unfold State.takeAo
  exact Does.ite ((State.islandErr_does _ _).mono rfl) (Does.step (Does.step (Does.step (Does.put_afe ((State.islandReport_does
    _).mono rfl) _ rfl) (State.post_does _ _ _ _) rfl) (State.flagIf_does _ _ _ _) rfl) (State.flagIf_does _ _ _ _) rfl)

theorem State.takeAos_does (s : State) (l : List AfeFrame) : Does [.regs, .log, .summary, .afe] s (s.takeAos l) := by
  fun_induction State.takeAos s l with
  | case1 _ _ _ _ _ _ _ _ ih => exact Does.step ((State.takeAo_does ..).mono rfl) ih rfl
  | case2 => exact Does.put_afe (Does.refl _ _) _ rfl

theorem State.aoReadback_does (s : State) (n : Fin 8) (code : Nat) (high good : Bool) : Does [.regs, .log, .summary, .afe] s
    (State.aoReadback s n code high good) := by
  unfold State.aoReadback
  exact Does.ite (Does.refl _ _) (by
    try dsimp only
    first
    | exact (by
      try dsimp only
      first
      | exact (Does.step (Does.put_afe (Does.refl _ _) _ rfl) (State.takeAos_does _ _) rfl)
      | (split; exact (Does.step (Does.put_afe (Does.refl _ _) _ rfl) (State.takeAos_does _ _) rfl)))
    | (split; exact (by
      try dsimp only
      first
      | exact (Does.step (Does.put_afe (Does.refl _ _) _ rfl) (State.takeAos_does _ _) rfl)
      | (split; exact (Does.step (Does.put_afe (Does.refl _ _) _ rfl) (State.takeAos_does _ _) rfl)))))

theorem State.aiWritten_does (s : State) (c : Fin 8) (k : Fin 4) (wasEn : Bool) : Does [.regs, .afe] s (State.aiWritten s c k
    wasEn) := by
  unfold State.aiWritten
  exact Does.step (Does.ite (Does.step (Does.ite ((State.abortLead_does _ _ _).mono rfl) (Does.refl _ _)) (State.updConv_does _
    _ _) rfl) (Does.ite ((State.abortLead_does _ _ _).mono rfl) (Does.refl _ _))) (State.sendCfg_does _) rfl

theorem State.leadStart_does (s : State) (c : Fin 8) (k : Fin 4) : Does [.regs, .afe] s (State.leadStart s c k) := by
  unfold State.leadStart
  exact Does.step ((State.updConv_does _ _ _).mono rfl) (State.setFld_does _ _ _ _ _) rfl

theorem State.rcalStart_does (s : State) (c : Fin 4) : Does [.cells] s (State.rcalStart s c) := by
  unfold State.rcalStart
  exact (State.updGrp_does _ _ _).mono rfl

theorem State.cellEnWritten_does (s : State) (n : Fin 16) (was now : Bool) : Does [.regs, .cells] s (State.cellEnWritten s n
    was now) := by
  unfold State.cellEnWritten
  exact Does.ite (Does.ite ((State.updCell_does _ _ _).mono rfl) (Does.ite (Does.step ((State.updCell_does _ _ _).mono rfl)
    (State.updGrp_does _ _ _) rfl) (Does.step (Does.step ((State.updCell_does _ _ _).mono rfl) (State.updGrp_does _ _ _) rfl)
    (State.rcalStart_does _ _) rfl))) (Does.ite (Does.ite (Does.step (Does.step ((State.updCell_does _ _ _).mono rfl)
    (State.wr_does _ _ _) rfl) (State.loseDwell_does _ _) rfl) (Does.refl _ _)) (Does.refl _ _))

theorem State.tiaModeWritten_does (s : State) (n : Fin 16) (old : Word) : Does [.cells] s (State.tiaModeWritten s n old) :=
    by
  unfold State.tiaModeWritten
  exact Does.ite ((State.updCell_does _ _ _).mono rfl) (Does.ite ((State.updCell_does _ _ _).mono rfl) (Does.refl _ _))

theorem State.calStart_does (s : State) (n : Fin 16) (std : Nat) : Does [.regs, .cells] s (State.calStart s n std) := by
  unfold State.calStart
  exact Does.step (Does.step ((State.updCell_does _ _ _).mono rfl) (State.setFld_does _ _ _ _ _) rfl) (State.loseDwell_does _
    _) rfl

theorem State.calDiscard_does (s : State) (n : Fin 16) : Does [.regs, .cells] s (State.calDiscard s n) := by
  unfold State.calDiscard
  exact Does.step ((State.updCell_does _ _ _).mono rfl) (State.setFld_does _ _ _ _ _) rfl

theorem State.calValidate_does (s : State) (n : Fin 16) : Does [.cells] s (State.calValidate s n) := by
  unfold State.calValidate
  exact (State.setCalValid_does _ _ _).mono rfl

theorem State.winClear_does (s : State) (n : Fin 16) : Does [.moist] s (State.winClear s n) := by
  unfold State.winClear
  exact (State.updMoist_does _ _ _).mono rfl

theorem State.mcfgWritten_does (s : State) (n : Fin 16) (old : Word) : Does [.regs, .moist] s (State.mcfgWritten s n old) :=
    by
  unfold State.mcfgWritten
  exact Does.ite (Does.ite (Does.refl _ _) ((State.winClear_does _ _).mono rfl)) (Does.step (Does.ite (Does.refl _ _)
    ((State.winClear_does _ _).mono rfl)) (State.captureAbort_does _ _) rfl)

theorem State.captureStart_does (s : State) (n : Fin 16) (mode : Nat) : Does [.regs, .moist] s (State.captureStart s n mode)
    := by
  unfold State.captureStart
  exact Does.step ((State.updMoist_does _ _ _).mono rfl) (State.capState_does _ _ _ _ _) rfl

theorem State.sweepStart_does (s : State) (n : Fin 16) : Does [.regs, .moist] s (State.sweepStart s n) := by
  unfold State.sweepStart
  exact Does.step (Does.step (Does.put_moist (Does.refl _ _) _ rfl) (State.setFld_does _ _ _ _ _) rfl) (State.setFld_does _ _ _
    _ _) rfl

theorem State.calMeasDone_does (s : State) (n : Fin 16) : Does [.regs, .log, .summary, .cells] s (State.calMeasDone s n) :=
    by
  unfold State.calMeasDone
  exact by
    try dsimp only
    split
    · exact (Does.refl _ _)
    · exact (Does.ite (Does.refl _ _) (Does.ite (Does.step (Does.step (Does.step ((State.updCell_does _ _ _).mono rfl) (State.setFld_does _ _ _ _ _) rfl) (State.setFld_does _ _ _ _ _) rfl) (State.flag_does _ _ _) rfl) (Does.step (Does.step (Does.step (Does.step (Does.step ((State.updCell_does _ _ _).mono rfl) (State.updCell_does _ _ _) rfl) (State.setFld_does _ _ _ _ _) rfl) (State.setFld_does _ _ _ _ _) rfl) (State.setFld_does _ _ _ _ _) rfl) (State.flag_does _ _ _) rfl)))

theorem State.leadDone_does (s : State) (c : Fin 8) (k : Fin 4) : Does [.regs, .log, .summary, .afe] s (State.leadDone s c k)
    := by
  unfold State.leadDone
  exact by
    try dsimp only
    split
    · exact (Does.ite (Does.refl _ _) (Does.ite (Does.step (Does.step ((State.updConv_does _ _ _).mono rfl) (State.setFld_does _ _ _ _ _) rfl) (State.flag_does _ _ _) rfl) (Does.step (Does.step ((State.updConv_does _ _ _).mono rfl) (State.post_does _ _ _ _) rfl) (State.flag_does _ _ _) rfl)))
    · exact (Does.refl _ _)

theorem State.aoRefreshTimeout_does (s : State) : Does [.regs, .log, .summary, .afe] s (State.aoRefreshTimeout s) := by
  unfold State.aoRefreshTimeout
  exact Does.ite (Does.step (Does.put_afe (Does.refl _ _) _ rfl) (State.flag_does _ _ _) rfl) (Does.refl _ _)

theorem State.xfUse_does (s : State) (j : XfJob) : Does [.xf] s (State.xfUse s j) := by
  unfold State.xfUse
  exact (State.updXf_does _ _).mono rfl

theorem State.setNext_does (s : State) (n : Fin 16) (range peak : Nat) (ovr : Bool) : Does [.regs, .log, .summary, .cells] s
    (State.setNext s n range peak ovr) := by
  unfold State.setNext
  exact Does.ite (Does.refl _ _) (Does.step ((State.flagIf_does _ _ _ _).mono rfl) (State.updCell_does _ _ _) rfl)

theorem State.dump_does (s : State) (c : Fin 4) (d : Dwell) (w : Window) : Does [.regs, .log, .summary, .cells, .moist, .xf]
    s (State.dump s c d w) := by
  unfold State.dump
  exact by
    try dsimp only
    split
    · exact (Does.step (Does.ite (Does.step (Does.step ((State.updGrp_does _ _ _).mono rfl) (State.updCell_does _ _ _) rfl) (State.xfMoist_does _ _ _) rfl) (Does.step ((State.updGrp_does _ _ _).mono rfl) (State.updCell_does _ _ _) rfl)) (State.setNext_does _ _ _ _ _) rfl)
    · exact (by
      try dsimp only
      split
      · exact ((State.updCell_does _ _ _).mono rfl)
      · exact (Does.refl _ _))
    · exact (Does.step ((State.updCell_does _ _ _).mono rfl) (State.xfMoist_does _ _ _) rfl)
    · exact (Does.refl _ _)
    · exact ((State.updGrp_does _ _ _).mono rfl)
    all_goals exact (Does.step (Does.ite (Does.step (Does.put_moist (Does.refl _ _) _ rfl) (State.xfMoist_does _ _ _) rfl) (Does.put_moist (Does.refl _ _) _ rfl)) (State.setNext_does _ _ _ _ _) rfl)

theorem State.cycleStart_does (s : State) : Does [.regs, .cells] s (State.cycleStart s) := by
  unfold State.cycleStart
  exact Does.put_cells (Does.foldl (fun _ _ => ((State.setFld_does _ _ _ _ _).mono rfl)) (Does.refl _ _)) _ rfl

theorem State.startDwell_does (s : State) (j : Nat) (c : Fin 4) : Does [.cells] s (State.startDwell s j c) := by
  unfold State.startDwell
  exact Does.ite (Does.step ((State.updGrp_does _ _ _).mono rfl) (State.updCell_does _ _ _) rfl) ((State.updGrp_does _ _
    _).mono rfl)

theorem State.cellSlotStart_does (s : State) (ws : Vector Window 4) : Does [.regs, .log, .summary, .cells, .moist, .xf] s
    (State.cellSlotStart s ws) := by
  unfold State.cellSlotStart
  exact Does.ite (Does.refl _ _) (Does.put_cells (Does.ite (Does.ite (Does.step (Does.foldl (fun _ _ => (by
    try dsimp only
    split
    · exact (Does.step ((State.dump_does _ _ _ _).mono rfl) (State.updGrp_does _ _ _) rfl)
    · exact (Does.refl _ _))) (Does.refl _ _)) (State.cycleStart_does _) rfl) (Does.foldl (fun _ _ => (by
    try dsimp only
    split
    · exact (Does.step ((State.dump_does _ _ _ _).mono rfl) (State.updGrp_does _ _ _) rfl)
    · exact (Does.refl _ _))) (Does.refl _ _))) (Does.foldl (fun _ _ => ((State.startDwell_does _ _ _).mono rfl)) (Does.ite (Does.step (Does.foldl (fun _ _ => (by
    try dsimp only
    split
    · exact (Does.step ((State.dump_does _ _ _ _).mono rfl) (State.updGrp_does _ _ _) rfl)
    · exact (Does.refl _ _))) (Does.refl _ _)) (State.cycleStart_does _) rfl) (Does.foldl (fun _ _ => (by
    try dsimp only
    split
    · exact (Does.step ((State.dump_does _ _ _ _).mono rfl) (State.updGrp_does _ _ _) rfl)
    · exact (Does.refl _ _))) (Does.refl _ _))))) _ rfl)

theorem State.capStep_does (s v : State) (n : Fin 16) (r : MoistOut) (tones : List Nat) (posted : Bool) : Does [.regs, .log,
    .summary, .moist] s (State.capStep s v n r tones posted) := by
  unfold State.capStep
  exact by
    try dsimp only
    split
    · exact (Does.refl _ _)
    · exact (Does.ite (Does.refl _ _) (Does.ite (Does.step (Does.step ((State.updMoist_does _ _ _).mono rfl) (State.post_does _ _ _ _) rfl) (State.flag_does _ _ _) rfl) (Does.ite (Does.step (Does.step ((State.updMoist_does _ _ _).mono rfl) (State.capState_does _ _ _ _ _) rfl) (State.flag_does _ _ _) rfl) (Does.step ((State.updMoist_does _ _ _).mono rfl) (State.capState_does _ _ _ _ _) rfl))))

theorem State.aiPhaseSwap_does (s : State) (c : Fin 8) (count : Nat) : Does [.afe] s (State.aiPhaseSwap s c count) := by
  unfold State.aiPhaseSwap
  exact by
    try dsimp only
    split
    · exact (Does.ite ((State.updConv_does _ _ _).mono rfl) (Does.refl _ _))
    · exact (Does.refl _ _)

theorem State.postReading_does (s : State) (r : AiReading) : Does [.regs, .log, .summary] s (State.postReading s r) := by
  unfold State.postReading
  exact Does.step (Does.step (Does.step (Does.step (Does.step ((State.post_does _ _ _ _).mono rfl) (State.flag_does _ _ _) rfl)
    (State.flagIf_does _ _ _ _) rfl) (State.flagIf_does _ _ _ _) rfl) (State.flagIf_does _ _ _ _) rfl) (State.flagIf_does _ _ _
    _) rfl

theorem State.takeAi_does (s : State) (r : AiReading) (good : Bool) : Does [.regs, .log, .summary, .afe] s (State.takeAi s r
    good) := by
  unfold State.takeAi
  exact Does.ite (Does.refl _ _) (Does.dite (fun _ => (Does.ite (Does.step (Does.step ((State.islandErr_does _ _).mono rfl) (State.flag_does _ _ _) rfl) (State.flag_does _ _ _) rfl) (Does.dite (fun _ => (by
    try dsimp only
    split
    · exact (Does.ite (Does.step (Does.step ((State.islandReport_does _).mono rfl) (State.updConv_does _ _ _) rfl) (State.updConv_does _ _ _) rfl) (Does.step ((State.islandReport_does _).mono rfl) (State.updConv_does _ _ _) rfl))
    · exact (Does.ite (Does.step ((State.islandReport_does _).mono rfl) (State.updConv_does _ _ _) rfl) (Does.step (Does.step ((State.islandReport_does _).mono rfl) (State.updConv_does _ _ _) rfl) (State.postReading_does _ _) rfl)))) (fun _ => (Does.step ((State.islandReport_does _).mono rfl) (State.updConv_does _ _ _) rfl))))) (fun _ => (Does.refl _ _)))

theorem State.afeResultFrame_does (s : State) (good : Bool) : Does [.regs, .log, .summary, .afe] s (State.afeResultFrame s
    good) := by
  unfold State.afeResultFrame
  exact Does.ite (Does.refl _ _) (by
    try dsimp only
    split
    · exact (Does.step ((State.takeAi_does _ _ _).mono rfl) (State.takeAos_does _ _) rfl)
    · exact ((State.takeAos_does _ _).mono rfl))

theorem State.rtdGateEnd_does (s : State) (c : Fin 4) (r : F64) (brk : Bool) : Does [.cells] s (State.rtdGateEnd s c r brk)
    := by
  unfold State.rtdGateEnd
  exact by
    try dsimp only
    split
    · exact (Does.ite ((State.updCell_does _ _ _).mono rfl) (Does.refl _ _))
    · exact (Does.refl _ _)

theorem State.cellPost_does (s : State) (c : Fin 4) : Does [.regs, .log, .summary, .cells, .moist] s (State.cellPost s c) :=
    by
  unfold State.cellPost
  exact by
    try dsimp only
    split
    · exact (Does.refl _ _)
    · exact (Does.ite (Does.refl _ _) (by
      try dsimp only
      first
      | exact (Does.put_moist (Does.step (Does.step (Does.step (Does.step (Does.step (Does.step (Does.step (Does.step (Does.ite (Does.step (Does.step (Does.step (Does.step ((State.updGrp_does _ _ _).mono rfl) (State.post_does _ _ _ _) rfl) (State.post_does _ _ _ _) rfl) (State.count_does _ _) rfl) (State.count_does _ _) rfl) (Does.step (Does.step (Does.step ((State.updGrp_does _ _ _).mono rfl) (State.post_does _ _ _ _) rfl) (State.post_does _ _ _ _) rfl) (State.count_does _ _) rfl)) (State.flag_does _ _ _) rfl) (State.flagIf_does _ _ _ _) rfl) (State.flagIf_does _ _ _ _) rfl) (State.flagIf_does _ _ _ _) rfl) (State.flagIf_does _ _ _ _) rfl) (State.flagIf_does _ _ _ _) rfl) (State.flagIf_does _ _ _ _) rfl) (State.flagIf_does _ _ _ _) rfl) _ rfl)
      | (split; exact (Does.put_moist (Does.step (Does.step (Does.step (Does.step (Does.step (Does.step (Does.step (Does.step (Does.ite (Does.step (Does.step (Does.step (Does.step ((State.updGrp_does _ _ _).mono rfl) (State.post_does _ _ _ _) rfl) (State.post_does _ _ _ _) rfl) (State.count_does _ _) rfl) (State.count_does _ _) rfl) (Does.step (Does.step (Does.step ((State.updGrp_does _ _ _).mono rfl) (State.post_does _ _ _ _) rfl) (State.post_does _ _ _ _) rfl) (State.count_does _ _) rfl)) (State.flag_does _ _ _) rfl) (State.flagIf_does _ _ _ _) rfl) (State.flagIf_does _ _ _ _) rfl) (State.flagIf_does _ _ _ _) rfl) (State.flagIf_does _ _ _ _) rfl) (State.flagIf_does _ _ _ _) rfl) (State.flagIf_does _ _ _ _) rfl) (State.flagIf_does _ _ _ _) rfl) _ rfl))))

theorem State.xformUsePost_does (s : State) : Does [.regs, .xf] s (State.xformUsePost s) := by
  unfold State.xformUsePost
  exact Does.ite (Does.refl _ _) (Does.step ((State.post_does _ _ _ _).mono rfl) (State.updXf_does _ _) rfl)

theorem State.resendCfg_does (s : State) : Does [.afe] s (State.resendCfg s) := by
  unfold State.resendCfg
  exact Does.ite ((State.sendCfg_does _).mono rfl) (Does.refl _ _)

theorem State.afeCmdFrame_does (s : State) : Does [.afe] s (State.afeCmdFrame s) := by
  unfold State.afeCmdFrame
  exact Does.step (Does.ite (Does.put_afe (Does.refl _ _) _ rfl) (Does.refl _ _)) (State.resendCfg_does _) rfl

theorem State.afeClockReturn_does (s : State) : Does [.afe] s (State.afeClockReturn s) := by
  unfold State.afeClockReturn
  exact Does.step (Does.put_afe (Does.refl _ _) _ rfl) (State.sendCfg_does _) rfl

theorem State.moistResult_does (s : State) (n : Fin 16) : Does [.regs, .log, .summary, .moist] s (State.moistResult s n) :=
    by
  unfold State.moistResult
  exact by
    try dsimp only
    split
    · exact (Does.refl _ _)
    · exact (Does.ite (Does.refl _ _) (Does.ite ((State.updMoist_does _ _ _).mono rfl) (Does.step (Does.ite (Does.step ((State.updMoist_does _ _ _).mono rfl) (State.moistPost_does _ _ _ _ _) rfl) ((State.updMoist_does _ _ _).mono rfl)) (State.capStep_does _ _ _ _ _ _) rfl)))

theorem State.xfGnss_does (s : State) (a b : Nat) : Does [.regs, .log, .summary, .xf] s (State.xfGnss s a b) := by
  unfold State.xfGnss
  exact Does.ite (Does.step ((State.updXf_does _ _).mono rfl) (State.xfNext_does _) rfl) ((State.updXf_does _ _).mono rfl)

theorem State.aiGateEnd_does (s : State) (c : Fin 8) (count : Nat) (ovr exc : Bool) : Does [.regs, .log, .summary, .afe] s
    (State.aiGateEnd s c count ovr exc) := by
  unfold State.aiGateEnd
  exact by
    try dsimp only
    split
    · exact (Does.ite (Does.refl _ _) ((State.endGate_does _ _ _).mono rfl))
    · exact (Does.refl _ _)

theorem State.rcalDone_does (s : State) (c : Fin 4) : Does [.cells] s (State.rcalDone s c) := by
  unfold State.rcalDone
  exact Does.ite (Does.refl _ _) (Does.ite ((State.updGrp_does _ _ _).mono rfl) ((State.updGrp_does _ _ _).mono rfl))

theorem State.scanDone_does (s : State) (n : Fin 16) : Does [.regs, .log, .summary, .cells, .xf] s (State.scanDone s n) := by
  unfold State.scanDone
  exact by
    try dsimp only
    split
    · exact (Does.refl _ _)
    · exact (Does.ite (Does.refl _ _) (Does.step (Does.step (Does.step ((State.updCell_does _ _ _).mono rfl) (State.xfUse_does _ _) rfl) (State.post_does _ _ _ _) rfl) (State.flag_does _ _ _) rfl))

theorem State.sweepSlotDone_does (s : State) : Does [.regs, .log, .summary, .moist, .xf] s (State.sweepSlotDone s) := by
  unfold State.sweepSlotDone
  exact by
    try dsimp only
    split
    · exact (Does.refl _ _)
    · exact (by
      try dsimp only
      split
      · exact (Does.refl _ _)
      · exact (Does.ite (Does.refl _ _) (Does.ite (Does.ite (Does.put_moist (Does.refl _ _) _ rfl) ((State.sweepEnd_does _ _).mono rfl)) (Does.ite (Does.put_moist (Does.step ((State.xfUse_does _ _).mono rfl) (State.flagIf_does _ _ _ _) rfl) _ rfl) (Does.step (Does.step (Does.foldl (fun _ _ => (by
        try dsimp only
        split
        · exact ((State.wr_does _ _ _).mono rfl)
        · exact (Does.refl _ _))) (Does.foldl (fun _ _ => (Does.step ((State.wr_does _ _ _).mono rfl) (State.wr_does _ _ _) rfl)) (Does.put_moist (Does.step ((State.xfUse_does _ _).mono rfl) (State.flagIf_does _ _ _ _) rfl) _ rfl))) (State.post_does _ _ _ _) rfl) (State.flag_does _ _ _) rfl)))))

theorem State.residualDone_does (s : State) (n : Fin 16) : Does [.cells, .moist, .xf] s (State.residualDone s n) := by
  unfold State.residualDone
  exact by
    try dsimp only
    split
    · exact (Does.refl _ _)
    · exact (Does.ite (Does.refl _ _) (Does.ite (Does.step ((State.updCell_does _ _ _).mono rfl) (State.xfUse_does _ _) rfl) (Does.step (Does.step ((State.updCell_does _ _ _).mono rfl) (State.xfUse_does _ _) rfl) (State.updMoist_does _ _ _) rfl)))

theorem State.gtValidate_does (s : State) (g : Nat) : Does [.regs, .log, .summary, .moist] s (State.gtValidate s g) := by
  unfold State.gtValidate
  exact (State.setGtValid_does _ _ _).mono rfl

end Sys2Proof.Machine
end

