-- ==== Sys2Proof/Laws/DoesLoops.lean ====
section
/-!
SUPPORT. What each operation of these parts may do, one lemma per operation (`Sys2Proof.Laws.Does` says what `Does`
claims): the loop engine and the output mirror.
-/
namespace Sys2Proof.Machine

theorem State.quietMore_does (s : State) (l : Fin 256) (n : Nat) : Does [.regs, .log, .summary, .loops] s (State.quietMore s
    l n) := by
  unfold State.quietMore
  exact Does.step ((State.updLoop_does _ _ _).mono rfl) (State.tuneQuiet_does _ _) rfl

theorem State.skipN_does (s : State) (l : Fin 256) (n : Nat) : Does [.regs, .log, .summary, .loops] s (State.skipN s l n) :=
    by
  unfold State.skipN
  exact Does.step (Does.step ((State.wr_does _ _ _).mono rfl) (State.flag_does _ _ _) rfl) (State.quietMore_does _ _ _) rfl

theorem State.loopsStepped_does (s : State) (old new : Nat) : Does [.regs, .log, .summary, .loops] s (State.loopsStepped s
    old new) := by
  unfold State.loopsStepped
  exact Does.ite (Does.refl _ _) (Does.foldl (fun _ _ => (Does.ite (Does.refl _ _) (Does.step ((State.updLoop_does _ _ _).mono
    rfl) (State.skipN_does _ _ _) rfl))) (Does.refl _ _))

theorem State.writeSet_does (s : State) (l t off : Nat) (w : Word) : Does [.regs, .store] s (State.writeSet s l t off w) :=
    by
  unfold State.writeSet
  exact (State.wrKept_does _ _ _).mono rfl

theorem State.plausStep_does (s : State) (l : Fin 256) (um yc : F32) : Does [.regs, .log, .summary, .loops] s
    (State.plausStep s l um yc) := by
  unfold State.plausStep
  exact Does.ite ((State.updLoop_does _ _ _).mono rfl) (Does.step ((State.updLoop_does _ _ _).mono rfl) (State.flagIf_does _ _
    _ _) rfl)

theorem State.tunesAbort_does (s : State) : Does [.regs, .log, .summary, .loops] s (State.tunesAbort s) := by
  unfold State.tunesAbort
  exact Does.foldl (fun _ _ => ((State.tuneEnd_does _ _ _).mono rfl)) (Does.refl _ _)

theorem State.cmodeWritten_does (s : State) (l : Fin 256) : Does [.regs, .log, .summary, .loops] s (State.cmodeWritten s l)
    := by
  unfold State.cmodeWritten
  exact Does.step ((State.tuneEnd_does _ _ _).mono rfl) (State.updLoop_does _ _ _) rfl

theorem State.loopSafe_does (s : State) (l : Fin 256) : Does [.regs, .log, .summary, .loops] s (State.loopSafe s l) := by
  unfold State.loopSafe
  exact Does.step (Does.step (Does.step ((State.wr_does _ _ _).mono rfl) (State.wr_does _ _ _) rfl) (State.setFld_does _ _ _ _
    _) rfl) (State.cmodeWritten_does _ _) rfl

theorem State.loopClaimLost_does (s : State) (l : Fin 256) (loss : Nat) : Does [.regs, .log, .summary, .loops] s
    (State.loopClaimLost s l loss) := by
  unfold State.loopClaimLost
  exact Does.ite ((State.loopSafe_does _ _).mono rfl) ((State.tuneEnd_does _ _ _).mono rfl)

theorem State.step3b_does (s : State) (l : Fin 256) (v : Latched) : Does [.loops] s (s.step3b l v).1 := by
  unfold State.step3b
  dsimp only
  split
  · split
    · exact Does.fst (t := s.updLoop l _) (State.updLoop_does s l _)
    · exact Does.fst (t := s.updLoop l _) (State.updLoop_does s l _)
  · exact Does.refl _ _

theorem State.step3bc_does (s : State) (l : Fin 256) (v : Latched) : Does [.regs, .log, .summary, .loops] s (s.step3bc l v).1 := by
  have h : Does [.regs, .log, .summary, .loops] s (s.step3b l v).1 := (State.step3b_does s l v).mono rfl
  unfold State.step3bc
  dsimp only
  generalize s.step3b l v = q at h ⊢
  split
  · exact h
  · exact Does.step (Does.step h (State.updLoop_does _ _ _) rfl) (State.flag_does _ _ _) rfl

theorem State.doneB_does (s : State) (l : Fin 256) (b : Nat) : Does [.loops] s (State.doneB s l b) := by
  unfold State.doneB
  exact Does.step ((State.syncCnt_does _ _ _).mono rfl) (State.updLoop_does _ _ _) rfl

theorem State.passB_does (s : State) (l : Fin 256) (b : Nat) : Does [.regs, .log, .summary, .loops] s (State.passB s l b) :=
    by
  unfold State.passB
  exact Does.step ((State.doneB_does _ _ _).mono rfl) (State.quietMore_does _ _ _) rfl

theorem State.skipB_does (s : State) (l : Fin 256) (b : Nat) : Does [.regs, .log, .summary, .loops] s (State.skipB s l b) :=
    by
  unfold State.skipB
  exact Does.step (Does.step ((State.passB_does _ _ _).mono rfl) (State.count_does _ _) rfl) (State.flag_does _ _ _) rfl

theorem State.loopSkip_does (s : State) (l : Fin 256) : Does [.regs, .log, .summary, .loops] s (State.loopSkip s l) := by
  unfold State.loopSkip
  exact Does.ite (Does.refl _ _) (by
    try dsimp only
    split
    · exact (Does.refl _ _)
    · exact ((State.skipB_does _ _ _).mono rfl))

theorem State.loopDisabled_does (s : State) (l : Fin 256) : Does [.regs, .log, .summary, .loops] s (State.loopDisabled s l)
    := by
  unfold State.loopDisabled
  exact Does.step (Does.step ((State.tuneEnd_does _ _ _).mono rfl) (State.flagIf_does _ _ _ _) rfl) (State.updLoop_does _ _ _)
    rfl

theorem State.tuneFreeze_does (s : State) (l : Fin 256) (sp : F32) : Does [.regs, .loops] s (State.tuneFreeze s l sp) := by
  unfold State.tuneFreeze
  exact by
    try dsimp only
    split
    · exact (Does.ite (Does.refl _ _) (Does.step ((State.updLoop_does _ _ _).mono rfl) (State.setFld_does _ _ _ _ _) rfl))
    · exact (Does.refl _ _)

theorem State.step3a_does (s : State) (l : Fin 256) (lst : Nat) (v : State.Latched) : Does [.regs, .log, .summary, .loops] s
    (State.step3a s l lst v) := by
  unfold State.step3a
  exact Does.ite ((State.updLoop_does _ _ _).mono rfl) (Does.ite ((State.updLoop_does _ _ _).mono rfl) (Does.step
    ((State.plausStep_does _ _ _ _).mono rfl) (State.updLoop_does _ _ _) rfl))

theorem State.recordUm_does (s : State) (l : Fin 256) (v : State.Latched) : Does [.loops] s (State.recordUm s l v) := by
  unfold State.recordUm
  exact (State.updLoop_does _ _ _).mono rfl

theorem State.postSample_does (s : State) (l : Fin 256) (b lst : Nat) (sp y0 : F32) (u : Vector F32 2) (inInv sat slew oclip
    refused numeric swap : Bool) (drops inv outSt : Nat) : Does [.regs, .log, .summary, .loops] s (State.postSample s l b lst
    sp y0 u inInv sat slew oclip refused numeric swap drops inv outSt) := by
  unfold State.postSample
  exact Does.step (Does.step (Does.ite (Does.step (Does.step (Does.step (Does.step (Does.step (Does.step (Does.step (Does.step
    (Does.step ((State.post_does _ _ _ _).mono rfl) (State.flagIf_does _ _ _ _) rfl) (State.flagIf_does _ _ _ _) rfl)
    (State.flagIf_does _ _ _ _) rfl) (State.flagIf_does _ _ _ _) rfl) (State.flagIf_does _ _ _ _) rfl) (State.flagIf_does _ _ _
    _) rfl) (State.flagIf_does _ _ _ _) rfl) (State.flagIf_does _ _ _ _) rfl) (State.count_does _ _) rfl) (Does.step (Does.step
    (Does.step (Does.step (Does.step (Does.step (Does.step (Does.step ((State.post_does _ _ _ _).mono rfl) (State.flagIf_does _
    _ _ _) rfl) (State.flagIf_does _ _ _ _) rfl) (State.flagIf_does _ _ _ _) rfl) (State.flagIf_does _ _ _ _) rfl)
    (State.flagIf_does _ _ _ _) rfl) (State.flagIf_does _ _ _ _) rfl) (State.flagIf_does _ _ _ _) rfl) (State.flagIf_does _ _ _
    _) rfl)) (State.wr_does _ _ _) rfl) (State.updLoop_does _ _ _) rfl

theorem State.numericSample_does (s : State) (l : Fin 256) (b : Nat) (v : State.Latched) (oldX : Vector F32 5) (sp : F32)
    (lst inv : Nat) (usedOk swap : Bool) : Does [.regs, .log, .summary, .loops] s (State.numericSample s l b v oldX sp lst inv
    usedOk swap) := by
  unfold State.numericSample
  exact Does.step (Does.step (Does.step ((State.updLoop_does _ _ _).mono rfl) (State.recordUm_does _ _ _) rfl)
    (State.postSample_does _ _ _ _ _ _ _ _ _ _ _ _ _ _ _ _ _) rfl) (State.quietMore_does _ _ _) rfl

theorem State.applyOut_does (s : State) (l : Fin 256) (k b : Nat) (u : F32) : Does [.regs, .freeCtr, .led, .banks, .log, .summary, .dio] s (s.applyOut l k b u).1 := by
  unfold State.applyOut
  extract_lets st q go
  have hg : ∀ lim, Does [.regs, .freeCtr, .led, .banks, .log, .summary, .dio] s (go lim).2 := fun lim => Does.ite ((State.tick_does s).mono rfl) (Does.refl _ _)
  split
  · exact Does.refl _ _
  · have h := hg 0xFFFFFFFF
    generalize go 0xFFFFFFFF = p at h ⊢
    obtain ⟨⟨q, c⟩, t⟩ := p
    dsimp only at h ⊢
    split
    · exact h
    · split
      · split
        · exact Does.step h (State.queueEvent_does _ _ _ _ _ _ _ _ _) rfl
        · exact Does.step h (State.flagIf_does _ _ _ _) rfl
      · exact h
  · split
    · next a hi lim _ =>
      have h := hg lim
      generalize go lim = p at h ⊢
      obtain ⟨⟨q, c⟩, t⟩ := p
      dsimp only at h ⊢
      split
      · exact h
      · exact Does.dite (fun _ => Does.step (Does.step h (State.setFld_does _ _ _ _ _) rfl) (State.settleOut_does _ _) rfl)
          (fun _ => Does.step h (State.setFld_does _ _ _ _ _) rfl)
    · exact Does.refl _ _

theorem State.applyAll_does (s : State) (l : Fin 256) (b : Nat) (u : Vector F32 2) : Does [.regs, .freeCtr, .led, .banks, .log, .summary, .dio] s (s.applyAll l b u).1 := by
  unfold State.applyAll
  have h0 := State.applyOut_does s l 0 b u[0]
  generalize s.applyOut l 0 b u[0] = p at h0 ⊢
  obtain ⟨t, st0, c0⟩ := p
  dsimp only at h0 ⊢
  split
  · exact h0.step (State.applyOut_does t l 1 b u[1]) rfl
  · exact h0

theorem State.applyUnless_does (s : State) (off : Bool) (l : Fin 256) (b : Nat) (u : Vector F32 2) : Does [.regs, .freeCtr, .led, .banks, .log, .summary, .dio] s (s.applyUnless off l b u).1 := by
  unfold State.applyUnless
  split
  · exact Does.refl _ _
  · exact (State.applyAll_does _ _ _ _).mono rfl

theorem State.autoApply_does (s : State) (l : Fin 256) (ws : List F32) : Does [.regs, .store, .loops] s (State.autoApply s l
    ws) := by
  unfold State.autoApply
  exact Does.step (Does.step (Does.step (Does.step (Does.step (Does.step (Does.step (Does.step ((State.writeSet_does _ _ _ _
    _).mono rfl) (State.writeSet_does _ _ _ _ _) rfl) (State.writeSet_does _ _ _ _ _) rfl) (State.writeSet_does _ _ _ _ _) rfl)
    (State.writeSet_does _ _ _ _ _) rfl) (State.writeSet_does _ _ _ _ _) rfl) (State.writeSet_does _ _ _ _ _) rfl)
    (State.bumpEpoch_does _ _) rfl) (State.updLoop_does _ _ _) rfl

theorem State.tuneJudge_does (s : State) (l : Fin 256) (t : Tune) : Does [.regs, .store, .log, .summary, .loops] s
    (State.tuneJudge s l t) := by
  unfold State.tuneJudge
  exact Does.ite ((State.tuneEnd_does _ _ _).mono rfl) (Does.ite (Does.step (Does.step ((State.post_does _ _ _ _).mono rfl)
    (State.tuneEnd_does _ _ _) rfl) (State.autoApply_does _ _ _) rfl) (Does.step ((State.post_does _ _ _ _).mono rfl)
    (State.tuneEnd_does _ _ _) rfl))

theorem State.runSample_does (s : State) (l : Fin 256) (b : Nat) (v : Latched) (oldX : Vector F32 5) (sp : F32) (lst : Nat)
    (usedOk swap : Bool) : Does [.regs, .store, .freeCtr, .led, .banks, .log, .summary, .loops, .dio] s (s.runSample l b v oldX sp lst usedOk swap) := by
  unfold State.runSample
  extract_lets x base inv tn amp tuneOut m nu back preset hold r vec est words
  have hn : Does [.regs, .store, .freeCtr, .led, .banks, .log, .summary, .loops, .dio] s (s.numericSample l b v oldX sp lst inv usedOk swap) := (State.numericSample_does ..).mono rfl
  generalize vec r = p
  obtain ⟨u, i⟩ := p
  refine Does.ite hn ?_
  have ha : Does [.regs, .store, .freeCtr, .led, .banks, .log, .summary, .loops, .dio] s (s.applyUnless (lst == 5) l b u).1 := (State.applyUnless_does ..).mono rfl
  generalize s.applyUnless (lst == 5) l b u = p at ha ⊢
  obtain ⟨t, a0, a1⟩ := p
  dsimp -zeta only at ha ⊢
  extract_lets q
  generalize vec q = p
  obtain ⟨u, i⟩ := p
  have h3 : ∀ {f a₁ a₂ a₃ a₄ a₅ a₆ a₇ a₈ a₉ b₁ b₂ b₃ b₄ b₅ b₆}, Does [.regs, .store, .freeCtr, .led, .banks, .log, .summary, .loops, .dio] s
      (((t.updLoop l f).recordUm l v).postSample l a₁ a₂ a₃ a₄ a₅ a₆ a₇ a₈ a₉ b₁ b₂ b₃ b₄ b₅ b₆) :=
    Does.step (Does.step (Does.step ha (State.updLoop_does _ _ _) rfl) (State.recordUm_does _ _ _) rfl) (State.postSample_does ..) rfl
  refine Does.ite hn ?_
  clear_value tn
  cases tn with
  | none => exact h3
  | some _ => exact Does.ite (Does.step h3 (State.tuneEnd_does _ _ _) rfl) (Does.ite (Does.step h3 (State.tuneJudge_does _ _ _) rfl)
      (Does.step h3 (State.tuneQuiet_does _ _) rfl))

theorem State.sampleLoop_does (s : State) (l : Fin 256) (b : Nat) (old : LoopLatch) : Does [.regs, .store, .freeCtr, .led, .banks, .log, .summary, .loops, .dio] s (s.sampleLoop l b old) := by
  unfold State.sampleLoop
  extract_lets v oldX s1 sp usedOk s2 s3 pre s4 d
  have h1 : Does [.regs, .store, .freeCtr, .led, .banks, .log, .summary, .loops, .dio] s s1 := (State.updLoop_does _ _ _).mono rfl
  have h2 : Does [.regs, .store, .freeCtr, .led, .banks, .log, .summary, .loops, .dio] s s2 := Does.ite (Does.step h1 (State.tuneEnd_does _ _ _) rfl) h1
  have h3 : Does [.regs, .store, .freeCtr, .led, .banks, .log, .summary, .loops, .dio] s s3 := Does.step h2 (State.tuneFreeze_does _ _ _) rfl
  have h4 : Does [.regs, .store, .freeCtr, .led, .banks, .log, .summary, .loops, .dio] s s4 := Does.step h3 (State.step3a_does _ _ _ _) rfl
  have h5 : Does [.regs, .store, .freeCtr, .led, .banks, .log, .summary, .loops, .dio] s (if d.lst = 3 then (s4, false) else s4.step3bc l v).1 := by
    split
    · exact h4
    · exact Does.step h4 (State.step3bc_does _ _ _) rfl
  generalize (if d.lst = 3 then (s4, false) else s4.step3bc l v) = q at h5 ⊢
  obtain ⟨t, swap⟩ := q
  dsimp only at h5 ⊢
  have h6 : Does [.regs, .store, .freeCtr, .led, .banks, .log, .summary, .loops, .dio] s (if d.toSafe then t.updLoop l fun y => { y with latch := 1 } else t) :=
    Does.ite (Does.step h5 (State.updLoop_does _ _ _) rfl) h5
  generalize (if d.toSafe then t.updLoop l fun y => { y with latch := 1 } else t) = t at h6 ⊢
  have hm : Does [.regs, .store, .freeCtr, .led, .banks, .log, .summary, .loops, .dio] s (((t.wr (loopBase l + 0xA8) (t.loop l).up[0]).setFld (loopBase l + 0xA4) 1 0 1).updLoop l
      fun y => { y with plRestart := true }) :=
    Does.step (Does.step (Does.step h6 (State.wr_does _ _ _) rfl) (State.setFld_does _ _ _ _ _) rfl) (State.updLoop_does _ _ _) rfl
  exact Does.step (Does.ite (Does.ite (Does.step hm (State.wr_does _ _ _) rfl) hm) h6) (State.runSample_does ..) rfl

theorem State.markLoops_does (s : State) : Does [.loops] s (State.markLoops s) := by
  unfold State.markLoops
  exact Does.foldl (fun _ _ => ((State.updLoop_does _ _ _).mono rfl)) (Does.refl _ _)

theorem State.loopsPassed_does (s : State) (new : Nat) : Does [.regs, .log, .summary, .loops] s (State.loopsPassed s new) :=
    by
  unfold State.loopsPassed
  exact Does.ite (Does.refl _ _) (Does.foldl (fun _ _ => (Does.ite (Does.refl _ _) (Does.step ((State.updLoop_does _ _ _).mono
    rfl) (State.skipN_does _ _ _) rfl))) (Does.refl _ _))

theorem State.loopEnabled_does (s : State) (l : Fin 256) : Does [.loops] s (State.loopEnabled s l) := by
  unfold State.loopEnabled
  exact Does.step ((State.syncCnt_does _ _ _).mono rfl) (State.updLoop_does _ _ _) rfl

theorem State.tuneStart_does (s : State) (l : Fin 256) : Does [.loops] s (State.tuneStart s l) := by
  unfold State.tuneStart
  exact (State.updLoop_does _ _ _).mono rfl

theorem State.cascade_does (s : State) (j b : Nat) : Does [.heart] s (State.cascade s j b) := by
  unfold State.cascade
  exact Does.put_heart (Does.refl _ _) _ rfl

theorem State.loopSample_does (s : State) (l : Fin 256) : Does [.regs, .store, .freeCtr, .heart, .led, .banks, .log, .summary, .loops, .dio] s (s.loopSample l) := by
  unfold State.loopSample
  refine Does.ite (Does.refl _ _) ?_
  split
  · exact Does.refl _ _
  · refine Does.ite (Does.refl _ _) ?_
    split
    · exact (State.skipB_does _ _ _).mono rfl
    · refine Does.ite (Does.step (Does.step ((State.passB_does _ _ _).mono rfl) (State.count_does _ _) rfl) (State.flag_does _ _ _) rfl) ?_
      exact Does.step (Does.step ((State.doneB_does _ _ _).mono rfl) (State.sampleLoop_does _ _ _ _) rfl) (State.cascade_does _ _ _) rfl

theorem State.mirrorEval_does (s : State) (i : Fin 32) : Does [.regs, .freeCtr, .log, .summary, .dio] s (State.mirrorEval s
    i) := by
  unfold State.mirrorEval
  exact Does.ite (Does.refl _ _) (by
    try dsimp only
    split
    · exact (Does.step (Does.step (Does.step ((State.updOut_does _ _ _).mono rfl) (State.setFld_does _ _ _ _ _) rfl) (State.flagIf_does _ _ _ _) rfl) (State.settleOut_does _ _) rfl)
    · exact (by
      try dsimp only
      first
      | exact (Does.step (Does.step (Does.step (Does.step (Does.ite ((State.tick_does _).mono rfl) (Does.refl _ _)) (State.updOut_does _ _ _) rfl) (State.setFld_does _ _ _ _ _) rfl) (State.flagIf_does _ _ _ _) rfl) (State.settleOut_does _ _) rfl)
      | (split; exact (Does.step (Does.step (Does.step (Does.step (Does.ite ((State.tick_does _).mono rfl) (Does.refl _ _)) (State.updOut_does _ _ _) rfl) (State.setFld_does _ _ _ _ _) rfl) (State.flagIf_does _ _ _ _) rfl) (State.settleOut_does _ _) rfl))))

end Sys2Proof.Machine
end

