-- ==== Sys2Proof/Laws/DoesRoot.lean ====
section
/-!
SUPPORT. What each operation of these parts may do, one lemma per operation (`Sys2Proof.Laws.Does` says what `Does`
claims): Rootline.
-/
namespace Sys2Proof.Machine

theorem State.updSeg_does (s : State) (g : Fin 16) (f : Seg → Seg) : Does [.root] s (State.updSeg s g f) := by
  unfold State.updSeg
  exact Does.put_root (Does.refl _ _) _ rfl

theorem State.updRd_does (s : State) (g : Fin 16) (k : Nat) (f : RdEntry → RdEntry) : Does [.root] s (State.updRd s g k f) :=
    by
  unfold State.updRd
  exact (State.updSeg_does _ _ _).mono rfl

theorem State.settleNodes_does (s : State) (g : Fin 16) (r : Round) : Does [.regs, .log, .summary, .root] s
    (State.settleNodes s g r) := by
  unfold State.settleNodes
  exact Does.step (Does.step (Does.foldl (fun _ _ => ((State.updRd_does _ _ _ _).mono rfl)) ((State.updSeg_does _ _ _).mono
    rfl)) (State.updSeg_does _ _ _) rfl) (State.flagIf_does _ _ _ _) rfl

theorem State.rootMainDone_does (s : State) : Does [.regs, .log, .summary, .root] s (State.rootMainDone s) := by
  unfold State.rootMainDone
  exact Does.ite (Does.refl _ _) (Does.ite (Does.refl _ _) (Does.ite (Does.step (Does.step (Does.put_root ((State.post_does _ _
    _ _).mono rfl) _ rfl) (State.count_does _ _) rfl) (State.flag_does _ _ _) rfl) (Does.step (Does.put_root ((State.post_does
    _ _ _ _).mono rfl) _ rfl) (State.flag_does _ _ _) rfl)))

theorem State.pushHistory_does (s : State) (g : Fin 16) (num stamp nOk : Nat) (aborted : Bool) : Does [.regs] s
    (State.pushHistory s g num stamp nOk aborted) := by
  unfold State.pushHistory
  exact (State.wrs_does _ _ _).mono rfl

theorem State.postRound_does (s : State) (g : Fin 16) (r : Round) (aborted : Bool) : Does [.regs, .root] s (State.postRound s
    g r aborted) := by
  unfold State.postRound
  exact Does.put_root (Does.step ((State.post_does _ _ _ _).mono rfl) (State.setFld_does _ _ _ _ _) rfl) _ rfl

theorem State.abortRound_does (s : State) (g : Fin 16) : Does [.regs, .log, .summary, .root] s (State.abortRound s g) := by
  unfold State.abortRound
  exact by
    try dsimp only
    split
    · exact (Does.refl _ _)
    · exact (Does.step (Does.step (Does.step (Does.step (Does.put_root ((State.updSeg_does _ _ _).mono rfl) _ rfl) (State.postRound_does _ _ _ _) rfl) (State.pushHistory_does _ _ _ _ _ _) rfl) (State.flag_does _ _ _) rfl) (State.rootMainDone_does _) rfl)

theorem State.abortRounds_does (s : State) : Does [.regs, .log, .summary, .root] s (State.abortRounds s) := by
  unfold State.abortRounds
  exact Does.foldl (fun _ _ => ((State.abortRound_does _ _).mono rfl)) (Does.refl _ _)

theorem State.rootStepped_does (s : State) (d : Int) (new : Nat) : Does [.regs, .log, .summary, .root] s (State.rootStepped s
    d new) := by
  unfold State.rootStepped
  exact Does.put_root ((State.abortRounds_does _).mono rfl) _ rfl

theorem State.postCmd_does (s : State) (g : Fin 16) (code result last found assigned : Nat) : Does [.regs, .log, .summary] s
    (State.postCmd s g code result last found assigned) := by
  unfold State.postCmd
  exact Does.step ((State.post_does _ _ _ _).mono rfl) (State.flag_does _ _ _) rfl

theorem State.abortWork_does (s : State) (g : Fin 16) : Does [.regs, .log, .summary, .root] s (State.abortWork s g) := by
  unfold State.abortWork
  exact by
    try dsimp only
    split
    · exact (Does.step ((State.updSeg_does _ _ _).mono rfl) (State.postCmd_does _ _ _ _ _ _ _) rfl)
    · exact (Does.ite (Does.step ((State.updSeg_does _ _ _).mono rfl) (State.postCmd_does _ _ _ _ _ _ _) rfl) ((State.updSeg_does _ _ _).mono rfl))
    all_goals exact ((State.updSeg_does _ _ _).mono rfl)

theorem State.segOff_does (s : State) (g : Fin 16) (p : Nat) : Does [.regs, .log, .summary, .root] s (State.segOff s g p) :=
    by
  unfold State.segOff
  exact Does.step (Does.step ((State.abortRound_does _ _).mono rfl) (State.abortWork_does _ _) rfl) (State.updSeg_does _ _ _)
    rfl

theorem State.vrUv_does (s : State) : Does [.regs, .log, .summary, .root] s (State.vrUv s) := by
  unfold State.vrUv
  exact Does.step (Does.foldl (fun _ _ => (Does.ite ((State.segOff_does _ _ _).mono rfl) (Does.refl _ _))) (Does.put_root
    (Does.refl _ _) _ rfl)) (State.flag_does _ _ _) rfl

theorem State.rootOff_does (s : State) : Does [.root] s (State.rootOff s) := by
  unfold State.rootOff
  exact Does.put_root (Does.refl _ _) _ rfl

theorem State.rootReset_does (s : State) : Does [.root] s (State.rootReset s) := by
  unfold State.rootReset
  exact Does.put_root (Does.refl _ _) _ rfl

theorem State.cutFrame_does (s : State) (g : Fin 16) : Does [.root, .sent] s (State.cutFrame s g) := by
  unfold State.cutFrame
  exact Does.ite (Does.refl _ _) (Does.step ((State.updSeg_does _ _ _).mono rfl) (State.send_does _ _ _) rfl)

theorem State.rootFault_does (s : State) : Does [.regs, .log, .summary, .root, .sent] s (State.rootFault s) := by
  unfold State.rootFault
  exact Does.put_root (Does.foldl (fun _ _ => (Does.step (Does.step ((State.abortRound_does _ _).mono rfl)
    (State.abortWork_does _ _) rfl) (State.cutFrame_does _ _) rfl)) (Does.refl _ _)) _ rfl

theorem State.takeTn_does (s : State) (g : Fin 16) : Does [.root] s (s.takeTn g).2 := by
  unfold State.takeTn
  dsimp only
  exact State.updSeg_does _ _ _

theorem State.down_does (s : State) (g : Fin 16) (cmd tn : Nat) (payload : List Byte) (from_ last : Nat) : Does [.root,
    .sent] s (State.down s g cmd tn payload from_ last) := by
  unfold State.down
  exact Does.step ((State.send_does _ _ _).mono rfl) (State.updSeg_does _ _ _) rfl

theorem State.exchange_does (s : State) (g : Fin 16) (cmd tn : Nat) (payload : List Byte) : Does [.root, .sent] s
    (State.exchange s g cmd tn payload) := by
  unfold State.exchange
  exact (State.down_does _ _ _ _ _ _ _).mono rfl

theorem State.updDir_does (s : State) (g : Fin 16) (k : Nat) (e : DirEntry) : Does [.root] s (State.updDir s g k e) := by
  unfold State.updDir
  exact (State.updSeg_does _ _ _).mono rfl

theorem State.saveDir_does (s : State) (g : Fin 16) : Does [.root] s (State.saveDir s g) := by
  unfold State.saveDir
  exact (State.updSeg_does _ _ _).mono rfl

theorem State.cmdEffect_does (s : State) (g : Fin 16) (c : RootCmd) : Does [.root] s (State.cmdEffect s g c) := by
  unfold State.cmdEffect
  exact by
    try dsimp only
    split
    · exact (Does.refl _ _)
    · exact (by
      try dsimp only
      split
      · exact ((State.updDir_does _ _ _ _).mono rfl)
      · exact (Does.ite (Does.step ((State.updDir_does _ _ _ _).mono rfl) (State.saveDir_does _ _) rfl) (Does.refl _ _))
      · exact (Does.step ((State.updSeg_does _ _ _).mono rfl) (State.saveDir_does _ _) rfl)
      · exact (Does.step ((State.updSeg_does _ _ _).mono rfl) (State.saveDir_does _ _) rfl)
      all_goals exact (Does.refl _ _))

theorem State.addressedExchange_does (s : State) (g : Fin 16) (rx : Uplink) : Does [.regs, .log, .summary, .root, .sent] s (s.addressedExchange g rx) := by
  unfold State.addressedExchange
  split
  · exact Does.refl _ _
  · next c _ =>
    generalize cmdFrame c = q
    obtain ⟨dc, tail⟩ := q
    dsimp only
    refine Does.ite (Does.refl _ _) ?_
    have ht : Does [.root] s (if c.tries = 0 then s.takeTn g else (c.tn, s)).2 := by
      split
      · exact State.takeTn_does s g
      · exact Does.refl _ _
    generalize (if c.tries = 0 then s.takeTn g else (c.tn, s)) = p at ht ⊢
    obtain ⟨tn, t⟩ := p
    have hd : Does [.regs, .log, .summary, .root, .sent] s (t.exchange g dc tn (serialBytes c.serial ++ tail)) := Does.step (ht.mono rfl) (State.exchange_does _ _ _ _ _) rfl
    dsimp only at hd ⊢
    generalize t.exchange g dc tn (serialBytes c.serial ++ tail) = u at hd ⊢
    have done : ∀ {x v} {r code last}, Does [.regs, .log, .summary, .root, .sent] s v →
        Does [.regs, .log, .summary, .root, .sent] s ((v.updSeg g fun y => { y with cmd := x }).postCmd g code r last 0 0) :=
      fun h => Does.step (Does.step h (State.updSeg_does _ _ _) rfl) (State.postCmd_does _ _ _ _ _ _ _) rfl
    split
    · refine Does.ite (Does.ite (done hd) (Does.ite (Does.step hd (State.updSeg_does _ _ _) rfl) (done hd))) (Does.ite (Does.ite ?_ (done hd))
        (Does.ite (Does.step hd (State.updSeg_does _ _ _) rfl) (done hd)))
      exact done (Does.step hd (State.cmdEffect_does _ _ _) rfl)
    · exact Does.ite (Does.step hd (State.updSeg_does _ _ _) rfl) (done hd)

theorem State.enumDone_does (s : State) (g : Fin 16) (e : EnumRun) : Does [.regs, .log, .summary, .root] s (State.enumDone s
    g e) := by
  unfold State.enumDone
  exact Does.ite (Does.step (Does.step ((State.updSeg_does _ _ _).mono rfl) (State.flag_does _ _ _) rfl) (State.postCmd_does _
    _ _ _ _ _ _) rfl) (Does.step ((State.updSeg_does _ _ _).mono rfl) (State.flag_does _ _ _) rfl)

theorem State.enumAssignPhase_does (s : State) (g : Fin 16) (e : EnumRun) (ok : List Found) : Does [.regs, .log, .summary,
    .root] s (State.enumAssignPhase s g e ok) := by
  unfold State.enumAssignPhase
  exact by
    try dsimp only
    first
    | exact (by
      try dsimp only
      split
      · exact (Does.step (Does.ite ((State.updSeg_does _ _ _).mono rfl) (Does.refl _ _)) (State.enumDone_does _ _ _) rfl)
      · exact (Does.step (Does.ite ((State.updSeg_does _ _ _).mono rfl) (Does.refl _ _)) (State.updSeg_does _ _ _) rfl))
    | (split; exact (by
      try dsimp only
      split
      · exact (Does.step (Does.ite ((State.updSeg_does _ _ _).mono rfl) (Does.refl _ _)) (State.enumDone_does _ _ _) rfl)
      · exact (Does.step (Does.ite ((State.updSeg_does _ _ _).mono rfl) (Does.refl _ _)) (State.updSeg_does _ _ _) rfl)))

theorem State.enumGo_does (s : State) (g : Fin 16) (e : EnumRun) : Does [.regs, .log, .summary, .root] s (State.enumGo s g e)
    := by
  unfold State.enumGo
  exact by
    try dsimp only
    split
    · exact (by
      try dsimp only
      split
      · exact ((State.enumAssignPhase_does _ _ _ _).mono rfl)
      · exact ((State.updSeg_does _ _ _).mono rfl))
    · exact ((State.enumAssignPhase_does _ _ _ _).mono rfl)
    · exact ((State.enumDone_does _ _ _).mono rfl)
    all_goals exact ((State.updSeg_does _ _ _).mono rfl)

theorem State.enumExchange_does (s : State) (g : Fin 16) (rx : Uplink) : Does [.regs, .log, .summary, .root, .sent] s
    (State.enumExchange s g rx) := by
  unfold State.enumExchange
  exact by
    try dsimp only
    split
    · exact (by
      try dsimp only
      split
      · exact (Does.ite (Does.refl _ _) (by
        try dsimp only
        split
        · exact (Does.step ((State.exchange_does _ _ _ _ _).mono rfl) (State.enumGo_does _ _ _) rfl)
        · exact (Does.ite (Does.step ((State.exchange_does _ _ _ _ _).mono rfl) (State.updSeg_does _ _ _) rfl) (Does.step ((State.exchange_does _ _ _ _ _).mono rfl) (State.enumGo_does _ _ _) rfl))
        · exact (Does.ite (Does.step ((State.exchange_does _ _ _ _ _).mono rfl) (State.updSeg_does _ _ _) rfl) (Does.step ((State.exchange_does _ _ _ _ _).mono rfl) (State.enumGo_does _ _ _) rfl))
        · exact (Does.ite (Does.step ((State.exchange_does _ _ _ _ _).mono rfl) (State.updSeg_does _ _ _) rfl) (Does.step ((State.exchange_does _ _ _ _ _).mono rfl) (State.enumGo_does _ _ _) rfl))
        · exact (Does.step ((State.exchange_does _ _ _ _ _).mono rfl) (State.enumGo_does _ _ _) rfl)
        all_goals exact (Does.step ((State.exchange_does _ _ _ _ _).mono rfl) (State.enumGo_does _ _ _) rfl)))
      · exact (Does.refl _ _))
    · exact (Does.refl _ _)

theorem State.segOn_does (s : State) (g : Fin 16) : Does [.root] s (State.segOn s g) := by
  unfold State.segOn
  exact (State.updSeg_does _ _ _).mono rfl

theorem State.segRestart_does (s : State) (g : Fin 16) : Does [.root] s (State.segRestart s g) := by
  unfold State.segRestart
  exact Does.ite (Does.ite ((State.updSeg_does _ _ _).mono rfl) ((State.segOn_does _ _).mono rfl)) (Does.refl _ _)

theorem State.rootReturn_does (s : State) : Does [.root] s (State.rootReturn s) := by
  unfold State.rootReturn
  exact Does.put_root (Does.refl _ _) _ rfl

theorem State.segEnWritten_does (s : State) (g : Fin 16) (was now : Bool) : Does [.regs, .log, .summary, .root] s
    (State.segEnWritten s g was now) := by
  unfold State.segEnWritten
  exact Does.ite (Does.ite (Does.refl _ _) (Does.ite ((State.updSeg_does _ _ _).mono rfl) ((State.segOn_does _ _).mono rfl)))
    (Does.ite ((State.segOff_does _ _ _).mono rfl) (Does.refl _ _))

theorem State.enumStart_does (s : State) (g : Fin 16) (all host : Bool) : Does [.regs, .root] s (State.enumStart s g all
    host) := by
  unfold State.enumStart
  exact Does.ite (Does.step (Does.step (Does.step (Does.ite (Does.step (Does.step ((State.updSeg_does _ _ _).mono rfl)
    (State.wr_does _ _ _) rfl) (State.wrs_does _ _ _) rfl) (Does.refl _ _)) (State.updSeg_does _ _ _) rfl) (State.setFld_does _
    _ _ _ _) rfl) (State.setFld_does _ _ _ _ _) rfl) (Does.step (Does.ite (Does.step (Does.step ((State.updSeg_does _ _ _).mono
    rfl) (State.wr_does _ _ _) rfl) (State.wrs_does _ _ _) rfl) (Does.refl _ _)) (State.updSeg_does _ _ _) rfl)

theorem State.rootCmdStart_does (s : State) (g : Fin 16) (code : Nat) : Does [.regs, .root] s (State.rootCmdStart s g code)
    := by
  unfold State.rootCmdStart
  exact Does.ite ((State.enumStart_does _ _ _ _).mono rfl) (Does.step (Does.step ((State.updSeg_does _ _ _).mono rfl)
    (State.setFld_does _ _ _ _ _) rfl) (State.setFld_does _ _ _ _ _) rfl)

theorem State.postAggregates_does (s : State) (g : Fin 16) (round : Nat) : Does [.regs] s (State.postAggregates s g round) :=
    by
  unfold State.postAggregates
  exact Does.foldl (fun _ _ => (Does.ite (by
    try dsimp only
    first
    | exact ((State.wrs_does _ _ _).mono rfl)
    | (split; exact ((State.wrs_does _ _ _).mono rfl))) (Does.refl _ _))) (Does.refl _ _)

theorem State.infoMiss_does (s : State) (g : Fin 16) (e : EnumRun) (rest found : List (BitVec 64)) (ok : List Found) : Does
    [.regs, .log, .summary, .root] s (State.infoMiss s g e rest found ok) := by
  unfold State.infoMiss
  exact Does.ite ((State.updSeg_does _ _ _).mono rfl) ((State.enumGo_does _ _ _).mono rfl)

theorem State.vrRestore_does (s : State) : Does [.root] s (State.vrRestore s) := by
  unfold State.vrRestore
  exact Does.foldl (fun _ _ => (Does.ite (Does.ite ((State.segOn_does _ _).mono rfl) ((State.updSeg_does _ _ _).mono rfl))
    (Does.refl _ _))) (Does.put_root (Does.refl _ _) _ rfl)

theorem State.rootBoot_does (s : State) : Does [.root] s (State.rootBoot s) := by
  unfold State.rootBoot
  exact Does.foldl (fun _ _ => (Does.ite ((State.updSeg_does _ _ _).mono rfl) (Does.ite ((State.segOn_does _ _).mono rfl)
    (Does.refl _ _)))) (Does.refl _ _)

theorem State.sync_does (s : State) (g : Fin 16) (bound : Nat) (read : Option (Nat × Nat)) : Does [.root, .sent] s
    (State.sync s g bound read) := by
  unfold State.sync
  exact Does.ite (Does.refl _ _) (by
    try dsimp only
    first
    | exact (Does.step ((State.down_does _ _ _ _ _ _ _).mono rfl) (State.updSeg_does _ _ _) rfl)
    | (split; exact (Does.step ((State.down_does _ _ _ _ _ _ _).mono rfl) (State.updSeg_does _ _ _) rfl)))

theorem State.periodBoundary_does (s : State) (prepared : Bool) (vr : Nat) (meas : Vector (Nat × Nat) 16) : Does [.regs,
    .log, .summary, .root, .sent] s (State.periodBoundary s prepared vr meas) := by
  unfold State.periodBoundary
  exact Does.ite (Does.refl _ _) (Does.foldl (fun _ _ => (Does.ite ((State.post_does _ _ _ _).mono rfl) (Does.ite (Does.ite (Does.step ((State.post_does _ _ _ _).mono rfl) (State.updSeg_does _ _ _) rfl) ((State.post_does _ _ _ _).mono rfl)) (by
    try dsimp only
    split
    · exact (Does.ite (Does.step (Does.step (Does.ite (Does.step ((State.post_does _ _ _ _).mono rfl) (State.updSeg_does _ _ _) rfl) ((State.post_does _ _ _ _).mono rfl)) (State.sync_does _ _ _ _) rfl) (State.updSeg_does _ _ _) rfl) (Does.ite (Does.step (Does.step (Does.ite (Does.step ((State.post_does _ _ _ _).mono rfl) (State.updSeg_does _ _ _) rfl) ((State.post_does _ _ _ _).mono rfl)) (State.abortRound_does _ _) rfl) (State.sync_does _ _ _ _) rfl) (Does.step (Does.ite (Does.step ((State.post_does _ _ _ _).mono rfl) (State.updSeg_does _ _ _) rfl) ((State.post_does _ _ _ _).mono rfl)) (State.sync_does _ _ _ _) rfl)))
    · exact (Does.ite (Does.step (Does.step (Does.step (Does.ite (Does.step ((State.post_does _ _ _ _).mono rfl) (State.updSeg_does _ _ _) rfl) ((State.post_does _ _ _ _).mono rfl)) (State.sync_does _ _ _ _) rfl) (State.updSeg_does _ _ _) rfl) (State.enumStart_does _ _ _ _) rfl) (Does.step (Does.ite (Does.step ((State.post_does _ _ _ _).mono rfl) (State.updSeg_does _ _ _) rfl) ((State.post_does _ _ _ _).mono rfl)) (State.sync_does _ _ _ _) rfl)))))) ((State.post_does _ _ _ _).mono rfl))

theorem State.roundEnd_does (s : State) (g : Fin 16) : Does [.regs, .log, .summary, .root] s (State.roundEnd s g) := by
  unfold State.roundEnd
  exact by
    try dsimp only
    split
    · exact (Does.ite (Does.refl _ _) (Does.step (Does.step (Does.step (Does.step (Does.step (Does.step (Does.step (Does.step ((State.updSeg_does _ _ _).mono rfl) (State.settleNodes_does _ _ _) rfl) (State.postAggregates_does _ _ _) rfl) (State.wr_does _ _ _) rfl) (State.postRound_does _ _ _ _) rfl) (State.pushHistory_does _ _ _ _ _ _) rfl) (State.flag_does _ _ _) rfl) (State.flagIf_does _ _ _ _) rfl) (State.rootMainDone_does _) rfl))
    · exact (Does.refl _ _)

theorem State.sendSample_does (s : State) (g : Fin 16) : Does [.root, .sent] s (s.sendSample g) := by
  unfold State.sendSample
  split
  · refine Does.ite (Does.refl _ _) ?_
    have ht := State.takeTn_does s g
    generalize s.takeTn g = p at ht ⊢
    obtain ⟨tn, t⟩ := p
    exact Does.step (Does.step (ht.mono rfl) (State.down_does ..) rfl) (State.updSeg_does _ _ _) rfl
  · exact Does.refl _ _

theorem State.storeReading_does (s : State) (g : Fin 16) (k round : Nat) (b : BitVec 64) (retried : Bool) : Does [.root] s
    (State.storeReading s g k round b retried) := by
  unfold State.storeReading
  exact (State.updRd_does _ _ _ _).mono rfl

theorem State.enumTn_does (s : State) (g : Fin 16) (e : EnumRun) : Does [.root] s (s.enumTn g e).2 := by
  unfold State.enumTn
  split
  · exact State.takeTn_does s g
  · exact Does.refl _ _

theorem State.quarantine_does (s : State) (g : Fin 16) (f : Found) : Does [.regs, .log, .summary, .root] s (State.quarantine
    s g f) := by
  unfold State.quarantine
  exact Does.ite ((State.flag_does _ _ _).mono rfl) (Does.ite (Does.step (Does.step (Does.step ((State.flag_does _ _ _).mono
    rfl) (State.updSeg_does _ _ _) rfl) (State.count_does _ _) rfl) (State.wrs_does _ _ _) rfl) (Does.ite (Does.step (Does.step
    ((State.flag_does _ _ _).mono rfl) (State.updSeg_does _ _ _) rfl) (State.count_does _ _) rfl) (Does.step (Does.step
    (Does.step (Does.step ((State.flag_does _ _ _).mono rfl) (State.updSeg_does _ _ _) rfl) (State.count_does _ _) rfl)
    (State.updSeg_does _ _ _) rfl) (State.flag_does _ _ _) rfl)))

theorem State.enumReadInfo_does (s : State) (g : Fin 16) (rx : Uplink) : Does [.regs, .log, .summary, .root, .sent] s (s.enumReadInfo g rx) := by
  unfold State.enumReadInfo
  split
  · next e _ =>
    split
    · refine Does.ite (Does.refl _ _) ?_
      have ht := State.enumTn_does s g e
      generalize s.enumTn g e = p at ht ⊢
      obtain ⟨tn, t⟩ := p
      have hd : ∀ bs, Does [.regs, .log, .summary, .root, .sent] s (t.exchange g 7 tn bs) := fun bs => Does.step (ht.mono rfl) (State.exchange_does _ _ _ _ _) rfl
      dsimp only
      split
      · exact Does.ite (Does.ite (Does.step (hd _) (State.enumGo_does _ _ _) rfl)
          (Does.step (Does.step (hd _) (State.quarantine_does _ _ _) rfl) (State.enumGo_does _ _ _) rfl))
          (Does.step (hd _) (State.infoMiss_does _ _ _ _ _ _) rfl)
      · exact Does.step (hd _) (State.infoMiss_does _ _ _ _ _ _) rfl
    · exact Does.refl _ _
  · exact Does.refl _ _

theorem State.readRound_does (s : State) (g : Fin 16) (rx : Uplink) : Does [.regs, .root, .sent] s (s.readRound g rx) := by
  unfold State.readRound
  split
  · next r _ =>
    split
    · refine Does.ite (Does.refl _ _) ?_
      split
      · exact (State.updSeg_does _ _ _).mono rfl
      · have ht := State.takeTn_does s g
        generalize s.takeTn g = p at ht ⊢
        obtain ⟨tn, t⟩ := p
        have hd : ∀ bs, Does [.regs, .root, .sent] s (t.exchange g 3 tn bs) := fun bs => Does.step (ht.mono rfl) (State.exchange_does _ _ _ _ _) rfl
        dsimp only
        split
        · exact Does.ite (Does.ite (Does.step (Does.step (hd _) (State.storeReading_does _ _ _ _ _ _) rfl) (State.updSeg_does _ _ _) rfl)
            (Does.step (Does.step (hd _) (State.updRd_does _ _ _ _) rfl) (State.updSeg_does _ _ _) rfl))
            (Does.step (Does.step (hd _) (State.count_does _ _) rfl) (State.updSeg_does _ _ _) rfl)
        · exact Does.step (hd _) (State.updSeg_does _ _ _) rfl
    · exact Does.refl _ _
  · exact Does.refl _ _

theorem State.segOverload_does (s : State) (g : Fin 16) : Does [.regs, .log, .summary, .root] s (State.segOverload s g) := by
  unfold State.segOverload
  exact Does.ite (Does.step ((State.segOff_does _ _ _).mono rfl) (State.flag_does _ _ _) rfl) (Does.refl _ _)

theorem State.settleRate_does (s : State) : Does [.regs, .log, .summary] s (State.settleRate s) := by
  unfold State.settleRate
  exact Does.ite (Does.refl _ _) (Does.step ((State.setFld_does _ _ _ _ _).mono rfl) (State.flag_does _ _ _) rfl)

theorem State.roundStart_does (s : State) (prepared : Bool) : Does [.regs, .log, .summary, .root, .sent] s (State.roundStart
    s prepared) := by
  unfold State.roundStart
  exact Does.ite (Does.refl _ _) (Does.ite (Does.refl _ _) (Does.ite ((State.settleRate_does _).mono rfl) (Does.step (Does.step
    (Does.foldl (fun _ _ => (Does.step (Does.ite ((State.sync_does _ _ _ _).mono rfl) (Does.refl _ _)) (State.updSeg_does _ _
    _) rfl)) (Does.put_root (Does.refl _ _) _ rfl)) (State.flag_does _ _ _) rfl) (State.settleRate_does _) rfl)))

theorem State.roundOverrun_does (s : State) : Does [.regs, .log, .summary] s (State.roundOverrun s) := by
  unfold State.roundOverrun
  exact Does.ite (Does.step (Does.step ((State.count_does _ _).mono rfl) (State.flag_does _ _ _) rfl) (State.settleRate_does _)
    rfl) (Does.refl _ _)

theorem State.startCheck_does (s : State) (g : Fin 16) (high : Bool) : Does [.regs, .log, .summary, .root] s
    (State.startCheck s g high) := by
  unfold State.startCheck
  exact Does.ite (Does.refl _ _) (Does.ite ((State.updSeg_does _ _ _).mono rfl) (Does.step ((State.segOff_does _ _ _).mono rfl)
    (State.flag_does _ _ _) rfl))

theorem State.missSlot_does (s : State) (g : Fin 16) (k : Nat) (mis coll : Bool) : Does [.root] s (State.missSlot s g k mis
    coll) := by
  unfold State.missSlot
  exact (State.updRd_does _ _ _ _).mono rfl

theorem State.readSlot_does (s : State) (g : Fin 16) (rx : Uplink) (current : Bool) : Does [.regs, .log, .summary, .root] s (s.readSlot g rx current) := by
  unfold State.readSlot
  split
  · next r _ =>
    refine Does.ite (Does.refl _ _) ?_
    extract_lets k r' put lost
    have p : ∀ (t : State) (q : Round), Does [.regs, .log, .summary, .root] t (put t q) := fun t q => (State.updSeg_does _ _ _).mono rfl
    have m : ∀ mis coll q, Does [.regs, .log, .summary, .root] s (put (s.missSlot g k mis coll) q) := fun _ _ _ =>
      Does.trans ((State.missSlot_does _ _ _ _ _).mono rfl) (p _ _)
    refine Does.ite (Does.ite (Does.step (Does.step (p _ _) (State.count_does _ _) rfl) (State.flag_does _ _ _) rfl) (p _ _)) ?_
    cases rx with
    | frame b =>
      exact Does.ite (Does.ite (Does.trans ((State.storeReading_does _ _ _ _ _ _).mono rfl) (p _ _)) (m _ _ _))
        (Does.trans (Does.step ((State.missSlot_does _ _ _ _ _).mono rfl) (State.count_does _ _) rfl) (p _ _))
    | pre => exact Does.step (Does.step (m _ _ _) (State.count_does _ _) rfl) (State.flag_does _ _ _) rfl
    | coll => exact Does.step (Does.step (m _ _ _) (State.count_does _ _) rfl) (State.flag_does _ _ _) rfl
    | _ => exact m _ _ _
  · exact Does.refl _ _

theorem State.assignMiss_does (s : State) (g : Fin 16) (e : EnumRun) (rest : List (Found × Nat × Bool)) : Does [.regs, .log,
    .summary, .root] s (State.assignMiss s g e rest) := by
  unfold State.assignMiss
  exact Does.ite ((State.updSeg_does _ _ _).mono rfl) ((State.enumGo_does _ _ _).mono rfl)

theorem State.enumAssign_does (s : State) (g : Fin 16) (rx : Uplink) : Does [.regs, .log, .summary, .root, .sent] s (s.enumAssign g rx) := by
  unfold State.enumAssign
  split
  · next e _ =>
    split
    · refine Does.ite (Does.refl _ _) ?_
      have ht := State.enumTn_does s g e
      generalize s.enumTn g e = p at ht ⊢
      obtain ⟨tn, t⟩ := p
      have hd : ∀ bs, Does [.regs, .log, .summary, .root, .sent] s (t.exchange g 5 tn bs) := fun bs => Does.step (ht.mono rfl) (State.exchange_does _ _ _ _ _) rfl
      dsimp only
      split
      · exact Does.ite (Does.ite (Does.step (Does.step (Does.step (hd _) (State.updDir_does _ _ _ _) rfl) (State.flagIf_does _ _ _ _) rfl)
          (State.enumGo_does _ _ _) rfl) (Does.step (hd _) (State.enumGo_does _ _ _) rfl)) (Does.step (hd _) (State.assignMiss_does _ _ _ _) rfl)
      · exact Does.step (hd _) (State.assignMiss_does _ _ _ _) rfl
    · exact Does.refl _ _
  · exact Does.refl _ _

theorem State.segShort_does (s : State) (g : Fin 16) : Does [.regs, .log, .summary, .root] s (State.segShort s g) := by
  unfold State.segShort
  exact Does.ite (Does.step ((State.segOff_does _ _ _).mono rfl) (State.flag_does _ _ _) rfl) (Does.refl _ _)

theorem State.surge_does (s : State) (g : Fin 16) : Does [.regs, .wear, .log, .summary] s (State.surge s g) := by
  unfold State.surge
  exact Does.step (Does.step ((State.count_does _ _).mono rfl) (State.wearSurge_does _ _) rfl) (State.flag_does _ _ _) rfl

end Sys2Proof.Machine
end

