-- ==== Sys2Proof/Laws/DoesTime.lean ====
section
/-!
SUPPORT. What each operation of these parts may do, one lemma per operation (`Sys2Proof.Laws.Does` says what `Does`
claims): Heartwood, PTP and TP_OUT.
-/
namespace Sys2Proof.Machine

theorem State.setRate_does (s : State) (freq e dep : Int) (turn : optParam (Option (Nat × Int)) none) : Does [.heart, .time]
    s (State.setRate s freq e dep turn) := by
  unfold State.setRate
  exact Does.ite ((State.updTime_does _ _).mono rfl) (Does.step ((State.updTime_does _ _).mono rfl) (State.changeHeart_does _
    _) rfl)

theorem State.stepTo_does (s : State) (new sess : Nat) : Does [.regs, .heart, .led, .banks, .log, .summary, .loops, .root, .time, .gnss] s (s.stepTo new sess) := by
  unfold State.stepTo
  extract_lets old s1 d mv s2 s3 mc lg s4
  have h2 : Does [.regs, .heart, .led, .banks, .log, .summary, .loops, .root, .time, .gnss] s s2 := Does.step ((State.flagForced_does ..).mono rfl) (State.updTime_does _ _) rfl
  have h3 : Does [.regs, .heart, .led, .banks, .log, .summary, .loops, .root, .time, .gnss] s s3 := Does.step h2 (State.changeHeart_does _ _) rfl
  have h4 : Does [.regs, .heart, .led, .banks, .log, .summary, .loops, .root, .time, .gnss] s s4 := Does.put_banks (Does.put_led h3 s4.led rfl) s4.banks rfl
  have h5 : Does [.regs, .heart, .led, .banks, .log, .summary, .loops, .root, .time, .gnss] s ((s4.loopsStepped old new).rootStepped d new) :=
    Does.step (Does.step h4 (State.loopsStepped_does _ _ _) rfl) (State.rootStepped_does _ _ _) rfl
  exact Does.put_gnss h5 _ rfl

theorem State.stepToSource_does (s : State) (i : SrcId) (sess : optParam Nat 255) : Does [.regs, .heart, .led, .banks, .log,
    .summary, .loops, .root, .time, .gnss] s (State.stepToSource s i sess) := by
  unfold State.stepToSource
  exact Does.step ((State.stepTo_does _ _ _).mono rfl) (State.setRate_does _ _ _ _ _) rfl

theorem State.settleStep_does (s : State) : Does [.regs, .heart, .led, .banks, .log, .summary, .loops, .root, .time, .gnss] s
    (State.settleStep s) := by
  unfold State.settleStep
  exact Does.ite (by
    try dsimp only
    split
    · exact (Does.ite ((State.updTime_does _ _).mono rfl) ((State.stepToSource_does _ _ _).mono rfl))
    · exact (Does.refl _ _)) (Does.refl _ _)

theorem State.settleUtc_does (s : State) : Does [.regs] s (State.settleUtc s) := by
  unfold State.settleUtc
  exact by
    try dsimp only
    split
    · exact (Does.refl _ _)
    · exact (by
      try dsimp only
      split
      · exact ((State.wr_does _ _ _).mono rfl)
      · exact (Does.refl _ _))

theorem State.servo_does (s : State) (meas : optParam (Option (Int × Nat)) none) : Does [.regs, .heart, .led, .banks, .log,
    .summary, .loops, .root, .time, .gnss] s (State.servo s meas) := by
  unfold State.servo
  exact by
    try dsimp only
    split
    · exact (Does.refl _ _)
    · exact (Does.ite (Does.ite ((State.stepToSource_does _ _ _).mono rfl) ((State.setRate_does _ _ _ _ _).mono rfl)) (Does.step ((State.updTime_does _ _).mono rfl) (State.setRate_does _ _ _ _ _) rfl))

theorem State.settleActive_does (s : State) : Does [.regs, .heart, .led, .banks, .log, .summary, .loops, .root, .time, .gnss]
    s (State.settleActive s) := by
  unfold State.settleActive
  exact Does.ite (Does.refl _ _) (by
    try dsimp only
    split
    · exact (Does.step (Does.step (Does.step ((State.updTime_does _ _).mono rfl) (State.flag_does _ _ _) rfl) (State.flagIf_does _ _ _ _) rfl) (State.setRate_does _ _ _ _ _) rfl)
    · exact (Does.step (Does.step (Does.step (Does.step ((State.updTime_does _ _).mono rfl) (State.flag_does _ _ _) rfl) (State.flagIf_does _ _ _ _) rfl) (State.servo_does _ _) rfl) (State.settleUtc_does _) rfl))

theorem State.updSrc_does (s : State) (i : SrcId) (f : TimeSrc → TimeSrc) : Does [.time] s (State.updSrc s i f) := by
  unfold State.updSrc
  exact by
    try dsimp only
    split
    · exact ((State.updTime_does _ _).mono rfl)
    · exact ((State.updTime_does _ _).mono rfl)

theorem State.distrust_does (s : State) (i : SrcId) : Does [.regs, .heart, .led, .banks, .log, .summary, .loops, .root,
    .time, .gnss] s (State.distrust s i) := by
  unfold State.distrust
  exact Does.step ((State.updSrc_does _ _ _).mono rfl) (State.settleActive_does _) rfl

theorem State.srcLost_does (s : State) (i : SrcId) : Does [.regs, .heart, .led, .banks, .log, .summary, .loops, .root, .time,
    .gnss] s (State.srcLost s i) := by
  unfold State.srcLost
  exact Does.step (Does.step ((State.flagIf_does _ _ _ _).mono rfl) (State.distrust_does _ _) rfl) (State.updSrc_does _ _ _)
    rfl

theorem State.timeOff_does (s : State) : Does [.regs, .heart, .led, .banks, .log, .summary, .loops, .root, .time, .gnss] s
    (State.timeOff s) := by
  unfold State.timeOff
  exact Does.step (Does.step ((State.updTime_does _ _).mono rfl) (State.settleActive_does _) rfl) (State.updTime_does _ _) rfl

theorem State.timeFault_does (s : State) : Does [.regs, .heart, .led, .banks, .log, .summary, .loops, .root, .time, .gnss] s
    (State.timeFault s) := by
  unfold State.timeFault
  exact Does.ite (Does.step (Does.step (Does.put_heart (Does.step ((State.timeOff_does _).mono rfl) (State.updTime_does _ _)
    rfl) _ rfl) (State.setFld_does _ _ _ _ _) rfl) (State.flag_does _ _ _) rfl) (Does.put_heart (Does.step ((State.timeOff_does
    _).mono rfl) (State.updTime_does _ _) rfl) _ rfl)

theorem State.qualify_does (s : State) (i : SrcId) : Does [.time] s (State.qualify s i) := by
  unfold State.qualify
  exact (State.updSrc_does _ _ _).mono rfl

theorem State.updPtp_does (s : State) (f : Ptp → Ptp) : Does [.time] s (State.updPtp s f) := by
  unfold State.updPtp
  exact (State.updTime_does _ _).mono rfl

theorem State.tpStart_does (s : State) : Does [.time] s (State.tpStart s) := by
  unfold State.tpStart
  exact (State.updTime_does _ _).mono rfl

theorem State.timeStart_does (s : State) : Does [.time] s (State.timeStart s) := by
  unfold State.timeStart
  exact Does.step ((State.tpStart_does _).mono rfl) (State.updPtp_does _ _) rfl

theorem State.postMeas_does (s : State) : Does [.regs] s (State.postMeas s) := by
  unfold State.postMeas
  exact (State.post_does _ _ _ _).mono rfl

theorem State.measured_does (s : State) (i : SrcId) (o : Int) : Does [.regs, .freeCtr, .heart, .led, .banks, .log, .summary,
    .loops, .root, .time, .gnss] s (State.measured s i o) := by
  unfold State.measured
  exact Does.step (Does.ite (Does.step (Does.step (Does.ite (Does.step (Does.step (Does.step ((State.tick_does _).mono rfl)
    (State.updSrc_does _ _ _) rfl) (State.flag_does _ _ _) rfl) (State.distrust_does _ _) rfl) (Does.step (Does.step
    ((State.tick_does _).mono rfl) (State.updSrc_does _ _ _) rfl) (State.qualify_does _ _) rfl)) (State.servo_does _ _) rfl)
    (State.settleUtc_does _) rfl) (Does.ite (Does.step (Does.step (Does.step ((State.tick_does _).mono rfl) (State.updSrc_does
    _ _ _) rfl) (State.flag_does _ _ _) rfl) (State.distrust_does _ _) rfl) (Does.step (Does.step ((State.tick_does _).mono
    rfl) (State.updSrc_does _ _ _) rfl) (State.qualify_does _ _) rfl))) (State.postMeas_does _) rfl

theorem State.ptpOffset_does (s : State) (p : Fin 2) (master : Int) (t2 : Nat) : Does [.regs, .freeCtr, .heart, .led, .banks,
    .log, .summary, .loops, .root, .time, .gnss] s (State.ptpOffset s p master t2) := by
  unfold State.ptpOffset
  exact by
    try dsimp only
    split
    · exact ((State.updPtp_does _ _).mono rfl)
    · exact (Does.step (Does.ite (Does.step ((State.updPtp_does _ _).mono rfl) (State.updPtp_does _ _) rfl) ((State.updPtp_does _ _).mono rfl)) (State.measured_does _ _ _) rfl)

theorem State.ptpFollowUp_does (s : State) (p : Fin 2) (m : PtpMsg) : Does [.regs, .freeCtr, .heart, .led, .banks, .log,
    .summary, .loops, .root, .time, .gnss] s (State.ptpFollowUp s p m) := by
  unfold State.ptpFollowUp
  exact Does.ite (Does.refl _ _) (by
    try dsimp only
    split
    · exact (Does.ite (Does.refl _ _) (Does.step ((State.updPtp_does _ _).mono rfl) (State.ptpOffset_does _ _ _ _) rfl))
    · exact (Does.refl _ _))

theorem State.newDelay_does (s : State) (d : Int) : Does [.regs, .heart, .led, .banks, .log, .summary, .loops, .root, .time,
    .gnss] s (State.newDelay s d) := by
  unfold State.newDelay
  exact Does.ite (Does.step (Does.step ((State.updPtp_does _ _).mono rfl) (State.flag_does _ _ _) rfl) (State.distrust_does _
    _) rfl) ((State.updPtp_does _ _).mono rfl)

theorem State.ptpDelayResp_does (s : State) (p : Fin 2) (m : PtpMsg) : Does [.regs, .heart, .led, .banks, .log, .summary,
    .loops, .root, .time, .gnss] s (State.ptpDelayResp s p m) := by
  unfold State.ptpDelayResp
  exact Does.ite (Does.refl _ _) (by
    try dsimp only
    split
    · exact (Does.ite (Does.refl _ _) (Does.step ((State.updPtp_does _ _).mono rfl) (State.newDelay_does _ _) rfl))
    · exact (Does.refl _ _))

theorem State.timeBoot_does (s : State) (runMs : Nat) : Does [.heart, .time] s (State.timeBoot s runMs) := by
  unfold State.timeBoot
  exact Does.step (Does.put_heart ((State.updTime_does _ _).mono rfl) _ rfl) (State.timeStart_does _) rfl

theorem State.timeReturn_does (s : State) (dur : Nat) : Does [.regs, .heart, .log, .summary, .loops, .time] s
    (State.timeReturn s dur) := by
  unfold State.timeReturn
  exact Does.step (Does.step (Does.step ((State.updTime_does _ _).mono rfl) (State.changeHeart_does _ _) rfl)
    (State.loopsPassed_does _ _) rfl) (State.updPtp_does _ _) rfl

theorem State.srcCfgWritten_does (s : State) (old : Word) : Does [.regs, .heart, .led, .banks, .log, .summary, .loops, .root,
    .time, .gnss] s (State.srcCfgWritten s old) := by
  unfold State.srcCfgWritten
  exact Does.ite (Does.ite (Does.ite (Does.step (Does.ite (Does.ite (Does.refl _ _) ((State.updSrc_does _ _ _).mono rfl))
    (Does.step (Does.ite (Does.refl _ _) ((State.updSrc_does _ _ _).mono rfl)) (State.updSrc_does _ _ _) rfl))
    (State.settleActive_does _) rfl) (Does.step (Does.step (Does.ite (Does.ite (Does.refl _ _) ((State.updSrc_does _ _ _).mono
    rfl)) (Does.step (Does.ite (Does.refl _ _) ((State.updSrc_does _ _ _).mono rfl)) (State.updSrc_does _ _ _) rfl))
    (State.settleActive_does _) rfl) (State.updSrc_does _ _ _) rfl)) (Does.step (Does.ite (Does.step (Does.ite (Does.ite
    (Does.refl _ _) ((State.updSrc_does _ _ _).mono rfl)) (Does.step (Does.ite (Does.refl _ _) ((State.updSrc_does _ _ _).mono
    rfl)) (State.updSrc_does _ _ _) rfl)) (State.settleActive_does _) rfl) (Does.step (Does.step (Does.ite (Does.ite (Does.refl
    _ _) ((State.updSrc_does _ _ _).mono rfl)) (Does.step (Does.ite (Does.refl _ _) ((State.updSrc_does _ _ _).mono rfl))
    (State.updSrc_does _ _ _) rfl)) (State.settleActive_does _) rfl) (State.updSrc_does _ _ _) rfl)) (State.updSrc_does _ _ _)
    rfl)) (Does.step (Does.ite (Does.ite (Does.step (Does.ite (Does.ite (Does.refl _ _) ((State.updSrc_does _ _ _).mono rfl))
    (Does.step (Does.ite (Does.refl _ _) ((State.updSrc_does _ _ _).mono rfl)) (State.updSrc_does _ _ _) rfl))
    (State.settleActive_does _) rfl) (Does.step (Does.step (Does.ite (Does.ite (Does.refl _ _) ((State.updSrc_does _ _ _).mono
    rfl)) (Does.step (Does.ite (Does.refl _ _) ((State.updSrc_does _ _ _).mono rfl)) (State.updSrc_does _ _ _) rfl))
    (State.settleActive_does _) rfl) (State.updSrc_does _ _ _) rfl)) (Does.step (Does.ite (Does.step (Does.ite (Does.ite
    (Does.refl _ _) ((State.updSrc_does _ _ _).mono rfl)) (Does.step (Does.ite (Does.refl _ _) ((State.updSrc_does _ _ _).mono
    rfl)) (State.updSrc_does _ _ _) rfl)) (State.settleActive_does _) rfl) (Does.step (Does.step (Does.ite (Does.ite (Does.refl
    _ _) ((State.updSrc_does _ _ _).mono rfl)) (Does.step (Does.ite (Does.refl _ _) ((State.updSrc_does _ _ _).mono rfl))
    (State.updSrc_does _ _ _) rfl)) (State.settleActive_does _) rfl) (State.updSrc_does _ _ _) rfl)) (State.updSrc_does _ _ _)
    rfl)) (State.updPtp_does _ _) rfl)

theorem State.timeCmd_does (s : State) (c sess : Nat) : Does [.regs, .heart, .led, .banks, .log, .summary, .loops, .root,
    .time, .gnss] s (State.timeCmd s c sess) := by
  unfold State.timeCmd
  exact by
    try dsimp only
    split
    · exact (by
      try dsimp only
      split
      · exact ((State.stepToSource_does _ _ _).mono rfl)
      · exact (Does.refl _ _))
    · exact (Does.step (Does.step ((State.stepTo_does _ _ _).mono rfl) (State.updTime_does _ _) rfl) (State.flagIf_does _ _ _ _) rfl)
    all_goals exact (Does.refl _ _)

theorem State.srcFails_does (s : State) (i : SrcId) : Does [.regs, .heart, .led, .banks, .log, .summary, .loops, .root,
    .time, .gnss] s (State.srcFails s i) := by
  unfold State.srcFails
  exact Does.step ((State.updSrc_does _ _ _).mono rfl) (State.distrust_does _ _) rfl

theorem State.rejudgePtp_does (s : State) : Does [.regs, .heart, .led, .banks, .log, .summary, .loops, .root, .time, .gnss] s
    (State.rejudgePtp s) := by
  unfold State.rejudgePtp
  exact by
    try dsimp only
    split
    · exact (Does.refl _ _)
    · exact (Does.ite ((State.srcFails_does _ _).mono rfl) (Does.step ((State.updSrc_does _ _ _).mono rfl) (State.qualify_does _ _) rfl))

theorem State.setParent_does (s : State) (q : Parent) : Does [.regs, .heart, .led, .banks, .log, .summary, .loops, .root,
    .time, .gnss] s (State.setParent s q) := by
  unfold State.setParent
  exact Does.ite (Does.step (Does.step (Does.step ((State.updPtp_does _ _).mono rfl) (State.updSrc_does _ _ _) rfl)
    (State.flag_does _ _ _) rfl) (State.distrust_does _ _) rfl) (Does.step ((State.updPtp_does _ _).mono rfl)
    (State.updSrc_does _ _ _) rfl)

theorem State.ptpAnnounce_does (s : State) (p : Fin 2) (m : PtpMsg) (a : Announce) : Does [.regs, .heart, .led, .banks, .log,
    .summary, .loops, .root, .time, .gnss] s (State.ptpAnnounce s p m a) := by
  unfold State.ptpAnnounce
  exact Does.ite (Does.refl _ _) (Does.ite (Does.ite (Does.step ((State.updPtp_does _ _).mono rfl) (State.srcLost_does _ _)
    rfl) (Does.refl _ _)) (Does.ite (Does.ite (Does.step ((State.updPtp_does _ _).mono rfl) (State.srcLost_does _ _) rfl)
    (Does.refl _ _)) (Does.ite (Does.ite (Does.step ((State.setParent_does _ _).mono rfl) (State.srcFails_does _ _) rfl)
    (Does.step (Does.step ((State.setParent_does _ _).mono rfl) (State.qualify_does _ _) rfl) (State.settleUtc_does _) rfl))
    (Does.refl _ _))))

theorem State.crossCheck_does (s : State) : Does [.regs, .heart, .led, .banks, .log, .summary, .loops, .root, .time, .gnss] s
    (State.crossCheck s) := by
  unfold State.crossCheck
  exact Does.ite (Does.refl _ _) (Does.ite ((State.updTime_does _ _).mono rfl) (Does.ite ((State.updTime_does _ _).mono rfl)
    (Does.step (Does.step (Does.step (Does.step (Does.step ((State.updTime_does _ _).mono rfl) (State.flag_does _ _ _) rfl)
    (State.updTime_does _ _) rfl) (State.qualify_does _ _) rfl) (State.qualify_does _ _) rfl) (State.settleActive_does _)
    rfl)))

theorem State.tpPulse_does (s : State) : Does [.time] s (State.tpPulse s) := by
  unfold State.tpPulse
  exact Does.ite ((State.updTime_does _ _).mono rfl) (Does.refl _ _)

theorem State.ptpOut_does (s : State) (p : Fin 2) (peer : Bool) (msg : List Byte) : Does [.sent] s (State.ptpOut s p peer
    msg) := by
  unfold State.ptpOut
  exact Does.ite ((State.send_does _ _ _).mono rfl) (Does.refl _ _)

theorem State.ptpDelaySend_does (s : State) : Does [.time, .sent] s (State.ptpDelaySend s) := by
  unfold State.ptpDelaySend
  exact Does.ite (Does.refl _ _) (Does.ite (Does.foldl (fun _ _ => (Does.ite (Does.step ((State.ptpOut_does _ _ _ _).mono rfl) (State.updPtp_does _ _) rfl) (Does.refl _ _))) ((State.updPtp_does _ _).mono rfl)) (by
    try dsimp only
    split
    · exact (Does.refl _ _)
    · exact (Does.step ((State.ptpOut_does _ _ _ _).mono rfl) (State.updPtp_does _ _) rfl)))

theorem State.ptpDelayAnswer_does (s : State) (p : Fin 2) (m : PtpMsg) : Does [.sent] s (State.ptpDelayAnswer s p m) := by
  unfold State.ptpDelayAnswer
  exact Does.ite (Does.refl _ _) ((State.ptpOut_does _ _ _ _).mono rfl)

theorem State.ptpDelayReq_does (s : State) (rx : Option (Fin 2 × PtpMsg)) : Does [.time, .sent] s (State.ptpDelayReq s rx) :=
    by
  unfold State.ptpDelayReq
  exact by
    try dsimp only
    split
    · exact ((State.ptpDelaySend_does _).mono rfl)
    · exact ((State.ptpDelayAnswer_does _ _ _).mono rfl)

theorem State.setPdelay_does (s : State) (p : Fin 2) (d : Int) : Does [.regs, .heart, .led, .banks, .log, .summary, .loops,
    .root, .time, .gnss] s (State.setPdelay s p d) := by
  unfold State.setPdelay
  exact by
    try dsimp only
    split
    · exact (Does.ite (Does.step (Does.step ((State.updPtp_does _ _).mono rfl) (State.wr_does _ _ _) rfl) (State.newDelay_does _ _) rfl) (Does.step ((State.updPtp_does _ _).mono rfl) (State.wr_does _ _ _) rfl))
    · exact (Does.step ((State.updPtp_does _ _).mono rfl) (State.wr_does _ _ _) rfl)

theorem State.ptpPdelayFollowUp_does (s : State) (p : Fin 2) (m : PtpMsg) : Does [.regs, .heart, .led, .banks, .log,
    .summary, .loops, .root, .time, .gnss] s (State.ptpPdelayFollowUp s p m) := by
  unfold State.ptpPdelayFollowUp
  exact Does.ite (Does.refl _ _) (by
    try dsimp only
    split
    · exact (Does.ite (Does.refl _ _) ((State.setPdelay_does _ _ _).mono rfl))
    · exact (Does.refl _ _))

theorem State.ptpForward_does (s : State) (p : Fin 2) (udp residence : Nat) (msg : List Byte) : Does [.regs, .sent] s
    (State.ptpForward s p udp residence msg) := by
  unfold State.ptpForward
  exact Does.ite (Does.refl _ _) (Does.ite ((State.send_does _ _ _).mono rfl) (Does.step ((State.send_does _ _ _).mono rfl)
    (State.count_does _ _) rfl))

theorem State.ptpPdelayResp_does (s : State) (p : Fin 2) (m : PtpMsg) : Does [.regs, .heart, .led, .banks, .log, .summary,
    .loops, .root, .time, .gnss] s (State.ptpPdelayResp s p m) := by
  unfold State.ptpPdelayResp
  exact Does.ite (Does.refl _ _) (by
    try dsimp only
    split
    · exact (Does.ite (Does.refl _ _) (Does.ite ((State.updPtp_does _ _).mono rfl) ((State.setPdelay_does _ _ _).mono rfl)))
    · exact (Does.refl _ _))

theorem State.ptpPdelayReq_does (s : State) (p : Fin 2) (m : PtpMsg) (turn : Nat) : Does [.sent] s (State.ptpPdelayReq s p m
    turn) := by
  unfold State.ptpPdelayReq
  exact Does.ite (Does.refl _ _) (Does.step ((State.ptpOut_does _ _ _ _).mono rfl) (State.ptpOut_does _ _ _ _) rfl)

theorem State.ptpLinkDown_does (s : State) (p : Fin 2) : Does [.regs, .heart, .led, .banks, .log, .summary, .loops, .root,
    .time, .gnss] s (State.ptpLinkDown s p) := by
  unfold State.ptpLinkDown
  exact by
    try dsimp only
    split
    · exact (Does.ite (Does.step ((State.srcLost_does _ _).mono rfl) (State.updPtp_does _ _) rfl) (Does.refl _ _))
    · exact (by
      try dsimp only
      split
      · exact (Does.ite ((State.updPtp_does _ _).mono rfl) (Does.refl _ _))
      · exact (Does.refl _ _))

theorem State.ptpSync_does (s : State) (p : Fin 2) (m : PtpMsg) : Does [.regs, .freeCtr, .heart, .led, .banks, .log,
    .summary, .loops, .root, .time, .gnss] s (State.ptpSync s p m) := by
  unfold State.ptpSync
  exact Does.ite (Does.refl _ _) (Does.ite (Does.step (Does.step (Does.step ((State.updPtp_does _ _).mono rfl)
    (State.updSrc_does _ _ _) rfl) (State.qualify_does _ _) rfl) (State.updPtp_does _ _) rfl) (Does.step (Does.step (Does.step
    (Does.step ((State.updPtp_does _ _).mono rfl) (State.updSrc_does _ _ _) rfl) (State.qualify_does _ _) rfl)
    (State.updPtp_does _ _) rfl) (State.ptpOffset_does _ _ _ _) rfl))

theorem State.ptpMasterSend_does (s : State) (kind : Nat) : Does [.time, .sent] s (State.ptpMasterSend s kind) := by
  unfold State.ptpMasterSend
  exact Does.ite (Does.refl _ _) (by
    try dsimp only
    split
    · exact (Does.step (Does.foldl (fun _ _ => ((State.ptpOut_does _ _ _ _).mono rfl)) (Does.refl _ _)) (State.updPtp_does _ _) rfl)
    · exact (by
      try dsimp only
      split
      · exact (Does.step (Does.foldl (fun _ _ => ((State.ptpOut_does _ _ _ _).mono rfl)) (Does.refl _ _)) (State.updPtp_does _ _) rfl)
      · exact (Does.refl _ _))
    all_goals exact (Does.step (Does.foldl (fun _ _ => ((State.ptpOut_does _ _ _ _).mono rfl)) (Does.refl _ _)) (State.updPtp_does _ _) rfl))

theorem State.ptpLoss_does (s : State) : Does [.regs, .heart, .led, .banks, .log, .summary, .loops, .root, .time, .gnss] s
    (State.ptpLoss s) := by
  unfold State.ptpLoss
  exact Does.ite (Does.refl _ _) (by
    try dsimp only
    split
    · exact (Does.ite (Does.step ((State.srcLost_does _ _).mono rfl) (State.updPtp_does _ _) rfl) (Does.ite (Does.step ((State.srcLost_does _ _).mono rfl) (State.updPtp_does _ _) rfl) (Does.refl _ _)))
    · exact (Does.ite ((State.updPtp_does _ _).mono rfl) (Does.refl _ _)))

theorem State.sourceTrusted_does (s : State) (i : SrcId) : Does [.regs, .heart, .led, .banks, .log, .summary, .loops, .root,
    .time, .gnss] s (State.sourceTrusted s i) := by
  unfold State.sourceTrusted
  exact Does.ite (Does.refl _ _) (Does.step (Does.step (Does.step ((State.flagIf_does _ _ _ _).mono rfl) (State.updTime_does _
    _) rfl) (State.updSrc_does _ _ _) rfl) (State.settleActive_does _) rfl)

theorem State.tpPulseEnd_does (s : State) : Does [.time] s (State.tpPulseEnd s) := by
  unfold State.tpPulseEnd
  exact by
    try dsimp only
    split
    · exact (Does.ite ((State.updTime_does _ _).mono rfl) (Does.refl _ _))
    · exact (Does.refl _ _)

end Sys2Proof.Machine
end

