-- ==== Sys2Proof/Laws/DoesGnss.lean ====
section
/-!
SUPPORT. What each operation of these parts may do, one lemma per operation (`Sys2Proof.Laws.Does` says what `Does`
claims): the GNSS receiver.
-/
namespace Sys2Proof.Machine

theorem State.updGnss_does (s : State) (f : Gnss → Gnss) : Does [.gnss] s (State.updGnss s f) := by
  unfold State.updGnss
  exact Does.put_gnss (Does.refl _ _) _ rfl

theorem State.gnssBoot_does (s : State) : Does [.gnss] s (State.gnssBoot s) := by
  unfold State.gnssBoot
  exact (State.updGnss_does _ _).mono rfl

theorem State.gnssStop_does (s : State) : Does [.regs, .heart, .led, .banks, .log, .summary, .loops, .xf, .root, .time,
    .gnss] s (State.gnssStop s) := by
  unfold State.gnssStop
  exact Does.step (Does.step (Does.step (Does.step ((State.updGnss_does _ _).mono rfl) (State.xfGnssDrop_does _) rfl)
    (State.flagIf_does _ _ _ _) rfl) (State.setFld_does _ _ _ _ _) rfl) (State.srcLost_does _ _) rfl

theorem State.gnssStart_does (s : State) : Does [.gnss] s (State.gnssStart s) := by
  unfold State.gnssStart
  exact (State.updGnss_does _ _).mono rfl

theorem State.settleGnss_does (s : State) : Does [.regs, .heart, .led, .banks, .log, .summary, .loops, .xf, .root, .time,
    .gnss] s (State.settleGnss s) := by
  unfold State.settleGnss
  exact Does.ite (Does.ite (Does.ite ((State.gnssStop_does _).mono rfl) (Does.refl _ _)) (Does.step (Does.ite
    ((State.gnssStop_does _).mono rfl) (Does.refl _ _)) (State.updGnss_does _ _) rfl)) (Does.ite ((State.gnssStart_does _).mono
    rfl) (Does.refl _ _))

theorem State.gnssFault_does (s : State) : Does [.regs, .log, .summary, .xf, .gnss] s (State.gnssFault s) := by
  unfold State.gnssFault
  exact Does.step ((State.updGnss_does _ _).mono rfl) (State.xfGnssDrop_does _) rfl

theorem State.gnssTcxoLost_does (s : State) (was : Bool) : Does [.regs, .heart, .led, .banks, .log, .summary, .loops, .xf,
    .root, .time, .gnss] s (State.gnssTcxoLost s was) := by
  unfold State.gnssTcxoLost
  exact Does.ite (Does.step ((State.flagIf_does _ _ _ _).mono rfl) (State.gnssStop_does _) rfl) ((State.flagIf_does _ _ _
    _).mono rfl)

theorem State.gnssConfig_does (s : State) : Does [.gnss] s (State.gnssConfig s) := by
  unfold State.gnssConfig
  exact Does.ite (Does.refl _ _) ((State.updGnss_does _ _).mono rfl)

theorem State.gnssCommit_does (s : State) : Does [.gnss] s (State.gnssCommit s) := by
  unfold State.gnssCommit
  exact (State.updGnss_does _ _).mono rfl

theorem State.updGch_does (s : State) (c : Fin 64) (f : GnssCh → GnssCh) : Does [.gnss] s (State.updGch s c f) := by
  unfold State.updGch
  exact (State.updGnss_does _ _).mono rfl

theorem State.channelLock_does (s : State) (c : Fin 64) : Does [.regs, .log, .summary, .gnss] s (State.channelLock s c) := by
  unfold State.channelLock
  exact by
    try dsimp only
    split
    · exact (Does.refl _ _)
    · exact (Does.ite (Does.refl _ _) (Does.ite (Does.refl _ _) (Does.step ((State.updGch_does _ _ _).mono rfl) (State.flagIf_does _ _ _ _) rfl)))

theorem State.antShort_does (s : State) : Does [.regs, .heart, .led, .banks, .log, .summary, .loops, .root, .time, .gnss] s
    (State.antShort s) := by
  unfold State.antShort
  exact Does.ite (Does.refl _ _) (Does.step (Does.step ((State.updGnss_does _ _).mono rfl) (State.flag_does _ _ _) rfl)
    (State.srcLost_does _ _) rfl)

theorem State.handOver_does (s : State) (x : Sat) (smp code : Nat) (dop : Int) : Does [.gnss] s (State.handOver s x smp code
    dop) := by
  unfold State.handOver
  exact Does.ite (Does.refl _ _) (by
    try dsimp only
    split
    · exact ((State.updGch_does _ _ _).mono rfl)
    · exact (Does.refl _ _))

theorem State.acqStart_does (s : State) (visible : List (Sat × Int)) : Does [.gnss] s (State.acqStart s visible) := by
  unfold State.acqStart
  exact Does.ite ((State.updGnss_does _ _).mono rfl) (Does.refl _ _)

theorem State.postCh_does (s : State) (ms : List GnssMeas) (devs res : List (Fin 64 × Int)) (c : Fin 64) : Does [.regs] s
    (State.postCh s ms devs res c) := by
  unfold State.postCh
  exact by
    try dsimp only
    split
    · exact (Does.ite (Does.refl _ _) ((State.post_does _ _ _ _).mono rfl))
    · exact (by
      try dsimp only
      split
      · exact ((State.post_does _ _ _ _).mono rfl)
      · exact ((State.post_does _ _ _ _).mono rfl))

theorem State.gnssReturn_does (s : State) (ovf : Nat) : Does [.regs, .heart, .led, .banks, .log, .summary, .loops, .xf,
    .root, .time, .gnss] s (State.gnssReturn s ovf) := by
  unfold State.gnssReturn
  exact Does.step (Does.ite (Does.refl _ _) (Does.step ((State.wr_does _ _ _).mono rfl) (State.flag_does _ _ _) rfl))
    (State.settleGnss_does _) rfl

theorem State.navDecode_does (s : State) (c : Fin 64) (raw : List Bool) (ago : Nat) : Does [.regs, .gnss] s (State.navDecode
    s c raw ago) := by
  unfold State.navDecode
  exact by
    try dsimp only
    split
    · exact (Does.refl _ _)
    · exact (Does.ite (Does.refl _ _) (Does.ite (Does.step (Does.step ((State.updGnss_does _ _).mono rfl) (State.wr_does _ _ _) rfl) (State.wrs_does _ _ _) rfl) ((State.updGnss_does _ _).mono rfl)))

theorem State.dropCh_does (s : State) (c : Fin 64) : Does [.regs, .log, .summary, .gnss] s (State.dropCh s c) := by
  unfold State.dropCh
  exact Does.step (Does.step ((State.updGnss_does _ _).mono rfl) (State.updGch_does _ _ _) rfl) (State.flagIf_does _ _ _ _) rfl

theorem State.dropDisabled_does (s : State) : Does [.regs, .log, .summary, .gnss] s (State.dropDisabled s) := by
  unfold State.dropDisabled
  exact Does.foldl (fun _ _ => (by
    try dsimp only
    split
    · exact (Does.ite (Does.refl _ _) ((State.dropCh_does _ _).mono rfl))
    · exact (Does.refl _ _))) (Does.refl _ _)

theorem State.gnssCmd_does (s : State) (c : Nat) : Does [.regs, .heart, .led, .banks, .log, .summary, .loops, .xf, .root,
    .time, .gnss] s (State.gnssCmd s c) := by
  unfold State.gnssCmd
  exact by
    try dsimp only
    split
    · exact (Does.ite (Does.step (Does.step ((State.updGnss_does _ _).mono rfl) (State.gnssStop_does _) rfl) (State.gnssStart_does _) rfl) ((State.updGnss_does _ _).mono rfl))
    · exact (Does.ite ((State.updGnss_does _ _).mono rfl) (Does.refl _ _))
    all_goals exact (Does.refl _ _)

theorem State.setFix_does (s : State) (f : Nat) : Does [.regs, .log, .summary, .gnss] s (State.setFix s f) := by
  unfold State.setFix
  exact Does.step ((State.updGnss_does _ _).mono rfl) (State.flagIf_does _ _ _ _) rfl

theorem State.noSolution_does (s : State) : Does [.regs, .heart, .led, .banks, .log, .summary, .loops, .root, .time, .gnss] s
    (State.noSolution s) := by
  unfold State.noSolution
  exact Does.step (Does.step (Does.step ((State.setFld_does _ _ _ _ _).mono rfl) (State.updGnss_does _ _) rfl)
    (State.setFix_does _ _) rfl) (State.srcLost_does _ _) rfl

theorem State.channelLoss_does (s : State) (c : Fin 64) (cn0 : Nat) : Does [.regs, .log, .summary, .gnss] s
    (State.channelLoss s c cn0) := by
  unfold State.channelLoss
  exact Does.ite ((State.dropCh_does _ _).mono rfl) (Does.refl _ _)

theorem State.shedGo_does (s : State) (n k : Nat) : Does [.regs, .log, .summary, .gnss] s (s.shedGo n k) := by
  induction k generalizing s with
  | zero => exact Does.refl _ _
  | succ k ih =>
    unfold State.shedGo
    refine Does.ite (Does.refl _ _) ?_
    split
    · exact Does.refl _ _
    · exact Does.trans (State.dropCh_does _ _) (ih _)

theorem State.setThr_does (s : State) (n : Nat) : Does [.regs, .heart, .led, .banks, .log, .summary, .loops, .xf, .root,
    .time, .gnss] s (State.setThr s n) := by
  unfold State.setThr
  exact Does.ite (Does.refl _ _) (Does.step (Does.step (Does.step ((State.updGnss_does _ _).mono rfl) (State.flagIf_does _ _ _
    _) rfl) (State.shedGo_does _ _ _) rfl) (State.settleGnss_does _) rfl)

theorem State.judgeExcl_does (s : State) (d : Fin 64 × Int) : Does [.gnss] s (State.judgeExcl s d) := by
  unfold State.judgeExcl
  exact (State.updGch_does _ _ _).mono rfl

theorem State.survey_does (s : State) (pos : Int × Int × Int) (fx : GnssFix) : Does [.regs, .log, .summary, .gnss] s
    (State.survey s pos fx) := by
  unfold State.survey
  exact Does.ite (Does.refl _ _) (by
    try dsimp only
    first
    | exact (by
      try dsimp only
      first
      | exact (Does.ite ((State.updGnss_does _ _).mono rfl) (Does.step ((State.updGnss_does _ _).mono rfl) (State.flag_does _ _ _) rfl))
      | (split; exact (Does.ite ((State.updGnss_does _ _).mono rfl) (Does.step ((State.updGnss_does _ _).mono rfl) (State.flag_does _ _ _) rfl))))
    | (split; exact (by
      try dsimp only
      first
      | exact (Does.ite ((State.updGnss_does _ _).mono rfl) (Does.step ((State.updGnss_does _ _).mono rfl) (State.flag_does _ _ _) rfl))
      | (split; exact (Does.ite ((State.updGnss_does _ _).mono rfl) (Does.step ((State.updGnss_does _ _).mono rfl) (State.flag_does _ _ _) rfl))))))

theorem State.judgeSuspect_does (s : State) (bad good : Bool) : Does [.regs, .heart, .led, .banks, .log, .summary, .loops,
    .root, .time, .gnss] s (State.judgeSuspect s bad good) := by
  unfold State.judgeSuspect
  exact Does.ite (Does.step (Does.step ((State.updGnss_does _ _).mono rfl) (State.flag_does _ _ _) rfl) (State.srcLost_does _
    _) rfl) ((State.updGnss_does _ _).mono rfl)

theorem State.gnssSolution_does (s : State) (ms : List GnssMeas) (fx : GnssFix) : Does [.regs, .heart, .led, .banks, .log,
    .summary, .loops, .xf, .root, .time, .gnss] s (State.gnssSolution s ms fx) := by
  unfold State.gnssSolution
  exact Does.ite ((State.setThr_does _ _).mono rfl) (by
    try dsimp only
    first
    | exact (by
      try dsimp only
      split
      · exact (Does.step (Does.foldl (fun _ _ => ((State.postCh_does _ _ _ _ _).mono rfl)) (Does.step ((State.setThr_does _ _).mono rfl) (State.updGnss_does _ _) rfl)) (State.noSolution_does _) rfl)
      · exact (Does.step (Does.foldl (fun _ _ => ((State.judgeExcl_does _ _).mono rfl)) (Does.foldl (fun _ _ => ((State.postCh_does _ _ _ _ _).mono rfl)) (Does.step ((State.setThr_does _ _).mono rfl) (State.updGnss_does _ _) rfl))) (State.noSolution_does _) rfl)
      all_goals exact (by
        try dsimp only
        first
        | exact (Does.ite (Does.step (Does.foldl (fun _ _ => ((State.judgeExcl_does _ _).mono rfl)) (Does.step (Does.step (Does.step (Does.step (Does.ite (Does.step (Does.step (Does.foldl (fun _ _ => ((State.postCh_does _ _ _ _ _).mono rfl)) (Does.step ((State.setThr_does _ _).mono rfl) (State.updGnss_does _ _) rfl)) (State.updGnss_does _ _) rfl) (State.survey_does _ _ _) rfl) (Does.foldl (fun _ _ => ((State.postCh_does _ _ _ _ _).mono rfl)) (Does.step ((State.setThr_does _ _).mono rfl) (State.updGnss_does _ _) rfl))) (State.judgeSuspect_does _ _ _) rfl) (State.setFix_does _ _) rfl) (State.post_does _ _ _ _) rfl) (State.wr_does _ _ _) rfl)) (State.updGnss_does _ _) rfl) (Does.ite (Does.step (Does.foldl (fun _ _ => ((State.judgeExcl_does _ _).mono rfl)) (Does.step (Does.step (Does.step (Does.step (Does.ite (Does.step (Does.step (Does.foldl (fun _ _ => ((State.postCh_does _ _ _ _ _).mono rfl)) (Does.step ((State.setThr_does _ _).mono rfl) (State.updGnss_does _ _) rfl)) (State.updGnss_does _ _) rfl) (State.survey_does _ _ _) rfl) (Does.foldl (fun _ _ => ((State.postCh_does _ _ _ _ _).mono rfl)) (Does.step ((State.setThr_does _ _).mono rfl) (State.updGnss_does _ _) rfl))) (State.judgeSuspect_does _ _ _) rfl) (State.setFix_does _ _) rfl) (State.post_does _ _ _ _) rfl) (State.wr_does _ _ _) rfl)) (State.updGnss_does _ _) rfl) (Does.step (Does.step (Does.step (Does.step (Does.foldl (fun _ _ => ((State.judgeExcl_does _ _).mono rfl)) (Does.step (Does.step (Does.step (Does.step (Does.ite (Does.step (Does.step (Does.foldl (fun _ _ => ((State.postCh_does _ _ _ _ _).mono rfl)) (Does.step ((State.setThr_does _ _).mono rfl) (State.updGnss_does _ _) rfl)) (State.updGnss_does _ _) rfl) (State.survey_does _ _ _) rfl) (Does.foldl (fun _ _ => ((State.postCh_does _ _ _ _ _).mono rfl)) (Does.step ((State.setThr_does _ _).mono rfl) (State.updGnss_does _ _) rfl))) (State.judgeSuspect_does _ _ _) rfl) (State.setFix_does _ _) rfl) (State.post_does _ _ _ _) rfl) (State.wr_does _ _ _) rfl)) (State.updGnss_does _ _) rfl) (State.updSrc_does _ _ _) rfl) (State.qualify_does _ _) rfl) (State.settleUtc_does _) rfl)))
        | (split; exact (Does.ite (Does.step (Does.foldl (fun _ _ => ((State.judgeExcl_does _ _).mono rfl)) (Does.step (Does.step (Does.step (Does.step (Does.ite (Does.step (Does.step (Does.foldl (fun _ _ => ((State.postCh_does _ _ _ _ _).mono rfl)) (Does.step ((State.setThr_does _ _).mono rfl) (State.updGnss_does _ _) rfl)) (State.updGnss_does _ _) rfl) (State.survey_does _ _ _) rfl) (Does.foldl (fun _ _ => ((State.postCh_does _ _ _ _ _).mono rfl)) (Does.step ((State.setThr_does _ _).mono rfl) (State.updGnss_does _ _) rfl))) (State.judgeSuspect_does _ _ _) rfl) (State.setFix_does _ _) rfl) (State.post_does _ _ _ _) rfl) (State.wr_does _ _ _) rfl)) (State.updGnss_does _ _) rfl) (Does.ite (Does.step (Does.foldl (fun _ _ => ((State.judgeExcl_does _ _).mono rfl)) (Does.step (Does.step (Does.step (Does.step (Does.ite (Does.step (Does.step (Does.foldl (fun _ _ => ((State.postCh_does _ _ _ _ _).mono rfl)) (Does.step ((State.setThr_does _ _).mono rfl) (State.updGnss_does _ _) rfl)) (State.updGnss_does _ _) rfl) (State.survey_does _ _ _) rfl) (Does.foldl (fun _ _ => ((State.postCh_does _ _ _ _ _).mono rfl)) (Does.step ((State.setThr_does _ _).mono rfl) (State.updGnss_does _ _) rfl))) (State.judgeSuspect_does _ _ _) rfl) (State.setFix_does _ _) rfl) (State.post_does _ _ _ _) rfl) (State.wr_does _ _ _) rfl)) (State.updGnss_does _ _) rfl) (Does.step (Does.step (Does.step (Does.step (Does.foldl (fun _ _ => ((State.judgeExcl_does _ _).mono rfl)) (Does.step (Does.step (Does.step (Does.step (Does.ite (Does.step (Does.step (Does.foldl (fun _ _ => ((State.postCh_does _ _ _ _ _).mono rfl)) (Does.step ((State.setThr_does _ _).mono rfl) (State.updGnss_does _ _) rfl)) (State.updGnss_does _ _) rfl) (State.survey_does _ _ _) rfl) (Does.foldl (fun _ _ => ((State.postCh_does _ _ _ _ _).mono rfl)) (Does.step ((State.setThr_does _ _).mono rfl) (State.updGnss_does _ _) rfl))) (State.judgeSuspect_does _ _ _) rfl) (State.setFix_does _ _) rfl) (State.post_does _ _ _ _) rfl) (State.wr_does _ _ _) rfl)) (State.updGnss_does _ _) rfl) (State.updSrc_does _ _ _) rfl) (State.qualify_does _ _) rfl) (State.settleUtc_does _) rfl))))))
    | (split; exact (by
      try dsimp only
      split
      · exact (Does.step (Does.foldl (fun _ _ => ((State.postCh_does _ _ _ _ _).mono rfl)) (Does.step ((State.setThr_does _ _).mono rfl) (State.updGnss_does _ _) rfl)) (State.noSolution_does _) rfl)
      · exact (Does.step (Does.foldl (fun _ _ => ((State.judgeExcl_does _ _).mono rfl)) (Does.foldl (fun _ _ => ((State.postCh_does _ _ _ _ _).mono rfl)) (Does.step ((State.setThr_does _ _).mono rfl) (State.updGnss_does _ _) rfl))) (State.noSolution_does _) rfl)
      all_goals exact (by
        try dsimp only
        first
        | exact (Does.ite (Does.step (Does.foldl (fun _ _ => ((State.judgeExcl_does _ _).mono rfl)) (Does.step (Does.step (Does.step (Does.step (Does.ite (Does.step (Does.step (Does.foldl (fun _ _ => ((State.postCh_does _ _ _ _ _).mono rfl)) (Does.step ((State.setThr_does _ _).mono rfl) (State.updGnss_does _ _) rfl)) (State.updGnss_does _ _) rfl) (State.survey_does _ _ _) rfl) (Does.foldl (fun _ _ => ((State.postCh_does _ _ _ _ _).mono rfl)) (Does.step ((State.setThr_does _ _).mono rfl) (State.updGnss_does _ _) rfl))) (State.judgeSuspect_does _ _ _) rfl) (State.setFix_does _ _) rfl) (State.post_does _ _ _ _) rfl) (State.wr_does _ _ _) rfl)) (State.updGnss_does _ _) rfl) (Does.ite (Does.step (Does.foldl (fun _ _ => ((State.judgeExcl_does _ _).mono rfl)) (Does.step (Does.step (Does.step (Does.step (Does.ite (Does.step (Does.step (Does.foldl (fun _ _ => ((State.postCh_does _ _ _ _ _).mono rfl)) (Does.step ((State.setThr_does _ _).mono rfl) (State.updGnss_does _ _) rfl)) (State.updGnss_does _ _) rfl) (State.survey_does _ _ _) rfl) (Does.foldl (fun _ _ => ((State.postCh_does _ _ _ _ _).mono rfl)) (Does.step ((State.setThr_does _ _).mono rfl) (State.updGnss_does _ _) rfl))) (State.judgeSuspect_does _ _ _) rfl) (State.setFix_does _ _) rfl) (State.post_does _ _ _ _) rfl) (State.wr_does _ _ _) rfl)) (State.updGnss_does _ _) rfl) (Does.step (Does.step (Does.step (Does.step (Does.foldl (fun _ _ => ((State.judgeExcl_does _ _).mono rfl)) (Does.step (Does.step (Does.step (Does.step (Does.ite (Does.step (Does.step (Does.foldl (fun _ _ => ((State.postCh_does _ _ _ _ _).mono rfl)) (Does.step ((State.setThr_does _ _).mono rfl) (State.updGnss_does _ _) rfl)) (State.updGnss_does _ _) rfl) (State.survey_does _ _ _) rfl) (Does.foldl (fun _ _ => ((State.postCh_does _ _ _ _ _).mono rfl)) (Does.step ((State.setThr_does _ _).mono rfl) (State.updGnss_does _ _) rfl))) (State.judgeSuspect_does _ _ _) rfl) (State.setFix_does _ _) rfl) (State.post_does _ _ _ _) rfl) (State.wr_does _ _ _) rfl)) (State.updGnss_does _ _) rfl) (State.updSrc_does _ _ _) rfl) (State.qualify_does _ _) rfl) (State.settleUtc_does _) rfl)))
        | (split; exact (Does.ite (Does.step (Does.foldl (fun _ _ => ((State.judgeExcl_does _ _).mono rfl)) (Does.step (Does.step (Does.step (Does.step (Does.ite (Does.step (Does.step (Does.foldl (fun _ _ => ((State.postCh_does _ _ _ _ _).mono rfl)) (Does.step ((State.setThr_does _ _).mono rfl) (State.updGnss_does _ _) rfl)) (State.updGnss_does _ _) rfl) (State.survey_does _ _ _) rfl) (Does.foldl (fun _ _ => ((State.postCh_does _ _ _ _ _).mono rfl)) (Does.step ((State.setThr_does _ _).mono rfl) (State.updGnss_does _ _) rfl))) (State.judgeSuspect_does _ _ _) rfl) (State.setFix_does _ _) rfl) (State.post_does _ _ _ _) rfl) (State.wr_does _ _ _) rfl)) (State.updGnss_does _ _) rfl) (Does.ite (Does.step (Does.foldl (fun _ _ => ((State.judgeExcl_does _ _).mono rfl)) (Does.step (Does.step (Does.step (Does.step (Does.ite (Does.step (Does.step (Does.foldl (fun _ _ => ((State.postCh_does _ _ _ _ _).mono rfl)) (Does.step ((State.setThr_does _ _).mono rfl) (State.updGnss_does _ _) rfl)) (State.updGnss_does _ _) rfl) (State.survey_does _ _ _) rfl) (Does.foldl (fun _ _ => ((State.postCh_does _ _ _ _ _).mono rfl)) (Does.step ((State.setThr_does _ _).mono rfl) (State.updGnss_does _ _) rfl))) (State.judgeSuspect_does _ _ _) rfl) (State.setFix_does _ _) rfl) (State.post_does _ _ _ _) rfl) (State.wr_does _ _ _) rfl)) (State.updGnss_does _ _) rfl) (Does.step (Does.step (Does.step (Does.step (Does.foldl (fun _ _ => ((State.judgeExcl_does _ _).mono rfl)) (Does.step (Does.step (Does.step (Does.step (Does.ite (Does.step (Does.step (Does.foldl (fun _ _ => ((State.postCh_does _ _ _ _ _).mono rfl)) (Does.step ((State.setThr_does _ _).mono rfl) (State.updGnss_does _ _) rfl)) (State.updGnss_does _ _) rfl) (State.survey_does _ _ _) rfl) (Does.foldl (fun _ _ => ((State.postCh_does _ _ _ _ _).mono rfl)) (Does.step ((State.setThr_does _ _).mono rfl) (State.updGnss_does _ _) rfl))) (State.judgeSuspect_does _ _ _) rfl) (State.setFix_does _ _) rfl) (State.post_does _ _ _ _) rfl) (State.wr_does _ _ _) rfl)) (State.updGnss_does _ _) rfl) (State.updSrc_does _ _ _) rfl) (State.qualify_does _ _) rfl) (State.settleUtc_does _) rfl))))))))

theorem State.acqJudge_does (s : State) (p : AcqPass) (smp : Nat) (found : List AcqBin) (x : Sat × Int) : Does [.gnss] s
    (State.acqJudge s p smp found x) := by
  unfold State.acqJudge
  exact by
    try dsimp only
    split
    · exact (Does.ite ((State.handOver_does _ _ _ _ _).mono rfl) (Does.refl _ _))
    · exact (Does.refl _ _)

theorem State.acqEnd_does (s : State) (smp : Nat) (found : List AcqBin) : Does [.regs, .log, .summary, .gnss] s (State.acqEnd
    s smp found) := by
  unfold State.acqEnd
  exact by
    try dsimp only
    split
    · exact (Does.ite (Does.refl _ _) (Does.step (Does.step (Does.step (Does.foldl (fun _ _ => ((State.acqJudge_does _ _ _ _ _).mono rfl)) (Does.refl _ _)) (State.updGnss_does _ _) rfl) (State.post_does _ _ _ _) rfl) (State.flag_does _ _ _) rfl))
    · exact (Does.refl _ _)

theorem State.gnssEpoch_does (s : State) (ref sec : Nat) (qerr : Int) : Does [.regs, .freeCtr, .heart, .led, .banks, .log,
    .summary, .loops, .root, .time, .gnss] s (State.gnssEpoch s ref sec qerr) := by
  unfold State.gnssEpoch
  exact Does.ite (Does.refl _ _) (Does.ite (Does.step ((State.updGnss_does _ _).mono rfl) (State.srcLost_does _ _) rfl)
    (Does.ite (Does.step ((State.updGnss_does _ _).mono rfl) (State.measured_does _ _ _) rfl) ((State.updGnss_does _ _).mono
    rfl)))

theorem State.antRetry_does (s : State) (limits : Bool) : Does [.gnss] s (State.antRetry s limits) := by
  unfold State.antRetry
  exact Does.ite ((State.updGnss_does _ _).mono rfl) (Does.refl _ _)

theorem State.antOpen_does (s : State) (i : Nat) : Does [.regs, .heart, .led, .banks, .log, .summary, .loops, .root, .time,
    .gnss] s (State.antOpen s i) := by
  unfold State.antOpen
  exact Does.ite (Does.refl _ _) (Does.ite (Does.step (Does.step (Does.step ((State.post_does _ _ _ _).mono rfl)
    (State.updGnss_does _ _) rfl) (State.flag_does _ _ _) rfl) (State.srcLost_does _ _) rfl) (Does.ite (Does.step
    ((State.post_does _ _ _ _).mono rfl) (State.updGnss_does _ _) rfl) ((State.post_does _ _ _ _).mono rfl)))

theorem State.acqCaptured_does (s : State) (stamp : Nat) : Does [.regs, .log, .summary, .xf, .gnss] s (State.acqCaptured s
    stamp) := by
  unfold State.acqCaptured
  exact by
    try dsimp only
    split
    · exact (Does.ite (Does.refl _ _) (by
      try dsimp only
      first
      | exact (Does.step ((State.updGnss_does _ _).mono rfl) (State.xfGnss_does _ _ _) rfl)
      | (split; exact (Does.step ((State.updGnss_does _ _).mono rfl) (State.xfGnss_does _ _ _) rfl))))
    · exact (Does.refl _ _)

theorem State.acqTimeout_does (s : State) (c : Fin 64) : Does [.regs, .log, .summary, .gnss] s (State.acqTimeout s c) := by
  unfold State.acqTimeout
  exact by
    try dsimp only
    split
    · exact (Does.ite ((State.dropCh_does _ _).mono rfl) (Does.refl _ _))
    · exact (Does.refl _ _)

end Sys2Proof.Machine
end

