-- ==== Sys2Proof/Laws/DoesThermal.lean ====
section
/-!
SUPPORT. What each operation of these parts may do, one lemma per operation (`Sys2Proof.Laws.Does` says what `Does`
claims): thermal supervision and the fans.
-/
namespace Sys2Proof.Machine

theorem State.safeFans_does (s : State) : Does [.arb, .fans] s (State.safeFans s) := by
  unfold State.safeFans
  exact Does.put_arb (Does.put_fans (Does.refl _ _) _ rfl) _ rfl

theorem State.releaseFans_does (s : State) : Does [.fans] s (State.releaseFans s) := by
  unfold State.releaseFans
  exact Does.put_fans (Does.refl _ _) _ rfl

theorem State.updFan_does (s : State) (f : Fin 8) (g : Fan → Fan) : Does [.fans] s (State.updFan s f g) := by
  unfold State.updFan
  exact Does.put_fans (Does.refl _ _) _ rfl

theorem State.fanOff_does (s : State) (f : Fin 8) (st : FanState) : Does [.arb, .fans] s (State.fanOff s f st) := by
  unfold State.fanOff
  exact Does.put_arb ((State.updFan_does _ _ _).mono rfl) _ rfl

theorem State.settleInrush_does (s : State) : Does [.regs, .fans, .log, .summary] s (State.settleInrush s) := by
  unfold State.settleInrush
  exact Does.foldl (fun _ _ => (Does.ite (Does.refl _ _) (Does.ite ((State.updFan_does _ _ _).mono rfl) (Does.ite (Does.step
    ((State.updFan_does _ _ _).mono rfl) (State.flag_does _ _ _) rfl) (Does.refl _ _))))) (Does.refl _ _)

theorem State.fanOnInterval_does (s : State) (f : Fin 8) : Does [.fans] s (State.fanOnInterval s f) := by
  unfold State.fanOnInterval
  exact (State.updFan_does _ _ _).mono rfl

theorem State.applyDuty_does (s : State) (f : Fin 8) (d : Nat) (skips : Bool) : Does [.regs, .fans, .log, .summary] s
    (State.applyDuty s f d skips) := by
  unfold State.applyDuty
  exact Does.step ((State.updFan_does _ _ _).mono rfl) (State.flagIf_does _ _ _ _) rfl

theorem State.takeTarget_does (s : State) (f : Fin 8) : Does [.regs, .arb, .fans, .log, .summary] s (State.takeTarget s f) :=
    by
  unfold State.takeTarget
  exact by
    try dsimp only
    split
    · exact (Does.ite (Does.step ((State.updFan_does _ _ _).mono rfl) (State.fanOff_does _ _ _) rfl) (Does.step ((State.updFan_does _ _ _).mono rfl) (State.applyDuty_does _ _ _ _) rfl))
    · exact (Does.ite (Does.step ((State.updFan_does _ _ _).mono rfl) (State.fanOff_does _ _ _) rfl) (Does.step ((State.updFan_does _ _ _).mono rfl) (State.updFan_does _ _ _) rfl))

theorem State.fanNewTarget_does (s : State) (f : Fin 8) : Does [.regs, .arb, .fans, .log, .summary] s (State.fanNewTarget s
    f) := by
  unfold State.fanNewTarget
  exact Does.ite (Does.ite (Does.refl _ _) ((State.fanOff_does _ _ _).mono rfl)) (by
    try dsimp only
    split
    · exact (Does.ite ((State.takeTarget_does _ _).mono rfl) ((State.updFan_does _ _ _).mono rfl))
    · exact (Does.ite (Does.refl _ _) ((State.fanOff_does _ _ _).mono rfl))
    · exact (Does.ite (Does.refl _ _) ((State.takeTarget_does _ _).mono rfl))
    · exact (Does.ite (Does.refl _ _) ((State.takeTarget_does _ _).mono rfl))
    all_goals exact (Does.refl _ _))

theorem State.fanPeriodEnd_does (s : State) (f : Fin 8) : Does [.regs, .arb, .fans, .log, .summary] s (State.fanPeriodEnd s
    f) := by
  unfold State.fanPeriodEnd
  exact Does.ite (Does.refl _ _) (Does.step ((State.fanNewTarget_does _ _).mono rfl) (State.fanOnInterval_does _ _) rfl)

theorem State.askInrush_does (s : State) (f : Fin 8) (st : FanState) : Does [.arb, .fans] s (State.askInrush s f st) := by
  unfold State.askInrush
  exact Does.put_arb ((State.updFan_does _ _ _).mono rfl) _ rfl

theorem State.fanStart_does (s : State) (f : Fin 8) : Does [.arb, .fans] s (State.fanStart s f) := by
  unfold State.fanStart
  exact Does.ite ((State.askInrush_does _ _ _).mono rfl) (Does.refl _ _)

theorem State.tachStretch_does (s : State) (f : Fin 8) (gap : Option Nat) (len : Nat) : Does [.fans] s (State.tachStretch s f
    gap len) := by
  unfold State.tachStretch
  exact Does.ite (Does.refl _ _) (by
    try dsimp only
    split
    · exact (Does.step ((State.updFan_does _ _ _).mono rfl) (State.updFan_does _ _ _) rfl)
    · exact (Does.step ((State.updFan_does _ _ _).mono rfl) (State.updFan_does _ _ _) rfl))

theorem State.nextDuty_does (s : State) (f : Fin 8) (d : Nat) : Does [.regs, .fans, .log, .summary] s (State.nextDuty s f d)
    := by
  unfold State.nextDuty
  exact Does.step ((State.updFan_does _ _ _).mono rfl) (State.flagIf_does _ _ _ _) rfl

theorem State.speedStep_does (s : State) (f : Fin 8) (r : Nat) : Does [.regs, .fans, .log, .summary] s (State.speedStep s f
    r) := by
  unfold State.speedStep
  exact Does.ite (Does.step ((State.nextDuty_does _ _ _).mono rfl) (State.updFan_does _ _ _) rfl) (Does.step
    ((State.nextDuty_does _ _ _).mono rfl) (State.updFan_does _ _ _) rfl)

theorem State.fanSpeedLoop_does (s : State) (f : Fin 8) (iPeak iMean : Nat) : Does [.regs, .fans, .log, .summary] s
    (State.fanSpeedLoop s f iPeak iMean) := by
  unfold State.fanSpeedLoop
  exact Does.ite (Does.refl _ _) (Does.step (Does.step (by
    try dsimp only
    split
    · exact (Does.ite ((State.speedStep_does _ _ _).mono rfl) (Does.refl _ _))
    · exact (Does.refl _ _)) (State.updFan_does _ _ _) rfl) (State.post_does _ _ _ _) rfl)

theorem State.updSensor_does (s : State) (n : Fin 10) (f : Sensor → Sensor) : Does [.sensors] s (State.updSensor s n f) := by
  unfold State.updSensor
  exact Does.put_sensors (Does.refl _ _) _ rfl

theorem State.thermFlag_does (s : State) (n : Fin 10) (bit cls : Nat) (st : Stage) : Does [.regs, .log, .summary] s
    (State.thermFlag s n bit cls st) := by
  unfold State.thermFlag
  exact (State.flagWith_does _ _ _ _).mono rfl

theorem State.toStage_does (s : State) (n : Fin 10) (st : Stage) : Does [.regs, .sensors, .log, .summary] s (State.toStage s
    n st) := by
  unfold State.toStage
  exact by
    try dsimp only
    split
    · exact (Does.step ((State.updSensor_does _ _ _).mono rfl) (State.thermFlag_does _ _ _ _ _) rfl)
    · exact (by
      try dsimp only
      split
      · exact (Does.step ((State.updSensor_does _ _ _).mono rfl) (State.thermFlag_does _ _ _ _ _) rfl)
      · exact (Does.step ((State.updSensor_does _ _ _).mono rfl) (State.thermFlag_does _ _ _ _ _) rfl))
    all_goals exact (Does.step ((State.updSensor_does _ _ _).mono rfl) (State.thermFlag_does _ _ _ _ _) rfl)

theorem State.thrEnWritten_does (s : State) (n : Fin 10) (was now : Bool) : Does [.regs, .sup, .led, .sensors, .log,
    .summary, .loops] s (State.thrEnWritten s n was now) := by
  unfold State.thrEnWritten
  exact Does.ite (Does.ite (Does.refl _ _) (Does.step ((State.toStage_does _ _ _).mono rfl) (State.settle_does _) rfl))
    (Does.ite ((State.updSensor_does _ _ _).mono rfl) (Does.refl _ _))

theorem State.fanFltClear_does (s : State) (f : Fin 8) : Does [.fans] s (State.fanFltClear s f) := by
  unfold State.fanFltClear
  exact (State.updFan_does _ _ _).mono rfl

theorem State.graceExpiry_does (s : State) (n : Fin 10) : Does [.regs, .sup, .led, .sensors, .log, .summary, .loops] s
    (State.graceExpiry s n) := by
  unfold State.graceExpiry
  exact Does.ite (Does.step ((State.toStage_does _ _ _).mono rfl) (State.settle_does _) rfl) (Does.refl _ _)

theorem State.fanOverload_does (s : State) (f : Fin 8) : Does [.regs, .arb, .fans, .log, .summary] s (State.fanOverload s f)
    := by
  unfold State.fanOverload
  exact Does.ite (Does.refl _ _) (Does.step (Does.step ((State.fanOff_does _ _ _).mono rfl) (State.updFan_does _ _ _) rfl)
    (State.flag_does _ _ _) rfl)

theorem State.graceCut_does (s : State) (n : Fin 10) (st : Stage) : Does [.regs, .log, .summary] s (State.graceCut s n st) :=
    by
  unfold State.graceCut
  exact (State.thermFlag_does _ _ _ _ _).mono rfl

theorem State.judgeStage_does (s : State) (n : Fin 10) : Does [.regs, .sensors, .log, .summary] s (State.judgeStage s n) :=
    by
  unfold State.judgeStage
  exact Does.ite (Does.refl _ _) (Does.ite (by
    try dsimp only
    split
    · exact ((State.updSensor_does _ _ _).mono rfl)
    · exact (Does.step ((State.graceCut_does _ _ _).mono rfl) (State.toStage_does _ _ _) rfl)
    all_goals exact ((State.toStage_does _ _ _).mono rfl)) (by
    try dsimp only
    split
    · exact (Does.ite (Does.step ((State.updSensor_does _ _ _).mono rfl) (State.toStage_does _ _ _) rfl) ((State.updSensor_does _ _ _).mono rfl))
    · exact (Does.ite (Does.step (Does.step ((State.updSensor_does _ _ _).mono rfl) (State.graceCut_does _ _ _) rfl) (State.toStage_does _ _ _) rfl) (Does.ite (Does.step ((State.updSensor_does _ _ _).mono rfl) (State.toStage_does _ _ _) rfl) ((State.updSensor_does _ _ _).mono rfl)))
    all_goals exact (Does.ite (Does.step ((State.updSensor_does _ _ _).mono rfl) (State.toStage_does _ _ _) rfl) (Does.ite (Does.ite (Does.step ((State.updSensor_does _ _ _).mono rfl) (State.toStage_does _ _ _) rfl) (Does.step ((State.updSensor_does _ _ _).mono rfl) (State.toStage_does _ _ _) rfl)) ((State.updSensor_does _ _ _).mono rfl)))))

theorem State.stallRetry_does (s : State) (f : Fin 8) : Does [.regs, .arb, .fans, .log, .summary] s (State.stallRetry s f) :=
    by
  unfold State.stallRetry
  exact Does.ite (Does.step ((State.askInrush_does _ _ _).mono rfl) (State.flag_does _ _ _) rfl) (Does.refl _ _)

theorem State.postSensor_does (s : State) (n : Fin 10) : Does [.regs] s (State.postSensor s n) := by
  unfold State.postSensor
  exact (State.post_does _ _ _ _).mono rfl

theorem State.sampleSensor_does (s : State) (n : Fin 10) (v : Sensed) : Does [.regs, .sensors, .log, .summary] s
    (State.sampleSensor s n v) := by
  unfold State.sampleSensor
  exact Does.ite (Does.refl _ _) (Does.step (Does.step (Does.ite (Does.step ((State.updSensor_does _ _ _).mono rfl)
    (State.thermFlag_does _ _ _ _ _) rfl) ((State.updSensor_does _ _ _).mono rfl)) (State.judgeStage_does _ _) rfl)
    (State.postSensor_does _ _) rfl)

theorem State.fanInrushJudge_does (s : State) (iVff : Nat) : Does [.regs, .arb, .fans, .banks, .log, .summary] s (s.fanInrushJudge iVff) := by
  have h : ∀ (l : List Inrush) (sc : State × Caps), Does [.regs, .arb, .fans, .banks, .log, .summary] sc.1 (l.foldl (fun sc r => State.arbOne sc (.inrush r)) sc).1 := by
    intro l
    induction l with
    | nil => exact fun _ => Does.refl _ _
    | cons a l ih => exact fun sc => ((State.arbOne_does sc (.inrush a)).mono rfl).trans (ih _)
  unfold State.fanInrushJudge
  exact Does.ite ((State.settleInrush_does _).mono rfl) (Does.step (h _ (_, _)) (State.settleInrush_does _) rfl)

theorem State.fanShortTrip_does (s : State) (f : Fin 8) : Does [.regs, .arb, .fans, .log, .summary] s (State.fanShortTrip s
    f) := by
  unfold State.fanShortTrip
  exact Does.ite (Does.refl _ _) (Does.step (Does.step ((State.fanOff_does _ _ _).mono rfl) (State.updFan_does _ _ _) rfl)
    (State.flag_does _ _ _) rfl)

theorem State.fanWindow_does (s : State) (f : Fin 8) (i : Nat) (tach : Bool) : Does [.regs, .arb, .fans, .log, .summary] s
    (State.fanWindow s f i tach) := by
  unfold State.fanWindow
  exact Does.ite (Does.refl _ _) (Does.ite (Does.ite (Does.ite ((State.updFan_does _ _ _).mono rfl) (Does.refl _ _)) (Does.step
    (Does.step (Does.step (Does.ite ((State.updFan_does _ _ _).mono rfl) (Does.refl _ _)) (State.updFan_does _ _ _) rfl)
    (State.count_does _ _) rfl) (State.flag_does _ _ _) rfl)) (Does.ite (Does.step (Does.step (Does.step (Does.step (Does.ite
    ((State.updFan_does _ _ _).mono rfl) (Does.refl _ _)) (State.fanOff_does _ _ _) rfl) (State.updFan_does _ _ _) rfl)
    (State.count_does _ _) rfl) (State.flag_does _ _ _) rfl) (Does.step (Does.step (Does.ite (Does.step (Does.step (Does.ite
    ((State.updFan_does _ _ _).mono rfl) (Does.refl _ _)) (State.updFan_does _ _ _) rfl) (State.flag_does _ _ _) rfl) (Does.ite
    ((State.updFan_does _ _ _).mono rfl) (Does.refl _ _))) (State.flagIf_does _ _ _ _) rfl) (State.updFan_does _ _ _) rfl)))

theorem State.releaseInrush_does (s : State) (f : Fin 8) : Does [.arb] s (State.releaseInrush s f) := by
  unfold State.releaseInrush
  exact Does.put_arb (Does.refl _ _) _ rfl

theorem State.toRun_does (s : State) (f : Fin 8) : Does [.fans] s (State.toRun s f) := by
  unfold State.toRun
  exact (State.updFan_does _ _ _).mono rfl

theorem State.kickEnd_does (s : State) (f : Fin 8) (i : Nat) (tach : Bool) : Does [.arb, .fans] s (State.kickEnd s f i tach)
    := by
  unfold State.kickEnd
  exact Does.ite (Does.ite (Does.step ((State.releaseInrush_does _ _).mono rfl) (State.toRun_does _ _) rfl) (Does.step
    (Does.step ((State.releaseInrush_does _ _).mono rfl) (State.fanOff_does _ _ _) rfl) (State.updFan_does _ _ _) rfl))
    (Does.refl _ _)

theorem State.fanShortSup_does (s : State) (f : Fin 8) : Does [.regs, .arb, .fans, .log, .summary] s (State.fanShortSup s f)
    := by
  unfold State.fanShortSup
  exact Does.ite (Does.step (Does.step ((State.fanOff_does _ _ _).mono rfl) (State.updFan_does _ _ _) rfl) (State.flag_does _ _
    _) rfl) (Does.refl _ _)

theorem State.fanInrushRelease_does (s : State) (f : Fin 8) : Does [.arb, .fans] s (State.fanInrushRelease s f) := by
  unfold State.fanInrushRelease
  exact Does.ite (Does.step ((State.releaseInrush_does _ _).mono rfl) (State.toRun_does _ _) rfl) (Does.refl _ _)

end Sys2Proof.Machine
end

