-- ==== Sys2Proof/Laws/DoesPower.lean ====
section
/-!
SUPPORT. What each operation of these parts may do, one lemma per operation (`Sys2Proof.Laws.Does` says what `Does`
claims): the SAFE net, the clocks, the supplies and the domains.
-/
namespace Sys2Proof.Machine

theorem State.updSup_does (s : State) (f : Sup → Sup) : Does [.sup] s (State.updSup s f) := by
  unfold State.updSup
  exact Does.put_sup (Does.refl _ _) _ rfl

theorem State.postHoldup_does (s : State) (vl : Nat) : Does [.regs] s (State.postHoldup s vl) := by
  unfold State.postHoldup
  exact (State.post_does _ _ _ _).mono rfl

theorem State.assertSafe_does (s : State) : Does [.regs, .sup, .arb, .fans, .banks, .log, .summary, .dio] s (State.assertSafe
    s) := by
  unfold State.assertSafe
  exact Does.step (Does.step (Does.step (Does.put_sup (Does.refl _ _) _ rfl) (State.safeAct_does _) rfl) (State.safeFans_does
    _) rfl) (State.settleOuts_does _) rfl

theorem State.dioLogicOff_does (s : State) : Does [.dio] s (State.dioLogicOff s) := by
  unfold State.dioLogicOff
  exact Does.put_dio (Does.refl _ _) _ rfl

theorem State.settleAll_does (s : State) : Does [.regs, .heart, .sup, .led, .banks, .log, .summary, .loops, .dio, .xf, .root,
    .time, .gnss] s (State.settleAll s) := by
  unfold State.settleAll
  exact Does.step (Does.step (Does.step ((State.settle_does _).mono rfl) (State.settleOuts_does _) rfl) (State.settleGnss_does
    _) rfl) (State.settleStep_does _) rfl

theorem State.leftMode_does (s : State) (old : Mode) : Does [.regs, .log, .summary, .afe, .cells, .root] s (State.leftMode s
    old) := by
  unfold State.leftMode
  exact Does.ite (Does.refl _ _) (Does.ite (Does.foldl (fun _ _ => (Does.step ((State.abortRound_does _ _).mono rfl)
    (State.abortWork_does _ _) rfl)) (Does.step (Does.ite (Does.step ((State.calAbort_does _).mono rfl) (State.abortLeads_does
    _) rfl) (Does.refl _ _)) (State.cellStop_does _) rfl)) (Does.ite (Does.step ((State.calAbort_does _).mono rfl)
    (State.abortLeads_does _) rfl) (Does.refl _ _)))

theorem State.fcntEnd_does (s : State) (cfg : Word) (st count : Nat) : Does [.regs, .clk, .log, .summary] s (State.fcntEnd s
    cfg st count) := by
  unfold State.fcntEnd
  exact Does.step (Does.step (Does.put_clk (Does.refl _ _) _ rfl) (State.post_does _ _ _ _) rfl) (State.flag_does _ _ _) rfl

theorem State.fcntAbort_does (s : State) : Does [.regs, .clk, .log, .summary] s (State.fcntAbort s) := by
  unfold State.fcntAbort
  exact by
    try dsimp only
    split
    · exact ((State.fcntEnd_does _ _ _ _).mono rfl)
    · exact (Does.refl _ _)

theorem State.tcxoLost_does (s : State) : Does [.regs, .clk, .log, .summary] s (State.tcxoLost s) := by
  unfold State.tcxoLost
  exact Does.step (Does.put_clk (Does.refl _ _) _ rfl) (State.flagIf_does _ _ _ _) rfl

theorem State.leaveMaintenance_does (s : State) : Does [.sup] s (State.leaveMaintenance s) := by
  unfold State.leaveMaintenance
  exact Does.put_sup (Does.refl _ _) _ rfl

theorem State.enterSafeHold_does (s : State) (cause : Nat) : Does [.regs, .heart, .sup, .arb, .led, .fans, .banks, .log,
    .summary, .loops, .dio, .afe, .cells, .xf, .root, .time, .gnss] s (State.enterSafeHold s cause) := by
  unfold State.enterSafeHold
  exact by
    try dsimp only
    split
    · exact (Does.step (Does.step (Does.step (Does.step (Does.step (Does.put_sup (Does.ite ((State.leaveMaintenance_does _).mono rfl) (Does.refl _ _)) _ rfl) (State.setMode_does _ _) rfl) (State.flag_does _ _ _) rfl) (State.leftMode_does _ _) rfl) (State.assertSafe_does _) rfl) (State.settleAll_does _) rfl)
    · exact (Does.step (Does.step (Does.step (Does.step (Does.step (Does.put_sup (Does.ite ((State.leaveMaintenance_does _).mono rfl) (Does.refl _ _)) _ rfl) (State.setMode_does _ _) rfl) (State.flag_does _ _ _) rfl) (State.leftMode_does _ _) rfl) (State.assertSafe_does _) rfl) (State.settleAll_does _) rfl)
    · exact (Does.step (Does.step (Does.step (Does.step (Does.step (Does.put_sup (Does.ite ((State.leaveMaintenance_does _).mono rfl) (Does.refl _ _)) _ rfl) (State.setMode_does _ _) rfl) (State.flag_does _ _ _) rfl) (State.leftMode_does _ _) rfl) (State.assertSafe_does _) rfl) (State.settleAll_does _) rfl)
    · exact (Does.step (Does.step (Does.step (Does.step (Does.step (Does.put_sup (Does.ite ((State.leaveMaintenance_does _).mono rfl) (Does.refl _ _)) _ rfl) (State.setMode_does _ _) rfl) (State.flag_does _ _ _) rfl) (State.leftMode_does _ _) rfl) (State.assertSafe_does _) rfl) (State.settleAll_does _) rfl)
    · exact (Does.step (Does.step (Does.step (Does.step (Does.step (Does.put_sup (Does.ite ((State.leaveMaintenance_does _).mono rfl) (Does.refl _ _)) _ rfl) (State.setMode_does _ _) rfl) (State.flag_does _ _ _) rfl) (State.leftMode_does _ _) rfl) (State.assertSafe_does _) rfl) (State.settleAll_does _) rfl)
    · exact (Does.put_sup (Does.refl _ _) _ rfl)
    all_goals exact (Does.refl _ _)

theorem State.xrefWindow_does (s : State) (count : Nat) (absent : Bool) : Does [.regs, .clk] s (State.xrefWindow s count
    absent) := by
  unfold State.xrefWindow
  exact Does.ite (Does.refl _ _) (Does.put_clk ((State.post_does _ _ _ _).mono rfl) _ rfl)

theorem State.updPwr_does (s : State) (f : Power → Power) : Does [.pwr] s (State.updPwr s f) := by
  unfold State.updPwr
  exact Does.put_pwr (Does.refl _ _) _ rfl

theorem State.sagDecide_does (s : State) (vl mj basis : Nat) : Does [.regs, .heart, .sup, .pwr, .arb, .led, .fans, .banks,
    .log, .summary, .loops, .dio, .afe, .cells, .xf, .root, .time, .gnss] s (State.sagDecide s vl mj basis) := by
  unfold State.sagDecide
  exact Does.step (Does.step ((State.updPwr_does _ _).mono rfl) (State.flag_does _ _ _) rfl) (State.enterSafeHold_does _ _) rfl

theorem State.holdupDecide_does (s : State) (vl : Nat) : Does [.regs, .heart, .sup, .pwr, .arb, .led, .fans, .banks, .log,
    .summary, .loops, .dio, .afe, .cells, .xf, .root, .time, .gnss] s (State.holdupDecide s vl) := by
  unfold State.holdupDecide
  exact Does.ite ((State.sagDecide_does _ _ _ _).mono rfl) (Does.refl _ _)

theorem State.vlFallback_does (s : State) (vl : Nat) : Does [.regs, .heart, .sup, .pwr, .arb, .led, .fans, .banks, .log,
    .summary, .loops, .dio, .afe, .cells, .xf, .root, .time, .gnss] s (State.vlFallback s vl) := by
  unfold State.vlFallback
  exact Does.ite (Does.step ((State.sagDecide_does _ _ _ _).mono rfl) (State.flag_does _ _ _) rfl) (Does.refl _ _)

theorem State.releaseSafe_does (s : State) : Does [.regs, .sup, .fans, .log, .summary, .dio] s (State.releaseSafe s) := by
  unfold State.releaseSafe
  exact Does.ite (Does.refl _ _) (Does.step (Does.step (Does.put_sup (Does.refl _ _) _ rfl) (State.releaseFans_does _) rfl)
    (State.settleOuts_does _) rfl)

theorem State.tcxoWindow_does (s : State) (count : Nat) : Does [.regs, .clk, .log, .summary] s (State.tcxoWindow s count) :=
    by
  unfold State.tcxoWindow
  exact Does.ite (Does.refl _ _) (Does.ite (Does.put_clk ((State.post_does _ _ _ _).mono rfl) _ rfl) (Does.step
    ((State.post_does _ _ _ _).mono rfl) (State.tcxoLost_does _) rfl))

theorem State.holdupJudge_does (s : State) (vl : Nat) : Does [.regs, .heart, .sup, .pwr, .arb, .led, .fans, .banks, .log,
    .summary, .loops, .dio, .afe, .cells, .xf, .root, .time, .gnss] s (State.holdupJudge s vl) := by
  unfold State.holdupJudge
  exact Does.ite (Does.step ((State.postHoldup_does _ _).mono rfl) (State.holdupDecide_does _ _) rfl) (Does.refl _ _)

theorem State.clockOff_does (s : State) (x1 : Kind) : Does [.regs, .heart, .arb, .led, .fans, .banks, .log, .summary, .loops,
    .afe, .cells, .moist, .root, .time, .gnss] s (State.clockOff s x1) := by
  unfold State.clockOff
  exact by
    try dsimp only
    split
    · exact ((State.stopActClock_does _).mono rfl)
    · exact ((State.timeOff_does _).mono rfl)
    · exact (Does.ite (Does.refl _ _) (Does.foldl (fun _ _ => (Does.ite (Does.refl _ _) ((State.fanOff_does _ _ _).mono rfl))) (Does.refl _ _)))
    · exact ((State.cellStop_does _).mono rfl)
    · exact ((State.moistOff_does _).mono rfl)
    · exact (Does.put_afe ((State.abortLeads_does _).mono rfl) _ rfl)
    all_goals exact (Does.refl _ _)

theorem State.clockOn_does (s : State) (x1 : Kind) : Does [.regs, .log, .summary, .afe, .xf, .time] s (State.clockOn s x1) :=
    by
  unfold State.clockOn
  exact by
    try dsimp only
    split
    · exact ((State.timeStart_does _).mono rfl)
    · exact ((State.afeReturn_does _).mono rfl)
    · exact ((State.xfResume_does _).mono rfl)
    · exact ((State.xfResume_does _).mono rfl)
    · exact ((State.xfResume_does _).mono rfl)
    · exact ((State.xfResume_does _).mono rfl)
    all_goals exact (Does.refl _ _)

theorem State.clkEnWritten_does (s : State) (old : Word) : Does [.regs, .heart, .sup, .pwr, .arb, .led, .fans, .banks, .log,
    .summary, .loops, .dio, .afe, .cells, .moist, .xf, .root, .time, .gnss] s (State.clkEnWritten s old) := by
  unfold State.clkEnWritten
  exact Does.step (Does.step (Does.foldl (fun _ _ => (Does.ite ((State.clockOff_does _ _).mono rfl) (Does.ite
    ((State.clockOn_does _ _).mono rfl) (Does.refl _ _)))) (Does.refl _ _)) (State.updPwr_does _ _) rfl) (State.settleAll_does
    _) rfl

theorem State.fcntStart_does (s : State) : Does [.regs, .clk] s (State.fcntStart s) := by
  unfold State.fcntStart
  exact Does.step (Does.put_clk (Does.refl _ _) _ rfl) (State.wr_does _ _ _) rfl

theorem State.archive_does (s : State) : Does [.log] s s.archive := by
  unfold State.archive
  extract_lets n
  refine Does.ite (Does.refl _ _) ?_
  exact ⟨fun p hp => by cases p <;> first | exact absurd (by decide) hp | rfl, rfl, rfl, id, id, List.suffix_refl _, Nat.le_refl _⟩

theorem State.arbiterSlot_does (s : State) (iVfa iVff : Nat) : Does [.regs, .sup, .arb, .led, .fans, .banks, .log, .summary,
    .loops] s (State.arbiterSlot s iVfa iVff) := by
  unfold State.arbiterSlot
  exact Does.ite (Does.step (Does.step ((State.arbSlot_does _ _ _).mono rfl) (State.settleInrush_does _) rfl)
    (State.settle_does _) rfl) (Does.refl _ _)

theorem State.muxForced_does (s : State) (island : Bool) : Does [.regs, .clk, .log, .summary, .afe] s (State.muxForced s
    island) := by
  unfold State.muxForced
  exact Does.ite (Does.ite (Does.step (Does.step (Does.put_afe (Does.refl _ _) _ rfl) (State.count_does _ _) rfl)
    (State.flag_does _ _ _) rfl) (Does.refl _ _)) (Does.ite (Does.step (Does.step (Does.put_clk (Does.refl _ _) _ rfl)
    (State.count_does _ _) rfl) (State.flag_does _ _ _) rfl) (Does.refl _ _))

theorem State.pllRetry_does (s : State) : Does [.clk] s (State.pllRetry s) := by
  unfold State.pllRetry
  exact Does.ite (Does.put_clk (Does.refl _ _) _ rfl) (Does.refl _ _)

theorem State.clearCause_does (s : State) (cause : Nat) : Does [.sup] s (State.clearCause s cause) := by
  unfold State.clearCause
  exact Does.put_sup (Does.refl _ _) _ rfl

theorem State.supplyMeasure_does (s : State) (vl il vfa ifa vff iff vr ir : Nat) : Does [.regs, .sup, .pwr, .led, .log,
    .summary, .loops] s (State.supplyMeasure s vl il vfa ifa vff iff vr ir) := by
  unfold State.supplyMeasure
  exact Does.ite (Does.refl _ _) (Does.step (Does.ite (Does.ite (Does.step (Does.step (Does.step (Does.step (Does.step
    (Does.step (Does.step (Does.put_led ((State.post_does _ _ _ _).mono rfl) _ rfl) (State.updPwr_does _ _) rfl)
    (State.flagIf_does _ _ _ _) rfl) (State.updPwr_does _ _) rfl) (State.flagIf_does _ _ _ _) rfl) (State.updPwr_does _ _) rfl)
    (State.flagIf_does _ _ _ _) rfl) (State.wr_does _ _ _) rfl) (Does.step (Does.step (Does.step (Does.step (Does.step
    (Does.step (Does.put_led ((State.post_does _ _ _ _).mono rfl) _ rfl) (State.updPwr_does _ _) rfl) (State.flagIf_does _ _ _
    _) rfl) (State.updPwr_does _ _) rfl) (State.flagIf_does _ _ _ _) rfl) (State.updPwr_does _ _) rfl) (State.flagIf_does _ _ _
    _) rfl)) (Does.step (Does.ite (Does.step (Does.step (Does.step (Does.step (Does.step (Does.step (Does.step (Does.put_led
    ((State.post_does _ _ _ _).mono rfl) _ rfl) (State.updPwr_does _ _) rfl) (State.flagIf_does _ _ _ _) rfl)
    (State.updPwr_does _ _) rfl) (State.flagIf_does _ _ _ _) rfl) (State.updPwr_does _ _) rfl) (State.flagIf_does _ _ _ _) rfl)
    (State.wr_does _ _ _) rfl) (Does.step (Does.step (Does.step (Does.step (Does.step (Does.step (Does.put_led
    ((State.post_does _ _ _ _).mono rfl) _ rfl) (State.updPwr_does _ _) rfl) (State.flagIf_does _ _ _ _) rfl)
    (State.updPwr_does _ _) rfl) (State.flagIf_does _ _ _ _) rfl) (State.updPwr_does _ _) rfl) (State.flagIf_does _ _ _ _)
    rfl)) (State.postHoldup_does _ _) rfl)) (State.settle_does _) rfl)

theorem State.vlLow_does (s : State) : Does [.regs, .pwr, .log, .summary] s (State.vlLow s) := by
  unfold State.vlLow
  exact Does.ite (Does.step ((State.updPwr_does _ _).mono rfl) (State.flag_does _ _ _) rfl) (Does.refl _ _)

theorem State.useSpan_does (s : State) : Does [.regs, .led] s (State.useSpan s) := by
  unfold State.useSpan
  exact Does.ite (Does.refl _ _) (Does.put_led (Does.foldl (fun _ _ => ((State.wr_does _ _ _).mono rfl)) ((State.post_does _ _
    _ _).mono rfl)) _ rfl)

theorem State.bankSag_does (s : State) (on : Bool) : Does [.regs, .arb, .banks, .log, .summary] s (State.bankSag s on) := by
  unfold State.bankSag
  exact Does.foldl (fun _ _ => (Does.ite ((State.updBank_does _ _ _).mono rfl) (Does.step (Does.step (Does.foldl (fun _ _ =>
    (Does.ite (Does.step ((State.ripenChan_does _ _ _).mono rfl) (State.endThrough_does _ _ _ _ _) rfl) ((State.ripenChan_does
    _ _ _).mono rfl))) (Does.refl _ _)) (State.updBank_does _ _ _) rfl) (State.flagIf_does _ _ _ _) rfl))) (Does.refl _ _)

theorem State.vfaStageClear_does (s : State) (st : Nat) : Does [.regs, .sup, .pwr, .arb, .led, .banks, .log, .summary,
    .loops] s (State.vfaStageClear s st) := by
  unfold State.vfaStageClear
  exact Does.ite (Does.refl _ _) (Does.step (Does.ite (Does.step ((State.updPwr_does _ _).mono rfl) (State.bankSag_does _ _)
    rfl) ((State.updPwr_does _ _).mono rfl)) (State.settle_does _) rfl)

theorem State.vfaStageSet_does (s : State) (st : Nat) : Does [.regs, .heart, .sup, .pwr, .arb, .led, .banks, .log, .summary,
    .loops, .dio, .xf, .root, .time, .gnss] s (State.vfaStageSet s st) := by
  unfold State.vfaStageSet
  exact Does.ite (Does.refl _ _) (Does.step (Does.ite (Does.step (Does.step (Does.step (Does.step ((State.updPwr_does _ _).mono
    rfl) (State.flagIf_does _ _ _ _) rfl) (State.flagIf_does _ _ _ _) rfl) (State.flag_does _ _ _) rfl) (State.bankSag_does _
    _) rfl) (Does.step (Does.step ((State.updPwr_does _ _).mono rfl) (State.flagIf_does _ _ _ _) rfl) (State.flagIf_does _ _ _
    _) rfl)) (State.settleAll_does _) rfl)

theorem State.fcntDone_does (s : State) (count : Nat) : Does [.regs, .clk, .log, .summary] s (State.fcntDone s count) := by
  unfold State.fcntDone
  exact by
    try dsimp only
    split
    · exact (Does.ite ((State.fcntEnd_does _ _ _ _).mono rfl) (Does.refl _ _))
    · exact (Does.refl _ _)

theorem State.judgeStores_does (s : State) : Does [.regs] s (State.judgeStores s) := by
  unfold State.judgeStores
  exact Does.foldl (fun _ _ => (Does.step ((State.setFld_does _ _ _ _ _).mono rfl) (State.wr_does _ _ _) rfl)) (Does.refl _ _)

theorem State.setPowered_does (s : State) (n : Nat) (on : Bool) : Does [.regs, .pwr, .log, .summary] s (State.setPowered s n
    on) := by
  unfold State.setPowered
  exact Does.step ((State.updPwr_does _ _).mono rfl) (State.flag_does _ _ _) rfl

theorem State.domainOn_does (s : State) (n : Nat) : Does [.regs, .heart, .sup, .pwr, .led, .banks, .log, .summary, .loops,
    .dio, .afe, .xf, .root, .time, .gnss] s (State.domainOn s n) := by
  unfold State.domainOn
  exact Does.step (Does.ite (Does.put_loops ((State.setPowered_does _ _ _).mono rfl) _ rfl) (Does.ite (Does.step
    ((State.setPowered_does _ _ _).mono rfl) (State.xfResume_does _) rfl) (Does.ite (Does.step (Does.put_afe
    ((State.setPowered_does _ _ _).mono rfl) _ rfl) (State.afeReturn_does _) rfl) (Does.ite (Does.step ((State.setPowered_does
    _ _ _).mono rfl) (State.judgeStores_does _) rfl) ((State.setPowered_does _ _ _).mono rfl))))) (State.settleAll_does _) rfl

theorem State.energyLimitExpiry_does (s : State) : Does [.regs, .sup, .led, .log, .summary, .loops] s
    (State.energyLimitExpiry s) := by
  unfold State.energyLimitExpiry
  exact Does.ite (Does.step (Does.put_led (Does.refl _ _) _ rfl) (State.settle_does _) rfl) (Does.refl _ _)

theorem State.fcntNoref_does (s : State) : Does [.regs, .clk, .log, .summary] s (State.fcntNoref s) := by
  unfold State.fcntNoref
  exact by
    try dsimp only
    split
    · exact (Does.ite ((State.fcntEnd_does _ _ _ _).mono rfl) (Does.refl _ _))
    · exact (Does.refl _ _)

theorem State.loseRegs_does (s : State) (n : Nat) : Does [.regs] s (s.loseRegs n) := by
  unfold State.loseRegs
  refine Does.put_regs (Does.refl _ _) _ (fun c => ?_) rfl
  have h : ∀ (l : List (Nat × Word)) (r : Regs), r.wf = true → (l.foldl (fun (r : Regs) e => r.set e.1 e.2) r).wf = true := by
    intro l
    induction l with
    | nil => exact fun _ h => h
    | cons a l ih => exact fun r h => ih _ (Regs.wf_set r a.1 a.2 h)
  exact h _ _ (Regs.wfFrom_filter _ _ 0 c.1)

theorem State.domainStop_does (s : State) (n : Nat) : Does [.regs, .heart, .clk, .arb, .led, .fans, .banks, .log, .summary,
    .loops, .dio, .afe, .cells, .xf, .root, .time, .gnss] s (State.domainStop s n) := by
  unfold State.domainStop
  exact by
    try dsimp only
    split
    · exact (Does.put_loops (Does.refl _ _) _ rfl)
    · exact ((State.updXf_does _ _).mono rfl)
    · exact (Does.put_clk (Does.step ((State.gnssStop_does _).mono rfl) (State.gnssBoot_does _) rfl) _ rfl)
    · exact ((State.afeReset_does _).mono rfl)
    · exact (Does.put_cells ((State.cellStop_does _).mono rfl) _ rfl)
    · exact (Does.put_banks (Does.step ((State.stopActClock_does _).mono rfl) (State.endEvents_does _) rfl) _ rfl)
    · exact (Does.step ((State.dioLogicOff_does _).mono rfl) (State.settleOuts_does _) rfl)
    · exact (Does.step (Does.foldl (fun _ _ => ((State.segOff_does _ _ _).mono rfl)) (Does.refl _ _)) (State.rootOff_does _) rfl)
    · exact (Does.trans (Does.refl _ _) (Does.plain (fun p hp => by cases p <;> first | exact absurd (by decide) hp | rfl) rfl rfl rfl rfl rfl rfl rfl))
    all_goals exact (Does.refl _ _)

theorem State.domainOff_does (s : State) (n : Nat) : Does [.regs, .heart, .sup, .clk, .pwr, .arb, .led, .fans, .banks, .log,
    .summary, .loops, .dio, .afe, .cells, .xf, .root, .time, .gnss] s (State.domainOff s n) := by
  unfold State.domainOff
  exact Does.ite (Does.step (Does.step (Does.step ((State.domainStop_does _ _).mono rfl) (State.loseRegs_does _ _) rfl)
    (State.setPowered_does _ _ _) rfl) (State.settleAll_does _) rfl) (Does.refl _ _)

theorem State.vffUvClear_does (s : State) : Does [.pwr] s (State.vffUvClear s) := by
  unfold State.vffUvClear
  exact Does.ite ((State.updPwr_does _ _).mono rfl) (Does.refl _ _)

theorem State.vlLowClear_does (s : State) : Does [.pwr] s (State.vlLowClear s) := by
  unfold State.vlLowClear
  exact Does.ite ((State.updPwr_does _ _).mono rfl) (Does.refl _ _)

theorem State.ledgerUpdateRow_does (s : State) : Does [.regs, .sup, .led, .banks, .log, .summary, .loops] s
    (State.ledgerUpdateRow s) := by
  unfold State.ledgerUpdateRow
  exact Does.step ((State.ledgerUpdate_does _).mono rfl) (State.settle_does _) rfl

theorem State.vffUndervolt_does (s : State) : Does [.regs, .pwr, .log, .summary] s (State.vffUndervolt s) := by
  unfold State.vffUndervolt
  exact Does.ite (Does.step ((State.updPwr_does _ _).mono rfl) (State.flag_does _ _ _) rfl) (Does.refl _ _)

theorem State.tcxoStop_does (s : State) : Does [.regs, .clk, .log, .summary] s (State.tcxoStop s) := by
  unfold State.tcxoStop
  exact Does.ite ((State.tcxoLost_does _).mono rfl) (Does.refl _ _)

theorem State.vlSagShed_does (s : State) : Does [.regs, .heart, .sup, .clk, .pwr, .arb, .led, .fans, .banks, .log, .summary,
    .loops, .dio, .afe, .cells, .xf, .root, .time, .gnss] s (State.vlSagShed s) := by
  unfold State.vlSagShed
  exact by
    try dsimp only
    split
    · exact (Does.refl _ _)
    · exact (Does.step (Does.foldl (fun _ _ => ((State.domainOff_does _ _).mono rfl)) ((State.updPwr_does _ _).mono rfl)) (State.flagForced_does _ _ _ _) rfl)

theorem State.domainPowerUp_does (s : State) (n : Nat) : Does [.regs, .heart, .sup, .pwr, .led, .banks, .log, .summary,
    .loops, .dio, .afe, .xf, .root, .time, .gnss] s (State.domainPowerUp s n) := by
  unfold State.domainPowerUp
  exact Does.ite ((State.domainOn_does _ _).mono rfl) (Does.refl _ _)

theorem State.domainPowerOff_does (s : State) (n : Nat) : Does [.regs, .heart, .sup, .clk, .pwr, .arb, .led, .fans, .banks,
    .log, .summary, .loops, .dio, .afe, .cells, .xf, .root, .time, .gnss] s (State.domainPowerOff s n) := by
  unfold State.domainPowerOff
  exact Does.ite (Does.refl _ _) ((State.domainOff_does _ _).mono rfl)

end Sys2Proof.Machine
end

