-- ==== Sys2Proof/Laws/DoesHost.lean ====
section
/-!
SUPPORT. What each operation of these parts may do, one lemma per operation (`Sys2Proof.Laws.Does` says what `Does`
claims): the effects of written words, Canopy operations and sessions, the SPI port and the network.
-/
namespace Sys2Proof.Machine

theorem Run.writeWindow_does (x : Run) (ctx : OpCtx) (w : State.Window1) (off : Nat) (mask : Word) (ws : List (Nat × Word)) :
    Does [.regs, .log, .summary, .moist] x.s (x.writeWindow ctx w off mask ws).1.s := by
  unfold Run.writeWindow
  dsimp only
  split
  · exact Does.refl _ _
  · split
    · exact Does.refl _ _
    · exact Does.step (Does.step (Does.foldl (fun _ _ => (State.wr_does _ _ _).mono rfl) (Does.refl _ _)) (State.setGtValid_does _ _ _) rfl)
        (State.setGtValid_does _ _ _) rfl

theorem State.updCan_does (s : State) (f : Canopy → Canopy) : Does [.can] s (State.updCan s f) := by
  unfold State.updCan
  exact Does.put_can (Does.refl _ _) _ rfl

theorem State.updNet_does (s : State) (f : Net → Net) : Does [.can] s (State.updNet s f) := by
  unfold State.updNet
  exact (State.updCan_does _ _).mono rfl

theorem State.dhcpSend_does (s : State) (bs : List Byte) : Does [.sent] s (State.dhcpSend s bs) := by
  unfold State.dhcpSend
  exact Does.foldl (fun _ _ => (Does.ite ((State.send_does _ _ _).mono rfl) (Does.refl _ _))) (Does.refl _ _)

theorem State.dhcpDiscover_does (s : State) : Does [.freeCtr, .can, .sent] s (State.dhcpDiscover s) := by
  unfold State.dhcpDiscover
  exact Does.ite (Does.refl _ _) (Does.ite (Does.step (Does.step ((State.tick_does _).mono rfl) (State.updNet_does _ _) rfl)
    (State.dhcpSend_does _ _) rfl) ((State.updNet_does _ _).mono rfl))

theorem State.takeAddress_does (s : State) : Does [.regs, .log, .summary, .can] s (State.takeAddress s) := by
  unfold State.takeAddress
  exact Does.step (Does.step (Does.ite (Does.refl _ _) ((State.updNet_does _ _).mono rfl)) (State.updNet_does _ _) rfl)
    (State.flagIf_does _ _ _ _) rfl

theorem State.dhcpLost_does (s : State) : Does [.regs, .freeCtr, .log, .summary, .can, .sent] s (State.dhcpLost s) := by
  unfold State.dhcpLost
  exact Does.step (Does.step ((State.updNet_does _ _).mono rfl) (State.takeAddress_does _) rfl) (State.dhcpDiscover_does _) rfl

theorem State.cancelChan_does (s : State) (n : Fin 12) (k : Fin 4) : Does [.regs, .arb, .banks, .log, .summary] s
    (State.cancelChan s n k) := by
  unfold State.cancelChan
  exact by
    try dsimp only
    split
    · exact (Does.step (Does.step (Does.foldl (fun _ _ => ((State.dropEvent_does _ _ _ _ _).mono rfl)) (Does.refl _ _)) (State.updChan_does _ _ _ _) rfl) (State.dropEvent_does _ _ _ _ _) rfl)
    · exact (Does.foldl (fun _ _ => ((State.dropEvent_does _ _ _ _ _).mono rfl)) (Does.refl _ _))

theorem State.cancelEvents_does (s : State) (c : Claim) : Does [.regs, .arb, .banks, .log, .summary] s (State.cancelEvents s
    c) := by
  unfold State.cancelEvents
  exact Does.dite (fun _ => (Does.foldl (fun _ _ => (Does.ite ((State.cancelChan_does _ _ _).mono rfl) (Does.refl _ _)))
    (Does.refl _ _))) (fun _ => (Does.refl _ _))

theorem State.claimLost_does (s : State) (c : Claim) : Does [.regs, .arb, .banks, .log, .summary, .loops] s (State.claimLost
    s c) := by
  unfold State.claimLost
  exact Does.ite (Does.step (Does.ite ((State.loopClaimLost_does _ _ _).mono rfl) (Does.refl _ _)) (State.cancelEvents_does _
    _) rfl) (Does.ite ((State.loopClaimLost_does _ _ _).mono rfl) (Does.refl _ _))

theorem State.updFw_does (s : State) (f : Firmware → Firmware) : Does [.sup] s (State.updFw s f) := by
  unfold State.updFw
  exact (State.updSup_does _ _).mono rfl

theorem State.changeMode_does (s : State) (m : Mode) : Does [.regs, .heart, .sup, .led, .fans, .banks, .log, .summary,
    .loops, .dio, .afe, .cells, .xf, .root, .time, .gnss] s (State.changeMode s m) := by
  unfold State.changeMode
  exact Does.step (Does.ite (Does.step (Does.step (Does.step ((State.setMode_does _ _).mono rfl) (State.leftMode_does _ _) rfl)
    (State.updSup_does _ _) rfl) (State.releaseSafe_does _) rfl) (Does.step (Does.step ((State.setMode_does _ _).mono rfl)
    (State.leftMode_does _ _) rfl) (State.updSup_does _ _) rfl)) (State.settleAll_does _) rfl

theorem State.leaveToStandby_does (s : State) : Does [.regs, .heart, .sup, .led, .fans, .banks, .log, .summary, .loops, .dio,
    .afe, .cells, .xf, .root, .time, .gnss] s (State.leaveToStandby s) := by
  unfold State.leaveToStandby
  exact Does.step ((State.updSup_does _ _).mono rfl) (State.changeMode_does _ _) rfl

theorem State.forget_does (s : State) (i : Nat) : Does [.regs, .heart, .sup, .led, .fans, .banks, .log, .summary, .can,
    .loops, .dio, .afe, .cells, .xf, .root, .time, .gnss] s (State.forget s i) := by
  unfold State.forget
  exact Does.ite (Does.step (Does.step (Does.put_banks ((State.updCan_does _ _).mono rfl) _ rfl) (State.updFw_does _ _) rfl)
    (State.leaveToStandby_does _) rfl) (Does.step (Does.put_banks ((State.updCan_does _ _).mono rfl) _ rfl)
    (State.settleAll_does _) rfl)

theorem State.endLost_does (s : State) (i : Nat) : Does [.regs, .heart, .sup, .arb, .led, .fans, .banks, .log, .summary,
    .can, .loops, .dio, .afe, .cells, .xf, .root, .time, .gnss] s (State.endLost s i) := by
  unfold State.endLost
  exact Does.step (Does.step (Does.ite (Does.step (Does.foldl (fun _ _ => ((State.claimLost_does _ _).mono rfl))
    ((State.updCan_does _ _).mono rfl)) (State.enterSafeHold_does _ _) rfl) (Does.foldl (fun _ _ => ((State.claimLost_does _
    _).mono rfl)) ((State.updCan_does _ _).mono rfl))) (State.flagWith_does _ _ _ _) rfl) (State.forget_does _ _) rfl

theorem State.leaseExpiry_does (s : State) (i : Fin 8) : Does [.regs, .heart, .sup, .arb, .led, .fans, .banks, .log,
    .summary, .can, .loops, .dio, .afe, .cells, .xf, .root, .time, .gnss] s (State.leaseExpiry s i) := by
  unfold State.leaseExpiry
  exact by
    try dsimp only
    split
    · exact (Does.ite ((State.endLost_does _ _).mono rfl) (Does.refl _ _))
    · exact (Does.refl _ _)

theorem State.openWaitExpiry_does (s : State) (i : Fin 8) : Does [.can] s (State.openWaitExpiry s i) := by
  unfold State.openWaitExpiry
  exact by
    try dsimp only
    split
    · exact (Does.ite ((State.updCan_does _ _).mono rfl) (Does.refl _ _))
    · exact (Does.refl _ _)

theorem State.spiOut_does (s : State) (f : OutFrame) : Does [.can] s (State.spiOut s f) := by
  unfold State.spiOut
  exact (State.updCan_does _ _).mono rfl

theorem State.reply_does (s : State) (v : Via) (beacon : Bool) (bs : List Byte) : Does [.can, .sent] s (State.reply s v
    beacon bs) := by
  unfold State.reply
  exact by
    try dsimp only
    split
    · exact (Does.ite ((State.send_does _ _ _).mono rfl) (Does.refl _ _))
    · exact ((State.spiOut_does _ _).mono rfl)

theorem State.refuseTo_does (s : State) (v : Via) (i seq tstat : Nat) : Does [.can, .sent] s (State.refuseTo s v i seq tstat)
    := by
  unfold State.refuseTo
  exact (State.reply_does _ _ _ _).mono rfl

theorem State.onOpenProof_does (s : State) (v : Via) (bs : List Byte) : Does [.regs, .heart, .sup, .arb, .led, .fans, .banks,
    .log, .summary, .can, .loops, .dio, .afe, .cells, .xf, .root, .time, .gnss, .sent] s (State.onOpenProof s v bs) := by
  unfold State.onOpenProof
  exact by
    try dsimp only
    split
    · exact ((State.refuseTo_does _ _ _ _ _).mono rfl)
    · exact (Does.ite (Does.step ((State.updCan_does _ _).mono rfl) (State.refuseTo_does _ _ _ _ _) rfl) (Does.ite (Does.step (Does.step ((State.updCan_does _ _).mono rfl) (State.flagWith_does _ _ _ _) rfl) (State.refuseTo_does _ _ _ _ _) rfl) (Does.ite (Does.step ((State.updCan_does _ _).mono rfl) (State.refuseTo_does _ _ _ _ _) rfl) (Does.ite (Does.step ((State.updCan_does _ _).mono rfl) (State.refuseTo_does _ _ _ _ _) rfl) (Does.step (Does.step (Does.put_summary (Does.step (by
      try dsimp only
      split
      · exact (Does.step ((State.updCan_does _ _).mono rfl) (State.endLost_does _ _) rfl)
      · exact ((State.updCan_does _ _).mono rfl)) (State.updCan_does _ _) rfl) _ rfl) (State.flagWith_does _ _ _ _) rfl) (State.reply_does _ _ _ _) rfl)))))

theorem State.hookClk_does (s : State) (off : Nat) (old v : Word) : Does [.regs, .heart, .sup, .clk, .pwr, .arb, .led, .fans,
    .banks, .log, .summary, .loops, .dio, .afe, .cells, .moist, .xf, .root, .time, .gnss] s (State.hookClk s off old v) := by
  unfold State.hookClk
  exact Does.ite ((State.clkEnWritten_does _ _).mono rfl) (Does.ite ((State.fcntStart_does _).mono rfl) (Does.refl _ _))

theorem State.claimPage_does (s : State) (ctx : OpCtx) (page loss : Nat) (take : Bool) : Does [.can] s (s.claimPage ctx page loss take).1 := by
  unfold State.claimPage
  dsimp only
  split
  · split
    · exact Does.refl _ _
    · exact State.putClaim_does _ _
  · split
    · exact Does.refl _ _
    · dsimp only
      exact State.updCan_does _ _

theorem State.updSpi_does (s : State) (f : Spi → Spi) : Does [.can] s (State.updSpi s f) := by
  unfold State.updSpi
  exact (State.updCan_does _ _).mono rfl

theorem State.spiTransfer_does (s : State) (full : Bool) (rest : List Byte) : Does [.can, .sent] s (State.spiTransfer s full
    rest) := by
  unfold State.spiTransfer
  exact Does.step ((State.updSpi_does _ _).mono rfl) (State.send_does _ _ _) rfl

theorem State.readStatus_does (s : State) (full : Bool) : Does [.can, .sent] s (State.readStatus s full) := by
  unfold State.readStatus
  exact Does.ite ((State.spiTransfer_does _ _ _).mono rfl) (Does.refl _ _)

theorem State.hold_does (s : State) (v : Via) (bs : List Byte) : Does [.can] s (State.hold s v bs) := by
  unfold State.hold
  exact Does.ite (Does.refl _ _) (Does.ite (Does.ite ((State.updCan_does _ _).mono rfl) (Does.refl _ _)) (Does.ite
    ((State.updCan_does _ _).mono rfl) (Does.refl _ _)))

theorem State.frameErr_does (s : State) : Does [.regs] s (State.frameErr s) := by
  unfold State.frameErr
  exact (State.count_does _ _).mono rfl

theorem State.onOpenReq_does (s : State) (v : Via) (bs : List Byte) : Does [.freeCtr, .can, .sent] s (State.onOpenReq s v bs)
    := by
  unfold State.onOpenReq
  exact Does.ite ((State.refuseTo_does _ _ _ _ _).mono rfl) (Does.ite ((State.refuseTo_does _ _ _ _ _).mono rfl) (by
    try dsimp only
    split
    · exact ((State.refuseTo_does _ _ _ _ _).mono rfl)
    · exact (Does.ite ((State.refuseTo_does _ _ _ _ _).mono rfl) (Does.ite ((State.refuseTo_does _ _ _ _ _).mono rfl) (by
      try dsimp only
      split
      · exact ((State.refuseTo_does _ _ _ _ _).mono rfl)
      · exact (Does.step (Does.step (Does.addFree (Does.refl _ _) _ rfl) (State.updCan_does _ _) rfl) (State.reply_does _ _ _ _) rfl))))))

theorem State.macFailed_does (s : State) (i : Fin 8) : Does [.regs, .log, .summary] s (State.macFailed s i) := by
  unfold State.macFailed
  exact Does.step ((State.count_does _ _).mono rfl) (State.flagWith_does _ _ _ _) rfl

theorem State.updSess_does (s : State) (i : Nat) (f : Sess → Sess) : Does [.can] s (State.updSess s i f) := by
  unfold State.updSess
  exact Does.dite (fun _ => ((State.updCan_does _ _).mono rfl)) (fun _ => (Does.refl _ _))

theorem State.endClosed_does (s : State) (i : Nat) : Does [.regs, .heart, .sup, .led, .fans, .banks, .log, .summary, .can,
    .loops, .dio, .afe, .cells, .xf, .root, .time, .gnss] s (State.endClosed s i) := by
  unfold State.endClosed
  exact Does.step ((State.updCan_does _ _).mono rfl) (State.forget_does _ _) rfl

theorem State.onClose_does (s : State) (v : Via) (bs : List Byte) (i : Fin 8) (x : Sess) : Does [.regs, .heart, .sup, .led,
    .fans, .banks, .log, .summary, .can, .loops, .dio, .afe, .cells, .xf, .root, .time, .gnss, .sent] s (State.onClose s v bs i
    x) := by
  unfold State.onClose
  exact Does.step ((State.reply_does _ _ _ _).mono rfl) (State.endClosed_does _ _) rfl

theorem State.answer_does (s : State) (v : Via) (i : Nat) (x : Sess) (h : Hdr) (tstat : Nat) : Does [.can, .sent] s
    (State.answer s v i x h tstat) := by
  unfold State.answer
  exact Does.ite (Does.refl _ _) ((State.reply_does _ _ _ _).mono rfl)

theorem State.accept_does (s : State) (v : Via) (i : Fin 8) (seq : Nat) (new : Bool) (bs : List Byte) : Does [.can] s
    (State.accept s v i seq new bs) := by
  unfold State.accept
  exact Does.step ((State.updSess_does _ _ _).mono rfl) (State.updCan_does _ _) rfl

theorem State.onRequest_does (s : State) (v : Via) (bs : List Byte) (i : Fin 8) (x : Sess) : Does [.regs, .can, .sent] s
    (State.onRequest s v bs i x) := by
  unfold State.onRequest
  exact Does.ite ((State.answer_does _ _ _ _ _ _).mono rfl) (Does.ite (Does.step ((State.count_does _ _).mono rfl) (State.answer_does _ _ _ _ _ _) rfl) (Does.ite (Does.refl _ _) (Does.ite (by
    try dsimp only
    split
    · exact (Does.ite ((State.count_does _ _).mono rfl) (Does.step ((State.count_does _ _).mono rfl) (State.reply_does _ _ _ _) rfl))
    · exact (Does.step ((State.count_does _ _).mono rfl) (State.answer_does _ _ _ _ _ _) rfl)) (Does.ite ((State.answer_does _ _ _ _ _ _).mono rfl) (Does.ite ((State.answer_does _ _ _ _ _ _).mono rfl) ((State.accept_does _ _ _ _ _ _).mono rfl))))))

theorem State.onAuthed_does (s : State) (v : Via) (bs : List Byte) : Does [.regs, .heart, .sup, .led, .fans, .banks, .log,
    .summary, .can, .loops, .dio, .afe, .cells, .xf, .root, .time, .gnss, .sent] s (State.onAuthed s v bs) := by
  unfold State.onAuthed
  exact by
    try dsimp only
    split
    · exact ((State.refuseTo_does _ _ _ _ _).mono rfl)
    · exact ((State.macFailed_does _ _).mono rfl)
    all_goals exact (Does.ite (Does.step ((State.updSess_does _ _ _).mono rfl) (State.onClose_does _ _ _ _ _) rfl) (Does.step ((State.updSess_does _ _ _).mono rfl) (State.onRequest_does _ _ _ _ _) rfl))

theorem State.receive_does (s : State) (v : Via) (bs : List Byte) : Does [.regs, .freeCtr, .heart, .sup, .arb, .led, .fans,
    .banks, .log, .summary, .can, .loops, .dio, .afe, .cells, .xf, .root, .time, .gnss, .sent] s (State.receive s v bs) := by
  unfold State.receive
  exact Does.ite ((State.hold_does _ _ _).mono rfl) (Does.ite ((State.frameErr_does _).mono rfl) (Does.ite
    ((State.onOpenReq_does _ _ _).mono rfl) (Does.ite ((State.onOpenProof_does _ _ _).mono rfl) (Does.ite ((State.onAuthed_does
    _ _ _).mono rfl) ((State.frameErr_does _).mono rfl)))))

theorem State.takeWaiting_does (s : State) : Does [.regs, .freeCtr, .heart, .sup, .arb, .led, .fans, .banks, .log, .summary,
    .can, .loops, .dio, .afe, .cells, .xf, .root, .time, .gnss, .sent] s (State.takeWaiting s) := by
  unfold State.takeWaiting
  exact Does.ite (Does.foldl (fun _ _ => ((State.receive_does _ _ _).mono rfl)) ((State.updCan_does _ _).mono rfl)) (Does.refl
    _ _)

theorem State.storeRwc_does (s : State) (a : Nat) : Does [.store] s (s.storeRwc a) where
  only p hp := by cases p <;> first | exact absurd (by decide) hp | rfl
  now := rfl
  queue := rfl
  canon h := ⟨h.1, Regs.wf_set _ _ _ h.2⟩
  ring := id
  sent := List.suffix_refl _
  free := Nat.le_refl _

theorem State.spiLeft_does (s : State) : Does [.sup] s (State.spiLeft s) := by
  unfold State.spiLeft
  exact by
    try dsimp only
    split
    · exact (Does.ite ((State.updSup_does _ _).mono rfl) (Does.refl _ _))
    · exact (Does.refl _ _)

theorem State.readNext_does (s : State) (full : Bool) : Does [.sup, .can, .sent] s (State.readNext s full) := by
  unfold State.readNext
  exact Does.ite (Does.step (Does.step ((State.spiTransfer_does _ _ _).mono rfl) (State.updSpi_does _ _) rfl)
    (State.spiLeft_does _) rfl) (Does.refl _ _)

theorem State.hookDi_does (s : State) (g : Fin 8) (off : Nat) (old v : Word) : Does [.regs, .dio] s (State.hookDi s g off old
    v) := by
  unfold State.hookDi
  exact Does.ite ((State.diEnWritten_does _ _ _ _).mono rfl) (Does.dite (fun _ => (Does.ite ((State.cntEnabled_does _ _ _).mono
    rfl) (Does.ite ((State.cntClear_does _ _ _).mono rfl) (Does.refl _ _)))) (fun _ => (Does.refl _ _)))

theorem State.setKeys_does (s : State) (ws : List (Nat × Word)) : Does [.can] s (State.setKeys s ws) := by
  unfold State.setKeys
  exact Does.foldl (fun _ _ => (Does.ite ((State.updCan_does _ _).mono rfl) (Does.refl _ _))) (Does.refl _ _)

theorem State.enterRun_does (s : State) : Does [.regs, .heart, .sup, .led, .fans, .banks, .log, .summary, .loops, .dio, .afe,
    .cells, .xf, .root, .time, .gnss] s (State.enterRun s) := by
  unfold State.enterRun
  exact Does.step ((State.markLoops_does _).mono rfl) (State.changeMode_does _ _) rfl

theorem State.devCommand_does (s : State) (sess c : Nat) : Does [.regs, .heart, .sup, .arb, .led, .fans, .banks, .log,
    .summary, .loops, .dio, .afe, .cells, .xf, .root, .time, .gnss] s (State.devCommand s sess c) := by
  unfold State.devCommand
  exact Does.ite (Does.refl _ _) (by
    try dsimp only
    split
    · exact (Does.ite ((State.leaveToStandby_does _).mono rfl) ((State.changeMode_does _ _).mono rfl))
    · exact ((State.changeMode_does _ _).mono rfl)
    · exact ((State.enterRun_does _).mono rfl)
    · exact ((State.enterSafeHold_does _ _).mono rfl)
    · exact (Does.step ((State.changeMode_does _ _).mono rfl) (State.updSup_does _ _) rfl)
    · exact (Does.step (Does.step ((State.updSup_does _ _).mono rfl) (State.assertSafe_does _) rfl) (State.settleAll_does _) rfl)
    · exact ((State.updSup_does _ _).mono rfl)
    all_goals exact (Does.refl _ _))

theorem State.fwCommand_does (s : State) (c : Nat) : Does [.sup] s (State.fwCommand s c) := by
  unfold State.fwCommand
  exact by
    try dsimp only
    split
    · exact ((State.updFw_does _ _).mono rfl)
    · exact ((State.updFw_does _ _).mono rfl)
    · exact ((State.updFw_does _ _).mono rfl)
    · exact ((State.updSup_does _ _).mono rfl)
    · exact ((State.updFw_does _ _).mono rfl)
    all_goals exact (Does.refl _ _)

theorem State.hookDev_does (s : State) (sess off : Nat) (v : Word) : Does [.regs, .heart, .sup, .arb, .led, .fans, .banks,
    .log, .summary, .loops, .dio, .afe, .cells, .xf, .root, .time, .gnss] s (State.hookDev s sess off v) := by
  unfold State.hookDev
  exact Does.ite ((State.devCommand_does _ _ _).mono rfl) (Does.ite ((State.fwCommand_does _ _).mono rfl) (Does.ite
    ((State.updFw_does _ _).mono rfl) (Does.refl _ _)))

theorem State.hookAi_does (s : State) (c : Fin 8) (off : Nat) (old v : Word) : Does [.regs, .store, .afe] s (State.hookAi s c
    off old v) := by
  unfold State.hookAi
  exact Does.ite ((State.sendCfg_does _).mono rfl) (Does.ite ((State.sendCfg_does _).mono rfl) (Does.ite ((State.aiWritten_does _ _ _ _).mono rfl) (Does.ite (by
    try dsimp only
    split
    · exact (Does.step ((State.leadStart_does _ _ _).mono rfl) (State.kickAi_does _ _) rfl)
    · exact ((State.leadStore_does _ _ _).mono rfl)
    all_goals exact (Does.refl _ _)) (Does.refl _ _))))

theorem State.renewAll_does (s : State) : Does [.can] s (State.renewAll s) := by
  unfold State.renewAll
  exact (State.updCan_does _ _).mono rfl

theorem State.faultedRequest_does (s : State) (r : Req) (x : Sess) : Does [.can, .sent] s (State.faultedRequest s r x) := by
  unfold State.faultedRequest
  exact Does.step ((State.updSess_does _ _ _).mono rfl) (State.answer_does _ _ _ _ _ _) rfl

theorem State.stageWord_does (s : State) (ctx : OpCtx) (k : Kind) (i a : Nat) (value mask : Word) :
    Does [.regs] s (s.stageWord ctx k i a value mask).2.1 := by
  unfold State.stageWord
  dsimp only
  split
  · exact Does.refl _ _
  · split
    · exact Does.refl _ _
    · split
      · exact Does.refl _ _
      · exact Does.ite (Does.refl _ _) (State.wr_does _ _ _)

theorem State.stageWords_does (s : State) (ctx : OpCtx) (k : Kind) (i : Nat) (mask : Word) (l : List (Nat × Word)) :
    Does [.regs] s (s.stageWords ctx k i mask l).2.2.1 := by
  induction l generalizing s with
  | nil => exact Does.refl _ _
  | cons p r ih =>
    obtain ⟨a, v⟩ := p
    unfold State.stageWords
    have h := State.stageWord_does s ctx k i a v mask
    generalize s.stageWord ctx k i a v mask = q at h ⊢
    obtain ⟨st, s', w⟩ := q
    dsimp only at h ⊢
    split
    · next he =>
      simp only [Prod.mk.injEq] at he
      obtain ⟨-, rfl, rfl⟩ := he
      exact h.trans (ih _)
    · exact Does.refl _ _

theorem State.hookTherm_does (s : State) (off : Nat) (old v : Word) : Does [.regs, .sup, .led, .sensors, .log, .summary,
    .loops] s (State.hookTherm s off old v) := by
  unfold State.hookTherm
  exact Does.dite (fun _ => ((State.thrEnWritten_does _ _ _ _).mono rfl)) (fun _ => (Does.refl _ _))

theorem State.hookTime_does (s : State) (sess off : Nat) (old v : Word) : Does [.regs, .heart, .led, .banks, .log, .summary,
    .loops, .root, .time, .gnss] s (State.hookTime s sess off old v) := by
  unfold State.hookTime
  exact by
    try dsimp only
    split
    · exact (Does.ite ((State.timeOff_does _).mono rfl) (Does.ite ((State.timeStart_does _).mono rfl) (Does.refl _ _)))
    · exact ((State.srcCfgWritten_does _ _).mono rfl)
    · exact ((State.timeCmd_does _ _ _).mono rfl)
    · exact (Does.ite ((State.updPtp_does _ _).mono rfl) (Does.refl _ _))
    · exact (Does.ite (Does.refl _ _) ((State.rejudgePtp_does _).mono rfl))
    · exact (Does.ite ((State.tpStart_does _).mono rfl) (Does.refl _ _))
    all_goals exact (Does.refl _ _)

theorem State.hookLink_does (s : State) (off : Nat) : Does [.can] s (State.hookLink s off) := by
  unfold State.hookLink
  exact Does.ite (Does.put_can (Does.refl _ _) _ rfl) (Does.refl _ _)

theorem State.boostBoth_does (s : State) (n : Fin 12) : Does [.regs] s (State.boostBoth s n) := by
  unfold State.boostBoth
  exact (State.wr_does _ _ _).mono rfl

theorem State.hookAct_does (s : State) (sess : Nat) (n : Fin 12) (off : Nat) (old v : Word) : Does [.regs, .arb, .banks,
    .log, .summary] s (State.hookAct s sess n off old v) := by
  unfold State.hookAct
  exact by
    try dsimp only
    split
    · exact (Does.ite ((State.disableBank_does _ _).mono rfl) (Does.refl _ _))
    · exact ((State.boostBoth_does _ _).mono rfl)
    · exact (Does.ite ((State.lockClear_does _ _).mono rfl) (Does.refl _ _))
    · exact (Does.dite (fun _ => ((State.updBank_does _ _ _).mono rfl)) (fun _ => (Does.refl _ _)))
    · exact (Does.dite (fun _ => ((State.updBank_does _ _ _).mono rfl)) (fun _ => (Does.refl _ _)))
    all_goals exact (Does.ite ((State.fltClear_does _ _ _).mono rfl) (Does.refl _ _))

theorem State.hookUcode_does (s : State) (n : Fin 12) (off : Nat) (v : Word) : Does [.regs, .log, .summary] s
    (State.hookUcode s n off v) := by
  unfold State.hookUcode
  exact Does.ite (Does.ite ((State.ucPass_does _ _).mono rfl) (Does.refl _ _)) (Does.ite ((State.setUcValid_does _ _ _).mono
    rfl) (Does.refl _ _))

theorem State.hookDo_does (s : State) (g : Fin 4) (off : Nat) (old v : Word) : Does [.dio] s (State.hookDo s g off old v) :=
    by
  unfold State.hookDo
  exact Does.ite ((State.doFltClear_does _ _).mono rfl) (Does.ite ((State.updOut_does _ _ _).mono rfl) (Does.refl _ _))

theorem State.hookCell_does (s : State) (n : Fin 16) (off : Nat) (old v : Word) : Does [.regs, .store, .cells] s
    (State.hookCell s n off old v) := by
  unfold State.hookCell
  exact Does.ite ((State.cellEnWritten_does _ _ _ _).mono rfl) (Does.ite ((State.tiaModeWritten_does _ _ _).mono rfl) (Does.ite (by
    try dsimp only
    split
    · exact ((State.calStart_does _ _ _).mono rfl)
    · exact ((State.calStart_does _ _ _).mono rfl)
    · exact ((State.calStart_does _ _ _).mono rfl)
    · exact ((State.calCommit_does _ _).mono rfl)
    · exact ((State.calDiscard_does _ _).mono rfl)
    · exact ((State.calValidate_does _ _).mono rfl)
    all_goals exact (Does.refl _ _)) (Does.ite (Does.ite ((State.rcalStart_does _ _).mono rfl) (Does.refl _ _)) (Does.ite (Does.ite ((State.updCell_does _ _ _).mono rfl) (Does.refl _ _)) (Does.ite ((State.setCalValid_does _ _ _).mono rfl) (Does.refl _ _))))))

theorem State.hookMoist_does (s : State) (off : Nat) (old v : Word) : Does [.regs, .log, .summary, .moist] s (State.hookMoist
    s off old v) := by
  unfold State.hookMoist
  exact Does.ite (Does.ite ((State.moistOff_does _).mono rfl) (Does.refl _ _)) (Does.dite (fun _ => ((State.mcfgWritten_does _ _ _).mono rfl)) (fun _ => (Does.dite (fun _ => (by
    try dsimp only
    split
    · exact ((State.captureStart_does _ _ _).mono rfl)
    · exact ((State.captureStart_does _ _ _).mono rfl)
    · exact ((State.sweepStart_does _ _).mono rfl)
    all_goals exact (Does.refl _ _))) (fun _ => (Does.ite ((State.setGtValid_does _ _ _).mono rfl) (Does.refl _ _))))))

theorem State.hookFan_does (s : State) (f : Fin 8) (off : Nat) (v : Word) : Does [.fans] s (State.hookFan s f off v) := by
  unfold State.hookFan
  exact Does.ite ((State.fanFltClear_does _ _).mono rfl) (Does.refl _ _)

theorem State.hookGnss_does (s : State) (off : Nat) (old v : Word) : Does [.regs, .heart, .led, .banks, .log, .summary,
    .loops, .xf, .root, .time, .gnss] s (State.hookGnss s off old v) := by
  unfold State.hookGnss
  exact by
    try dsimp only
    split
    · exact (Does.step (Does.ite (Does.refl _ _) ((State.updGnss_does _ _).mono rfl)) (State.dropDisabled_does _) rfl)
    · exact ((State.gnssConfig_does _).mono rfl)
    · exact ((State.gnssCmd_does _ _).mono rfl)
    all_goals exact (Does.refl _ _)

theorem State.hookSeg_does (s : State) (g : Fin 16) (off : Nat) (old v : Word) : Does [.regs, .log, .summary, .root] s
    (State.hookSeg s g off old v) := by
  unfold State.hookSeg
  exact Does.ite ((State.segEnWritten_does _ _ _ _).mono rfl) (Does.ite ((State.rootCmdStart_does _ _ _).mono rfl) (Does.refl _
    _))

theorem State.setWritten_does (s : State) (l : Fin 256) (off : Nat) : Does [.loops] s (State.setWritten s l off) := by
  unfold State.setWritten
  exact (State.updLoop_does _ _ _).mono rfl

theorem State.hookLoop_does (s : State) (l : Fin 256) (off : Nat) (old v : Word) : Does [.regs, .log, .summary, .loops] s
    (State.hookLoop s l off old v) := by
  unfold State.hookLoop
  exact Does.ite (Does.ite ((State.loopEnabled_does _ _).mono rfl) (Does.ite ((State.loopDisabled_does _ _).mono rfl) (Does.refl _ _))) (Does.ite ((State.cmodeWritten_does _ _).mono rfl) (Does.ite ((State.updLoop_does _ _ _).mono rfl) (Does.ite (Does.step (Does.step (Does.step ((State.wr_does _ _ _).mono rfl) (State.syncCnt_does _ _ _) rfl) (State.wr_does _ _ _) rfl) (State.updLoop_does _ _ _) rfl) (Does.ite ((State.updLoop_does _ _ _).mono rfl) (Does.ite (by
    try dsimp only
    split
    · exact ((State.tuneStart_does _ _).mono rfl)
    · exact ((State.tuneEnd_does _ _ _).mono rfl)
    all_goals exact (Does.refl _ _)) (Does.ite ((State.setWritten_does _ _ _).mono rfl) (Does.refl _ _)))))))

theorem State.hook_does (s : State) (sess : Nat) (k : Kind) (i off : Nat) (old v : Word) : Does [.regs, .store, .heart, .sup,
    .clk, .pwr, .arb, .led, .sensors, .fans, .banks, .log, .summary, .can, .loops, .dio, .afe, .cells, .moist, .xf, .root,
    .time, .gnss] s (State.hook s sess k i off old v) := by
  unfold State.hook
  exact by
    try dsimp only
    split
    · exact ((State.hookDev_does _ _ _ _).mono rfl)
    · exact ((State.hookClk_does _ _ _ _).mono rfl)
    · exact ((State.hookTherm_does _ _ _ _).mono rfl)
    · exact ((State.hookTime_does _ _ _ _ _).mono rfl)
    · exact ((State.hookLink_does _ _).mono rfl)
    · exact ((State.hookAct_does _ _ _ _ _ _).mono rfl)
    · exact ((State.hookUcode_does _ _ _ _).mono rfl)
    · exact ((State.hookDi_does _ _ _ _ _).mono rfl)
    · exact ((State.hookDo_does _ _ _ _ _).mono rfl)
    · exact ((State.hookAi_does _ _ _ _ _).mono rfl)
    · exact ((State.hookCell_does _ _ _ _ _).mono rfl)
    · exact ((State.hookMoist_does _ _ _ _).mono rfl)
    · exact ((State.hookFan_does _ _ _ _).mono rfl)
    · exact ((State.hookGnss_does _ _ _ _).mono rfl)
    · exact ((State.hookSeg_does _ _ _ _ _).mono rfl)
    · exact ((State.hookLoop_does _ _ _ _ _).mono rfl)
    · exact (Does.refl _ _)
    · exact (Does.refl _ _)
    · exact (Does.refl _ _)
    · exact (Does.refl _ _)
    · exact (Does.refl _ _)
    · exact (Does.refl _ _)
    · exact (Does.refl _ _)
    all_goals exact (Does.refl _ _)

theorem State.hooks_does (s : State) (ctx : OpCtx) (k : Kind) (i : Nat) (ws : List WordWrite) : Does [.regs, .store, .heart,
    .sup, .clk, .pwr, .arb, .led, .sensors, .fans, .banks, .log, .summary, .can, .loops, .dio, .afe, .cells, .moist, .xf,
    .root, .time, .gnss] s (State.hooks s ctx k i ws) := by
  unfold State.hooks
  exact Does.step (Does.foldl (fun _ _ => (Does.ite (Does.refl _ _) ((State.hook_does _ _ _ _ _ _ _).mono rfl))) (Does.refl _
    _)) (State.settleAll_does _) rfl

theorem Run.writePage_does (x : Run) (ctx : OpCtx) (k : Kind) (i : Nat) (mask : Word) (ws : List (Nat × Word)) :
    Does [.regs, .store, .heart, .sup, .clk, .pwr, .arb, .led, .sensors, .fans, .banks, .log, .summary, .can, .loops, .dio, .afe, .cells, .moist, .xf, .root, .time, .gnss] x.s (x.writePage ctx k i mask ws).1.s := by
  unfold Run.writePage
  dsimp only
  split
  · exact Does.refl _ _
  · have h := State.stageWords_does x.s ctx k i mask ws
    generalize x.s.stageWords ctx k i mask ws = q at h ⊢
    obtain ⟨st, a, t, recs⟩ := q
    dsimp only at h ⊢
    split
    · next he =>
      simp only [Prod.mk.injEq] at he
      obtain ⟨-, -, rfl, rfl⟩ := he
      exact Does.step (h.mono rfl) (State.hooks_does _ _ _ _ _) rfl
    · split
      · exact Does.refl _ _
      · exact Does.foldl (fun _ _ => (State.ucFail_does _ _ _).mono rfl) (Does.refl _ _)

theorem Run.write_does (x : Run) (ctx : OpCtx) (a : Nat) (mask : Word) (vs : List Word) : Does [.regs, .store, .heart, .sup, .clk, .pwr, .arb, .led, .sensors, .fans, .banks, .log, .summary, .can, .loops, .dio, .afe, .cells, .moist, .xf, .root, .time, .gnss] x.s (x.write ctx a mask vs).1.s := by
  unfold Run.write
  dsimp only
  split
  · exact Run.writePage_does ..
  · exact (Run.writeWindow_does ..).mono rfl
  · exact Does.refl _ _

theorem State.claimSub_does (s : State) (ctx : OpCtx) (page sub loss : Nat) (take : Bool) :
    Does [.can] s (s.claimSub ctx page sub loss take).1 := by
  unfold State.claimSub
  dsimp only
  split
  · split <;> exact Does.refl _ _
  · split
    · split
      · exact Does.refl _ _
      · exact (State.putClaim_does _ _).mono rfl
    · exact (State.putClaim_does _ _).mono rfl

theorem State.opClaim_does (s : State) (ctx : OpCtx) (flags id : Nat) : Does [.regs, .heart, .sup, .led, .banks, .log, .summary, .can, .loops, .dio, .xf, .root, .time, .gnss] s (s.opClaim ctx flags id).1 := by
  have f : ∀ {c : Prop} [Decidable c] {a b : State × Nat × List Word}, Does [.regs, .heart, .sup, .led, .banks, .log, .summary, .can, .loops, .dio, .xf, .root, .time, .gnss] s a.1 → Does [.regs, .heart, .sup, .led, .banks, .log, .summary, .can, .loops, .dio, .xf, .root, .time, .gnss] s b.1 →
      Does [.regs, .heart, .sup, .led, .banks, .log, .summary, .can, .loops, .dio, .xf, .root, .time, .gnss] s (if c then a else b).1 := fun h k => by split <;> assumption
  unfold State.opClaim
  split
  · next page sub _ =>
    refine f (Does.refl _ _) (f (Does.refl _ _) (f (Does.refl _ _) ?_))
    generalize flags / 2 % 4 = loss
    generalize (flags % 2 == 1) = take
    have h : Does [.regs, .heart, .sup, .led, .banks, .log, .summary, .can, .loops, .dio, .xf, .root, .time, .gnss] s (if sub = 0xFF then s.claimPage ctx page loss take else s.claimSub ctx page sub loss take).1 :=
      f ((State.claimPage_does ..).mono rfl) ((State.claimSub_does ..).mono rfl)
    exact Does.step h (State.settleAll_does _) rfl
  · exact Does.refl _ _

theorem State.opRelease_does (s : State) (ctx : OpCtx) (id : Nat) : Does [.regs, .heart, .sup, .led, .banks, .log, .summary, .can, .loops, .dio, .xf, .root, .time, .gnss] s (s.opRelease ctx id).1 := by
  unfold State.opRelease
  split
  · split
    · exact Does.refl _ _
    · split
      · exact Does.refl _ _
      · split
        · split
          · exact Does.refl _ _
          · split
            · exact Does.step ((State.dropClaim_does _ _ _).mono rfl) (State.settleAll_does _) rfl
            · exact Does.refl _ _
        · split
          · split
            · exact Does.refl _ _
            · exact Does.step ((State.dropClaim_does _ _ _).mono rfl) (State.settleAll_does _) rfl
          · exact Does.refl _ _
  · exact Does.refl _ _

theorem State.opFire_does (s : State) (ctx : OpCtx) (e : OpEntry) : Does [.regs, .heart, .sup, .led, .banks, .log, .summary, .loops, .dio, .xf, .root, .time, .gnss] s (s.opFire ctx e).1 := by
  have f : ∀ {c : Prop} [Decidable c] {a b : State × Nat × List Word}, Does [.regs, .heart, .sup, .led, .banks, .log, .summary, .loops, .dio, .xf, .root, .time, .gnss] s a.1 → Does [.regs, .heart, .sup, .led, .banks, .log, .summary, .loops, .dio, .xf, .root, .time, .gnss] s b.1 →
      Does [.regs, .heart, .sup, .led, .banks, .log, .summary, .loops, .dio, .xf, .root, .time, .gnss] s (if c then a else b).1 := fun h k => by split <;> assumption
  have q : ∀ n k p i st la c b, Does [.regs, .heart, .sup, .led, .banks, .log, .summary, .loops, .dio, .xf, .root, .time, .gnss] s (s.queueEvent n k p i st la c b).settleAll := fun n k p i st la c b =>
    Does.step ((State.queueEvent_does s n k p i st la c b).mono rfl) (State.settleAll_does _) rfl
  unfold State.opFire
  dsimp only
  split
  · exact f (q ..) (f (Does.refl _ _) (Does.refl _ _))
  · exact Does.refl _ _

theorem Run.op_does (x : Run) (ctx : OpCtx) (e : OpEntry) : Does [.regs, .store, .heart, .sup, .clk, .pwr, .arb, .led, .sensors, .fans, .banks, .log, .summary, .can, .loops, .dio, .afe, .cells, .moist, .xf, .root, .time, .gnss] x.s (x.op ctx e).1.s := by
  unfold Run.op
  split
  · exact Does.refl _ _
  · split
    · exact Does.refl _ _
    · exact Does.refl _ _
    · exact Run.write_does ..
    · exact Run.write_does ..
    · exact (State.opClaim_does ..).mono rfl
    · exact (State.opRelease_does ..).mono rfl
    · exact (State.opFire_does ..).mono rfl
    · exact Does.refl _ _
    · split <;> exact Does.refl _ _
    · exact Does.refl _ _

theorem Run.ops_does (x : Run) (ctx : OpCtx) (es : List OpEntry) (acc : List OpResult) : Does [.regs, .store, .heart, .sup, .clk, .pwr, .arb, .led, .sensors, .fans, .banks, .log, .summary, .can, .loops, .dio, .afe, .cells, .moist, .xf, .root, .time, .gnss] x.s (x.ops ctx es acc).1.s := by
  induction es generalizing x acc with
  | nil => exact Does.refl _ _
  | cons e r ih => exact (Run.op_does x ctx e).trans (ih _ _)

theorem Run.commit_does (x : Run) : Does [.regs, .store, .can] x.s x.commit := by
  unfold Run.commit
  exact Does.ite ((State.setKeys_does _ _).mono rfl) (Does.step (Does.foldl (fun _ _ => (State.storeRwc_does _ _).mono rfl)
    ((State.setKeys_does _ _).mono rfl)) (State.bumpEpoch_does _ _) rfl)

theorem State.runOps_does (s : State) (sess : Nat) (role : Role) (minor epoch : Nat) (atomic : Bool) (es : List OpEntry) :
    Does [.regs, .store, .heart, .sup, .clk, .pwr, .arb, .led, .sensors, .fans, .banks, .log, .summary, .can, .loops, .dio, .afe, .cells, .moist, .xf, .root, .time, .gnss] s (s.runOps sess role minor epoch atomic es).1 := by
  unfold State.runOps
  extract_lets ctx
  have h := Run.ops_does ⟨s, [], [], []⟩ ctx es []
  generalize Run.ops ⟨s, [], [], []⟩ ctx es [] = p at h ⊢
  obtain ⟨x, acc⟩ := p
  dsimp only at h ⊢
  split
  · exact Does.foldl (fun _ _ => (State.ucFail_does _ _ _).mono rfl) (Does.refl _ _)
  · split
    · exact Does.step (h.step (Run.commit_does x) rfl) (State.keepFresh_does _ _) rfl
    · exact Does.step (h.step (Run.commit_does x) rfl) (State.keepFresh_does _ _) rfl

theorem State.respond_does (s : State) (r : Req) (noresp : Bool) (bs : List Byte) : Does [.sup, .can, .sent] s (State.respond
    s r noresp bs) := by
  unfold State.respond
  exact Does.ite ((State.updSess_does _ _ _).mono rfl) (Does.ite (Does.step (Does.step ((State.updSess_does _ _ _).mono rfl)
    (State.reply_does _ _ _ _) rfl) (State.updSup_does _ _) rfl) (Does.step ((State.updSess_does _ _ _).mono rfl)
    (State.reply_does _ _ _ _) rfl))

theorem State.runRequest_does (s : State) (r : Req) (x : Sess) : Does [.regs, .store, .heart, .sup, .clk, .pwr, .arb, .led, .sensors, .fans, .banks, .log, .summary, .can, .loops, .dio, .afe, .cells, .moist, .xf, .root, .time, .gnss, .sent] s (s.runRequest r x) := by
  unfold State.runRequest
  extract_lets h
  split
  · exact Does.refl _ _
  · next es _ =>
    have k := State.runOps_does s r.sess x.role x.minor h.epoch (h.flags % 2 == 1) es
    generalize s.runOps r.sess x.role x.minor h.epoch (h.flags % 2 == 1) es = p at k ⊢
    obtain ⟨t, st, fo, rs⟩ := p
    dsimp only at k
    refine Does.step (k.mono rfl) (State.respond_does t r (h.flags / 2 % 2 == 1) (mkFrame _ _ _)) rfl

theorem State.requestExecute_does (s : State) : Does [.regs, .store, .heart, .sup, .clk, .pwr, .arb, .led, .sensors, .fans,
    .banks, .log, .summary, .can, .loops, .dio, .afe, .cells, .moist, .xf, .root, .time, .gnss, .sent] s (State.requestExecute
    s) := by
  unfold State.requestExecute
  exact Does.ite (Does.refl _ _) (by
    try dsimp only
    split
    · exact (Does.refl _ _)
    · exact (by
      try dsimp only
      split
      · exact ((State.updCan_does _ _).mono rfl)
      · exact (Does.ite (Does.step ((State.updCan_does _ _).mono rfl) (State.faultedRequest_does _ _ _) rfl) (Does.step ((State.updCan_does _ _).mono rfl) (State.runRequest_does _ _ _) rfl))))

theorem State.dhcpAsk_does (s : State) (st : DhcpState) : Does [.can, .sent] s (State.dhcpAsk s st) := by
  unfold State.dhcpAsk
  exact Does.ite (Does.step ((State.updNet_does _ _).mono rfl) (State.dhcpSend_does _ _) rfl) (Does.step ((State.updNet_does _
    _).mono rfl) (State.dhcpSend_does _ _) rfl)

theorem State.dhcpTimer_does (s : State) : Does [.regs, .freeCtr, .log, .summary, .can, .sent] s (State.dhcpTimer s) := by
  unfold State.dhcpTimer
  exact by
    try dsimp only
    split
    · exact ((State.dhcpDiscover_does _).mono rfl)
    · exact ((State.dhcpDiscover_does _).mono rfl)
    · exact ((State.dhcpAsk_does _ _).mono rfl)
    · exact (Does.ite ((State.dhcpAsk_does _ _).mono rfl) (Does.refl _ _))
    · exact (Does.ite ((State.dhcpLost_does _).mono rfl) ((State.dhcpAsk_does _ _).mono rfl))
    all_goals exact (Does.ite ((State.dhcpLost_does _).mono rfl) ((State.dhcpAsk_does _ _).mono rfl))

theorem State.dhcpMessage_does (s : State) (p : Fin 2) (msg : DhcpMsg) : Does [.regs, .freeCtr, .log, .summary, .can, .sent]
    s (State.dhcpMessage s p msg) := by
  unfold State.dhcpMessage
  exact Does.ite (Does.refl _ _) (by
    try dsimp only
    split
    · exact ((State.dhcpTimer_does _).mono rfl)
    · exact (Does.ite (Does.step ((State.updNet_does _ _).mono rfl) (State.dhcpAsk_does _ _) rfl) (Does.refl _ _))
    · exact (Does.ite (Does.step ((State.updNet_does _ _).mono rfl) (State.takeAddress_does _) rfl) (Does.refl _ _))
    all_goals exact (Does.ite ((State.dhcpLost_does _).mono rfl) (Does.refl _ _)))

theorem State.addrChange_does (s : State) : Does [.regs, .freeCtr, .log, .summary, .can, .sent] s (State.addrChange s) := by
  unfold State.addrChange
  exact Does.ite (Does.ite (Does.step ((State.takeAddress_does _).mono rfl) (State.dhcpDiscover_does _) rfl)
    ((State.takeAddress_does _).mono rfl)) (Does.refl _ _)

theorem State.arpRequest_does (s : State) (p : Fin 2) (mac : BitVec 48) (ip target : Word) : Does [.sent] s (State.arpRequest
    s p mac ip target) := by
  unfold State.arpRequest
  exact Does.ite ((State.send_does _ _ _).mono rfl) (Does.refl _ _)

theorem State.beacon_does (s : State) (i : Fin 8) : Does [.summary, .can, .sent] s (State.beacon s i) := by
  unfold State.beacon
  exact by
    try dsimp only
    split
    · exact (Does.ite (Does.refl _ _) (Does.put_summary (Does.step ((State.updSess_does _ _ _).mono rfl) (State.reply_does _ _ _ _) rfl) _ rfl))
    · exact (Does.refl _ _)

theorem State.readFrame_does (s : State) (full : Bool) : Does [.sup, .can, .sent] s (State.readFrame s full) := by
  unfold State.readFrame
  exact Does.ite (Does.step ((State.spiTransfer_does _ _ _).mono rfl) (State.spiLeft_does _) rfl) (Does.refl _ _)

theorem State.writeFrame_does (s : State) (bs : List Byte) (full : Bool) : Does [.regs, .freeCtr, .heart, .sup, .arb, .led,
    .fans, .banks, .log, .summary, .can, .loops, .dio, .afe, .cells, .xf, .root, .time, .gnss, .sent] s (State.writeFrame s bs
    full) := by
  unfold State.writeFrame
  exact Does.ite (Does.refl _ _) (Does.ite (Does.step (Does.step ((State.spiTransfer_does _ _ _).mono rfl) (State.updSpi_does _
    _) rfl) (State.count_does _ _) rfl) (Does.ite ((State.spiTransfer_does _ _ _).mono rfl) (Does.step (Does.step
    ((State.spiTransfer_does _ _ _).mono rfl) (State.updSpi_does _ _) rfl) (State.receive_does _ _ _) rfl)))

theorem State.icmpEcho_does (s : State) (p : Fin 2) (ip target : Word) (fragment : Bool) (rest : List Byte) : Does [.sent] s
    (State.icmpEcho s p ip target fragment rest) := by
  unfold State.icmpEcho
  exact Does.ite ((State.send_does _ _ _).mono rfl) (Does.refl _ _)

theorem State.spiUnknown_does (s : State) (n : Nat) (full : Bool) : Does [.can, .sent] s (State.spiUnknown s n full) := by
  unfold State.spiUnknown
  exact Does.ite ((State.spiTransfer_does _ _ _).mono rfl) (Does.refl _ _)

theorem State.portLinkChange_does (s : State) (p : Fin 2) (up fdx : Bool) : Does [.regs, .freeCtr, .heart, .led, .banks,
    .log, .summary, .can, .loops, .root, .time, .gnss, .sent] s (State.portLinkChange s p up fdx) := by
  unfold State.portLinkChange
  exact Does.ite (Does.refl _ _) (Does.ite (Does.step (Does.step ((State.updNet_does _ _).mono rfl) (State.flag_does _ _ _)
    rfl) (State.ptpLinkDown_does _ _) rfl) (Does.ite (Does.step ((State.updNet_does _ _).mono rfl) (State.dhcpDiscover_does _)
    rfl) ((State.updNet_does _ _).mono rfl)))

end Sys2Proof.Machine
end

