-- ==== Sys2Proof/Laws/DoesReset.lean ====
section
/-!
SUPPORT. What each operation of these parts may do, one lemma per operation (`Sys2Proof.Laws.Does` says what `Does`
claims): the resets, the modes and the boot.
-/
namespace Sys2Proof.Machine

theorem State.toPhase_does (s : State) (p : BootPhase) : Does [.sup] s (State.toPhase s p) := by
  unfold State.toPhase
  exact (State.updSup_does _ _).mono rfl

theorem State.segsOff_does (s : State) : Does [.root] s (State.segsOff s) := by
  unfold State.segsOff
  exact (State.rootOff_does _).mono rfl

theorem State.clocksOff_does (s : State) : Does [.clk] s (State.clocksOff s) := by
  unfold State.clocksOff
  exact Does.put_clk (Does.refl _ _) _ rfl

theorem State.resetDomains_does (s : State) (keep : Nat) : Does [.regs, .heart, .sup, .clk, .pwr, .arb, .led, .fans, .banks, .log, .summary, .can, .loops, .dio, .afe, .cells, .moist, .xf, .root, .time, .gnss] s (s.resetDomains keep) := by
  unfold State.resetDomains
  refine Does.trans ((State.assertSafe_does s).mono rfl) ?_
  exact ⟨fun p hp => by cases p <;> first | exact absurd (by decide) hp | rfl, rfl, rfl, fun k => ⟨k.2, k.2⟩, fun _ => Nat.zero_le _,
    List.suffix_refl _, Nat.le_refl _⟩

theorem State.criticalTrip_does (s : State) (mask : Nat) : Does [.regs, .heart, .sup, .clk, .pwr, .arb, .led, .fans, .banks,
    .log, .summary, .can, .loops, .dio, .afe, .cells, .moist, .xf, .root, .time, .gnss] s (State.criticalTrip s mask) := by
  unfold State.criticalTrip
  exact Does.ite (Does.refl _ _) (Does.ite ((State.updSup_does _ _).mono rfl) (Does.step (Does.step (Does.step (Does.step
    ((State.resetDomains_does _ _).mono rfl) (State.clocksOff_does _) rfl) (State.segsOff_does _) rfl) (State.updSup_does _ _)
    rfl) (State.updSup_does _ _) rfl))

theorem State.vlBelowOff_does (s : State) : Does [.regs, .heart, .sup, .clk, .pwr, .arb, .led, .fans, .banks, .log, .summary,
    .can, .loops, .dio, .afe, .cells, .moist, .xf, .root, .time, .gnss] s (State.vlBelowOff s) := by
  unfold State.vlBelowOff
  exact Does.ite (Does.refl _ _) (Does.step (Does.step (Does.step ((State.resetDomains_does _ _).mono rfl)
    (State.clocksOff_does _) rfl) (State.segsOff_does _) rfl) (State.updSup_does _ _) rfl)

theorem State.rstAccept_does (s : State) : Does [.regs, .heart, .sup, .arb, .led, .fans, .banks, .log, .summary, .loops,
    .dio, .afe, .cells, .xf, .root, .time, .gnss] s (State.rstAccept s) := by
  unfold State.rstAccept
  exact Does.ite (Does.refl _ _) (Does.step (Does.step (Does.step (Does.step ((State.updSup_does _ _).mono rfl)
    (State.settleLife_does _) rfl) (State.leftMode_does _ _) rfl) (State.assertSafe_does _) rfl) (State.settleAll_does _) rfl)

theorem State.beginBoot_does (s : State) (cause : ResetCause) (phase : BootPhase) (start : Nat) : Does [.sup] s
    (State.beginBoot s cause phase start) := by
  unfold State.beginBoot
  exact (State.updSup_does _ _).mono rfl

theorem State.warmReset_does (s : State) (cause : ResetCause) : Does [.regs, .heart, .sup, .clk, .pwr, .arb, .led, .fans,
    .banks, .log, .summary, .can, .loops, .dio, .afe, .cells, .moist, .xf, .root, .time, .gnss] s (State.warmReset s cause) :=
    by
  unfold State.warmReset
  exact Does.step ((State.resetDomains_does _ _).mono rfl) (State.beginBoot_does _ _ _ _) rfl

theorem State.watchdogExpiry_does (s : State) : Does [.regs, .heart, .sup, .clk, .pwr, .arb, .led, .fans, .banks, .log,
    .summary, .can, .loops, .dio, .afe, .cells, .moist, .xf, .root, .time, .gnss] s (State.watchdogExpiry s) := by
  unfold State.watchdogExpiry
  exact by
    try dsimp only
    split
    · exact (Does.refl _ _)
    · exact (Does.refl _ _)
    all_goals exact (Does.ite (Does.step (Does.step ((State.updSup_does _ _).mono rfl) (State.settleLife_does _) rfl) (State.warmReset_does _ _) rfl) (Does.refl _ _))

theorem State.clocksLost_does (s : State) (cause : Nat) : Does [.clk] s (State.clocksLost s cause) := by
  unfold State.clocksLost
  exact Does.put_clk (Does.refl _ _) _ rfl

theorem State.faultExtends_does (s : State) (cause : Nat) : Does [.regs, .clk, .log, .summary] s (State.faultExtends s cause)
    := by
  unfold State.faultExtends
  exact Does.ite (Does.refl _ _) (Does.step (Does.put_clk ((State.clocksLost_does _ _).mono rfl) _ rfl) (State.flag_does _ _ _)
    rfl)

theorem State.bootFault_does (s : State) (cause : Nat) : Does [.regs, .heart, .sup, .clk, .pwr, .arb, .led, .fans, .banks,
    .log, .summary, .can, .loops, .dio, .afe, .cells, .moist, .xf, .root, .time, .gnss] s (State.bootFault s cause) := by
  unfold State.bootFault
  exact Does.step (Does.step (Does.foldl (fun _ _ => ((State.wr_does _ _ _).mono rfl)) (Does.step (Does.step ((State.flag_does
    _ _ _).mono rfl) (State.count_does _ _) rfl) (State.resetDomains_does _ _) rfl)) (State.clocksLost_does _ _) rfl)
    (State.updSup_does _ _) rfl

theorem State.blocksFault_does (s : State) : Does [.regs, .clk, .log, .summary, .loops, .afe, .cells, .moist, .xf, .root,
    .gnss, .sent] s (State.blocksFault s) := by
  unfold State.blocksFault
  exact Does.ite (Does.step (Does.step (Does.step (Does.step (Does.step (Does.step (Does.step (Does.step ((State.fcntAbort_does
    _).mono rfl) (State.cellFault_does _) rfl) (State.moistFault_does _) rfl) (State.afeFault_does _) rfl)
    (State.rootFault_does _) rfl) (State.tunesAbort_does _) rfl) (State.xfFault_does _) rfl) (State.gnssFault_does _) rfl)
    (State.tcxoLost_does _) rfl) (Does.step (Does.step (Does.step (Does.step (Does.step (Does.step (Does.step
    ((State.fcntAbort_does _).mono rfl) (State.cellFault_does _) rfl) (State.moistFault_does _) rfl) (State.afeFault_does _)
    rfl) (State.rootFault_does _) rfl) (State.tunesAbort_does _) rfl) (State.xfFault_does _) rfl) (State.gnssFault_does _) rfl)

theorem State.faultBegins_does (s : State) (cause : Nat) : Does [.regs, .heart, .sup, .clk, .arb, .led, .fans, .banks, .log,
    .summary, .loops, .dio, .afe, .cells, .moist, .xf, .root, .time, .gnss, .sent] s (State.faultBegins s cause) := by
  unfold State.faultBegins
  exact Does.step (Does.step (Does.step (Does.step (Does.step (Does.put_clk (Does.step ((State.timeFault_does _).mono rfl)
    (State.clocksLost_does _ _) rfl) _ rfl) (State.flag_does _ _ _) rfl) (State.count_does _ _) rfl) (State.blocksFault_does _)
    rfl) (State.enterSafeHold_does _ _) rfl) (State.settleAll_does _) rfl

theorem State.clockFaultRow_does (s : State) (cause : Nat) : Does [.regs, .heart, .sup, .clk, .pwr, .arb, .led, .fans,
    .banks, .log, .summary, .can, .loops, .dio, .afe, .cells, .moist, .xf, .root, .time, .gnss, .sent] s (State.clockFaultRow s
    cause) := by
  unfold State.clockFaultRow
  exact Does.ite (Does.refl _ _) (Does.ite (Does.refl _ _) (Does.ite ((State.faultExtends_does _ _).mono rfl) (Does.ite (Does.refl _ _) (by
    try dsimp only
    split
    · exact (Does.refl _ _)
    · exact (Does.refl _ _)
    · exact ((State.bootFault_does _ _).mono rfl)
    all_goals exact ((State.faultBegins_does _ _).mono rfl)))))

theorem State.pull_does (s : State) (x1 : Instr) : Does [.regs, .heart, .sup, .clk, .pwr, .arb, .led, .fans, .banks, .log,
    .summary, .can, .loops, .dio, .afe, .cells, .moist, .xf, .root, .time, .gnss, .sent] s (State.pull s x1) := by
  unfold State.pull
  exact by
    try dsimp only
    split
    · exact ((State.vlBelowOff_does _).mono rfl)
    · exact ((State.criticalTrip_does _ _).mono rfl)
    · exact ((State.criticalTrip_does _ _).mono rfl)
    · exact ((State.rstAccept_does _).mono rfl)
    · exact ((State.watchdogExpiry_does _).mono rfl)
    · exact ((State.clockFaultRow_does _ _).mono rfl)
    · exact (Does.ite (Does.step ((State.xrefWindow_does _ _ _).mono rfl) (State.clockFaultRow_does _ _) rfl) (Does.refl _ _))
    · exact ((State.holdupDecide_does _ _).mono rfl)
    · exact ((State.vlFallback_does _ _).mono rfl)
    · exact ((State.leaseExpiry_does _ _).mono rfl)
    all_goals exact (by
      try dsimp only
      split
      · exact (by
        try dsimp only
        split
        · exact ((State.endLost_does _ _).mono rfl)
        · exact (Does.refl _ _))
      · exact (Does.refl _ _))

theorem State.preempt_does (s : State) (r : Nat) : Does [.regs, .heart, .sup, .clk, .pwr, .arb, .led, .fans, .banks, .log,
    .summary, .can, .loops, .dio, .afe, .cells, .moist, .xf, .root, .time, .gnss, .sent] s (State.preempt s r) := by
  unfold State.preempt
  exact Does.foldl (fun _ _ => (Does.foldl (fun _ _ => ((State.pull_does _ _).mono rfl)) (Does.refl _ _))) (Does.refl _ _)

theorem State.criticalRow_does (s : State) (mask : Nat) : Does [.regs, .heart, .sup, .clk, .pwr, .arb, .led, .fans, .banks,
    .log, .summary, .can, .loops, .dio, .afe, .cells, .moist, .xf, .root, .time, .gnss, .sent] s (State.criticalRow s mask) :=
    by
  unfold State.criticalRow
  exact Does.step ((State.preempt_does _ _).mono rfl) (State.criticalTrip_does _ _) rfl

theorem State.tcxoWindowRow_does (s : State) (count : Nat) : Does [.regs, .heart, .clk, .led, .banks, .log, .summary, .loops,
    .xf, .root, .time, .gnss] s (State.tcxoWindowRow s count) := by
  unfold State.tcxoWindowRow
  exact Does.ite (Does.step ((State.tcxoWindow_does _ _).mono rfl) (State.gnssTcxoLost_does _ _) rfl) (Does.ite (Does.step
    (Does.step ((State.tcxoWindow_does _ _).mono rfl) (State.settleGnss_does _) rfl) (State.gnssConfig_does _) rfl) (Does.step
    ((State.tcxoWindow_does _ _).mono rfl) (State.settleGnss_does _) rfl))

theorem State.holdupRow_does (s : State) (vl : Nat) : Does [.regs, .heart, .sup, .clk, .pwr, .arb, .led, .fans, .banks, .log,
    .summary, .can, .loops, .dio, .afe, .cells, .moist, .xf, .root, .time, .gnss, .sent] s (State.holdupRow s vl) := by
  unfold State.holdupRow
  exact Does.step ((State.preempt_does _ _).mono rfl) (State.holdupJudge_does _ _) rfl

theorem State.commitWear_does (s : State) : Does [.wearSaved, .time, .gnss] s (State.commitWear s) := by
  unfold State.commitWear
  exact Does.step (Does.ite (Does.step (Does.put_wearSaved (Does.refl _ _) _ rfl) (State.updTime_does _ _) rfl)
    (Does.put_wearSaved (Does.refl _ _) _ rfl)) (State.gnssCommit_does _) rfl

theorem State.sagCommitDone_does (s : State) (sector n : Nat) : Does [.regs, .wear, .wearSaved, .log, .summary, .time, .gnss]
    s (State.sagCommitDone s sector n) := by
  unfold State.sagCommitDone
  exact Does.ite (Does.step (Does.step ((State.archive_does _).mono rfl) (State.wearErase_does _ _ _) rfl)
    (State.commitWear_does _) rfl) (Does.refl _ _)

theorem State.fwEraseDone_does (s : State) (sector n : Nat) : Does [.regs, .sup, .wear, .log, .summary] s (State.fwEraseDone
    s sector n) := by
  unfold State.fwEraseDone
  exact Does.ite (Does.step ((State.updFw_does _ _).mono rfl) (State.wearErase_does _ _ _) rfl) (Does.refl _ _)

theorem State.aonReset_does (s : State) : Does [.sup, .clk, .pwr, .sensors, .banks, .wear, .root] s (State.aonReset s) := by
  unfold State.aonReset
  exact Does.trans (Does.step ((State.clocksOff_does _).mono rfl) (State.segsOff_does _) rfl) (Does.plain (fun p hp => by cases
    p <;> first | exact absurd (by decide) hp | rfl) rfl rfl rfl rfl rfl rfl rfl)

theorem State.coldReset_does (s : State) (cause : ResetCause) (phase : BootPhase) (start keep : Nat) : Does [.regs, .heart,
    .sup, .clk, .pwr, .arb, .led, .sensors, .fans, .banks, .wear, .log, .summary, .can, .loops, .dio, .afe, .cells, .moist,
    .xf, .root, .time, .gnss] s (State.coldReset s cause phase start keep) := by
  unfold State.coldReset
  exact Does.step (Does.step ((State.resetDomains_does _ _).mono rfl) (State.aonReset_does _) rfl) (State.beginBoot_does _ _ _
    _) rfl

theorem State.sentinelStop_does (s : State) : Does [.regs, .heart, .sup, .clk, .pwr, .arb, .led, .sensors, .fans, .banks,
    .wear, .log, .summary, .can, .loops, .dio, .afe, .cells, .moist, .xf, .root, .time, .gnss] s (State.sentinelStop s) := by
  unfold State.sentinelStop
  exact Does.ite (Does.refl _ _) (Does.step ((State.coldReset_does _ _ _ _ _).mono rfl) (State.updSup_does _ _) rfl)

theorem State.wearCommit_does (s : State) (sector n : Nat) : Does [.regs, .wear, .wearSaved, .log, .summary, .time, .gnss] s
    (State.wearCommit s sector n) := by
  unfold State.wearCommit
  exact Does.ite (Does.step ((State.wearErase_does _ _ _).mono rfl) (State.commitWear_does _) rfl) (Does.refl _ _)

theorem State.xrefWindowRow_does (s : State) (count : Nat) (absent : Bool) : Does [.regs, .heart, .sup, .clk, .pwr, .arb,
    .led, .fans, .banks, .log, .summary, .can, .loops, .dio, .afe, .cells, .moist, .xf, .root, .time, .gnss, .sent] s
    (State.xrefWindowRow s count absent) := by
  unfold State.xrefWindowRow
  exact Does.ite (Does.step (Does.step ((State.preempt_does _ _).mono rfl) (State.xrefWindow_does _ _ _) rfl)
    (State.clockFaultRow_does _ _) rfl) ((State.xrefWindow_does _ _ _).mono rfl)

theorem State.muxRow_does (s : State) (island : Bool) : Does [.regs, .freeCtr, .heart, .sup, .clk, .arb, .led, .fans, .banks,
    .log, .summary, .can, .loops, .dio, .afe, .cells, .xf, .root, .time, .gnss, .sent] s (State.muxRow s island) := by
  unfold State.muxRow
  exact Does.step ((State.muxForced_does _ _).mono rfl) (State.takeWaiting_does _) rfl

theorem State.powerOn_does (s : State) : Does [.regs, .heart, .sup, .clk, .pwr, .arb, .led, .sensors, .fans, .banks, .wear,
    .log, .summary, .can, .loops, .dio, .afe, .cells, .moist, .xf, .root, .time, .gnss] s (State.powerOn s) := by
  unfold State.powerOn
  exact Does.ite (Does.step ((State.coldReset_does _ _ _ _ _).mono rfl) (State.updPwr_does _ _) rfl) (Does.refl _ _)

theorem State.rstRise_does (s : State) (st : Straps) : Does [.regs, .heart, .sup, .clk, .pwr, .arb, .led, .sensors, .fans,
    .banks, .wear, .log, .summary, .can, .loops, .dio, .afe, .cells, .moist, .xf, .root, .time, .gnss] s (State.rstRise s st)
    := by
  unfold State.rstRise
  exact Does.ite ((State.updSup_does _ _).mono rfl) (Does.ite (Does.step ((State.coldReset_does _ _ _ _ _).mono rfl)
    (State.updSup_does _ _) rfl) (Does.refl _ _))

theorem State.selftestDone_does (s : State) (fail c : Nat) (boost : Vector (Nat × Nat) 6) : Does [.regs, .heart, .sup, .led,
    .fans, .banks, .wear, .log, .summary, .loops, .dio, .xf, .root, .time, .gnss] s (State.selftestDone s fail c boost) := by
  unfold State.selftestDone
  exact Does.ite (Does.refl _ _) (Does.step (Does.step (Does.step (Does.foldl (fun _ _ => ((State.wearBoost_does _ _ _ _).mono
    rfl)) (Does.step (Does.step ((State.updSup_does _ _).mono rfl) (State.releaseSafe_does _) rfl) (State.wearHoldup_does _ _)
    rfl)) (State.post_does _ _ _ _) rfl) (State.flag_does _ _ _) rfl) (State.settleAll_does _) rfl)

theorem State.dueReset_does (s : State) : Does [.regs, .heart, .sup, .clk, .pwr, .arb, .led, .fans, .banks, .log, .summary,
    .can, .loops, .dio, .afe, .cells, .moist, .xf, .root, .time, .gnss] s (State.dueReset s) := by
  unfold State.dueReset
  exact by
    try dsimp only
    split
    · exact (Does.ite (Does.refl _ _) ((State.warmReset_does _ _).mono rfl))
    · exact (Does.refl _ _)

theorem State.readNextRow_does (s : State) (full : Bool) : Does [.regs, .heart, .sup, .clk, .pwr, .arb, .led, .fans, .banks,
    .log, .summary, .can, .loops, .dio, .afe, .cells, .moist, .xf, .root, .time, .gnss, .sent] s (State.readNextRow s full) :=
    by
  unfold State.readNextRow
  exact Does.step ((State.readNext_does _ _).mono rfl) (State.dueReset_does _) rfl

theorem State.rstAcceptRow_does (s : State) : Does [.regs, .heart, .sup, .clk, .pwr, .arb, .led, .fans, .banks, .log,
    .summary, .can, .loops, .dio, .afe, .cells, .moist, .xf, .root, .time, .gnss, .sent] s (State.rstAcceptRow s) := by
  unfold State.rstAcceptRow
  exact Does.step ((State.preempt_does _ _).mono rfl) (State.rstAccept_does _) rfl

theorem State.clockFaultEnd_does (s : State) (dur ovf : Nat) : Does [.regs, .freeCtr, .heart, .sup, .clk, .arb, .led, .fans,
    .banks, .log, .summary, .can, .loops, .dio, .afe, .cells, .xf, .root, .time, .gnss, .sent] s (State.clockFaultEnd s dur
    ovf) := by
  unfold State.clockFaultEnd
  exact Does.ite (Does.refl _ _) (Does.step (Does.step (Does.step (Does.step (Does.step (Does.step (Does.step (Does.step
    (Does.step (Does.step (Does.step (Does.put_clk ((State.timeReturn_does _ _).mono rfl) _ rfl) (State.clearCause_does _ _)
    rfl) (State.flag_does _ _ _) rfl) (State.post_does _ _ _ _) rfl) (State.renewAll_does _) rfl) (State.afeReturn_does _) rfl)
    (State.xfResume_does _) rfl) (State.rootReturn_does _) rfl) (State.gnssReturn_does _ _) rfl) (State.settleAll_does _) rfl)
    (State.updCan_does _ _) rfl) (State.takeWaiting_does _) rfl)

theorem State.requestRow_does (s : State) : Does [.regs, .store, .heart, .sup, .clk, .pwr, .arb, .led, .sensors, .fans,
    .banks, .log, .summary, .can, .loops, .dio, .afe, .cells, .moist, .xf, .root, .time, .gnss, .sent] s (State.requestRow s)
    := by
  unfold State.requestRow
  exact Does.step (Does.step (by
    try dsimp only
    split
    · exact ((State.preempt_does _ _).mono rfl)
    · exact (Does.refl _ _)) (State.requestExecute_does _) rfl) (State.dueReset_does _) rfl

theorem State.fwVerifyDone_does (s : State) (ok : Bool) (version : Word) (err : Nat) : Does [.sup] s (State.fwVerifyDone s ok
    version err) := by
  unfold State.fwVerifyDone
  exact Does.ite ((State.updFw_does _ _).mono rfl) (Does.refl _ _)

theorem State.fallbackRow_does (s : State) (vl : Nat) : Does [.regs, .heart, .sup, .clk, .pwr, .arb, .led, .fans, .banks,
    .log, .summary, .can, .loops, .dio, .afe, .cells, .moist, .xf, .root, .time, .gnss, .sent] s (State.fallbackRow s vl) := by
  unfold State.fallbackRow
  exact Does.step ((State.preempt_does _ _).mono rfl) (State.vlFallback_does _ _) rfl

theorem State.vlSagClear_does (s : State) : Does [.regs, .heart, .sup, .pwr, .led, .banks, .log, .summary, .loops, .dio, .xf,
    .root, .time, .gnss] s (State.vlSagClear s) := by
  unfold State.vlSagClear
  exact Does.ite (Does.step (Does.step ((State.updPwr_does _ _).mono rfl) (State.clearCause_does _ _) rfl)
    (State.settleAll_does _) rfl) (Does.refl _ _)

theorem State.stall_does (s : State) : Does [.sup] s (State.stall s) := by
  unfold State.stall
  exact (State.updSup_does _ _).mono rfl

theorem State.imageAuthDone_does (s : State) (ok : Bool) : Does [.sup, .pwr] s (State.imageAuthDone s ok) := by
  unfold State.imageAuthDone
  exact Does.ite (Does.refl _ _) (Does.ite (Does.step ((State.updPwr_does _ _).mono rfl) (State.updSup_does _ _) rfl) (Does.ite
    (Does.step ((State.updFw_does _ _).mono rfl) (State.stall_does _) rfl) (Does.step ((State.updFw_does _ _).mono rfl)
    (State.updSup_does _ _) rfl)))

theorem State.fwProgramDone_does (s : State) (ok : Bool) : Does [.sup] s (State.fwProgramDone s ok) := by
  unfold State.fwProgramDone
  exact Does.ite ((State.updFw_does _ _).mono rfl) (Does.refl _ _)

theorem State.sentinelRestart_does (s : State) (st : Straps) : Does [.sup] s (State.sentinelRestart s st) := by
  unfold State.sentinelRestart
  exact Does.ite ((State.updSup_does _ _).mono rfl) (Does.refl _ _)

theorem State.startTime_does (s : State) : Does [.heart, .time] s (State.startTime s) := by
  unfold State.startTime
  exact (State.timeBoot_does _ _).mono rfl

theorem State.rootLock_does (s : State) : Does [.heart, .sup, .clk, .pwr, .time] s (State.rootLock s) := by
  unfold State.rootLock
  exact Does.ite (Does.ite (Does.step (Does.step (Does.step (Does.put_clk (Does.refl _ _) _ rfl) (State.startTime_does _) rfl)
    (State.updPwr_does _ _) rfl) (State.updSup_does _ _) rfl) (Does.put_clk (Does.refl _ _) _ rfl)) (Does.refl _ _)

theorem State.frameRow_does (s : State) (v : Via) (bs : List Byte) : Does [.regs, .freeCtr, .heart, .sup, .clk, .pwr, .arb,
    .led, .fans, .banks, .log, .summary, .can, .loops, .dio, .afe, .cells, .moist, .xf, .root, .time, .gnss, .sent] s
    (State.frameRow s v bs) := by
  unfold State.frameRow
  exact Does.step (Does.ite ((State.preempt_does _ _).mono rfl) (Does.refl _ _)) (State.receive_does _ _ _) rfl

theorem State.sampleAll_does (s : State) (v : Vector Sensed 10) : Does [.regs, .sensors, .log, .summary] s (State.sampleAll s
    v) := by
  unfold State.sampleAll
  exact Does.foldl (fun _ _ => ((State.sampleSensor_does _ _ _).mono rfl)) (Does.refl _ _)

theorem State.tripsRelease_does (s : State) : Does [.sup] s (State.tripsRelease s) := by
  unfold State.tripsRelease
  exact (State.updSup_does _ _).mono rfl

theorem State.thermalRestart_does (s : State) : Does [.regs, .heart, .sup, .clk, .pwr, .arb, .led, .fans, .banks, .log,
    .summary, .can, .loops, .dio, .afe, .cells, .moist, .xf, .root, .time, .gnss] s (State.thermalRestart s) := by
  unfold State.thermalRestart
  exact Does.ite (Does.step (Does.step ((State.resetDomains_does _ _).mono rfl) (State.beginBoot_does _ _ _ _) rfl)
    (State.updSup_does _ _) rfl) (Does.refl _ _)

theorem State.thermSample_does (s : State) (v : Vector Sensed 10) : Does [.regs, .heart, .sup, .clk, .pwr, .arb, .led,
    .sensors, .fans, .banks, .wear, .log, .summary, .can, .loops, .dio, .afe, .cells, .moist, .xf, .root, .time, .gnss] s
    (State.thermSample s v) := by
  unfold State.thermSample
  exact Does.ite (Does.refl _ _) (Does.step (Does.step (Does.step (Does.ite (Does.ite (Does.step ((State.sampleAll_does _
    _).mono rfl) (State.tripsRelease_does _) rfl) (Does.step (Does.step ((State.sampleAll_does _ _).mono rfl)
    (State.tripsRelease_does _) rfl) (State.wearCycle_does _ _) rfl)) (Does.step (Does.ite (Does.step ((State.sampleAll_does _
    _).mono rfl) (State.tripsRelease_does _) rfl) (Does.step (Does.step ((State.sampleAll_does _ _).mono rfl)
    (State.tripsRelease_does _) rfl) (State.wearCycle_does _ _) rfl)) (State.wearIso_does _ _ _) rfl)) (State.settle_does _)
    rfl) (State.criticalTrip_does _ _) rfl) (State.thermalRestart_does _) rfl)

theorem State.clearEnables_does (s : State) (n : Nat) : Does [.regs, .heart, .sup, .pwr, .arb, .led, .fans, .banks, .log,
    .summary, .loops, .dio, .afe, .cells, .moist, .xf, .root, .time, .gnss] s (State.clearEnables s n) := by
  unfold State.clearEnables
  exact Does.step ((State.wr_does _ _ _).mono rfl) (State.clkEnWritten_does _ _) rfl

theorem State.judgeTables_does (s : State) : Does [.regs, .cells, .moist] s (State.judgeTables s) := by
  unfold State.judgeTables
  exact Does.put_moist (Does.foldl (fun _ _ => ((State.setCalValid_does _ _ _).mono rfl)) ((State.judgeStores_does _).mono
    rfl)) _ rfl

theorem State.restoreEn_does (s : State) (on : List Nat) (base : Nat) : Does [.regs, .store, .heart, .sup, .clk, .pwr, .arb,
    .led, .sensors, .fans, .banks, .log, .summary, .can, .loops, .dio, .afe, .cells, .moist, .xf, .root, .time, .gnss] s
    (State.restoreEn s on base) := by
  unfold State.restoreEn
  exact by
    try dsimp only
    split
    · exact (Does.refl _ _)
    · exact (Does.ite (Does.refl _ _) (Does.step ((State.wr_does _ _ _).mono rfl) (State.hook_does _ _ _ _ _ _ _) rfl))

theorem State.restoreSet_does (s : State) : Does [.regs, .store, .heart, .sup, .clk, .pwr, .arb, .led, .sensors, .fans,
    .banks, .log, .summary, .can, .loops, .dio, .afe, .cells, .moist, .xf, .root, .time, .gnss] s (State.restoreSet s) := by
  unfold State.restoreSet
  exact by
    try dsimp only
    split
    · exact (Does.refl _ _)
    · exact (Does.foldl (fun _ _ => ((State.restoreEn_does _ _ _).mono rfl)) (Does.step (Does.foldl (fun _ _ => (Does.ite ((State.domainOn_does _ _).mono rfl) (Does.refl _ _))) ((State.wr_does _ _ _).mono rfl)) (State.clkEnWritten_does _ _) rfl))

theorem State.bootFlags_does (s : State) : Does [.regs, .sup, .log, .summary] s (State.bootFlags s) := by
  unfold State.bootFlags
  exact Does.ite (Does.step (Does.ite (Does.step (Does.step ((State.flagIf_does _ _ _ _).mono rfl) (State.flag_does _ _ _) rfl)
    (State.updSup_does _ _) rfl) ((State.flagIf_does _ _ _ _).mono rfl)) (State.flagWith_does _ _ _ _) rfl) (Does.ite
    (Does.step (Does.step ((State.flagIf_does _ _ _ _).mono rfl) (State.flag_does _ _ _) rfl) (State.updSup_does _ _) rfl)
    ((State.flagIf_does _ _ _ _).mono rfl))

theorem State.bootComplete_does (s : State) : Does [.regs, .store, .freeCtr, .heart, .sup, .clk, .pwr, .arb, .led, .sensors,
    .fans, .banks, .log, .summary, .can, .loops, .dio, .afe, .cells, .moist, .xf, .root, .time, .gnss, .sent] s
    (State.bootComplete s) := by
  unfold State.bootComplete
  exact Does.ite (Does.refl _ _) (Does.step (Does.step (Does.ite (Does.step (Does.step (Does.step (Does.step (Does.step
    (Does.step (Does.step (Does.ite (Does.step (Does.step ((State.judgeTables_does _).mono rfl) (State.updNet_does _ _) rfl)
    (State.restoreSet_does _) rfl) (Does.step ((State.judgeTables_does _).mono rfl) (State.updNet_does _ _) rfl))
    (State.rootBoot_does _) rfl) (State.bootFlags_does _) rfl) (State.toPhase_does _ _) rfl) (State.updSup_does _ _) rfl)
    (State.setMode_does _ _) rfl) (State.flag_does _ _ _) rfl) (State.assertSafe_does _) rfl) (Does.step (Does.step (Does.step
    (Does.step (Does.step (Does.ite (Does.step (Does.step ((State.judgeTables_does _).mono rfl) (State.updNet_does _ _) rfl)
    (State.restoreSet_does _) rfl) (Does.step ((State.judgeTables_does _).mono rfl) (State.updNet_does _ _) rfl))
    (State.rootBoot_does _) rfl) (State.bootFlags_does _) rfl) (State.toPhase_does _ _) rfl) (State.setMode_does _ _) rfl)
    (State.releaseSafe_does _) rfl)) (State.settleAll_does _) rfl) (State.dhcpDiscover_does _) rfl)

theorem State.aonResetEnd_does (s : State) (st : Straps) : Does [.sup] s (State.aonResetEnd s st) := by
  unfold State.aonResetEnd
  exact Does.ite ((State.updSup_does _ _).mono rfl) (Does.refl _ _)

theorem State.domFault_does (s : State) (n : Nat) : Does [.regs, .heart, .sup, .clk, .pwr, .arb, .led, .fans, .banks, .log,
    .summary, .can, .loops, .dio, .afe, .cells, .moist, .xf, .root, .time, .gnss] s (State.domFault s n) := by
  unfold State.domFault
  exact Does.ite (Does.refl _ _) (Does.ite ((State.warmReset_does _ _).mono rfl) (Does.ite (Does.refl _ _) (Does.step
    (Does.step (Does.step (Does.step ((State.updPwr_does _ _).mono rfl) (State.flag_does _ _ _) rfl) (State.clearEnables_does _
    _) rfl) (State.domainOff_does _ _) rfl) (State.settleAll_does _) rfl)))

theorem State.watchdogRow_does (s : State) : Does [.regs, .heart, .sup, .clk, .pwr, .arb, .led, .fans, .banks, .log,
    .summary, .can, .loops, .dio, .afe, .cells, .moist, .xf, .root, .time, .gnss, .sent] s (State.watchdogRow s) := by
  unfold State.watchdogRow
  exact Does.step ((State.preempt_does _ _).mono rfl) (State.watchdogExpiry_does _) rfl

theorem State.readFrameRow_does (s : State) (full : Bool) : Does [.regs, .heart, .sup, .clk, .pwr, .arb, .led, .fans, .banks,
    .log, .summary, .can, .loops, .dio, .afe, .cells, .moist, .xf, .root, .time, .gnss, .sent] s (State.readFrameRow s full) :=
    by
  unfold State.readFrameRow
  exact Does.step ((State.readFrame_does _ _).mono rfl) (State.dueReset_does _) rfl

theorem State.bootStall_does (s : State) : Does [.sup] s (State.bootStall s) := by
  unfold State.bootStall
  exact Does.ite ((State.updSup_does _ _).mono rfl) (Does.refl _ _)

theorem State.faultRow_does (s : State) (cause : Nat) : Does [.regs, .heart, .sup, .clk, .pwr, .arb, .led, .fans, .banks,
    .log, .summary, .can, .loops, .dio, .afe, .cells, .moist, .xf, .root, .time, .gnss, .sent] s (State.faultRow s cause) := by
  unfold State.faultRow
  exact Does.step ((State.preempt_does _ _).mono rfl) (State.clockFaultRow_does _ _) rfl

theorem State.sampleRow_does (s : State) (v : Vector Sensed 10) : Does [.regs, .heart, .sup, .clk, .pwr, .arb, .led,
    .sensors, .fans, .banks, .wear, .log, .summary, .can, .loops, .dio, .afe, .cells, .moist, .xf, .root, .time, .gnss, .sent]
    s (State.sampleRow s v) := by
  unfold State.sampleRow
  exact Does.step (Does.ite (Does.refl _ _) ((State.preempt_does _ _).mono rfl)) (State.thermSample_does _ _) rfl

theorem State.writeRow_does (s : State) (bs : List Byte) (full : Bool) : Does [.regs, .freeCtr, .heart, .sup, .clk, .pwr,
    .arb, .led, .fans, .banks, .log, .summary, .can, .loops, .dio, .afe, .cells, .moist, .xf, .root, .time, .gnss, .sent] s
    (State.writeRow s bs full) := by
  unfold State.writeRow
  exact Does.step (Does.ite ((State.preempt_does _ _).mono rfl) (Does.refl _ _)) (State.writeFrame_does _ _ _) rfl

theorem State.tcxoStopRow_does (s : State) : Does [.regs, .heart, .clk, .led, .banks, .log, .summary, .loops, .xf, .root,
    .time, .gnss] s (State.tcxoStopRow s) := by
  unfold State.tcxoStopRow
  exact Does.step ((State.tcxoStop_does _).mono rfl) (State.gnssTcxoLost_does _ _) rfl

theorem State.coreResetEnd_does (s : State) : Does [.heart, .sup, .time] s (State.coreResetEnd s) := by
  unfold State.coreResetEnd
  exact Does.ite (Does.refl _ _) (Does.ite ((State.toPhase_does _ _).mono rfl) (Does.step (Does.ite (Does.refl _ _)
    ((State.startTime_does _).mono rfl)) (State.toPhase_does _ _) rfl))

theorem State.beaconRow_does (s : State) (i : Fin 8) : Does [.regs, .heart, .sup, .clk, .pwr, .arb, .led, .fans, .banks,
    .log, .summary, .can, .loops, .dio, .afe, .cells, .moist, .xf, .root, .time, .gnss, .sent] s (State.beaconRow s i) := by
  unfold State.beaconRow
  exact Does.step ((State.beacon_does _ _).mono rfl) (State.dueReset_does _) rfl

theorem State.leaseRow_does (s : State) (i : Fin 8) : Does [.regs, .heart, .sup, .clk, .pwr, .arb, .led, .fans, .banks, .log,
    .summary, .can, .loops, .dio, .afe, .cells, .moist, .xf, .root, .time, .gnss, .sent] s (State.leaseRow s i) := by
  unfold State.leaseRow
  exact Does.step ((State.preempt_does _ _).mono rfl) (State.leaseExpiry_does _ _) rfl

theorem State.sramTestDone_does (s : State) (ok : Bool) : Does [.sup] s (State.sramTestDone s ok) := by
  unfold State.sramTestDone
  exact Does.ite (Does.refl _ _) (Does.ite ((State.toPhase_does _ _).mono rfl) ((State.stall_does _).mono rfl))

theorem State.heartbeat_does (s : State) : Does [.sup] s (State.heartbeat s) := by
  unfold State.heartbeat
  exact Does.ite ((State.updSup_does _ _).mono rfl) (Does.refl _ _)

end Sys2Proof.Machine
end

