-- ==== Sys2Proof/Laws/Keeps.lean ====
section
/-!
SUPPORT. Every operation keeps what the SAFE net, the life wave and SYS_SHDN_N promise the partners (`Sys2Proof.Safety`), one lemma
per operation that touches the supervisor.
-/
namespace Sys2Proof.Machine
/-- The three promises to the partners survive the way from `s` to `t`. -/
structure Keeps (s t : State) : Prop where
  net : SafeNetHeld s → SafeNetHeld t
  life : LifeWaveTrue s → LifeWaveTrue t
  shdn : ShutdownOnlyHot s → ShutdownOnlyHot t

/-- What the promises speak of is the same in both, or a reason for silence has gone. -/
structure Sup.Alike (x y : Sup) : Prop where
  mode : y.mode = x.mode
  safeNet : y.safeNet = x.safeNet
  rstLow : y.rstLow = x.rstLow
  lifeWave : y.lifeWave = x.lifeWave
  shdnLow : y.shdnLow = x.shdnLow
  coreAlive : x.coreAlive = true → y.coreAlive = true
  sentStopped : x.sentStopped = false → y.sentStopped = false
  sentLatch : x.sentLatch = false → y.sentLatch = false

theorem Keeps.of_alike {s t : State} (h : Sup.Alike s.sup t.sup) : Keeps s t := by
  constructor
  · unfold SafeNetHeld; rw [h.mode, h.rstLow, h.safeNet]; exact id
  · unfold LifeWaveTrue; rw [h.lifeWave, h.mode]
    exact fun k l => ⟨(k l).1, h.coreAlive (k l).2.1, h.sentStopped (k l).2.2.1, h.sentLatch (k l).2.2.2⟩
  · unfold ShutdownOnlyHot; rw [h.shdnLow, h.mode]; exact id

theorem Keeps.of_sup {s t : State} (h : t.sup = s.sup) : Keeps s t :=
  Keeps.of_alike (by rw [h]; exact ⟨rfl, rfl, rfl, rfl, rfl, id, id, id⟩)

theorem Keeps.refl (s : State) : Keeps s s := ⟨id, id, id⟩

theorem Keeps.trans {s t u : State} (h : Keeps s t) (k : Keeps t u) : Keeps s u :=
  ⟨fun x => k.net (h.net x), fun x => k.life (h.life x), fun x => k.shdn (h.shdn x)⟩

/-- An operation that does not touch the supervisor's state. -/
theorem Keeps.of_does {ps : List Part} {s t : State} (h : Does ps s t) (e : ps.contains .sup = false) : Keeps s t :=
  Keeps.of_sup (h.only .sup (by simpa using e))

theorem Keeps.same {s t u : State} (h : Keeps s t) (e : u.sup = t.sup := by rfl) : Keeps s u := h.trans (Keeps.of_sup e)

theorem Keeps.put_freeCtr {s t : State} (h : Keeps s t) (v) : Keeps s { t with freeCtr := v } := h.same

theorem Keeps.put_clk {s t : State} (h : Keeps s t) (v) : Keeps s { t with clk := v } := h.same

theorem Keeps.put_pwr {s t : State} (h : Keeps s t) (v) : Keeps s { t with pwr := v } := h.same

theorem Keeps.put_arb {s t : State} (h : Keeps s t) (v) : Keeps s { t with arb := v } := h.same

theorem Keeps.put_led {s t : State} (h : Keeps s t) (v) : Keeps s { t with led := v } := h.same

theorem Keeps.put_sensors {s t : State} (h : Keeps s t) (v) : Keeps s { t with sensors := v } := h.same

theorem Keeps.put_fans {s t : State} (h : Keeps s t) (v) : Keeps s { t with fans := v } := h.same

theorem Keeps.put_banks {s t : State} (h : Keeps s t) (v) : Keeps s { t with banks := v } := h.same

theorem Keeps.put_wear {s t : State} (h : Keeps s t) (v) : Keeps s { t with wear := v } := h.same

theorem Keeps.put_wearSaved {s t : State} (h : Keeps s t) (v) : Keeps s { t with wearSaved := v } := h.same

theorem Keeps.put_summary {s t : State} (h : Keeps s t) (v) : Keeps s { t with summary := v } := h.same

theorem Keeps.put_can {s t : State} (h : Keeps s t) (v) : Keeps s { t with can := v } := h.same

theorem Keeps.put_loops {s t : State} (h : Keeps s t) (v) : Keeps s { t with loops := v } := h.same

theorem Keeps.put_dio {s t : State} (h : Keeps s t) (v) : Keeps s { t with dio := v } := h.same

theorem Keeps.put_afe {s t : State} (h : Keeps s t) (v) : Keeps s { t with afe := v } := h.same

theorem Keeps.put_cells {s t : State} (h : Keeps s t) (v) : Keeps s { t with cells := v } := h.same

theorem Keeps.put_moist {s t : State} (h : Keeps s t) (v) : Keeps s { t with moist := v } := h.same

theorem Keeps.put_xf {s t : State} (h : Keeps s t) (v) : Keeps s { t with xf := v } := h.same

theorem Keeps.put_root {s t : State} (h : Keeps s t) (v) : Keeps s { t with root := v } := h.same

theorem Keeps.put_time {s t : State} (h : Keeps s t) (v) : Keeps s { t with time := v } := h.same

theorem Keeps.put_gnss {s t : State} (h : Keeps s t) (v) : Keeps s { t with gnss := v } := h.same

theorem Keeps.upd {s t : State} {f : Sup → Sup} (h : Keeps s t)
    (e : ∀ x, Sup.Alike x (f x) := by intro; exact ⟨rfl, rfl, rfl, rfl, rfl, id, id, id⟩) : Keeps s (t.updSup f) :=
  h.trans (Keeps.of_alike (e _))

/-- The same, for an update that may take away a reason for silence. -/
theorem Keeps.upd3 {s t : State} {f : Sup → Sup} (h : Keeps s t)
    (e : ∀ x, Sup.Alike x (f x) := by intro; refine ⟨rfl, rfl, rfl, rfl, rfl, ?_, ?_, ?_⟩ <;> intro h <;> first | exact h | rfl) :
    Keeps s (t.updSup f) := h.trans (Keeps.of_alike (e _))

theorem Keeps.ite {s a b : State} {c : Prop} [Decidable c] (h : Keeps s a) (k : Keeps s b) : Keeps s (if c then a else b) := by
  split
  · exact h
  · exact k

theorem Keeps.dite {s : State} {c : Prop} [Decidable c] {a : c → State} {b : ¬ c → State} (h : ∀ x, Keeps s (a x))
    (k : ∀ x, Keeps s (b x)) : Keeps s (if x : c then a x else b x) := by
  split
  · exact h _
  · exact k _

theorem Keeps.foldl {α : Type} {s : State} {f : State → α → State} {l : List α} {a : State} (k : ∀ t x, Keeps t (f t x))
    (h : Keeps s a) : Keeps s (l.foldl f a) := by
  induction l generalizing a with
  | nil => exact h
  | cons x l ih => exact ih (h.trans (k a x))

/-- The SAFE net is asserted, no life wave, no shutdown: what every reset leaves. -/
def Quiet (s : State) : Prop := s.sup.safeNet = true ∧ s.sup.lifeWave = false ∧ s.sup.shdnLow = false

theorem Keeps.of_quiet {s t : State} (h : Quiet t) : Keeps s t := by
  obtain ⟨a, b, c⟩ := h
  exact ⟨fun _ _ => a, fun _ k => absurd (b.symm.trans k) (by decide), fun _ k => absurd (c.symm.trans k) (by decide)⟩

theorem Quiet.upd {s : State} {f : Sup → Sup} (h : Quiet s)
    (e : ∀ x, (f x).safeNet = x.safeNet ∧ (f x).lifeWave = x.lifeWave ∧ (f x).shdnLow = x.shdnLow := by intro; exact ⟨rfl, rfl, rfl⟩) :
    Quiet (s.updSup f) := ⟨(e _).1.trans h.1, (e _).2.1.trans h.2.1, (e _).2.2.trans h.2.2⟩

/-- In such a mode only RST_N holds the SAFE net. -/
theorem SafeNetHeld.of_awake {s : State} (h : s.sup.mode.awake = true) (k : s.sup.rstLow = true → s.sup.safeNet = true) : SafeNetHeld s := by
  rintro (e | e | e | e | e)
  · rw [e] at h; cases h
  · rw [e] at h; cases h
  · rw [e] at h; cases h
  · rw [e] at h; cases h
  · exact k e


theorem State.toPhase_keeps (s : State) (p : BootPhase) : Keeps s (State.toPhase s p)  := by
  unfold State.toPhase
  exact Keeps.upd (Keeps.refl _)

theorem State.saveSet_keeps (s : State) : Keeps s s.saveSet := Keeps.of_alike ⟨rfl, rfl, rfl, rfl, rfl, id, id, id⟩

theorem State.settleLife_life (s : State) : LifeWaveTrue s.settleLife := by
  intro h
  have h' : (s.running && s.sup.coreAlive && !s.sup.sentStopped && !s.sup.sentLatch) = true := h
  simp only [State.running, Bool.and_eq_true, Bool.or_eq_true, beq_iff_eq, Bool.not_eq_true'] at h'
  exact ⟨h'.1.1.1, h'.1.1.2, h'.1.2, h'.2⟩

theorem State.settleLife_keeps (s : State) : Keeps s s.settleLife := ⟨id, fun _ => s.settleLife_life, id⟩

/-- What a mode change leaves of the supervisor's state. -/
theorem State.setMode_mode (s : State) (m : Mode) : (s.setMode m).sup.mode = m := by
  unfold State.setMode
  split
  · assumption
  · dsimp only
    rw [(State.tunesJudge_does _).only .sup (by decide), (State.flag_does _ _ _).only .sup (by decide)]
    show (if m = .run ∨ (m = .constrained ∧ s.sup.mode ≠ .run) then State.saveSet _ else _).sup.mode = m
    split <;> rfl

theorem State.setMode_net (s : State) (m : Mode) : (s.setMode m).sup.safeNet = s.sup.safeNet ∧ (s.setMode m).sup.rstLow = s.sup.rstLow := by
  unfold State.setMode
  split
  · exact ⟨rfl, rfl⟩
  · dsimp only
    rw [(State.tunesJudge_does _).only .sup (by decide), (State.flag_does _ _ _).only .sup (by decide)]
    show (if m = .run ∨ (m = .constrained ∧ s.sup.mode ≠ .run) then State.saveSet _ else _).sup.safeNet = _ ∧
      (if m = .run ∨ (m = .constrained ∧ s.sup.mode ≠ .run) then State.saveSet _ else _).sup.rstLow = _
    split <;> exact ⟨rfl, rfl⟩

theorem State.setMode_life (s : State) (m : Mode) (h : LifeWaveTrue s) : LifeWaveTrue (s.setMode m) := by
  unfold State.setMode
  split
  · exact h
  · dsimp only
    refine (((Keeps.of_does (State.flag_does _ _ _) rfl).trans (Keeps.of_does (State.tunesJudge_does _) rfl)).life) ?_
    exact State.settleLife_life _

theorem State.setMode_shdn (s : State) (m : Mode) (h : ShutdownOnlyHot s) : ShutdownOnlyHot (s.setMode m) := by
  unfold State.setMode
  split
  · exact h
  · dsimp only
    refine (((Keeps.of_does (State.flag_does _ _ _) rfl).trans (Keeps.of_does (State.tunesJudge_does _) rfl)).shdn) ?_
    refine (State.settleLife_keeps _).shdn ?_
    split
    · exact (State.saveSet_keeps _).shdn fun k => by cases k
    · exact fun k => by cases k

theorem State.setMode_keeps (s : State) (m : Mode) (a : m.awake = true) : Keeps s (s.setMode m) :=
  ⟨fun h => SafeNetHeld.of_awake (by rw [State.setMode_mode]; exact a) (by
    rw [(s.setMode_net m).1, (s.setMode_net m).2]; exact fun k => h (.inr (.inr (.inr (.inr k))))), s.setMode_life m, s.setMode_shdn m⟩

theorem State.settleMode_keeps (s : State) : Keeps s s.settleMode := by
  unfold State.settleMode
  exact Keeps.ite (State.setMode_keeps _ _ rfl) (Keeps.ite (State.setMode_keeps _ _ rfl) (Keeps.refl _))

theorem State.settle_keeps (s : State) : Keeps s (State.settle s)  := by
  unfold State.settle
  exact Keeps.trans (Keeps.of_does (State.settleLimit_does _) rfl) (State.settleMode_keeps _)

/-- After the SAFE net has been asserted, the supervisor's state differs in that alone. -/
theorem State.assertSafe_sup (s : State) : s.assertSafe.sup = { s.sup with safeNet := true } := by
  unfold State.assertSafe
  dsimp only
  rw [(State.settleOuts_does _).only .sup (by decide), (State.safeFans_does _).only .sup (by decide), (State.safeAct_does _).only .sup (by decide)]

theorem State.assertSafe_keeps (s : State) : Keeps s s.assertSafe := by
  constructor
  · exact fun _ _ => by rw [State.assertSafe_sup]
  · unfold LifeWaveTrue; rw [State.assertSafe_sup]; exact id
  · unfold ShutdownOnlyHot; rw [State.assertSafe_sup]; exact id

theorem State.resetDomains_sup (s : State) (keep : Nat) : (s.resetDomains keep).sup = { s.sup with safeNet := true } :=
  s.assertSafe_sup

theorem State.resetDomains_keeps (s : State) (keep : Nat) : Keeps s (s.resetDomains keep) := by
  constructor
  · exact fun _ _ => by rw [State.resetDomains_sup]
  · unfold LifeWaveTrue; rw [State.resetDomains_sup]; exact id
  · unfold ShutdownOnlyHot; rw [State.resetDomains_sup]; exact id

theorem State.criticalTrip_keeps (s : State) (mask : Nat) : Keeps s (s.criticalTrip mask) := by
  unfold State.criticalTrip
  refine Keeps.ite (Keeps.refl _) (Keeps.ite (Keeps.upd (Keeps.refl _)) ?_)
  exact ⟨fun _ _ => show (s.resetDomains 1).sup.safeNet = true by rw [State.resetDomains_sup], fun _ k => (by cases k), fun _ _ => rfl⟩

theorem State.vlBelowOff_keeps (s : State) : Keeps s s.vlBelowOff := by
  unfold State.vlBelowOff
  exact Keeps.ite (Keeps.refl _) (Keeps.of_quiet ⟨show (s.resetDomains 0).sup.safeNet = true by rw [State.resetDomains_sup], rfl, rfl⟩)

theorem State.settleAll_keeps (s : State) : Keeps s (State.settleAll s)  := by
  unfold State.settleAll
  exact Keeps.trans (Keeps.trans (Keeps.trans (State.settle_keeps _) (Keeps.of_does (State.settleOuts_does _) rfl))
    (Keeps.of_does (State.settleGnss_does _) rfl)) (Keeps.of_does (State.settleStep_does _) rfl)

theorem State.rstAccept_keeps (s : State) : Keeps s s.rstAccept := by
  unfold State.rstAccept
  refine Keeps.ite (Keeps.refl _) (Keeps.trans ?_ (State.settleAll_keeps _))
  have b : ∀ t : State, (t.settleLife.leftMode s.sup.mode).sup = t.settleLife.sup := fun t => (State.leftMode_does _ _).only .sup (by decide)
  constructor
  · exact fun _ _ => by rw [State.assertSafe_sup]
  · intro _
    unfold LifeWaveTrue
    rw [State.assertSafe_sup, b]
    exact fun k => State.settleLife_life _ k
  · intro _
    unfold ShutdownOnlyHot
    rw [State.assertSafe_sup, b]
    exact fun k => by cases k

theorem State.beginBoot_quiet {s : State} (cause : ResetCause) (phase : BootPhase) (start : Nat) (h : s.sup.safeNet = true) :
    Quiet (s.beginBoot cause phase start) := ⟨h, rfl, rfl⟩

theorem State.warmReset_keeps (s : State) (cause : ResetCause) {r : State} : Keeps r (s.warmReset cause) :=
  Keeps.of_quiet (State.beginBoot_quiet _ _ _ (by rw [State.resetDomains_sup]))

theorem State.watchdogExpiry_keeps (s : State) : Keeps s s.watchdogExpiry := by
  unfold State.watchdogExpiry
  split
  · exact Keeps.refl _
  · exact Keeps.refl _
  · exact Keeps.ite (State.warmReset_keeps _ _) (Keeps.refl _)

theorem State.bootFault_keeps (s : State) (cause : Nat) : Keeps s (State.bootFault s cause)  := by
  unfold State.bootFault
  exact Keeps.upd (Keeps.trans (Keeps.foldl (fun _ _ => (Keeps.of_does (State.wr_does _ _ _) rfl)) (Keeps.trans (Keeps.trans
    (Keeps.of_does (State.flag_does _ _ _) rfl) (Keeps.of_does (State.count_does _ _) rfl)) (State.resetDomains_keeps _ _)))
    (Keeps.of_does (State.clocksLost_does _ _) rfl))

theorem State.leaveMaintenance_keeps (s : State) : Keeps s s.leaveMaintenance := Keeps.of_alike ⟨rfl, rfl, rfl, rfl, rfl, id, id, id⟩

theorem State.enterSafeHold_keeps (s : State) (cause : Nat) : Keeps s (s.enterSafeHold cause) := by
  have h : ∀ t : State, Keeps t (((t.setMode .safeHold).flag devBase 1).leftMode s.sup.mode).assertSafe := by
    intro t
    have hs : (((t.setMode .safeHold).flag devBase 1).leftMode s.sup.mode).sup = (t.setMode .safeHold).sup := by
      rw [(State.leftMode_does _ _).only .sup (by decide), (State.flag_does _ _ _).only .sup (by decide)]
    constructor
    · exact fun _ _ => by rw [State.assertSafe_sup]
    · exact fun k => (State.assertSafe_keeps _).life ((Keeps.of_sup hs).life (t.setMode_life _ k))
    · exact fun k => (State.assertSafe_keeps _).shdn ((Keeps.of_sup hs).shdn (t.setMode_shdn _ k))
  have e : ∀ t : State, Keeps s t → Keeps s
      ((((({ t with sup := { t.sup with safeCause := cause } } : State).setMode .safeHold).flag devBase 1).leftMode s.sup.mode).assertSafe.settleAll) :=
    fun t k =>
      have a : Keeps t { t with sup := { t.sup with safeCause := cause } } := Keeps.of_alike ⟨rfl, rfl, rfl, rfl, rfl, id, id, id⟩
      ((k.trans a).trans (h _)).trans (State.settleAll_keeps _)
  have r : Keeps s (if s.sup.mode = .maintenance then s.leaveMaintenance else s) := Keeps.ite (State.leaveMaintenance_keeps s) (Keeps.refl _)
  unfold State.enterSafeHold
  split
  · exact e _ r
  · exact e _ r
  · exact e _ r
  · exact e _ r
  · exact e _ r
  · exact Keeps.of_alike ⟨rfl, rfl, rfl, rfl, rfl, id, id, id⟩
  · exact Keeps.refl _

theorem State.faultBegins_keeps (s : State) (cause : Nat) : Keeps s (State.faultBegins s cause)  := by
  unfold State.faultBegins
  exact Keeps.trans (Keeps.trans (Keeps.trans (Keeps.trans (Keeps.trans (Keeps.put_clk (Keeps.trans (Keeps.of_does
    (State.timeFault_does _) rfl) (Keeps.of_does (State.clocksLost_does _ _) rfl)) _) (Keeps.of_does (State.flag_does _ _ _)
    rfl)) (Keeps.of_does (State.count_does _ _) rfl)) (Keeps.of_does (State.blocksFault_does _) rfl))
    (State.enterSafeHold_keeps _ _)) (State.settleAll_keeps _)

theorem State.clockFaultRow_keeps (s : State) (cause : Nat) : Keeps s (State.clockFaultRow s cause)  := by
  unfold State.clockFaultRow
  exact Keeps.ite (Keeps.refl _) (Keeps.ite (Keeps.refl _) (Keeps.ite (Keeps.of_does (State.faultExtends_does _ _) rfl) (Keeps.ite (Keeps.refl _) (by
    try dsimp only
    split
    · exact (Keeps.refl _)
    · exact (Keeps.refl _)
    · exact (State.bootFault_keeps _ _)
    all_goals exact (State.faultBegins_keeps _ _)))))

theorem State.sagDecide_keeps (s : State) (vl mj basis : Nat) : Keeps s (State.sagDecide s vl mj basis)  := by
  unfold State.sagDecide
  exact Keeps.trans (Keeps.trans (Keeps.of_does (State.updPwr_does _ _) rfl) (Keeps.of_does (State.flag_does _ _ _) rfl))
    (State.enterSafeHold_keeps _ _)

theorem State.holdupDecide_keeps (s : State) (vl : Nat) : Keeps s (State.holdupDecide s vl)  := by
  unfold State.holdupDecide
  exact Keeps.ite (State.sagDecide_keeps _ _ _ _) (Keeps.refl _)

theorem State.vlFallback_keeps (s : State) (vl : Nat) : Keeps s (State.vlFallback s vl)  := by
  unfold State.vlFallback
  exact Keeps.ite (Keeps.trans (State.sagDecide_keeps _ _ _ _) (Keeps.of_does (State.flag_does _ _ _) rfl)) (Keeps.refl _)

theorem State.updFw_keeps (s : State) (f : Firmware → Firmware) : Keeps s (State.updFw s f)  := by
  unfold State.updFw
  exact Keeps.upd (Keeps.refl _)

theorem State.releaseSafe_keeps (s : State) (a : s.sup.mode.awake = true) : Keeps s s.releaseSafe := by
  unfold State.releaseSafe
  split
  · exact Keeps.refl _
  · next r =>
    refine Keeps.trans (t := { s with sup := { s.sup with safeNet := false } }) ⟨fun _ => ?_, id, id⟩
      ((Keeps.of_does (State.releaseFans_does _) rfl).trans (Keeps.of_does (State.settleOuts_does _) rfl))
    exact SafeNetHeld.of_awake a fun k => absurd k r

theorem State.changeMode_keeps (s : State) (m : Mode) (a : m.awake = true) : Keeps s (s.changeMode m) := by
  unfold State.changeMode
  have k : Keeps s (((s.setMode m).leftMode s.sup.mode).updSup fun x => { x with safeCause := 0 }) :=
    Keeps.upd ((State.setMode_keeps s m a).trans (Keeps.of_does (State.leftMode_does _ _) rfl))
  have e : (((s.setMode m).leftMode s.sup.mode).updSup fun x => { x with safeCause := 0 }).sup.mode = m := by
    show ((s.setMode m).leftMode s.sup.mode).sup.mode = m
    rw [(State.leftMode_does _ _).only .sup (by decide), State.setMode_mode]
  exact (Keeps.ite (k.trans (State.releaseSafe_keeps _ (by rw [e]; exact a))) k).trans (State.settleAll_keeps _)

theorem State.leaveToStandby_keeps (s : State) : Keeps s s.leaveToStandby := by
  unfold State.leaveToStandby
  exact Keeps.trans (Keeps.upd (Keeps.refl _)) (State.changeMode_keeps _ _ rfl)

theorem State.forget_keeps (s : State) (i : Nat) : Keeps s (State.forget s i)  := by
  unfold State.forget
  exact Keeps.ite (Keeps.trans (Keeps.trans (Keeps.put_banks (Keeps.of_does (State.updCan_does _ _) rfl) _) (State.updFw_keeps
    _ _)) (State.leaveToStandby_keeps _)) (Keeps.trans (Keeps.put_banks (Keeps.of_does (State.updCan_does _ _) rfl) _)
    (State.settleAll_keeps _))

theorem State.endLost_keeps (s : State) (i : Nat) : Keeps s (State.endLost s i)  := by
  unfold State.endLost
  exact Keeps.trans (Keeps.trans (Keeps.ite (Keeps.trans (Keeps.foldl (fun _ _ => (Keeps.of_does (State.claimLost_does _ _)
    rfl)) (Keeps.of_does (State.updCan_does _ _) rfl)) (State.enterSafeHold_keeps _ _)) (Keeps.foldl (fun _ _ => (Keeps.of_does
    (State.claimLost_does _ _) rfl)) (Keeps.of_does (State.updCan_does _ _) rfl))) (Keeps.of_does (State.flagWith_does _ _ _ _)
    rfl)) (State.forget_keeps _ _)

theorem State.leaseExpiry_keeps (s : State) (i : Fin 8) : Keeps s (State.leaseExpiry s i)  := by
  unfold State.leaseExpiry
  exact by
    try dsimp only
    split
    · exact (Keeps.ite (State.endLost_keeps _ _) (Keeps.refl _))
    · exact (Keeps.refl _)

theorem State.pull_keeps (s : State) (x1 : Instr) : Keeps s (State.pull s x1)  := by
  unfold State.pull
  exact by
    try dsimp only
    split
    · exact (State.vlBelowOff_keeps _)
    · exact (State.criticalTrip_keeps _ _)
    · exact (State.criticalTrip_keeps _ _)
    · exact (State.rstAccept_keeps _)
    · exact (State.watchdogExpiry_keeps _)
    · exact (State.clockFaultRow_keeps _ _)
    · exact (Keeps.ite (Keeps.trans (Keeps.of_does (State.xrefWindow_does _ _ _) rfl) (State.clockFaultRow_keeps _ _)) (Keeps.refl _))
    · exact (State.holdupDecide_keeps _ _)
    · exact (State.vlFallback_keeps _ _)
    · exact (State.leaseExpiry_keeps _ _)
    all_goals exact (by
      try dsimp only
      split
      · exact (by
        try dsimp only
        split
        · exact (State.endLost_keeps _ _)
        · exact (Keeps.refl _))
      · exact (Keeps.refl _))

theorem State.preempt_keeps (s : State) (r : Nat) : Keeps s (State.preempt s r)  := by
  unfold State.preempt
  exact Keeps.foldl (fun _ _ => (Keeps.foldl (fun _ _ => (State.pull_keeps _ _)) (Keeps.refl _))) (Keeps.refl _)

theorem State.criticalRow_keeps (s : State) (mask : Nat) : Keeps s (State.criticalRow s mask)  := by
  unfold State.criticalRow
  exact Keeps.trans (State.preempt_keeps _ _) (State.criticalTrip_keeps _ _)

theorem State.onOpenProof_keeps (s : State) (v : Via) (bs : List Byte) : Keeps s (State.onOpenProof s v bs)  := by
  unfold State.onOpenProof
  exact by
    try dsimp only
    split
    · exact (Keeps.of_does (State.refuseTo_does _ _ _ _ _) rfl)
    · exact (Keeps.ite (Keeps.trans (Keeps.of_does (State.updCan_does _ _) rfl) (Keeps.of_does (State.refuseTo_does _ _ _ _ _) rfl)) (Keeps.ite (Keeps.trans (Keeps.trans (Keeps.of_does (State.updCan_does _ _) rfl) (Keeps.of_does (State.flagWith_does _ _ _ _) rfl)) (Keeps.of_does (State.refuseTo_does _ _ _ _ _) rfl)) (Keeps.ite (Keeps.trans (Keeps.of_does (State.updCan_does _ _) rfl) (Keeps.of_does (State.refuseTo_does _ _ _ _ _) rfl)) (Keeps.ite (Keeps.trans (Keeps.of_does (State.updCan_does _ _) rfl) (Keeps.of_does (State.refuseTo_does _ _ _ _ _) rfl)) (Keeps.trans (Keeps.trans (Keeps.put_summary (Keeps.trans (by
      try dsimp only
      split
      · exact (Keeps.trans (Keeps.of_does (State.updCan_does _ _) rfl) (State.endLost_keeps _ _))
      · exact (Keeps.of_does (State.updCan_does _ _) rfl)) (Keeps.of_does (State.updCan_does _ _) rfl)) _) (Keeps.of_does (State.flagWith_does _ _ _ _) rfl)) (Keeps.of_does (State.reply_does _ _ _ _) rfl))))))

theorem State.holdupJudge_keeps (s : State) (vl : Nat) : Keeps s (State.holdupJudge s vl)  := by
  unfold State.holdupJudge
  exact Keeps.ite (Keeps.trans (Keeps.of_does (State.postHoldup_does _ _) rfl) (State.holdupDecide_keeps _ _)) (Keeps.refl _)

theorem State.holdupRow_keeps (s : State) (vl : Nat) : Keeps s (State.holdupRow s vl)  := by
  unfold State.holdupRow
  exact Keeps.trans (State.preempt_keeps _ _) (State.holdupJudge_keeps _ _)

theorem State.clkEnWritten_keeps (s : State) (old : Word) : Keeps s (State.clkEnWritten s old)  := by
  unfold State.clkEnWritten
  exact Keeps.trans (Keeps.trans (Keeps.foldl (fun _ _ => (Keeps.ite (Keeps.of_does (State.clockOff_does _ _) rfl) (Keeps.ite
    (Keeps.of_does (State.clockOn_does _ _) rfl) (Keeps.refl _)))) (Keeps.refl _)) (Keeps.of_does (State.updPwr_does _ _) rfl))
    (State.settleAll_keeps _)

theorem State.hookClk_keeps (s : State) (off : Nat) (old v : Word) : Keeps s (State.hookClk s off old v)  := by
  unfold State.hookClk
  exact Keeps.ite (State.clkEnWritten_keeps _ _) (Keeps.ite (Keeps.of_does (State.fcntStart_does _) rfl) (Keeps.refl _))

theorem State.fwEraseDone_keeps (s : State) (sector n : Nat) : Keeps s (State.fwEraseDone s sector n)  := by
  unfold State.fwEraseDone
  exact Keeps.ite (Keeps.trans (State.updFw_keeps _ _) (Keeps.of_does (State.wearErase_does _ _ _) rfl)) (Keeps.refl _)

theorem State.aonReset_keeps (s : State) : Keeps s s.aonReset := Keeps.of_alike ⟨rfl, rfl, rfl, rfl, rfl, id, id, id⟩

theorem State.coldReset_quiet (s : State) (cause : ResetCause) (phase : BootPhase) (start keep : Nat) :
    Quiet (s.coldReset cause phase start keep) :=
  State.beginBoot_quiet _ _ _ (show (s.resetDomains keep).sup.safeNet = true by rw [State.resetDomains_sup])

theorem State.coldReset_keeps (s : State) (cause : ResetCause) (phase : BootPhase) (start keep : Nat) :
    Keeps s (s.coldReset cause phase start keep) := Keeps.of_quiet (State.coldReset_quiet _ _ _ _ _)

theorem State.sentinelStop_keeps (s : State) : Keeps s s.sentinelStop := by
  unfold State.sentinelStop
  exact Keeps.ite (Keeps.refl _) (Keeps.of_quiet (Quiet.upd (State.coldReset_quiet _ _ _ _ _)))

theorem State.arbiterSlot_keeps (s : State) (iVfa iVff : Nat) : Keeps s (State.arbiterSlot s iVfa iVff)  := by
  unfold State.arbiterSlot
  exact Keeps.ite (Keeps.trans (Keeps.trans (Keeps.of_does (State.arbSlot_does _ _ _) rfl) (Keeps.of_does
    (State.settleInrush_does _) rfl)) (State.settle_keeps _)) (Keeps.refl _)

theorem State.xrefWindowRow_keeps (s : State) (count : Nat) (absent : Bool) : Keeps s (State.xrefWindowRow s count absent)
    := by
  unfold State.xrefWindowRow
  exact Keeps.ite (Keeps.trans (Keeps.trans (State.preempt_keeps _ _) (Keeps.of_does (State.xrefWindow_does _ _ _) rfl))
    (State.clockFaultRow_keeps _ _)) (Keeps.of_does (State.xrefWindow_does _ _ _) rfl)

theorem State.endClosed_keeps (s : State) (i : Nat) : Keeps s (State.endClosed s i)  := by
  unfold State.endClosed
  exact Keeps.trans (Keeps.of_does (State.updCan_does _ _) rfl) (State.forget_keeps _ _)

theorem State.onClose_keeps (s : State) (v : Via) (bs : List Byte) (i : Fin 8) (x : Sess) : Keeps s (State.onClose s v bs i
    x)  := by
  unfold State.onClose
  exact Keeps.trans (Keeps.of_does (State.reply_does _ _ _ _) rfl) (State.endClosed_keeps _ _)

theorem State.onAuthed_keeps (s : State) (v : Via) (bs : List Byte) : Keeps s (State.onAuthed s v bs)  := by
  unfold State.onAuthed
  exact by
    try dsimp only
    split
    · exact (Keeps.of_does (State.refuseTo_does _ _ _ _ _) rfl)
    · exact (Keeps.of_does (State.macFailed_does _ _) rfl)
    all_goals exact (Keeps.ite (Keeps.trans (Keeps.of_does (State.updSess_does _ _ _) rfl) (State.onClose_keeps _ _ _ _ _)) (Keeps.trans (Keeps.of_does (State.updSess_does _ _ _) rfl) (Keeps.of_does (State.onRequest_does _ _ _ _ _) rfl)))

theorem State.receive_keeps (s : State) (v : Via) (bs : List Byte) : Keeps s (State.receive s v bs)  := by
  unfold State.receive
  exact Keeps.ite (Keeps.of_does (State.hold_does _ _ _) rfl) (Keeps.ite (Keeps.of_does (State.frameErr_does _) rfl) (Keeps.ite
    (Keeps.of_does (State.onOpenReq_does _ _ _) rfl) (Keeps.ite (State.onOpenProof_keeps _ _ _) (Keeps.ite
    (State.onAuthed_keeps _ _ _) (Keeps.of_does (State.frameErr_does _) rfl)))))

theorem State.takeWaiting_keeps (s : State) : Keeps s (State.takeWaiting s)  := by
  unfold State.takeWaiting
  exact Keeps.ite (Keeps.foldl (fun _ _ => (State.receive_keeps _ _ _)) (Keeps.of_does (State.updCan_does _ _) rfl))
    (Keeps.refl _)

theorem State.muxRow_keeps (s : State) (island : Bool) : Keeps s (State.muxRow s island)  := by
  unfold State.muxRow
  exact Keeps.trans (Keeps.of_does (State.muxForced_does _ _) rfl) (State.takeWaiting_keeps _)

theorem State.powerOn_keeps (s : State) : Keeps s (State.powerOn s)  := by
  unfold State.powerOn
  exact Keeps.ite (Keeps.trans (State.coldReset_keeps _ _ _ _ _) (Keeps.of_does (State.updPwr_does _ _) rfl)) (Keeps.refl _)

theorem State.rstRise_keeps (s : State) (st : Straps) : Keeps s (s.rstRise st) := by
  unfold State.rstRise
  refine Keeps.ite ⟨fun k e => k ?_, id, id⟩ (Keeps.ite (Keeps.of_quiet (Quiet.upd (State.coldReset_quiet _ _ _ _ _))) (Keeps.refl _))
  rcases e with e | e | e | e | e
  · exact .inl e
  · exact .inr (.inl e)
  · exact .inr (.inr (.inl e))
  · exact .inr (.inr (.inr (.inl e)))
  · exact absurd e Bool.false_ne_true

theorem State.selftestDone_keeps (s : State) (fail c : Nat) (boost : Vector (Nat × Nat) 6) : Keeps s (s.selftestDone fail c boost) := by
  unfold State.selftestDone
  by_cases m : s.sup.mode = .maintenance
  · refine Keeps.ite (Keeps.refl _) ?_
    have r : Keeps s ((s.updSup fun x => { x with selftest := false }).releaseSafe) :=
      Keeps.trans (Keeps.upd (Keeps.refl _)) (State.releaseSafe_keeps _ (by
        show s.sup.mode.awake = true
        rw [m]; rfl))
    exact (((((r.trans (Keeps.of_does (State.wearHoldup_does _ _) rfl)).trans
      (Keeps.foldl (fun _ _ => Keeps.of_does (State.wearBoost_does _ _ _ _) rfl) (Keeps.refl _))).trans
      (Keeps.of_does (State.post_does _ _ _ _) rfl)).trans (Keeps.of_does (State.flag_does _ _ _) rfl)).trans (State.settleAll_keeps _))
  · rw [if_pos (by simp [m])]
    exact Keeps.refl _

theorem State.dueReset_keeps (s : State) : Keeps s (State.dueReset s)  := by
  unfold State.dueReset
  exact by
    try dsimp only
    split
    · exact (Keeps.ite (Keeps.refl _) (State.warmReset_keeps _ _))
    · exact (Keeps.refl _)

theorem State.spiLeft_keeps (s : State) : Keeps s (State.spiLeft s)  := by
  unfold State.spiLeft
  exact by
    try dsimp only
    split
    · exact (Keeps.ite (Keeps.upd (Keeps.refl _)) (Keeps.refl _))
    · exact (Keeps.refl _)

theorem State.readNext_keeps (s : State) (full : Bool) : Keeps s (State.readNext s full)  := by
  unfold State.readNext
  exact Keeps.ite (Keeps.trans (Keeps.trans (Keeps.of_does (State.spiTransfer_does _ _ _) rfl) (Keeps.of_does
    (State.updSpi_does _ _) rfl)) (State.spiLeft_keeps _)) (Keeps.refl _)

theorem State.readNextRow_keeps (s : State) (full : Bool) : Keeps s (State.readNextRow s full)  := by
  unfold State.readNextRow
  exact Keeps.trans (State.readNext_keeps _ _) (State.dueReset_keeps _)

theorem State.rstAcceptRow_keeps (s : State) : Keeps s (State.rstAcceptRow s)  := by
  unfold State.rstAcceptRow
  exact Keeps.trans (State.preempt_keeps _ _) (State.rstAccept_keeps _)

theorem State.enterRun_keeps (s : State) : Keeps s s.enterRun := by
  unfold State.enterRun
  exact (Keeps.of_does (State.markLoops_does s) rfl).trans (State.changeMode_keeps _ _ (by split <;> rfl))

theorem State.devCommand_keeps (s : State) (sess c : Nat) : Keeps s (s.devCommand sess c) := by
  unfold State.devCommand
  refine Keeps.ite (Keeps.refl _) ?_
  split
  · exact Keeps.ite (State.leaveToStandby_keeps _) (State.changeMode_keeps _ _ rfl)
  · exact State.changeMode_keeps _ _ rfl
  · exact State.enterRun_keeps _
  · exact State.enterSafeHold_keeps _ _
  · exact Keeps.upd (State.changeMode_keeps _ _ rfl)
  · exact (Keeps.trans (Keeps.trans (Keeps.upd (Keeps.refl _)) (State.assertSafe_keeps _)) (State.settleAll_keeps _))
  · exact Keeps.upd (Keeps.refl _)
  · exact Keeps.refl _

theorem State.fwCommand_keeps (s : State) (c : Nat) : Keeps s (State.fwCommand s c)  := by
  unfold State.fwCommand
  exact by
    try dsimp only
    split
    · exact (State.updFw_keeps _ _)
    · exact (State.updFw_keeps _ _)
    · exact (State.updFw_keeps _ _)
    · exact (Keeps.upd (Keeps.refl _))
    · exact (State.updFw_keeps _ _)
    all_goals exact (Keeps.refl _)

theorem State.hookDev_keeps (s : State) (sess off : Nat) (v : Word) : Keeps s (State.hookDev s sess off v)  := by
  unfold State.hookDev
  exact Keeps.ite (State.devCommand_keeps _ _ _) (Keeps.ite (State.fwCommand_keeps _ _) (Keeps.ite (State.updFw_keeps _ _)
    (Keeps.refl _)))

theorem State.clearCause_keeps (s : State) (cause : Nat) : Keeps s (s.clearCause cause) :=
  Keeps.of_alike ⟨rfl, rfl, rfl, rfl, rfl, id, id, id⟩

theorem State.clockFaultEnd_keeps (s : State) (dur ovf : Nat) : Keeps s (State.clockFaultEnd s dur ovf)  := by
  unfold State.clockFaultEnd
  exact Keeps.ite (Keeps.refl _) (Keeps.trans (Keeps.trans (Keeps.trans (Keeps.trans (Keeps.trans (Keeps.trans (Keeps.trans
    (Keeps.trans (Keeps.trans (Keeps.trans (Keeps.trans (Keeps.put_clk (Keeps.of_does (State.timeReturn_does _ _) rfl) _)
    (State.clearCause_keeps _ _)) (Keeps.of_does (State.flag_does _ _ _) rfl)) (Keeps.of_does (State.post_does _ _ _ _) rfl))
    (Keeps.of_does (State.renewAll_does _) rfl)) (Keeps.of_does (State.afeReturn_does _) rfl)) (Keeps.of_does
    (State.xfResume_does _) rfl)) (Keeps.of_does (State.rootReturn_does _) rfl)) (Keeps.of_does (State.gnssReturn_does _ _)
    rfl)) (State.settleAll_keeps _)) (Keeps.of_does (State.updCan_does _ _) rfl)) (State.takeWaiting_keeps _))

theorem State.thrEnWritten_keeps (s : State) (n : Fin 10) (was now : Bool) : Keeps s (State.thrEnWritten s n was now)  := by
  unfold State.thrEnWritten
  exact Keeps.ite (Keeps.ite (Keeps.refl _) (Keeps.trans (Keeps.of_does (State.toStage_does _ _ _) rfl) (State.settle_keeps
    _))) (Keeps.ite (Keeps.of_does (State.updSensor_does _ _ _) rfl) (Keeps.refl _))

theorem State.hookTherm_keeps (s : State) (off : Nat) (old v : Word) : Keeps s (State.hookTherm s off old v)  := by
  unfold State.hookTherm
  exact Keeps.dite (fun _ => (State.thrEnWritten_keeps _ _ _ _)) (fun _ => (Keeps.refl _))

theorem State.hook_keeps (s : State) (sess : Nat) (k : Kind) (i off : Nat) (old v : Word) : Keeps s (State.hook s sess k i
    off old v)  := by
  unfold State.hook
  exact by
    try dsimp only
    split
    · exact (State.hookDev_keeps _ _ _ _)
    · exact (State.hookClk_keeps _ _ _ _)
    · exact (State.hookTherm_keeps _ _ _ _)
    · exact (Keeps.of_does (State.hookTime_does _ _ _ _ _) rfl)
    · exact (Keeps.of_does (State.hookLink_does _ _) rfl)
    · exact (Keeps.of_does (State.hookAct_does _ _ _ _ _ _) rfl)
    · exact (Keeps.of_does (State.hookUcode_does _ _ _ _) rfl)
    · exact (Keeps.of_does (State.hookDi_does _ _ _ _ _) rfl)
    · exact (Keeps.of_does (State.hookDo_does _ _ _ _ _) rfl)
    · exact (Keeps.of_does (State.hookAi_does _ _ _ _ _) rfl)
    · exact (Keeps.of_does (State.hookCell_does _ _ _ _ _) rfl)
    · exact (Keeps.of_does (State.hookMoist_does _ _ _ _) rfl)
    · exact (Keeps.of_does (State.hookFan_does _ _ _ _) rfl)
    · exact (Keeps.of_does (State.hookGnss_does _ _ _ _) rfl)
    · exact (Keeps.of_does (State.hookSeg_does _ _ _ _ _) rfl)
    · exact (Keeps.of_does (State.hookLoop_does _ _ _ _ _) rfl)
    · exact (Keeps.refl _)
    · exact (Keeps.refl _)
    · exact (Keeps.refl _)
    · exact (Keeps.refl _)
    · exact (Keeps.refl _)
    · exact (Keeps.refl _)
    · exact (Keeps.refl _)
    all_goals exact (Keeps.refl _)

theorem State.hooks_keeps (s : State) (ctx : OpCtx) (k : Kind) (i : Nat) (ws : List WordWrite) : Keeps s (State.hooks s ctx k
    i ws)  := by
  unfold State.hooks
  exact Keeps.trans (Keeps.foldl (fun _ _ => (Keeps.ite (Keeps.refl _) (State.hook_keeps _ _ _ _ _ _ _))) (Keeps.refl _))
    (State.settleAll_keeps _)

theorem Run.writePage_keeps (x : Run) (ctx : OpCtx) (k : Kind) (i : Nat) (mask : Word) (ws : List (Nat × Word)) :
    Keeps x.s (x.writePage ctx k i mask ws).1.s := by
  unfold Run.writePage
  dsimp only
  split
  · exact Keeps.refl _
  · have h := Keeps.of_does (State.stageWords_does x.s ctx k i mask ws) rfl
    generalize x.s.stageWords ctx k i mask ws = q at h ⊢
    obtain ⟨st, a, t, recs⟩ := q
    dsimp only at h ⊢
    split
    · next he =>
      simp only [Prod.mk.injEq] at he
      obtain ⟨-, -, rfl, rfl⟩ := he
      exact h.trans (State.hooks_keeps _ _ _ _ _)
    · split
      · exact Keeps.refl _
      · exact Keeps.foldl (fun _ _ => Keeps.of_does (State.ucFail_does _ _ _) rfl) (Keeps.refl _)

theorem Run.write_keeps (x : Run) (ctx : OpCtx) (a : Nat) (mask : Word) (vs : List Word) : Keeps x.s (x.write ctx a mask vs).1.s := by
  unfold Run.write
  dsimp only
  split
  · exact Run.writePage_keeps ..
  · exact Keeps.of_does (Run.writeWindow_does ..) rfl
  · exact Keeps.refl _

theorem State.opClaim_keeps (s : State) (ctx : OpCtx) (flags id : Nat) : Keeps s (s.opClaim ctx flags id).1 := by
  have f : ∀ {c : Prop} [Decidable c] {a b : State × Nat × List Word}, Keeps s a.1 → Keeps s b.1 → Keeps s (if c then a else b).1 :=
    fun h k => by split <;> assumption
  unfold State.opClaim
  split
  · next page sub _ =>
    refine f (Keeps.refl _) (f (Keeps.refl _) (f (Keeps.refl _) ?_))
    generalize flags / 2 % 4 = loss
    generalize (flags % 2 == 1) = take
    have h : Keeps s (if sub = 0xFF then s.claimPage ctx page loss take else s.claimSub ctx page sub loss take).1 :=
      f (Keeps.of_does (State.claimPage_does ..) rfl) (Keeps.of_does (State.claimSub_does ..) rfl)
    exact h.trans (State.settleAll_keeps _)
  · exact Keeps.refl _

theorem State.opRelease_keeps (s : State) (ctx : OpCtx) (id : Nat) : Keeps s (s.opRelease ctx id).1 := by
  have d : ∀ p b, Keeps s (s.dropClaim p b).settleAll := fun p b => (Keeps.of_does (State.dropClaim_does s p b) rfl).trans (State.settleAll_keeps _)
  unfold State.opRelease
  split
  · split
    · exact Keeps.refl _
    · split
      · exact Keeps.refl _
      · split
        · split
          · exact Keeps.refl _
          · split
            · exact d _ _
            · exact Keeps.refl _
        · split
          · split
            · exact Keeps.refl _
            · exact d _ _
          · exact Keeps.refl _
  · exact Keeps.refl _

theorem State.opFire_keeps (s : State) (ctx : OpCtx) (e : OpEntry) : Keeps s (s.opFire ctx e).1 := by
  have f : ∀ {c : Prop} [Decidable c] {a b : State × Nat × List Word}, Keeps s a.1 → Keeps s b.1 → Keeps s (if c then a else b).1 :=
    fun h k => by split <;> assumption
  have q : ∀ n k p i st la c b, Keeps s (s.queueEvent n k p i st la c b).settleAll := fun n k p i st la c b =>
    (Keeps.of_does (State.queueEvent_does s n k p i st la c b) rfl).trans (State.settleAll_keeps _)
  unfold State.opFire
  dsimp only
  split
  · exact f (q ..) (f (Keeps.refl _) (Keeps.refl _))
  · exact Keeps.refl _

theorem Run.op_keeps (x : Run) (ctx : OpCtx) (e : OpEntry) : Keeps x.s (x.op ctx e).1.s := by
  unfold Run.op
  split
  · exact Keeps.refl _
  · split
    · exact Keeps.refl _
    · exact Keeps.refl _
    · exact Run.write_keeps ..
    · exact Run.write_keeps ..
    · exact State.opClaim_keeps ..
    · exact State.opRelease_keeps ..
    · exact State.opFire_keeps ..
    · exact Keeps.refl _
    · split <;> exact Keeps.refl _
    · exact Keeps.refl _

theorem Run.ops_keeps (x : Run) (ctx : OpCtx) (es : List OpEntry) (acc : List OpResult) : Keeps x.s (x.ops ctx es acc).1.s := by
  induction es generalizing x acc with
  | nil => exact Keeps.refl _
  | cons e r ih => exact (Run.op_keeps x ctx e).trans (ih _ _)

theorem State.runOps_keeps (s : State) (sess : Nat) (role : Role) (minor epoch : Nat) (atomic : Bool) (es : List OpEntry) :
    Keeps s (s.runOps sess role minor epoch atomic es).1 := by
  unfold State.runOps
  extract_lets ctx
  have h := Run.ops_keeps ⟨s, [], [], []⟩ ctx es []
  generalize Run.ops ⟨s, [], [], []⟩ ctx es [] = p at h ⊢
  obtain ⟨x, acc⟩ := p
  dsimp only at h ⊢
  split
  · exact Keeps.foldl (fun _ _ => Keeps.of_does (State.ucFail_does _ _ _) rfl) (Keeps.refl _)
  · split
    · exact (h.trans (Keeps.of_does (Run.commit_does x) rfl)).trans (Keeps.of_does (State.keepFresh_does _ _) rfl)
    · exact (h.trans (Keeps.of_does (Run.commit_does x) rfl)).trans (Keeps.of_does (State.keepFresh_does _ _) rfl)

theorem State.respond_keeps (s : State) (r : Req) (noresp : Bool) (bs : List Byte) : Keeps s (State.respond s r noresp bs)
    := by
  unfold State.respond
  exact Keeps.ite (Keeps.of_does (State.updSess_does _ _ _) rfl) (Keeps.ite (Keeps.upd (Keeps.trans (Keeps.of_does
    (State.updSess_does _ _ _) rfl) (Keeps.of_does (State.reply_does _ _ _ _) rfl))) (Keeps.trans (Keeps.of_does
    (State.updSess_does _ _ _) rfl) (Keeps.of_does (State.reply_does _ _ _ _) rfl)))

theorem State.runRequest_keeps (s : State) (r : Req) (x : Sess) : Keeps s (s.runRequest r x) := by
  unfold State.runRequest
  extract_lets h
  split
  · exact Keeps.refl _
  · next es _ =>
    have k := State.runOps_keeps s r.sess x.role x.minor h.epoch (h.flags % 2 == 1) es
    generalize s.runOps r.sess x.role x.minor h.epoch (h.flags % 2 == 1) es = p at k ⊢
    obtain ⟨t, st, fo, rs⟩ := p
    dsimp only at k
    refine k.trans (State.respond_keeps t r _ _)

theorem State.requestExecute_keeps (s : State) : Keeps s (State.requestExecute s)  := by
  unfold State.requestExecute
  exact Keeps.ite (Keeps.refl _) (by
    try dsimp only
    split
    · exact (Keeps.refl _)
    · exact (by
      try dsimp only
      split
      · exact (Keeps.of_does (State.updCan_does _ _) rfl)
      · exact (Keeps.ite (Keeps.trans (Keeps.of_does (State.updCan_does _ _) rfl) (Keeps.of_does (State.faultedRequest_does _ _ _) rfl)) (Keeps.trans (Keeps.of_does (State.updCan_does _ _) rfl) (State.runRequest_keeps _ _ _)))))

theorem State.requestRow_keeps (s : State) : Keeps s (State.requestRow s)  := by
  unfold State.requestRow
  exact Keeps.trans (Keeps.trans (by
    try dsimp only
    split
    · exact (State.preempt_keeps _ _)
    · exact (Keeps.refl _)) (State.requestExecute_keeps _)) (State.dueReset_keeps _)

theorem State.fwVerifyDone_keeps (s : State) (ok : Bool) (version : Word) (err : Nat) : Keeps s (State.fwVerifyDone s ok
    version err)  := by
  unfold State.fwVerifyDone
  exact Keeps.ite (State.updFw_keeps _ _) (Keeps.refl _)

theorem State.fallbackRow_keeps (s : State) (vl : Nat) : Keeps s (State.fallbackRow s vl)  := by
  unfold State.fallbackRow
  exact Keeps.trans (State.preempt_keeps _ _) (State.vlFallback_keeps _ _)

theorem State.vlSagClear_keeps (s : State) : Keeps s (State.vlSagClear s)  := by
  unfold State.vlSagClear
  exact Keeps.ite (Keeps.trans (Keeps.trans (Keeps.of_does (State.updPwr_does _ _) rfl) (State.clearCause_keeps _ _))
    (State.settleAll_keeps _)) (Keeps.refl _)

theorem State.stall_keeps (s : State) : Keeps s (State.stall s)  := by
  unfold State.stall
  exact Keeps.upd (Keeps.refl _)

theorem State.imageAuthDone_keeps (s : State) (ok : Bool) : Keeps s (State.imageAuthDone s ok)  := by
  unfold State.imageAuthDone
  exact Keeps.ite (Keeps.refl _) (Keeps.ite (Keeps.upd3 (Keeps.of_does (State.updPwr_does _ _) rfl)) (Keeps.ite (Keeps.trans
    (State.updFw_keeps _ _) (State.stall_keeps _)) (Keeps.upd3 (State.updFw_keeps _ _))))

theorem State.fwProgramDone_keeps (s : State) (ok : Bool) : Keeps s (State.fwProgramDone s ok)  := by
  unfold State.fwProgramDone
  exact Keeps.ite (State.updFw_keeps _ _) (Keeps.refl _)

theorem State.graceExpiry_keeps (s : State) (n : Fin 10) : Keeps s (State.graceExpiry s n)  := by
  unfold State.graceExpiry
  exact Keeps.ite (Keeps.trans (Keeps.of_does (State.toStage_does _ _ _) rfl) (State.settle_keeps _)) (Keeps.refl _)

theorem State.sentinelRestart_keeps (s : State) (st : Straps) : Keeps s (State.sentinelRestart s st)  := by
  unfold State.sentinelRestart
  exact Keeps.ite (Keeps.upd3 (Keeps.refl _)) (Keeps.refl _)

theorem State.supplyMeasure_keeps (s : State) (vl il vfa ifa vff iff vr ir : Nat) : Keeps s (State.supplyMeasure s vl il vfa
    ifa vff iff vr ir)  := by
  unfold State.supplyMeasure
  exact Keeps.ite (Keeps.refl _) (Keeps.trans (Keeps.ite (Keeps.ite (Keeps.trans (Keeps.trans (Keeps.trans (Keeps.trans
    (Keeps.trans (Keeps.trans (Keeps.trans (Keeps.put_led (Keeps.of_does (State.post_does _ _ _ _) rfl) _) (Keeps.of_does
    (State.updPwr_does _ _) rfl)) (Keeps.of_does (State.flagIf_does _ _ _ _) rfl)) (Keeps.of_does (State.updPwr_does _ _) rfl))
    (Keeps.of_does (State.flagIf_does _ _ _ _) rfl)) (Keeps.of_does (State.updPwr_does _ _) rfl)) (Keeps.of_does
    (State.flagIf_does _ _ _ _) rfl)) (Keeps.of_does (State.wr_does _ _ _) rfl)) (Keeps.trans (Keeps.trans (Keeps.trans
    (Keeps.trans (Keeps.trans (Keeps.trans (Keeps.put_led (Keeps.of_does (State.post_does _ _ _ _) rfl) _) (Keeps.of_does
    (State.updPwr_does _ _) rfl)) (Keeps.of_does (State.flagIf_does _ _ _ _) rfl)) (Keeps.of_does (State.updPwr_does _ _) rfl))
    (Keeps.of_does (State.flagIf_does _ _ _ _) rfl)) (Keeps.of_does (State.updPwr_does _ _) rfl)) (Keeps.of_does
    (State.flagIf_does _ _ _ _) rfl))) (Keeps.trans (Keeps.ite (Keeps.trans (Keeps.trans (Keeps.trans (Keeps.trans (Keeps.trans
    (Keeps.trans (Keeps.trans (Keeps.put_led (Keeps.of_does (State.post_does _ _ _ _) rfl) _) (Keeps.of_does (State.updPwr_does
    _ _) rfl)) (Keeps.of_does (State.flagIf_does _ _ _ _) rfl)) (Keeps.of_does (State.updPwr_does _ _) rfl)) (Keeps.of_does
    (State.flagIf_does _ _ _ _) rfl)) (Keeps.of_does (State.updPwr_does _ _) rfl)) (Keeps.of_does (State.flagIf_does _ _ _ _)
    rfl)) (Keeps.of_does (State.wr_does _ _ _) rfl)) (Keeps.trans (Keeps.trans (Keeps.trans (Keeps.trans (Keeps.trans
    (Keeps.trans (Keeps.put_led (Keeps.of_does (State.post_does _ _ _ _) rfl) _) (Keeps.of_does (State.updPwr_does _ _) rfl))
    (Keeps.of_does (State.flagIf_does _ _ _ _) rfl)) (Keeps.of_does (State.updPwr_does _ _) rfl)) (Keeps.of_does
    (State.flagIf_does _ _ _ _) rfl)) (Keeps.of_does (State.updPwr_does _ _) rfl)) (Keeps.of_does (State.flagIf_does _ _ _ _)
    rfl))) (Keeps.of_does (State.postHoldup_does _ _) rfl))) (State.settle_keeps _))

theorem State.vfaStageClear_keeps (s : State) (st : Nat) : Keeps s (State.vfaStageClear s st)  := by
  unfold State.vfaStageClear
  exact Keeps.ite (Keeps.refl _) (Keeps.trans (Keeps.ite (Keeps.trans (Keeps.of_does (State.updPwr_does _ _) rfl)
    (Keeps.of_does (State.bankSag_does _ _) rfl)) (Keeps.of_does (State.updPwr_does _ _) rfl)) (State.settle_keeps _))

theorem State.eventDue_keeps (s : State) (n : Fin 12) : Keeps s (State.eventDue s n)  := by
  unfold State.eventDue
  exact Keeps.ite (Keeps.refl _) (Keeps.trans (Keeps.foldl (fun _ _ => (by
    try dsimp only
    split
    · exact (Keeps.ite (Keeps.of_does (State.takeDue_does _ _ _) rfl) (Keeps.refl _))
    · exact (Keeps.refl _))) (Keeps.ite (Keeps.refl _) (Keeps.of_does (State.updBank_does _ _ _) rfl))) (State.settle_keeps _))

theorem State.rootLock_keeps (s : State) : Keeps s (State.rootLock s)  := by
  unfold State.rootLock
  exact Keeps.ite (Keeps.ite (Keeps.upd (Keeps.trans (Keeps.trans (Keeps.put_clk (Keeps.refl _) _) (Keeps.of_does
    (State.startTime_does _) rfl)) (Keeps.of_does (State.updPwr_does _ _) rfl))) (Keeps.put_clk (Keeps.refl _) _)) (Keeps.refl
    _)

theorem State.frameRow_keeps (s : State) (v : Via) (bs : List Byte) : Keeps s (State.frameRow s v bs)  := by
  unfold State.frameRow
  exact Keeps.trans (Keeps.ite (State.preempt_keeps _ _) (Keeps.refl _)) (State.receive_keeps _ _ _)

theorem State.vfaStageSet_keeps (s : State) (st : Nat) : Keeps s (State.vfaStageSet s st)  := by
  unfold State.vfaStageSet
  exact Keeps.ite (Keeps.refl _) (Keeps.trans (Keeps.ite (Keeps.trans (Keeps.trans (Keeps.trans (Keeps.trans (Keeps.of_does
    (State.updPwr_does _ _) rfl) (Keeps.of_does (State.flagIf_does _ _ _ _) rfl)) (Keeps.of_does (State.flagIf_does _ _ _ _)
    rfl)) (Keeps.of_does (State.flag_does _ _ _) rfl)) (Keeps.of_does (State.bankSag_does _ _) rfl)) (Keeps.trans (Keeps.trans
    (Keeps.of_does (State.updPwr_does _ _) rfl) (Keeps.of_does (State.flagIf_does _ _ _ _) rfl)) (Keeps.of_does
    (State.flagIf_does _ _ _ _) rfl))) (State.settleAll_keeps _))

theorem State.tripsRelease_keeps (s : State) : Keeps s (State.tripsRelease s)  := by
  unfold State.tripsRelease
  exact Keeps.upd (Keeps.refl _)

theorem State.thermalRestart_keeps (s : State) : Keeps s s.thermalRestart := by
  unfold State.thermalRestart
  exact Keeps.ite (Keeps.of_quiet ⟨show (s.resetDomains 1).sup.safeNet = true by rw [State.resetDomains_sup], rfl, rfl⟩) (Keeps.refl _)

theorem State.thermSample_keeps (s : State) (v : Vector Sensed 10) : Keeps s (State.thermSample s v)  := by
  unfold State.thermSample
  exact Keeps.ite (Keeps.refl _) (Keeps.trans (Keeps.trans (Keeps.trans (Keeps.ite (Keeps.ite (Keeps.trans (Keeps.of_does
    (State.sampleAll_does _ _) rfl) (State.tripsRelease_keeps _)) (Keeps.trans (Keeps.trans (Keeps.of_does
    (State.sampleAll_does _ _) rfl) (State.tripsRelease_keeps _)) (Keeps.of_does (State.wearCycle_does _ _) rfl))) (Keeps.trans
    (Keeps.ite (Keeps.trans (Keeps.of_does (State.sampleAll_does _ _) rfl) (State.tripsRelease_keeps _)) (Keeps.trans
    (Keeps.trans (Keeps.of_does (State.sampleAll_does _ _) rfl) (State.tripsRelease_keeps _)) (Keeps.of_does
    (State.wearCycle_does _ _) rfl))) (Keeps.of_does (State.wearIso_does _ _ _) rfl))) (State.settle_keeps _))
    (State.criticalTrip_keeps _ _)) (State.thermalRestart_keeps _))

theorem State.clearEnables_keeps (s : State) (n : Nat) : Keeps s (State.clearEnables s n)  := by
  unfold State.clearEnables
  exact Keeps.trans (Keeps.of_does (State.wr_does _ _ _) rfl) (State.clkEnWritten_keeps _ _)

theorem State.domainOn_keeps (s : State) (n : Nat) : Keeps s (State.domainOn s n)  := by
  unfold State.domainOn
  exact Keeps.trans (Keeps.ite (Keeps.put_loops (Keeps.of_does (State.setPowered_does _ _ _) rfl) _) (Keeps.ite (Keeps.trans
    (Keeps.of_does (State.setPowered_does _ _ _) rfl) (Keeps.of_does (State.xfResume_does _) rfl)) (Keeps.ite (Keeps.trans
    (Keeps.put_afe (Keeps.of_does (State.setPowered_does _ _ _) rfl) _) (Keeps.of_does (State.afeReturn_does _) rfl))
    (Keeps.ite (Keeps.trans (Keeps.of_does (State.setPowered_does _ _ _) rfl) (Keeps.of_does (State.judgeStores_does _) rfl))
    (Keeps.of_does (State.setPowered_does _ _ _) rfl))))) (State.settleAll_keeps _)

theorem State.restoreEn_keeps (s : State) (on : List Nat) (base : Nat) : Keeps s (State.restoreEn s on base)  := by
  unfold State.restoreEn
  exact by
    try dsimp only
    split
    · exact (Keeps.refl _)
    · exact (Keeps.ite (Keeps.refl _) (Keeps.trans (Keeps.of_does (State.wr_does _ _ _) rfl) (State.hook_keeps _ _ _ _ _ _ _)))

theorem State.restoreSet_keeps (s : State) : Keeps s (State.restoreSet s)  := by
  unfold State.restoreSet
  exact by
    try dsimp only
    split
    · exact (Keeps.refl _)
    · exact (Keeps.foldl (fun _ _ => (State.restoreEn_keeps _ _ _)) (Keeps.trans (Keeps.foldl (fun _ _ => (Keeps.ite (State.domainOn_keeps _ _) (Keeps.refl _))) (Keeps.of_does (State.wr_does _ _ _) rfl)) (State.clkEnWritten_keeps _ _)))

theorem State.bootFlags_keeps (s : State) : Keeps s (State.bootFlags s)  := by
  unfold State.bootFlags
  exact Keeps.ite (Keeps.trans (Keeps.ite (Keeps.upd3 (Keeps.trans (Keeps.of_does (State.flagIf_does _ _ _ _) rfl)
    (Keeps.of_does (State.flag_does _ _ _) rfl))) (Keeps.of_does (State.flagIf_does _ _ _ _) rfl)) (Keeps.of_does
    (State.flagWith_does _ _ _ _) rfl)) (Keeps.ite (Keeps.upd3 (Keeps.trans (Keeps.of_does (State.flagIf_does _ _ _ _) rfl)
    (Keeps.of_does (State.flag_does _ _ _) rfl))) (Keeps.of_does (State.flagIf_does _ _ _ _) rfl))

theorem State.bootComplete_keeps (s : State) : Keeps s s.bootComplete := by
  have hold : ∀ t : State, Keeps s t → Keeps s ((t.setMode .safeHold).flag devBase 1).assertSafe := by
    intro t k
    refine ⟨fun _ _ => by rw [State.assertSafe_sup], fun h => ?_, fun h => ?_⟩
    · exact (State.assertSafe_keeps _).life ((Keeps.of_does (State.flag_does _ _ _) rfl).life (State.setMode_life _ _ (k.life h)))
    · exact (State.assertSafe_keeps _).shdn ((Keeps.of_does (State.flag_does _ _ _) rfl).shdn (State.setMode_shdn _ _ (k.shdn h)))
  have go : ∀ t : State, Keeps s t → Keeps s (t.setMode .standby).releaseSafe := fun t k =>
    (k.trans (State.setMode_keeps _ _ rfl)).trans (State.releaseSafe_keeps _ (by rw [State.setMode_mode]; rfl))
  have a0 : Keeps s (s.judgeTables.updNet fun n => { n with ip := s.judgeTables.netAddress, changeDue := false }) :=
    (Keeps.of_does (State.judgeTables_does _) rfl).trans (Keeps.of_does (State.updNet_does _ _) rfl)
  have boot : ∀ t : State, Keeps s t → Keeps s (t.rootBoot.bootFlags.toPhase .done) := fun t k =>
    ((k.trans (Keeps.of_does (State.rootBoot_does _) rfl)).trans (State.bootFlags_keeps _)).trans (State.toPhase_keeps _ _)
  unfold State.bootComplete
  refine Keeps.ite (Keeps.refl _) (Keeps.trans (Keeps.trans (Keeps.ite (hold _ (Keeps.upd ?_)) (go _ ?_))
    (State.settleAll_keeps _)) (Keeps.of_does (State.dhcpDiscover_does _) rfl))
  · exact boot _ (Keeps.ite (a0.trans (State.restoreSet_keeps _)) a0)
  · exact boot _ (Keeps.ite (a0.trans (State.restoreSet_keeps _)) a0)

theorem State.aonResetEnd_keeps (s : State) (st : Straps) : Keeps s (State.aonResetEnd s st)  := by
  unfold State.aonResetEnd
  exact Keeps.ite (Keeps.upd (Keeps.refl _)) (Keeps.refl _)

theorem State.energyLimitExpiry_keeps (s : State) : Keeps s (State.energyLimitExpiry s)  := by
  unfold State.energyLimitExpiry
  exact Keeps.ite (Keeps.trans (Keeps.put_led (Keeps.refl _) _) (State.settle_keeps _)) (Keeps.refl _)

theorem State.maxDelayDrop_keeps (s : State) (n : Fin 12) : Keeps s (State.maxDelayDrop s n)  := by
  unfold State.maxDelayDrop
  exact Keeps.ite (Keeps.refl _) (Keeps.trans (Keeps.foldl (fun _ _ => (Keeps.ite (Keeps.trans (Keeps.of_does (State.flag_does
    _ _ _) rfl) (Keeps.of_does (State.dropEvent_does _ _ _ _ _) rfl)) (Keeps.refl _))) (Keeps.refl _)) (State.settle_keeps _))

theorem State.domainOff_keeps (s : State) (n : Nat) : Keeps s (State.domainOff s n)  := by
  unfold State.domainOff
  exact Keeps.ite (Keeps.trans (Keeps.trans (Keeps.trans (Keeps.of_does (State.domainStop_does _ _) rfl) (Keeps.of_does
    (State.loseRegs_does _ _) rfl)) (Keeps.of_does (State.setPowered_does _ _ _) rfl)) (State.settleAll_keeps _)) (Keeps.refl
    _)

theorem State.domFault_keeps (s : State) (n : Nat) : Keeps s (State.domFault s n)  := by
  unfold State.domFault
  exact Keeps.ite (Keeps.refl _) (Keeps.ite (State.warmReset_keeps _ _) (Keeps.ite (Keeps.refl _) (Keeps.trans (Keeps.trans
    (Keeps.trans (Keeps.trans (Keeps.of_does (State.updPwr_does _ _) rfl) (Keeps.of_does (State.flag_does _ _ _) rfl))
    (State.clearEnables_keeps _ _)) (State.domainOff_keeps _ _)) (State.settleAll_keeps _))))

theorem State.eventLatestDrop_keeps (s : State) (n : Fin 12) : Keeps s (State.eventLatestDrop s n)  := by
  unfold State.eventLatestDrop
  exact Keeps.ite (Keeps.refl _) (Keeps.trans (Keeps.foldl (fun _ _ => (Keeps.of_does (State.nextDrop_does _ _ _) rfl))
    (Keeps.foldl (fun _ _ => (Keeps.of_does (State.latestDrop_does _ _ _) rfl)) (Keeps.refl _))) (State.settle_keeps _))

theorem State.watchdogRow_keeps (s : State) : Keeps s (State.watchdogRow s)  := by
  unfold State.watchdogRow
  exact Keeps.trans (State.preempt_keeps _ _) (State.watchdogExpiry_keeps _)

theorem State.eventRejudge_keeps (s : State) (n : Fin 12) : Keeps s (State.eventRejudge s n)  := by
  unfold State.eventRejudge
  exact Keeps.ite (Keeps.refl _) (Keeps.trans (Keeps.foldl (fun _ _ => (by
    try dsimp only
    split
    · exact (Keeps.ite (Keeps.refl _) (Keeps.ite (Keeps.of_does (State.dropEvent_does _ _ _ _ _) rfl) (Keeps.of_does (State.judge_does _ _ _) rfl)))
    · exact (Keeps.refl _))) (Keeps.refl _)) (State.settle_keeps _))

theorem State.readFrame_keeps (s : State) (full : Bool) : Keeps s (State.readFrame s full)  := by
  unfold State.readFrame
  exact Keeps.ite (Keeps.trans (Keeps.of_does (State.spiTransfer_does _ _ _) rfl) (State.spiLeft_keeps _)) (Keeps.refl _)

theorem State.readFrameRow_keeps (s : State) (full : Bool) : Keeps s (State.readFrameRow s full)  := by
  unfold State.readFrameRow
  exact Keeps.trans (State.readFrame_keeps _ _) (State.dueReset_keeps _)

theorem State.bootStall_keeps (s : State) : Keeps s (State.bootStall s)  := by
  unfold State.bootStall
  exact Keeps.ite (Keeps.upd (Keeps.refl _)) (Keeps.refl _)

theorem State.faultRow_keeps (s : State) (cause : Nat) : Keeps s (State.faultRow s cause)  := by
  unfold State.faultRow
  exact Keeps.trans (State.preempt_keeps _ _) (State.clockFaultRow_keeps _ _)

theorem State.sampleRow_keeps (s : State) (v : Vector Sensed 10) : Keeps s (State.sampleRow s v)  := by
  unfold State.sampleRow
  exact Keeps.trans (Keeps.ite (Keeps.refl _) (State.preempt_keeps _ _)) (State.thermSample_keeps _ _)

theorem State.ledgerUpdateRow_keeps (s : State) : Keeps s (State.ledgerUpdateRow s)  := by
  unfold State.ledgerUpdateRow
  exact Keeps.trans (Keeps.of_does (State.ledgerUpdate_does _) rfl) (State.settle_keeps _)

theorem State.writeFrame_keeps (s : State) (bs : List Byte) (full : Bool) : Keeps s (State.writeFrame s bs full)  := by
  unfold State.writeFrame
  exact Keeps.ite (Keeps.refl _) (Keeps.ite (Keeps.trans (Keeps.trans (Keeps.of_does (State.spiTransfer_does _ _ _) rfl)
    (Keeps.of_does (State.updSpi_does _ _) rfl)) (Keeps.of_does (State.count_does _ _) rfl)) (Keeps.ite (Keeps.of_does
    (State.spiTransfer_does _ _ _) rfl) (Keeps.trans (Keeps.trans (Keeps.of_does (State.spiTransfer_does _ _ _) rfl)
    (Keeps.of_does (State.updSpi_does _ _) rfl)) (State.receive_keeps _ _ _))))

theorem State.writeRow_keeps (s : State) (bs : List Byte) (full : Bool) : Keeps s (State.writeRow s bs full)  := by
  unfold State.writeRow
  exact Keeps.trans (Keeps.ite (State.preempt_keeps _ _) (Keeps.refl _)) (State.writeFrame_keeps _ _ _)

theorem State.coreResetEnd_keeps (s : State) : Keeps s (State.coreResetEnd s)  := by
  unfold State.coreResetEnd
  exact Keeps.ite (Keeps.refl _) (Keeps.ite (State.toPhase_keeps _ _) (Keeps.trans (Keeps.ite (Keeps.refl _) (Keeps.of_does
    (State.startTime_does _) rfl)) (State.toPhase_keeps _ _)))

theorem State.beaconRow_keeps (s : State) (i : Fin 8) : Keeps s (State.beaconRow s i)  := by
  unfold State.beaconRow
  exact Keeps.trans (Keeps.of_does (State.beacon_does _ _) rfl) (State.dueReset_keeps _)

theorem State.leaseRow_keeps (s : State) (i : Fin 8) : Keeps s (State.leaseRow s i)  := by
  unfold State.leaseRow
  exact Keeps.trans (State.preempt_keeps _ _) (State.leaseExpiry_keeps _ _)

theorem State.sramTestDone_keeps (s : State) (ok : Bool) : Keeps s (State.sramTestDone s ok)  := by
  unfold State.sramTestDone
  exact Keeps.ite (Keeps.refl _) (Keeps.ite (State.toPhase_keeps _ _) (State.stall_keeps _))

theorem State.heartbeat_keeps (s : State) : Keeps s (State.heartbeat s)  := by
  unfold State.heartbeat
  exact Keeps.ite (Keeps.upd (Keeps.refl _)) (Keeps.refl _)

theorem State.vlSagShed_keeps (s : State) : Keeps s (State.vlSagShed s)  := by
  unfold State.vlSagShed
  exact by
    try dsimp only
    split
    · exact (Keeps.refl _)
    · exact (Keeps.trans (Keeps.foldl (fun _ _ => (State.domainOff_keeps _ _)) (Keeps.of_does (State.updPwr_does _ _) rfl)) (Keeps.of_does (State.flagForced_does _ _ _ _) rfl))

theorem State.domainPowerUp_keeps (s : State) (n : Nat) : Keeps s (State.domainPowerUp s n)  := by
  unfold State.domainPowerUp
  exact Keeps.ite (State.domainOn_keeps _ _) (Keeps.refl _)

theorem State.domainPowerOff_keeps (s : State) (n : Nat) : Keeps s (State.domainPowerOff s n)  := by
  unfold State.domainPowerOff
  exact Keeps.ite (Keeps.refl _) (State.domainOff_keeps _ _)

end Sys2Proof.Machine
end

