-- ==== Sys2Proof/Laws/State.lean ====
section
/-!
SUPPORT. Each field of the state after each named update, one lemma per field per update, true by computation, so that no
proof unfolds a record update; what moving to an instant changes; reading a register after a store.
-/
namespace Sys2Proof.Machine.State

variable (s : State)

@[simp] theorem wr_now (a : Nat) (v : Word) : (s.wr a v).now = s.now := rfl
@[simp] theorem wr_regs (a : Nat) (v : Word) : (s.wr a v).regs = s.regs.set a v := rfl
@[simp] theorem wr_store (a : Nat) (v : Word) : (s.wr a v).store = s.store := rfl
@[simp] theorem wr_freeCtr (a : Nat) (v : Word) : (s.wr a v).freeCtr = s.freeCtr := rfl
@[simp] theorem wr_heart (a : Nat) (v : Word) : (s.wr a v).heart = s.heart := rfl
@[simp] theorem wr_sup (a : Nat) (v : Word) : (s.wr a v).sup = s.sup := rfl
@[simp] theorem wr_clk (a : Nat) (v : Word) : (s.wr a v).clk = s.clk := rfl
@[simp] theorem wr_pwr (a : Nat) (v : Word) : (s.wr a v).pwr = s.pwr := rfl
@[simp] theorem wr_arb (a : Nat) (v : Word) : (s.wr a v).arb = s.arb := rfl
@[simp] theorem wr_led (a : Nat) (v : Word) : (s.wr a v).led = s.led := rfl
@[simp] theorem wr_sensors (a : Nat) (v : Word) : (s.wr a v).sensors = s.sensors := rfl
@[simp] theorem wr_fans (a : Nat) (v : Word) : (s.wr a v).fans = s.fans := rfl
@[simp] theorem wr_banks (a : Nat) (v : Word) : (s.wr a v).banks = s.banks := rfl
@[simp] theorem wr_wear (a : Nat) (v : Word) : (s.wr a v).wear = s.wear := rfl
@[simp] theorem wr_wearSaved (a : Nat) (v : Word) : (s.wr a v).wearSaved = s.wearSaved := rfl
@[simp] theorem wr_log (a : Nat) (v : Word) : (s.wr a v).log = s.log := rfl
@[simp] theorem wr_summary (a : Nat) (v : Word) : (s.wr a v).summary = s.summary := rfl
@[simp] theorem wr_can (a : Nat) (v : Word) : (s.wr a v).can = s.can := rfl
@[simp] theorem wr_loops (a : Nat) (v : Word) : (s.wr a v).loops = s.loops := rfl
@[simp] theorem wr_dio (a : Nat) (v : Word) : (s.wr a v).dio = s.dio := rfl
@[simp] theorem wr_afe (a : Nat) (v : Word) : (s.wr a v).afe = s.afe := rfl
@[simp] theorem wr_cells (a : Nat) (v : Word) : (s.wr a v).cells = s.cells := rfl
@[simp] theorem wr_moist (a : Nat) (v : Word) : (s.wr a v).moist = s.moist := rfl
@[simp] theorem wr_xf (a : Nat) (v : Word) : (s.wr a v).xf = s.xf := rfl
@[simp] theorem wr_root (a : Nat) (v : Word) : (s.wr a v).root = s.root := rfl
@[simp] theorem wr_time (a : Nat) (v : Word) : (s.wr a v).time = s.time := rfl
@[simp] theorem wr_gnss (a : Nat) (v : Word) : (s.wr a v).gnss = s.gnss := rfl
@[simp] theorem wr_sent (a : Nat) (v : Word) : (s.wr a v).sent = s.sent := rfl
@[simp] theorem wr_pending (a : Nat) (v : Word) : (s.wr a v).pending = s.pending := rfl

@[simp] theorem setFld_now (a hi lo v : Nat) : (s.setFld a hi lo v).now = s.now := rfl
@[simp] theorem setFld_regs (a hi lo v : Nat) : (s.setFld a hi lo v).regs = s.regs.set a (withField (s.rd a) hi lo v) := rfl
@[simp] theorem setFld_store (a hi lo v : Nat) : (s.setFld a hi lo v).store = s.store := rfl
@[simp] theorem setFld_freeCtr (a hi lo v : Nat) : (s.setFld a hi lo v).freeCtr = s.freeCtr := rfl
@[simp] theorem setFld_heart (a hi lo v : Nat) : (s.setFld a hi lo v).heart = s.heart := rfl
@[simp] theorem setFld_sup (a hi lo v : Nat) : (s.setFld a hi lo v).sup = s.sup := rfl
@[simp] theorem setFld_clk (a hi lo v : Nat) : (s.setFld a hi lo v).clk = s.clk := rfl
@[simp] theorem setFld_pwr (a hi lo v : Nat) : (s.setFld a hi lo v).pwr = s.pwr := rfl
@[simp] theorem setFld_arb (a hi lo v : Nat) : (s.setFld a hi lo v).arb = s.arb := rfl
@[simp] theorem setFld_led (a hi lo v : Nat) : (s.setFld a hi lo v).led = s.led := rfl
@[simp] theorem setFld_sensors (a hi lo v : Nat) : (s.setFld a hi lo v).sensors = s.sensors := rfl
@[simp] theorem setFld_fans (a hi lo v : Nat) : (s.setFld a hi lo v).fans = s.fans := rfl
@[simp] theorem setFld_banks (a hi lo v : Nat) : (s.setFld a hi lo v).banks = s.banks := rfl
@[simp] theorem setFld_wear (a hi lo v : Nat) : (s.setFld a hi lo v).wear = s.wear := rfl
@[simp] theorem setFld_wearSaved (a hi lo v : Nat) : (s.setFld a hi lo v).wearSaved = s.wearSaved := rfl
@[simp] theorem setFld_log (a hi lo v : Nat) : (s.setFld a hi lo v).log = s.log := rfl
@[simp] theorem setFld_summary (a hi lo v : Nat) : (s.setFld a hi lo v).summary = s.summary := rfl
@[simp] theorem setFld_can (a hi lo v : Nat) : (s.setFld a hi lo v).can = s.can := rfl
@[simp] theorem setFld_loops (a hi lo v : Nat) : (s.setFld a hi lo v).loops = s.loops := rfl
@[simp] theorem setFld_dio (a hi lo v : Nat) : (s.setFld a hi lo v).dio = s.dio := rfl
@[simp] theorem setFld_afe (a hi lo v : Nat) : (s.setFld a hi lo v).afe = s.afe := rfl
@[simp] theorem setFld_cells (a hi lo v : Nat) : (s.setFld a hi lo v).cells = s.cells := rfl
@[simp] theorem setFld_moist (a hi lo v : Nat) : (s.setFld a hi lo v).moist = s.moist := rfl
@[simp] theorem setFld_xf (a hi lo v : Nat) : (s.setFld a hi lo v).xf = s.xf := rfl
@[simp] theorem setFld_root (a hi lo v : Nat) : (s.setFld a hi lo v).root = s.root := rfl
@[simp] theorem setFld_time (a hi lo v : Nat) : (s.setFld a hi lo v).time = s.time := rfl
@[simp] theorem setFld_gnss (a hi lo v : Nat) : (s.setFld a hi lo v).gnss = s.gnss := rfl
@[simp] theorem setFld_sent (a hi lo v : Nat) : (s.setFld a hi lo v).sent = s.sent := rfl
@[simp] theorem setFld_pending (a hi lo v : Nat) : (s.setFld a hi lo v).pending = s.pending := rfl

@[simp] theorem count_now (a : Nat) : (s.count a).now = s.now := rfl
@[simp] theorem count_regs (a : Nat) : (s.count a).regs = s.regs.set a (satInc (s.rd a)) := rfl
@[simp] theorem count_store (a : Nat) : (s.count a).store = s.store := rfl
@[simp] theorem count_freeCtr (a : Nat) : (s.count a).freeCtr = s.freeCtr := rfl
@[simp] theorem count_heart (a : Nat) : (s.count a).heart = s.heart := rfl
@[simp] theorem count_sup (a : Nat) : (s.count a).sup = s.sup := rfl
@[simp] theorem count_clk (a : Nat) : (s.count a).clk = s.clk := rfl
@[simp] theorem count_pwr (a : Nat) : (s.count a).pwr = s.pwr := rfl
@[simp] theorem count_arb (a : Nat) : (s.count a).arb = s.arb := rfl
@[simp] theorem count_led (a : Nat) : (s.count a).led = s.led := rfl
@[simp] theorem count_sensors (a : Nat) : (s.count a).sensors = s.sensors := rfl
@[simp] theorem count_fans (a : Nat) : (s.count a).fans = s.fans := rfl
@[simp] theorem count_banks (a : Nat) : (s.count a).banks = s.banks := rfl
@[simp] theorem count_wear (a : Nat) : (s.count a).wear = s.wear := rfl
@[simp] theorem count_wearSaved (a : Nat) : (s.count a).wearSaved = s.wearSaved := rfl
@[simp] theorem count_log (a : Nat) : (s.count a).log = s.log := rfl
@[simp] theorem count_summary (a : Nat) : (s.count a).summary = s.summary := rfl
@[simp] theorem count_can (a : Nat) : (s.count a).can = s.can := rfl
@[simp] theorem count_loops (a : Nat) : (s.count a).loops = s.loops := rfl
@[simp] theorem count_dio (a : Nat) : (s.count a).dio = s.dio := rfl
@[simp] theorem count_afe (a : Nat) : (s.count a).afe = s.afe := rfl
@[simp] theorem count_cells (a : Nat) : (s.count a).cells = s.cells := rfl
@[simp] theorem count_moist (a : Nat) : (s.count a).moist = s.moist := rfl
@[simp] theorem count_xf (a : Nat) : (s.count a).xf = s.xf := rfl
@[simp] theorem count_root (a : Nat) : (s.count a).root = s.root := rfl
@[simp] theorem count_time (a : Nat) : (s.count a).time = s.time := rfl
@[simp] theorem count_gnss (a : Nat) : (s.count a).gnss = s.gnss := rfl
@[simp] theorem count_sent (a : Nat) : (s.count a).sent = s.sent := rfl
@[simp] theorem count_pending (a : Nat) : (s.count a).pending = s.pending := rfl

@[simp] theorem wrKept_now (a : Nat) (v : Word) : (s.wrKept a v).now = s.now := rfl
@[simp] theorem wrKept_regs (a : Nat) (v : Word) : (s.wrKept a v).regs = s.regs.set a v := rfl
@[simp] theorem wrKept_store (a : Nat) (v : Word) : (s.wrKept a v).store = s.store.set a v := rfl
@[simp] theorem wrKept_freeCtr (a : Nat) (v : Word) : (s.wrKept a v).freeCtr = s.freeCtr := rfl
@[simp] theorem wrKept_heart (a : Nat) (v : Word) : (s.wrKept a v).heart = s.heart := rfl
@[simp] theorem wrKept_sup (a : Nat) (v : Word) : (s.wrKept a v).sup = s.sup := rfl
@[simp] theorem wrKept_clk (a : Nat) (v : Word) : (s.wrKept a v).clk = s.clk := rfl
@[simp] theorem wrKept_pwr (a : Nat) (v : Word) : (s.wrKept a v).pwr = s.pwr := rfl
@[simp] theorem wrKept_arb (a : Nat) (v : Word) : (s.wrKept a v).arb = s.arb := rfl
@[simp] theorem wrKept_led (a : Nat) (v : Word) : (s.wrKept a v).led = s.led := rfl
@[simp] theorem wrKept_sensors (a : Nat) (v : Word) : (s.wrKept a v).sensors = s.sensors := rfl
@[simp] theorem wrKept_fans (a : Nat) (v : Word) : (s.wrKept a v).fans = s.fans := rfl
@[simp] theorem wrKept_banks (a : Nat) (v : Word) : (s.wrKept a v).banks = s.banks := rfl
@[simp] theorem wrKept_wear (a : Nat) (v : Word) : (s.wrKept a v).wear = s.wear := rfl
@[simp] theorem wrKept_wearSaved (a : Nat) (v : Word) : (s.wrKept a v).wearSaved = s.wearSaved := rfl
@[simp] theorem wrKept_log (a : Nat) (v : Word) : (s.wrKept a v).log = s.log := rfl
@[simp] theorem wrKept_summary (a : Nat) (v : Word) : (s.wrKept a v).summary = s.summary := rfl
@[simp] theorem wrKept_can (a : Nat) (v : Word) : (s.wrKept a v).can = s.can := rfl
@[simp] theorem wrKept_loops (a : Nat) (v : Word) : (s.wrKept a v).loops = s.loops := rfl
@[simp] theorem wrKept_dio (a : Nat) (v : Word) : (s.wrKept a v).dio = s.dio := rfl
@[simp] theorem wrKept_afe (a : Nat) (v : Word) : (s.wrKept a v).afe = s.afe := rfl
@[simp] theorem wrKept_cells (a : Nat) (v : Word) : (s.wrKept a v).cells = s.cells := rfl
@[simp] theorem wrKept_moist (a : Nat) (v : Word) : (s.wrKept a v).moist = s.moist := rfl
@[simp] theorem wrKept_xf (a : Nat) (v : Word) : (s.wrKept a v).xf = s.xf := rfl
@[simp] theorem wrKept_root (a : Nat) (v : Word) : (s.wrKept a v).root = s.root := rfl
@[simp] theorem wrKept_time (a : Nat) (v : Word) : (s.wrKept a v).time = s.time := rfl
@[simp] theorem wrKept_gnss (a : Nat) (v : Word) : (s.wrKept a v).gnss = s.gnss := rfl
@[simp] theorem wrKept_sent (a : Nat) (v : Word) : (s.wrKept a v).sent = s.sent := rfl
@[simp] theorem wrKept_pending (a : Nat) (v : Word) : (s.wrKept a v).pending = s.pending := rfl

@[simp] theorem tick_now : (s.tick).now = s.now := rfl
@[simp] theorem tick_regs : (s.tick).regs = s.regs := rfl
@[simp] theorem tick_store : (s.tick).store = s.store := rfl
@[simp] theorem tick_freeCtr : (s.tick).freeCtr = s.freeCtr + 1 := rfl
@[simp] theorem tick_heart : (s.tick).heart = s.heart := rfl
@[simp] theorem tick_sup : (s.tick).sup = s.sup := rfl
@[simp] theorem tick_clk : (s.tick).clk = s.clk := rfl
@[simp] theorem tick_pwr : (s.tick).pwr = s.pwr := rfl
@[simp] theorem tick_arb : (s.tick).arb = s.arb := rfl
@[simp] theorem tick_led : (s.tick).led = s.led := rfl
@[simp] theorem tick_sensors : (s.tick).sensors = s.sensors := rfl
@[simp] theorem tick_fans : (s.tick).fans = s.fans := rfl
@[simp] theorem tick_banks : (s.tick).banks = s.banks := rfl
@[simp] theorem tick_wear : (s.tick).wear = s.wear := rfl
@[simp] theorem tick_wearSaved : (s.tick).wearSaved = s.wearSaved := rfl
@[simp] theorem tick_log : (s.tick).log = s.log := rfl
@[simp] theorem tick_summary : (s.tick).summary = s.summary := rfl
@[simp] theorem tick_can : (s.tick).can = s.can := rfl
@[simp] theorem tick_loops : (s.tick).loops = s.loops := rfl
@[simp] theorem tick_dio : (s.tick).dio = s.dio := rfl
@[simp] theorem tick_afe : (s.tick).afe = s.afe := rfl
@[simp] theorem tick_cells : (s.tick).cells = s.cells := rfl
@[simp] theorem tick_moist : (s.tick).moist = s.moist := rfl
@[simp] theorem tick_xf : (s.tick).xf = s.xf := rfl
@[simp] theorem tick_root : (s.tick).root = s.root := rfl
@[simp] theorem tick_time : (s.tick).time = s.time := rfl
@[simp] theorem tick_gnss : (s.tick).gnss = s.gnss := rfl
@[simp] theorem tick_sent : (s.tick).sent = s.sent := rfl
@[simp] theorem tick_pending : (s.tick).pending = s.pending := rfl

@[simp] theorem mark_now (c : Nat) : (s.mark c).now = s.now := rfl
@[simp] theorem mark_regs (c : Nat) : (s.mark c).regs = s.regs := rfl
@[simp] theorem mark_store (c : Nat) : (s.mark c).store = s.store := rfl
@[simp] theorem mark_freeCtr (c : Nat) : (s.mark c).freeCtr = s.freeCtr := rfl
@[simp] theorem mark_heart (c : Nat) : (s.mark c).heart = s.heart := rfl
@[simp] theorem mark_sup (c : Nat) : (s.mark c).sup = s.sup := rfl
@[simp] theorem mark_clk (c : Nat) : (s.mark c).clk = s.clk := rfl
@[simp] theorem mark_pwr (c : Nat) : (s.mark c).pwr = s.pwr := rfl
@[simp] theorem mark_arb (c : Nat) : (s.mark c).arb = s.arb := rfl
@[simp] theorem mark_led (c : Nat) : (s.mark c).led = s.led := rfl
@[simp] theorem mark_sensors (c : Nat) : (s.mark c).sensors = s.sensors := rfl
@[simp] theorem mark_fans (c : Nat) : (s.mark c).fans = s.fans := rfl
@[simp] theorem mark_banks (c : Nat) : (s.mark c).banks = s.banks := rfl
@[simp] theorem mark_wear (c : Nat) : (s.mark c).wear = s.wear := rfl
@[simp] theorem mark_wearSaved (c : Nat) : (s.mark c).wearSaved = s.wearSaved := rfl
@[simp] theorem mark_log (c : Nat) : (s.mark c).log = s.log := rfl
@[simp] theorem mark_summary (c : Nat) : (s.mark c).summary = s.summary.map fun m => m ||| 2 ^ c := rfl
@[simp] theorem mark_can (c : Nat) : (s.mark c).can = s.can := rfl
@[simp] theorem mark_loops (c : Nat) : (s.mark c).loops = s.loops := rfl
@[simp] theorem mark_dio (c : Nat) : (s.mark c).dio = s.dio := rfl
@[simp] theorem mark_afe (c : Nat) : (s.mark c).afe = s.afe := rfl
@[simp] theorem mark_cells (c : Nat) : (s.mark c).cells = s.cells := rfl
@[simp] theorem mark_moist (c : Nat) : (s.mark c).moist = s.moist := rfl
@[simp] theorem mark_xf (c : Nat) : (s.mark c).xf = s.xf := rfl
@[simp] theorem mark_root (c : Nat) : (s.mark c).root = s.root := rfl
@[simp] theorem mark_time (c : Nat) : (s.mark c).time = s.time := rfl
@[simp] theorem mark_gnss (c : Nat) : (s.mark c).gnss = s.gnss := rfl
@[simp] theorem mark_sent (c : Nat) : (s.mark c).sent = s.sent := rfl
@[simp] theorem mark_pending (c : Nat) : (s.mark c).pending = s.pending := rfl

@[simp] theorem addLog_now (p f : Nat) (e : Entry) : (s.addLog p f e).now = s.now := rfl
@[simp] theorem addLog_regs (p f : Nat) (e : Entry) : (s.addLog p f e).regs = s.regs := rfl
@[simp] theorem addLog_store (p f : Nat) (e : Entry) : (s.addLog p f e).store = s.store := rfl
@[simp] theorem addLog_freeCtr (p f : Nat) (e : Entry) : (s.addLog p f e).freeCtr = s.freeCtr := rfl
@[simp] theorem addLog_heart (p f : Nat) (e : Entry) : (s.addLog p f e).heart = s.heart := rfl
@[simp] theorem addLog_sup (p f : Nat) (e : Entry) : (s.addLog p f e).sup = s.sup := rfl
@[simp] theorem addLog_clk (p f : Nat) (e : Entry) : (s.addLog p f e).clk = s.clk := rfl
@[simp] theorem addLog_pwr (p f : Nat) (e : Entry) : (s.addLog p f e).pwr = s.pwr := rfl
@[simp] theorem addLog_arb (p f : Nat) (e : Entry) : (s.addLog p f e).arb = s.arb := rfl
@[simp] theorem addLog_led (p f : Nat) (e : Entry) : (s.addLog p f e).led = s.led := rfl
@[simp] theorem addLog_sensors (p f : Nat) (e : Entry) : (s.addLog p f e).sensors = s.sensors := rfl
@[simp] theorem addLog_fans (p f : Nat) (e : Entry) : (s.addLog p f e).fans = s.fans := rfl
@[simp] theorem addLog_banks (p f : Nat) (e : Entry) : (s.addLog p f e).banks = s.banks := rfl
@[simp] theorem addLog_wear (p f : Nat) (e : Entry) : (s.addLog p f e).wear = s.wear := rfl
@[simp] theorem addLog_wearSaved (p f : Nat) (e : Entry) : (s.addLog p f e).wearSaved = s.wearSaved := rfl
@[simp] theorem addLog_summary (p f : Nat) (e : Entry) : (s.addLog p f e).summary = s.summary.map fun m => m ||| 2 ^ e.cls := rfl
@[simp] theorem addLog_can (p f : Nat) (e : Entry) : (s.addLog p f e).can = s.can := rfl
@[simp] theorem addLog_loops (p f : Nat) (e : Entry) : (s.addLog p f e).loops = s.loops := rfl
@[simp] theorem addLog_dio (p f : Nat) (e : Entry) : (s.addLog p f e).dio = s.dio := rfl
@[simp] theorem addLog_afe (p f : Nat) (e : Entry) : (s.addLog p f e).afe = s.afe := rfl
@[simp] theorem addLog_cells (p f : Nat) (e : Entry) : (s.addLog p f e).cells = s.cells := rfl
@[simp] theorem addLog_moist (p f : Nat) (e : Entry) : (s.addLog p f e).moist = s.moist := rfl
@[simp] theorem addLog_xf (p f : Nat) (e : Entry) : (s.addLog p f e).xf = s.xf := rfl
@[simp] theorem addLog_root (p f : Nat) (e : Entry) : (s.addLog p f e).root = s.root := rfl
@[simp] theorem addLog_time (p f : Nat) (e : Entry) : (s.addLog p f e).time = s.time := rfl
@[simp] theorem addLog_gnss (p f : Nat) (e : Entry) : (s.addLog p f e).gnss = s.gnss := rfl
@[simp] theorem addLog_sent (p f : Nat) (e : Entry) : (s.addLog p f e).sent = s.sent := rfl
@[simp] theorem addLog_pending (p f : Nat) (e : Entry) : (s.addLog p f e).pending = s.pending := rfl

@[simp] theorem noteFresh_now (b n : Nat) : (s.noteFresh b n).now = s.now := rfl
@[simp] theorem noteFresh_regs (b n : Nat) : (s.noteFresh b n).regs = s.regs := rfl
@[simp] theorem noteFresh_store (b n : Nat) : (s.noteFresh b n).store = s.store := rfl
@[simp] theorem noteFresh_freeCtr (b n : Nat) : (s.noteFresh b n).freeCtr = s.freeCtr := rfl
@[simp] theorem noteFresh_heart (b n : Nat) : (s.noteFresh b n).heart = s.heart := rfl
@[simp] theorem noteFresh_sup (b n : Nat) : (s.noteFresh b n).sup = s.sup := rfl
@[simp] theorem noteFresh_clk (b n : Nat) : (s.noteFresh b n).clk = s.clk := rfl
@[simp] theorem noteFresh_pwr (b n : Nat) : (s.noteFresh b n).pwr = s.pwr := rfl
@[simp] theorem noteFresh_arb (b n : Nat) : (s.noteFresh b n).arb = s.arb := rfl
@[simp] theorem noteFresh_led (b n : Nat) : (s.noteFresh b n).led = s.led := rfl
@[simp] theorem noteFresh_sensors (b n : Nat) : (s.noteFresh b n).sensors = s.sensors := rfl
@[simp] theorem noteFresh_fans (b n : Nat) : (s.noteFresh b n).fans = s.fans := rfl
@[simp] theorem noteFresh_banks (b n : Nat) : (s.noteFresh b n).banks = s.banks := rfl
@[simp] theorem noteFresh_wear (b n : Nat) : (s.noteFresh b n).wear = s.wear := rfl
@[simp] theorem noteFresh_wearSaved (b n : Nat) : (s.noteFresh b n).wearSaved = s.wearSaved := rfl
@[simp] theorem noteFresh_log (b n : Nat) : (s.noteFresh b n).log = { s.log with freshAt := s.now / 8, fresh := (b, n) :: s.freshFlags } := rfl
@[simp] theorem noteFresh_summary (b n : Nat) : (s.noteFresh b n).summary = s.summary := rfl
@[simp] theorem noteFresh_can (b n : Nat) : (s.noteFresh b n).can = s.can := rfl
@[simp] theorem noteFresh_loops (b n : Nat) : (s.noteFresh b n).loops = s.loops := rfl
@[simp] theorem noteFresh_dio (b n : Nat) : (s.noteFresh b n).dio = s.dio := rfl
@[simp] theorem noteFresh_afe (b n : Nat) : (s.noteFresh b n).afe = s.afe := rfl
@[simp] theorem noteFresh_cells (b n : Nat) : (s.noteFresh b n).cells = s.cells := rfl
@[simp] theorem noteFresh_moist (b n : Nat) : (s.noteFresh b n).moist = s.moist := rfl
@[simp] theorem noteFresh_xf (b n : Nat) : (s.noteFresh b n).xf = s.xf := rfl
@[simp] theorem noteFresh_root (b n : Nat) : (s.noteFresh b n).root = s.root := rfl
@[simp] theorem noteFresh_time (b n : Nat) : (s.noteFresh b n).time = s.time := rfl
@[simp] theorem noteFresh_gnss (b n : Nat) : (s.noteFresh b n).gnss = s.gnss := rfl
@[simp] theorem noteFresh_sent (b n : Nat) : (s.noteFresh b n).sent = s.sent := rfl
@[simp] theorem noteFresh_pending (b n : Nat) : (s.noteFresh b n).pending = s.pending := rfl

@[simp] theorem keepFresh_now (o : State) : (s.keepFresh o).now = s.now := rfl
@[simp] theorem keepFresh_regs (o : State) : (s.keepFresh o).regs = s.regs := rfl
@[simp] theorem keepFresh_store (o : State) : (s.keepFresh o).store = s.store := rfl
@[simp] theorem keepFresh_freeCtr (o : State) : (s.keepFresh o).freeCtr = s.freeCtr := rfl
@[simp] theorem keepFresh_heart (o : State) : (s.keepFresh o).heart = s.heart := rfl
@[simp] theorem keepFresh_sup (o : State) : (s.keepFresh o).sup = s.sup := rfl
@[simp] theorem keepFresh_clk (o : State) : (s.keepFresh o).clk = s.clk := rfl
@[simp] theorem keepFresh_pwr (o : State) : (s.keepFresh o).pwr = s.pwr := rfl
@[simp] theorem keepFresh_arb (o : State) : (s.keepFresh o).arb = s.arb := rfl
@[simp] theorem keepFresh_led (o : State) : (s.keepFresh o).led = s.led := rfl
@[simp] theorem keepFresh_sensors (o : State) : (s.keepFresh o).sensors = s.sensors := rfl
@[simp] theorem keepFresh_fans (o : State) : (s.keepFresh o).fans = s.fans := rfl
@[simp] theorem keepFresh_banks (o : State) : (s.keepFresh o).banks = s.banks := rfl
@[simp] theorem keepFresh_wear (o : State) : (s.keepFresh o).wear = s.wear := rfl
@[simp] theorem keepFresh_wearSaved (o : State) : (s.keepFresh o).wearSaved = s.wearSaved := rfl
@[simp] theorem keepFresh_log (o : State) : (s.keepFresh o).log = { s.log with freshAt := o.log.freshAt, fresh := o.log.fresh } := rfl
@[simp] theorem keepFresh_summary (o : State) : (s.keepFresh o).summary = s.summary := rfl
@[simp] theorem keepFresh_can (o : State) : (s.keepFresh o).can = s.can := rfl
@[simp] theorem keepFresh_loops (o : State) : (s.keepFresh o).loops = s.loops := rfl
@[simp] theorem keepFresh_dio (o : State) : (s.keepFresh o).dio = s.dio := rfl
@[simp] theorem keepFresh_afe (o : State) : (s.keepFresh o).afe = s.afe := rfl
@[simp] theorem keepFresh_cells (o : State) : (s.keepFresh o).cells = s.cells := rfl
@[simp] theorem keepFresh_moist (o : State) : (s.keepFresh o).moist = s.moist := rfl
@[simp] theorem keepFresh_xf (o : State) : (s.keepFresh o).xf = s.xf := rfl
@[simp] theorem keepFresh_root (o : State) : (s.keepFresh o).root = s.root := rfl
@[simp] theorem keepFresh_time (o : State) : (s.keepFresh o).time = s.time := rfl
@[simp] theorem keepFresh_gnss (o : State) : (s.keepFresh o).gnss = s.gnss := rfl
@[simp] theorem keepFresh_sent (o : State) : (s.keepFresh o).sent = s.sent := rfl
@[simp] theorem keepFresh_pending (o : State) : (s.keepFresh o).pending = s.pending := rfl

@[simp] theorem flagOnly_now (b n : Nat) : (s.flagOnly b n).now = s.now := (noteFresh_now ..).trans ((count_now ..).trans (wr_now ..))
@[simp] theorem flagOnly_store (b n : Nat) : (s.flagOnly b n).store = s.store := (noteFresh_store ..).trans ((count_store ..).trans (wr_store ..))
@[simp] theorem flagOnly_freeCtr (b n : Nat) : (s.flagOnly b n).freeCtr = s.freeCtr := (noteFresh_freeCtr ..).trans ((count_freeCtr ..).trans (wr_freeCtr ..))
@[simp] theorem flagOnly_heart (b n : Nat) : (s.flagOnly b n).heart = s.heart := (noteFresh_heart ..).trans ((count_heart ..).trans (wr_heart ..))
@[simp] theorem flagOnly_sup (b n : Nat) : (s.flagOnly b n).sup = s.sup := (noteFresh_sup ..).trans ((count_sup ..).trans (wr_sup ..))
@[simp] theorem flagOnly_clk (b n : Nat) : (s.flagOnly b n).clk = s.clk := (noteFresh_clk ..).trans ((count_clk ..).trans (wr_clk ..))
@[simp] theorem flagOnly_pwr (b n : Nat) : (s.flagOnly b n).pwr = s.pwr := (noteFresh_pwr ..).trans ((count_pwr ..).trans (wr_pwr ..))
@[simp] theorem flagOnly_arb (b n : Nat) : (s.flagOnly b n).arb = s.arb := (noteFresh_arb ..).trans ((count_arb ..).trans (wr_arb ..))
@[simp] theorem flagOnly_led (b n : Nat) : (s.flagOnly b n).led = s.led := (noteFresh_led ..).trans ((count_led ..).trans (wr_led ..))
@[simp] theorem flagOnly_sensors (b n : Nat) : (s.flagOnly b n).sensors = s.sensors := (noteFresh_sensors ..).trans ((count_sensors ..).trans (wr_sensors ..))
@[simp] theorem flagOnly_fans (b n : Nat) : (s.flagOnly b n).fans = s.fans := (noteFresh_fans ..).trans ((count_fans ..).trans (wr_fans ..))
@[simp] theorem flagOnly_banks (b n : Nat) : (s.flagOnly b n).banks = s.banks := (noteFresh_banks ..).trans ((count_banks ..).trans (wr_banks ..))
@[simp] theorem flagOnly_wear (b n : Nat) : (s.flagOnly b n).wear = s.wear := (noteFresh_wear ..).trans ((count_wear ..).trans (wr_wear ..))
@[simp] theorem flagOnly_wearSaved (b n : Nat) : (s.flagOnly b n).wearSaved = s.wearSaved := (noteFresh_wearSaved ..).trans ((count_wearSaved ..).trans (wr_wearSaved ..))
@[simp] theorem flagOnly_log (b n : Nat) :
    (s.flagOnly b n).log = { s.log with freshAt := s.now / 8, fresh := (b, n) :: s.freshFlags } := by
  unfold flagOnly
  rw [noteFresh_log]
  unfold freshFlags
  rw [count_log, wr_log, count_now, wr_now]
@[simp] theorem flagOnly_summary (b n : Nat) : (s.flagOnly b n).summary = s.summary := (noteFresh_summary ..).trans ((count_summary ..).trans (wr_summary ..))
@[simp] theorem flagOnly_can (b n : Nat) : (s.flagOnly b n).can = s.can := (noteFresh_can ..).trans ((count_can ..).trans (wr_can ..))
@[simp] theorem flagOnly_loops (b n : Nat) : (s.flagOnly b n).loops = s.loops := (noteFresh_loops ..).trans ((count_loops ..).trans (wr_loops ..))
@[simp] theorem flagOnly_dio (b n : Nat) : (s.flagOnly b n).dio = s.dio := (noteFresh_dio ..).trans ((count_dio ..).trans (wr_dio ..))
@[simp] theorem flagOnly_afe (b n : Nat) : (s.flagOnly b n).afe = s.afe := (noteFresh_afe ..).trans ((count_afe ..).trans (wr_afe ..))
@[simp] theorem flagOnly_cells (b n : Nat) : (s.flagOnly b n).cells = s.cells := (noteFresh_cells ..).trans ((count_cells ..).trans (wr_cells ..))
@[simp] theorem flagOnly_moist (b n : Nat) : (s.flagOnly b n).moist = s.moist := (noteFresh_moist ..).trans ((count_moist ..).trans (wr_moist ..))
@[simp] theorem flagOnly_xf (b n : Nat) : (s.flagOnly b n).xf = s.xf := (noteFresh_xf ..).trans ((count_xf ..).trans (wr_xf ..))
@[simp] theorem flagOnly_root (b n : Nat) : (s.flagOnly b n).root = s.root := (noteFresh_root ..).trans ((count_root ..).trans (wr_root ..))
@[simp] theorem flagOnly_time (b n : Nat) : (s.flagOnly b n).time = s.time := (noteFresh_time ..).trans ((count_time ..).trans (wr_time ..))
@[simp] theorem flagOnly_gnss (b n : Nat) : (s.flagOnly b n).gnss = s.gnss := (noteFresh_gnss ..).trans ((count_gnss ..).trans (wr_gnss ..))
@[simp] theorem flagOnly_sent (b n : Nat) : (s.flagOnly b n).sent = s.sent := (noteFresh_sent ..).trans ((count_sent ..).trans (wr_sent ..))
@[simp] theorem flagOnly_pending (b n : Nat) : (s.flagOnly b n).pending = s.pending := (noteFresh_pending ..).trans ((count_pending ..).trans (wr_pending ..))

@[simp] theorem send_now (l : Line) (bs : List Byte) : (s.send l bs).now = s.now := rfl
@[simp] theorem send_regs (l : Line) (bs : List Byte) : (s.send l bs).regs = s.regs := rfl
@[simp] theorem send_store (l : Line) (bs : List Byte) : (s.send l bs).store = s.store := rfl
@[simp] theorem send_freeCtr (l : Line) (bs : List Byte) : (s.send l bs).freeCtr = s.freeCtr := rfl
@[simp] theorem send_heart (l : Line) (bs : List Byte) : (s.send l bs).heart = s.heart := rfl
@[simp] theorem send_sup (l : Line) (bs : List Byte) : (s.send l bs).sup = s.sup := rfl
@[simp] theorem send_clk (l : Line) (bs : List Byte) : (s.send l bs).clk = s.clk := rfl
@[simp] theorem send_pwr (l : Line) (bs : List Byte) : (s.send l bs).pwr = s.pwr := rfl
@[simp] theorem send_arb (l : Line) (bs : List Byte) : (s.send l bs).arb = s.arb := rfl
@[simp] theorem send_led (l : Line) (bs : List Byte) : (s.send l bs).led = s.led := rfl
@[simp] theorem send_sensors (l : Line) (bs : List Byte) : (s.send l bs).sensors = s.sensors := rfl
@[simp] theorem send_fans (l : Line) (bs : List Byte) : (s.send l bs).fans = s.fans := rfl
@[simp] theorem send_banks (l : Line) (bs : List Byte) : (s.send l bs).banks = s.banks := rfl
@[simp] theorem send_wear (l : Line) (bs : List Byte) : (s.send l bs).wear = s.wear := rfl
@[simp] theorem send_wearSaved (l : Line) (bs : List Byte) : (s.send l bs).wearSaved = s.wearSaved := rfl
@[simp] theorem send_log (l : Line) (bs : List Byte) : (s.send l bs).log = s.log := rfl
@[simp] theorem send_summary (l : Line) (bs : List Byte) : (s.send l bs).summary = s.summary := rfl
@[simp] theorem send_can (l : Line) (bs : List Byte) : (s.send l bs).can = s.can := rfl
@[simp] theorem send_loops (l : Line) (bs : List Byte) : (s.send l bs).loops = s.loops := rfl
@[simp] theorem send_dio (l : Line) (bs : List Byte) : (s.send l bs).dio = s.dio := rfl
@[simp] theorem send_afe (l : Line) (bs : List Byte) : (s.send l bs).afe = s.afe := rfl
@[simp] theorem send_cells (l : Line) (bs : List Byte) : (s.send l bs).cells = s.cells := rfl
@[simp] theorem send_moist (l : Line) (bs : List Byte) : (s.send l bs).moist = s.moist := rfl
@[simp] theorem send_xf (l : Line) (bs : List Byte) : (s.send l bs).xf = s.xf := rfl
@[simp] theorem send_root (l : Line) (bs : List Byte) : (s.send l bs).root = s.root := rfl
@[simp] theorem send_time (l : Line) (bs : List Byte) : (s.send l bs).time = s.time := rfl
@[simp] theorem send_gnss (l : Line) (bs : List Byte) : (s.send l bs).gnss = s.gnss := rfl
@[simp] theorem send_sent (l : Line) (bs : List Byte) : (s.send l bs).sent = ⟨s.now, l, bs⟩ :: s.sent := rfl
@[simp] theorem send_pending (l : Line) (bs : List Byte) : (s.send l bs).pending = s.pending := rfl

@[simp] theorem putClaim_now (c : Claim) : (s.putClaim c).now = s.now := rfl
@[simp] theorem putClaim_regs (c : Claim) : (s.putClaim c).regs = s.regs := rfl
@[simp] theorem putClaim_store (c : Claim) : (s.putClaim c).store = s.store := rfl
@[simp] theorem putClaim_freeCtr (c : Claim) : (s.putClaim c).freeCtr = s.freeCtr := rfl
@[simp] theorem putClaim_heart (c : Claim) : (s.putClaim c).heart = s.heart := rfl
@[simp] theorem putClaim_sup (c : Claim) : (s.putClaim c).sup = s.sup := rfl
@[simp] theorem putClaim_clk (c : Claim) : (s.putClaim c).clk = s.clk := rfl
@[simp] theorem putClaim_pwr (c : Claim) : (s.putClaim c).pwr = s.pwr := rfl
@[simp] theorem putClaim_arb (c : Claim) : (s.putClaim c).arb = s.arb := rfl
@[simp] theorem putClaim_led (c : Claim) : (s.putClaim c).led = s.led := rfl
@[simp] theorem putClaim_sensors (c : Claim) : (s.putClaim c).sensors = s.sensors := rfl
@[simp] theorem putClaim_fans (c : Claim) : (s.putClaim c).fans = s.fans := rfl
@[simp] theorem putClaim_banks (c : Claim) : (s.putClaim c).banks = s.banks := rfl
@[simp] theorem putClaim_wear (c : Claim) : (s.putClaim c).wear = s.wear := rfl
@[simp] theorem putClaim_wearSaved (c : Claim) : (s.putClaim c).wearSaved = s.wearSaved := rfl
@[simp] theorem putClaim_log (c : Claim) : (s.putClaim c).log = s.log := rfl
@[simp] theorem putClaim_summary (c : Claim) : (s.putClaim c).summary = s.summary := rfl
@[simp] theorem putClaim_loops (c : Claim) : (s.putClaim c).loops = s.loops := rfl
@[simp] theorem putClaim_dio (c : Claim) : (s.putClaim c).dio = s.dio := rfl
@[simp] theorem putClaim_afe (c : Claim) : (s.putClaim c).afe = s.afe := rfl
@[simp] theorem putClaim_cells (c : Claim) : (s.putClaim c).cells = s.cells := rfl
@[simp] theorem putClaim_moist (c : Claim) : (s.putClaim c).moist = s.moist := rfl
@[simp] theorem putClaim_xf (c : Claim) : (s.putClaim c).xf = s.xf := rfl
@[simp] theorem putClaim_root (c : Claim) : (s.putClaim c).root = s.root := rfl
@[simp] theorem putClaim_time (c : Claim) : (s.putClaim c).time = s.time := rfl
@[simp] theorem putClaim_gnss (c : Claim) : (s.putClaim c).gnss = s.gnss := rfl
@[simp] theorem putClaim_sent (c : Claim) : (s.putClaim c).sent = s.sent := rfl
@[simp] theorem putClaim_pending (c : Claim) : (s.putClaim c).pending = s.pending := rfl

@[simp] theorem dropClaim_now (p b : Nat) : (s.dropClaim p b).now = s.now := rfl
@[simp] theorem dropClaim_regs (p b : Nat) : (s.dropClaim p b).regs = s.regs := rfl
@[simp] theorem dropClaim_store (p b : Nat) : (s.dropClaim p b).store = s.store := rfl
@[simp] theorem dropClaim_freeCtr (p b : Nat) : (s.dropClaim p b).freeCtr = s.freeCtr := rfl
@[simp] theorem dropClaim_heart (p b : Nat) : (s.dropClaim p b).heart = s.heart := rfl
@[simp] theorem dropClaim_sup (p b : Nat) : (s.dropClaim p b).sup = s.sup := rfl
@[simp] theorem dropClaim_clk (p b : Nat) : (s.dropClaim p b).clk = s.clk := rfl
@[simp] theorem dropClaim_pwr (p b : Nat) : (s.dropClaim p b).pwr = s.pwr := rfl
@[simp] theorem dropClaim_arb (p b : Nat) : (s.dropClaim p b).arb = s.arb := rfl
@[simp] theorem dropClaim_led (p b : Nat) : (s.dropClaim p b).led = s.led := rfl
@[simp] theorem dropClaim_sensors (p b : Nat) : (s.dropClaim p b).sensors = s.sensors := rfl
@[simp] theorem dropClaim_fans (p b : Nat) : (s.dropClaim p b).fans = s.fans := rfl
@[simp] theorem dropClaim_banks (p b : Nat) : (s.dropClaim p b).banks = s.banks := rfl
@[simp] theorem dropClaim_wear (p b : Nat) : (s.dropClaim p b).wear = s.wear := rfl
@[simp] theorem dropClaim_wearSaved (p b : Nat) : (s.dropClaim p b).wearSaved = s.wearSaved := rfl
@[simp] theorem dropClaim_log (p b : Nat) : (s.dropClaim p b).log = s.log := rfl
@[simp] theorem dropClaim_summary (p b : Nat) : (s.dropClaim p b).summary = s.summary := rfl
@[simp] theorem dropClaim_loops (p b : Nat) : (s.dropClaim p b).loops = s.loops := rfl
@[simp] theorem dropClaim_dio (p b : Nat) : (s.dropClaim p b).dio = s.dio := rfl
@[simp] theorem dropClaim_afe (p b : Nat) : (s.dropClaim p b).afe = s.afe := rfl
@[simp] theorem dropClaim_cells (p b : Nat) : (s.dropClaim p b).cells = s.cells := rfl
@[simp] theorem dropClaim_moist (p b : Nat) : (s.dropClaim p b).moist = s.moist := rfl
@[simp] theorem dropClaim_xf (p b : Nat) : (s.dropClaim p b).xf = s.xf := rfl
@[simp] theorem dropClaim_root (p b : Nat) : (s.dropClaim p b).root = s.root := rfl
@[simp] theorem dropClaim_time (p b : Nat) : (s.dropClaim p b).time = s.time := rfl
@[simp] theorem dropClaim_gnss (p b : Nat) : (s.dropClaim p b).gnss = s.gnss := rfl
@[simp] theorem dropClaim_sent (p b : Nat) : (s.dropClaim p b).sent = s.sent := rfl
@[simp] theorem dropClaim_pending (p b : Nat) : (s.dropClaim p b).pending = s.pending := rfl

@[simp] theorem settleLife_now : (s.settleLife).now = s.now := rfl
@[simp] theorem settleLife_regs : (s.settleLife).regs = s.regs := rfl
@[simp] theorem settleLife_store : (s.settleLife).store = s.store := rfl
@[simp] theorem settleLife_freeCtr : (s.settleLife).freeCtr = s.freeCtr := rfl
@[simp] theorem settleLife_heart : (s.settleLife).heart = s.heart := rfl
@[simp] theorem settleLife_clk : (s.settleLife).clk = s.clk := rfl
@[simp] theorem settleLife_pwr : (s.settleLife).pwr = s.pwr := rfl
@[simp] theorem settleLife_arb : (s.settleLife).arb = s.arb := rfl
@[simp] theorem settleLife_led : (s.settleLife).led = s.led := rfl
@[simp] theorem settleLife_sensors : (s.settleLife).sensors = s.sensors := rfl
@[simp] theorem settleLife_fans : (s.settleLife).fans = s.fans := rfl
@[simp] theorem settleLife_banks : (s.settleLife).banks = s.banks := rfl
@[simp] theorem settleLife_wear : (s.settleLife).wear = s.wear := rfl
@[simp] theorem settleLife_wearSaved : (s.settleLife).wearSaved = s.wearSaved := rfl
@[simp] theorem settleLife_log : (s.settleLife).log = s.log := rfl
@[simp] theorem settleLife_summary : (s.settleLife).summary = s.summary := rfl
@[simp] theorem settleLife_can : (s.settleLife).can = s.can := rfl
@[simp] theorem settleLife_loops : (s.settleLife).loops = s.loops := rfl
@[simp] theorem settleLife_dio : (s.settleLife).dio = s.dio := rfl
@[simp] theorem settleLife_afe : (s.settleLife).afe = s.afe := rfl
@[simp] theorem settleLife_cells : (s.settleLife).cells = s.cells := rfl
@[simp] theorem settleLife_moist : (s.settleLife).moist = s.moist := rfl
@[simp] theorem settleLife_xf : (s.settleLife).xf = s.xf := rfl
@[simp] theorem settleLife_root : (s.settleLife).root = s.root := rfl
@[simp] theorem settleLife_time : (s.settleLife).time = s.time := rfl
@[simp] theorem settleLife_gnss : (s.settleLife).gnss = s.gnss := rfl
@[simp] theorem settleLife_sent : (s.settleLife).sent = s.sent := rfl
@[simp] theorem settleLife_pending : (s.settleLife).pending = s.pending := rfl

@[simp] theorem saveSet_now : (s.saveSet).now = s.now := rfl
@[simp] theorem saveSet_regs : (s.saveSet).regs = s.regs := rfl
@[simp] theorem saveSet_store : (s.saveSet).store = s.store := rfl
@[simp] theorem saveSet_freeCtr : (s.saveSet).freeCtr = s.freeCtr := rfl
@[simp] theorem saveSet_heart : (s.saveSet).heart = s.heart := rfl
@[simp] theorem saveSet_clk : (s.saveSet).clk = s.clk := rfl
@[simp] theorem saveSet_pwr : (s.saveSet).pwr = s.pwr := rfl
@[simp] theorem saveSet_arb : (s.saveSet).arb = s.arb := rfl
@[simp] theorem saveSet_led : (s.saveSet).led = s.led := rfl
@[simp] theorem saveSet_sensors : (s.saveSet).sensors = s.sensors := rfl
@[simp] theorem saveSet_fans : (s.saveSet).fans = s.fans := rfl
@[simp] theorem saveSet_banks : (s.saveSet).banks = s.banks := rfl
@[simp] theorem saveSet_wear : (s.saveSet).wear = s.wear := rfl
@[simp] theorem saveSet_wearSaved : (s.saveSet).wearSaved = s.wearSaved := rfl
@[simp] theorem saveSet_log : (s.saveSet).log = s.log := rfl
@[simp] theorem saveSet_summary : (s.saveSet).summary = s.summary := rfl
@[simp] theorem saveSet_can : (s.saveSet).can = s.can := rfl
@[simp] theorem saveSet_loops : (s.saveSet).loops = s.loops := rfl
@[simp] theorem saveSet_dio : (s.saveSet).dio = s.dio := rfl
@[simp] theorem saveSet_afe : (s.saveSet).afe = s.afe := rfl
@[simp] theorem saveSet_cells : (s.saveSet).cells = s.cells := rfl
@[simp] theorem saveSet_moist : (s.saveSet).moist = s.moist := rfl
@[simp] theorem saveSet_xf : (s.saveSet).xf = s.xf := rfl
@[simp] theorem saveSet_root : (s.saveSet).root = s.root := rfl
@[simp] theorem saveSet_time : (s.saveSet).time = s.time := rfl
@[simp] theorem saveSet_gnss : (s.saveSet).gnss = s.gnss := rfl
@[simp] theorem saveSet_sent : (s.saveSet).sent = s.sent := rfl
@[simp] theorem saveSet_pending : (s.saveSet).pending = s.pending := rfl

@[simp] theorem updSup_now (f : Sup → Sup) : (s.updSup f).now = s.now := rfl
@[simp] theorem updSup_regs (f : Sup → Sup) : (s.updSup f).regs = s.regs := rfl
@[simp] theorem updSup_store (f : Sup → Sup) : (s.updSup f).store = s.store := rfl
@[simp] theorem updSup_freeCtr (f : Sup → Sup) : (s.updSup f).freeCtr = s.freeCtr := rfl
@[simp] theorem updSup_heart (f : Sup → Sup) : (s.updSup f).heart = s.heart := rfl
@[simp] theorem updSup_sup (f : Sup → Sup) : (s.updSup f).sup = f s.sup := rfl
@[simp] theorem updSup_clk (f : Sup → Sup) : (s.updSup f).clk = s.clk := rfl
@[simp] theorem updSup_pwr (f : Sup → Sup) : (s.updSup f).pwr = s.pwr := rfl
@[simp] theorem updSup_arb (f : Sup → Sup) : (s.updSup f).arb = s.arb := rfl
@[simp] theorem updSup_led (f : Sup → Sup) : (s.updSup f).led = s.led := rfl
@[simp] theorem updSup_sensors (f : Sup → Sup) : (s.updSup f).sensors = s.sensors := rfl
@[simp] theorem updSup_fans (f : Sup → Sup) : (s.updSup f).fans = s.fans := rfl
@[simp] theorem updSup_banks (f : Sup → Sup) : (s.updSup f).banks = s.banks := rfl
@[simp] theorem updSup_wear (f : Sup → Sup) : (s.updSup f).wear = s.wear := rfl
@[simp] theorem updSup_wearSaved (f : Sup → Sup) : (s.updSup f).wearSaved = s.wearSaved := rfl
@[simp] theorem updSup_log (f : Sup → Sup) : (s.updSup f).log = s.log := rfl
@[simp] theorem updSup_summary (f : Sup → Sup) : (s.updSup f).summary = s.summary := rfl
@[simp] theorem updSup_can (f : Sup → Sup) : (s.updSup f).can = s.can := rfl
@[simp] theorem updSup_loops (f : Sup → Sup) : (s.updSup f).loops = s.loops := rfl
@[simp] theorem updSup_dio (f : Sup → Sup) : (s.updSup f).dio = s.dio := rfl
@[simp] theorem updSup_afe (f : Sup → Sup) : (s.updSup f).afe = s.afe := rfl
@[simp] theorem updSup_cells (f : Sup → Sup) : (s.updSup f).cells = s.cells := rfl
@[simp] theorem updSup_moist (f : Sup → Sup) : (s.updSup f).moist = s.moist := rfl
@[simp] theorem updSup_xf (f : Sup → Sup) : (s.updSup f).xf = s.xf := rfl
@[simp] theorem updSup_root (f : Sup → Sup) : (s.updSup f).root = s.root := rfl
@[simp] theorem updSup_time (f : Sup → Sup) : (s.updSup f).time = s.time := rfl
@[simp] theorem updSup_gnss (f : Sup → Sup) : (s.updSup f).gnss = s.gnss := rfl
@[simp] theorem updSup_sent (f : Sup → Sup) : (s.updSup f).sent = s.sent := rfl
@[simp] theorem updSup_pending (f : Sup → Sup) : (s.updSup f).pending = s.pending := rfl

@[simp] theorem updPwr_now (f : Power → Power) : (s.updPwr f).now = s.now := rfl
@[simp] theorem updPwr_regs (f : Power → Power) : (s.updPwr f).regs = s.regs := rfl
@[simp] theorem updPwr_store (f : Power → Power) : (s.updPwr f).store = s.store := rfl
@[simp] theorem updPwr_freeCtr (f : Power → Power) : (s.updPwr f).freeCtr = s.freeCtr := rfl
@[simp] theorem updPwr_heart (f : Power → Power) : (s.updPwr f).heart = s.heart := rfl
@[simp] theorem updPwr_sup (f : Power → Power) : (s.updPwr f).sup = s.sup := rfl
@[simp] theorem updPwr_clk (f : Power → Power) : (s.updPwr f).clk = s.clk := rfl
@[simp] theorem updPwr_pwr (f : Power → Power) : (s.updPwr f).pwr = f s.pwr := rfl
@[simp] theorem updPwr_arb (f : Power → Power) : (s.updPwr f).arb = s.arb := rfl
@[simp] theorem updPwr_led (f : Power → Power) : (s.updPwr f).led = s.led := rfl
@[simp] theorem updPwr_sensors (f : Power → Power) : (s.updPwr f).sensors = s.sensors := rfl
@[simp] theorem updPwr_fans (f : Power → Power) : (s.updPwr f).fans = s.fans := rfl
@[simp] theorem updPwr_banks (f : Power → Power) : (s.updPwr f).banks = s.banks := rfl
@[simp] theorem updPwr_wear (f : Power → Power) : (s.updPwr f).wear = s.wear := rfl
@[simp] theorem updPwr_wearSaved (f : Power → Power) : (s.updPwr f).wearSaved = s.wearSaved := rfl
@[simp] theorem updPwr_log (f : Power → Power) : (s.updPwr f).log = s.log := rfl
@[simp] theorem updPwr_summary (f : Power → Power) : (s.updPwr f).summary = s.summary := rfl
@[simp] theorem updPwr_can (f : Power → Power) : (s.updPwr f).can = s.can := rfl
@[simp] theorem updPwr_loops (f : Power → Power) : (s.updPwr f).loops = s.loops := rfl
@[simp] theorem updPwr_dio (f : Power → Power) : (s.updPwr f).dio = s.dio := rfl
@[simp] theorem updPwr_afe (f : Power → Power) : (s.updPwr f).afe = s.afe := rfl
@[simp] theorem updPwr_cells (f : Power → Power) : (s.updPwr f).cells = s.cells := rfl
@[simp] theorem updPwr_moist (f : Power → Power) : (s.updPwr f).moist = s.moist := rfl
@[simp] theorem updPwr_xf (f : Power → Power) : (s.updPwr f).xf = s.xf := rfl
@[simp] theorem updPwr_root (f : Power → Power) : (s.updPwr f).root = s.root := rfl
@[simp] theorem updPwr_time (f : Power → Power) : (s.updPwr f).time = s.time := rfl
@[simp] theorem updPwr_gnss (f : Power → Power) : (s.updPwr f).gnss = s.gnss := rfl
@[simp] theorem updPwr_sent (f : Power → Power) : (s.updPwr f).sent = s.sent := rfl
@[simp] theorem updPwr_pending (f : Power → Power) : (s.updPwr f).pending = s.pending := rfl

@[simp] theorem updTime_now (f : Time → Time) : (s.updTime f).now = s.now := rfl
@[simp] theorem updTime_regs (f : Time → Time) : (s.updTime f).regs = s.regs := rfl
@[simp] theorem updTime_store (f : Time → Time) : (s.updTime f).store = s.store := rfl
@[simp] theorem updTime_freeCtr (f : Time → Time) : (s.updTime f).freeCtr = s.freeCtr := rfl
@[simp] theorem updTime_heart (f : Time → Time) : (s.updTime f).heart = s.heart := rfl
@[simp] theorem updTime_sup (f : Time → Time) : (s.updTime f).sup = s.sup := rfl
@[simp] theorem updTime_clk (f : Time → Time) : (s.updTime f).clk = s.clk := rfl
@[simp] theorem updTime_pwr (f : Time → Time) : (s.updTime f).pwr = s.pwr := rfl
@[simp] theorem updTime_arb (f : Time → Time) : (s.updTime f).arb = s.arb := rfl
@[simp] theorem updTime_led (f : Time → Time) : (s.updTime f).led = s.led := rfl
@[simp] theorem updTime_sensors (f : Time → Time) : (s.updTime f).sensors = s.sensors := rfl
@[simp] theorem updTime_fans (f : Time → Time) : (s.updTime f).fans = s.fans := rfl
@[simp] theorem updTime_banks (f : Time → Time) : (s.updTime f).banks = s.banks := rfl
@[simp] theorem updTime_wear (f : Time → Time) : (s.updTime f).wear = s.wear := rfl
@[simp] theorem updTime_wearSaved (f : Time → Time) : (s.updTime f).wearSaved = s.wearSaved := rfl
@[simp] theorem updTime_log (f : Time → Time) : (s.updTime f).log = s.log := rfl
@[simp] theorem updTime_summary (f : Time → Time) : (s.updTime f).summary = s.summary := rfl
@[simp] theorem updTime_can (f : Time → Time) : (s.updTime f).can = s.can := rfl
@[simp] theorem updTime_loops (f : Time → Time) : (s.updTime f).loops = s.loops := rfl
@[simp] theorem updTime_dio (f : Time → Time) : (s.updTime f).dio = s.dio := rfl
@[simp] theorem updTime_afe (f : Time → Time) : (s.updTime f).afe = s.afe := rfl
@[simp] theorem updTime_cells (f : Time → Time) : (s.updTime f).cells = s.cells := rfl
@[simp] theorem updTime_moist (f : Time → Time) : (s.updTime f).moist = s.moist := rfl
@[simp] theorem updTime_xf (f : Time → Time) : (s.updTime f).xf = s.xf := rfl
@[simp] theorem updTime_root (f : Time → Time) : (s.updTime f).root = s.root := rfl
@[simp] theorem updTime_time (f : Time → Time) : (s.updTime f).time = f s.time := rfl
@[simp] theorem updTime_gnss (f : Time → Time) : (s.updTime f).gnss = s.gnss := rfl
@[simp] theorem updTime_sent (f : Time → Time) : (s.updTime f).sent = s.sent := rfl
@[simp] theorem updTime_pending (f : Time → Time) : (s.updTime f).pending = s.pending := rfl

@[simp] theorem updGnss_now (f : Gnss → Gnss) : (s.updGnss f).now = s.now := rfl
@[simp] theorem updGnss_regs (f : Gnss → Gnss) : (s.updGnss f).regs = s.regs := rfl
@[simp] theorem updGnss_store (f : Gnss → Gnss) : (s.updGnss f).store = s.store := rfl
@[simp] theorem updGnss_freeCtr (f : Gnss → Gnss) : (s.updGnss f).freeCtr = s.freeCtr := rfl
@[simp] theorem updGnss_heart (f : Gnss → Gnss) : (s.updGnss f).heart = s.heart := rfl
@[simp] theorem updGnss_sup (f : Gnss → Gnss) : (s.updGnss f).sup = s.sup := rfl
@[simp] theorem updGnss_clk (f : Gnss → Gnss) : (s.updGnss f).clk = s.clk := rfl
@[simp] theorem updGnss_pwr (f : Gnss → Gnss) : (s.updGnss f).pwr = s.pwr := rfl
@[simp] theorem updGnss_arb (f : Gnss → Gnss) : (s.updGnss f).arb = s.arb := rfl
@[simp] theorem updGnss_led (f : Gnss → Gnss) : (s.updGnss f).led = s.led := rfl
@[simp] theorem updGnss_sensors (f : Gnss → Gnss) : (s.updGnss f).sensors = s.sensors := rfl
@[simp] theorem updGnss_fans (f : Gnss → Gnss) : (s.updGnss f).fans = s.fans := rfl
@[simp] theorem updGnss_banks (f : Gnss → Gnss) : (s.updGnss f).banks = s.banks := rfl
@[simp] theorem updGnss_wear (f : Gnss → Gnss) : (s.updGnss f).wear = s.wear := rfl
@[simp] theorem updGnss_wearSaved (f : Gnss → Gnss) : (s.updGnss f).wearSaved = s.wearSaved := rfl
@[simp] theorem updGnss_log (f : Gnss → Gnss) : (s.updGnss f).log = s.log := rfl
@[simp] theorem updGnss_summary (f : Gnss → Gnss) : (s.updGnss f).summary = s.summary := rfl
@[simp] theorem updGnss_can (f : Gnss → Gnss) : (s.updGnss f).can = s.can := rfl
@[simp] theorem updGnss_loops (f : Gnss → Gnss) : (s.updGnss f).loops = s.loops := rfl
@[simp] theorem updGnss_dio (f : Gnss → Gnss) : (s.updGnss f).dio = s.dio := rfl
@[simp] theorem updGnss_afe (f : Gnss → Gnss) : (s.updGnss f).afe = s.afe := rfl
@[simp] theorem updGnss_cells (f : Gnss → Gnss) : (s.updGnss f).cells = s.cells := rfl
@[simp] theorem updGnss_moist (f : Gnss → Gnss) : (s.updGnss f).moist = s.moist := rfl
@[simp] theorem updGnss_xf (f : Gnss → Gnss) : (s.updGnss f).xf = s.xf := rfl
@[simp] theorem updGnss_root (f : Gnss → Gnss) : (s.updGnss f).root = s.root := rfl
@[simp] theorem updGnss_time (f : Gnss → Gnss) : (s.updGnss f).time = s.time := rfl
@[simp] theorem updGnss_gnss (f : Gnss → Gnss) : (s.updGnss f).gnss = f s.gnss := rfl
@[simp] theorem updGnss_sent (f : Gnss → Gnss) : (s.updGnss f).sent = s.sent := rfl
@[simp] theorem updGnss_pending (f : Gnss → Gnss) : (s.updGnss f).pending = s.pending := rfl

@[simp] theorem updXf_now (f : Xform → Xform) : (s.updXf f).now = s.now := rfl
@[simp] theorem updXf_regs (f : Xform → Xform) : (s.updXf f).regs = s.regs := rfl
@[simp] theorem updXf_store (f : Xform → Xform) : (s.updXf f).store = s.store := rfl
@[simp] theorem updXf_freeCtr (f : Xform → Xform) : (s.updXf f).freeCtr = s.freeCtr := rfl
@[simp] theorem updXf_heart (f : Xform → Xform) : (s.updXf f).heart = s.heart := rfl
@[simp] theorem updXf_sup (f : Xform → Xform) : (s.updXf f).sup = s.sup := rfl
@[simp] theorem updXf_clk (f : Xform → Xform) : (s.updXf f).clk = s.clk := rfl
@[simp] theorem updXf_pwr (f : Xform → Xform) : (s.updXf f).pwr = s.pwr := rfl
@[simp] theorem updXf_arb (f : Xform → Xform) : (s.updXf f).arb = s.arb := rfl
@[simp] theorem updXf_led (f : Xform → Xform) : (s.updXf f).led = s.led := rfl
@[simp] theorem updXf_sensors (f : Xform → Xform) : (s.updXf f).sensors = s.sensors := rfl
@[simp] theorem updXf_fans (f : Xform → Xform) : (s.updXf f).fans = s.fans := rfl
@[simp] theorem updXf_banks (f : Xform → Xform) : (s.updXf f).banks = s.banks := rfl
@[simp] theorem updXf_wear (f : Xform → Xform) : (s.updXf f).wear = s.wear := rfl
@[simp] theorem updXf_wearSaved (f : Xform → Xform) : (s.updXf f).wearSaved = s.wearSaved := rfl
@[simp] theorem updXf_log (f : Xform → Xform) : (s.updXf f).log = s.log := rfl
@[simp] theorem updXf_summary (f : Xform → Xform) : (s.updXf f).summary = s.summary := rfl
@[simp] theorem updXf_can (f : Xform → Xform) : (s.updXf f).can = s.can := rfl
@[simp] theorem updXf_loops (f : Xform → Xform) : (s.updXf f).loops = s.loops := rfl
@[simp] theorem updXf_dio (f : Xform → Xform) : (s.updXf f).dio = s.dio := rfl
@[simp] theorem updXf_afe (f : Xform → Xform) : (s.updXf f).afe = s.afe := rfl
@[simp] theorem updXf_cells (f : Xform → Xform) : (s.updXf f).cells = s.cells := rfl
@[simp] theorem updXf_moist (f : Xform → Xform) : (s.updXf f).moist = s.moist := rfl
@[simp] theorem updXf_xf (f : Xform → Xform) : (s.updXf f).xf = f s.xf := rfl
@[simp] theorem updXf_root (f : Xform → Xform) : (s.updXf f).root = s.root := rfl
@[simp] theorem updXf_time (f : Xform → Xform) : (s.updXf f).time = s.time := rfl
@[simp] theorem updXf_gnss (f : Xform → Xform) : (s.updXf f).gnss = s.gnss := rfl
@[simp] theorem updXf_sent (f : Xform → Xform) : (s.updXf f).sent = s.sent := rfl
@[simp] theorem updXf_pending (f : Xform → Xform) : (s.updXf f).pending = s.pending := rfl

@[simp] theorem updCan_now (f : Canopy → Canopy) : (s.updCan f).now = s.now := rfl
@[simp] theorem updCan_regs (f : Canopy → Canopy) : (s.updCan f).regs = s.regs := rfl
@[simp] theorem updCan_store (f : Canopy → Canopy) : (s.updCan f).store = s.store := rfl
@[simp] theorem updCan_freeCtr (f : Canopy → Canopy) : (s.updCan f).freeCtr = s.freeCtr := rfl
@[simp] theorem updCan_heart (f : Canopy → Canopy) : (s.updCan f).heart = s.heart := rfl
@[simp] theorem updCan_sup (f : Canopy → Canopy) : (s.updCan f).sup = s.sup := rfl
@[simp] theorem updCan_clk (f : Canopy → Canopy) : (s.updCan f).clk = s.clk := rfl
@[simp] theorem updCan_pwr (f : Canopy → Canopy) : (s.updCan f).pwr = s.pwr := rfl
@[simp] theorem updCan_arb (f : Canopy → Canopy) : (s.updCan f).arb = s.arb := rfl
@[simp] theorem updCan_led (f : Canopy → Canopy) : (s.updCan f).led = s.led := rfl
@[simp] theorem updCan_sensors (f : Canopy → Canopy) : (s.updCan f).sensors = s.sensors := rfl
@[simp] theorem updCan_fans (f : Canopy → Canopy) : (s.updCan f).fans = s.fans := rfl
@[simp] theorem updCan_banks (f : Canopy → Canopy) : (s.updCan f).banks = s.banks := rfl
@[simp] theorem updCan_wear (f : Canopy → Canopy) : (s.updCan f).wear = s.wear := rfl
@[simp] theorem updCan_wearSaved (f : Canopy → Canopy) : (s.updCan f).wearSaved = s.wearSaved := rfl
@[simp] theorem updCan_log (f : Canopy → Canopy) : (s.updCan f).log = s.log := rfl
@[simp] theorem updCan_summary (f : Canopy → Canopy) : (s.updCan f).summary = s.summary := rfl
@[simp] theorem updCan_can (f : Canopy → Canopy) : (s.updCan f).can = f s.can := rfl
@[simp] theorem updCan_loops (f : Canopy → Canopy) : (s.updCan f).loops = s.loops := rfl
@[simp] theorem updCan_dio (f : Canopy → Canopy) : (s.updCan f).dio = s.dio := rfl
@[simp] theorem updCan_afe (f : Canopy → Canopy) : (s.updCan f).afe = s.afe := rfl
@[simp] theorem updCan_cells (f : Canopy → Canopy) : (s.updCan f).cells = s.cells := rfl
@[simp] theorem updCan_moist (f : Canopy → Canopy) : (s.updCan f).moist = s.moist := rfl
@[simp] theorem updCan_xf (f : Canopy → Canopy) : (s.updCan f).xf = s.xf := rfl
@[simp] theorem updCan_root (f : Canopy → Canopy) : (s.updCan f).root = s.root := rfl
@[simp] theorem updCan_time (f : Canopy → Canopy) : (s.updCan f).time = s.time := rfl
@[simp] theorem updCan_gnss (f : Canopy → Canopy) : (s.updCan f).gnss = s.gnss := rfl
@[simp] theorem updCan_sent (f : Canopy → Canopy) : (s.updCan f).sent = s.sent := rfl
@[simp] theorem updCan_pending (f : Canopy → Canopy) : (s.updCan f).pending = s.pending := rfl

@[simp] theorem updLoop_now (l : Fin 256) (f : Loop → Loop) : (s.updLoop l f).now = s.now := rfl
@[simp] theorem updLoop_regs (l : Fin 256) (f : Loop → Loop) : (s.updLoop l f).regs = s.regs := rfl
@[simp] theorem updLoop_store (l : Fin 256) (f : Loop → Loop) : (s.updLoop l f).store = s.store := rfl
@[simp] theorem updLoop_freeCtr (l : Fin 256) (f : Loop → Loop) : (s.updLoop l f).freeCtr = s.freeCtr := rfl
@[simp] theorem updLoop_heart (l : Fin 256) (f : Loop → Loop) : (s.updLoop l f).heart = s.heart := rfl
@[simp] theorem updLoop_sup (l : Fin 256) (f : Loop → Loop) : (s.updLoop l f).sup = s.sup := rfl
@[simp] theorem updLoop_clk (l : Fin 256) (f : Loop → Loop) : (s.updLoop l f).clk = s.clk := rfl
@[simp] theorem updLoop_pwr (l : Fin 256) (f : Loop → Loop) : (s.updLoop l f).pwr = s.pwr := rfl
@[simp] theorem updLoop_arb (l : Fin 256) (f : Loop → Loop) : (s.updLoop l f).arb = s.arb := rfl
@[simp] theorem updLoop_led (l : Fin 256) (f : Loop → Loop) : (s.updLoop l f).led = s.led := rfl
@[simp] theorem updLoop_sensors (l : Fin 256) (f : Loop → Loop) : (s.updLoop l f).sensors = s.sensors := rfl
@[simp] theorem updLoop_fans (l : Fin 256) (f : Loop → Loop) : (s.updLoop l f).fans = s.fans := rfl
@[simp] theorem updLoop_banks (l : Fin 256) (f : Loop → Loop) : (s.updLoop l f).banks = s.banks := rfl
@[simp] theorem updLoop_wear (l : Fin 256) (f : Loop → Loop) : (s.updLoop l f).wear = s.wear := rfl
@[simp] theorem updLoop_wearSaved (l : Fin 256) (f : Loop → Loop) : (s.updLoop l f).wearSaved = s.wearSaved := rfl
@[simp] theorem updLoop_log (l : Fin 256) (f : Loop → Loop) : (s.updLoop l f).log = s.log := rfl
@[simp] theorem updLoop_summary (l : Fin 256) (f : Loop → Loop) : (s.updLoop l f).summary = s.summary := rfl
@[simp] theorem updLoop_can (l : Fin 256) (f : Loop → Loop) : (s.updLoop l f).can = s.can := rfl
@[simp] theorem updLoop_dio (l : Fin 256) (f : Loop → Loop) : (s.updLoop l f).dio = s.dio := rfl
@[simp] theorem updLoop_afe (l : Fin 256) (f : Loop → Loop) : (s.updLoop l f).afe = s.afe := rfl
@[simp] theorem updLoop_cells (l : Fin 256) (f : Loop → Loop) : (s.updLoop l f).cells = s.cells := rfl
@[simp] theorem updLoop_moist (l : Fin 256) (f : Loop → Loop) : (s.updLoop l f).moist = s.moist := rfl
@[simp] theorem updLoop_xf (l : Fin 256) (f : Loop → Loop) : (s.updLoop l f).xf = s.xf := rfl
@[simp] theorem updLoop_root (l : Fin 256) (f : Loop → Loop) : (s.updLoop l f).root = s.root := rfl
@[simp] theorem updLoop_time (l : Fin 256) (f : Loop → Loop) : (s.updLoop l f).time = s.time := rfl
@[simp] theorem updLoop_gnss (l : Fin 256) (f : Loop → Loop) : (s.updLoop l f).gnss = s.gnss := rfl
@[simp] theorem updLoop_sent (l : Fin 256) (f : Loop → Loop) : (s.updLoop l f).sent = s.sent := rfl
@[simp] theorem updLoop_pending (l : Fin 256) (f : Loop → Loop) : (s.updLoop l f).pending = s.pending := rfl

@[simp] theorem updBank_now (n : Fin 12) (f : Bank → Bank) : (s.updBank n f).now = s.now := rfl
@[simp] theorem updBank_regs (n : Fin 12) (f : Bank → Bank) : (s.updBank n f).regs = s.regs := rfl
@[simp] theorem updBank_store (n : Fin 12) (f : Bank → Bank) : (s.updBank n f).store = s.store := rfl
@[simp] theorem updBank_freeCtr (n : Fin 12) (f : Bank → Bank) : (s.updBank n f).freeCtr = s.freeCtr := rfl
@[simp] theorem updBank_heart (n : Fin 12) (f : Bank → Bank) : (s.updBank n f).heart = s.heart := rfl
@[simp] theorem updBank_sup (n : Fin 12) (f : Bank → Bank) : (s.updBank n f).sup = s.sup := rfl
@[simp] theorem updBank_clk (n : Fin 12) (f : Bank → Bank) : (s.updBank n f).clk = s.clk := rfl
@[simp] theorem updBank_pwr (n : Fin 12) (f : Bank → Bank) : (s.updBank n f).pwr = s.pwr := rfl
@[simp] theorem updBank_arb (n : Fin 12) (f : Bank → Bank) : (s.updBank n f).arb = s.arb := rfl
@[simp] theorem updBank_led (n : Fin 12) (f : Bank → Bank) : (s.updBank n f).led = s.led := rfl
@[simp] theorem updBank_sensors (n : Fin 12) (f : Bank → Bank) : (s.updBank n f).sensors = s.sensors := rfl
@[simp] theorem updBank_fans (n : Fin 12) (f : Bank → Bank) : (s.updBank n f).fans = s.fans := rfl
@[simp] theorem updBank_wear (n : Fin 12) (f : Bank → Bank) : (s.updBank n f).wear = s.wear := rfl
@[simp] theorem updBank_wearSaved (n : Fin 12) (f : Bank → Bank) : (s.updBank n f).wearSaved = s.wearSaved := rfl
@[simp] theorem updBank_log (n : Fin 12) (f : Bank → Bank) : (s.updBank n f).log = s.log := rfl
@[simp] theorem updBank_summary (n : Fin 12) (f : Bank → Bank) : (s.updBank n f).summary = s.summary := rfl
@[simp] theorem updBank_can (n : Fin 12) (f : Bank → Bank) : (s.updBank n f).can = s.can := rfl
@[simp] theorem updBank_loops (n : Fin 12) (f : Bank → Bank) : (s.updBank n f).loops = s.loops := rfl
@[simp] theorem updBank_dio (n : Fin 12) (f : Bank → Bank) : (s.updBank n f).dio = s.dio := rfl
@[simp] theorem updBank_afe (n : Fin 12) (f : Bank → Bank) : (s.updBank n f).afe = s.afe := rfl
@[simp] theorem updBank_cells (n : Fin 12) (f : Bank → Bank) : (s.updBank n f).cells = s.cells := rfl
@[simp] theorem updBank_moist (n : Fin 12) (f : Bank → Bank) : (s.updBank n f).moist = s.moist := rfl
@[simp] theorem updBank_xf (n : Fin 12) (f : Bank → Bank) : (s.updBank n f).xf = s.xf := rfl
@[simp] theorem updBank_root (n : Fin 12) (f : Bank → Bank) : (s.updBank n f).root = s.root := rfl
@[simp] theorem updBank_time (n : Fin 12) (f : Bank → Bank) : (s.updBank n f).time = s.time := rfl
@[simp] theorem updBank_gnss (n : Fin 12) (f : Bank → Bank) : (s.updBank n f).gnss = s.gnss := rfl
@[simp] theorem updBank_sent (n : Fin 12) (f : Bank → Bank) : (s.updBank n f).sent = s.sent := rfl
@[simp] theorem updBank_pending (n : Fin 12) (f : Bank → Bank) : (s.updBank n f).pending = s.pending := rfl

@[simp] theorem updOut_now (n : Fin 32) (f : DoOut → DoOut) : (s.updOut n f).now = s.now := rfl
@[simp] theorem updOut_regs (n : Fin 32) (f : DoOut → DoOut) : (s.updOut n f).regs = s.regs := rfl
@[simp] theorem updOut_store (n : Fin 32) (f : DoOut → DoOut) : (s.updOut n f).store = s.store := rfl
@[simp] theorem updOut_freeCtr (n : Fin 32) (f : DoOut → DoOut) : (s.updOut n f).freeCtr = s.freeCtr := rfl
@[simp] theorem updOut_heart (n : Fin 32) (f : DoOut → DoOut) : (s.updOut n f).heart = s.heart := rfl
@[simp] theorem updOut_sup (n : Fin 32) (f : DoOut → DoOut) : (s.updOut n f).sup = s.sup := rfl
@[simp] theorem updOut_clk (n : Fin 32) (f : DoOut → DoOut) : (s.updOut n f).clk = s.clk := rfl
@[simp] theorem updOut_pwr (n : Fin 32) (f : DoOut → DoOut) : (s.updOut n f).pwr = s.pwr := rfl
@[simp] theorem updOut_arb (n : Fin 32) (f : DoOut → DoOut) : (s.updOut n f).arb = s.arb := rfl
@[simp] theorem updOut_led (n : Fin 32) (f : DoOut → DoOut) : (s.updOut n f).led = s.led := rfl
@[simp] theorem updOut_sensors (n : Fin 32) (f : DoOut → DoOut) : (s.updOut n f).sensors = s.sensors := rfl
@[simp] theorem updOut_fans (n : Fin 32) (f : DoOut → DoOut) : (s.updOut n f).fans = s.fans := rfl
@[simp] theorem updOut_banks (n : Fin 32) (f : DoOut → DoOut) : (s.updOut n f).banks = s.banks := rfl
@[simp] theorem updOut_wear (n : Fin 32) (f : DoOut → DoOut) : (s.updOut n f).wear = s.wear := rfl
@[simp] theorem updOut_wearSaved (n : Fin 32) (f : DoOut → DoOut) : (s.updOut n f).wearSaved = s.wearSaved := rfl
@[simp] theorem updOut_log (n : Fin 32) (f : DoOut → DoOut) : (s.updOut n f).log = s.log := rfl
@[simp] theorem updOut_summary (n : Fin 32) (f : DoOut → DoOut) : (s.updOut n f).summary = s.summary := rfl
@[simp] theorem updOut_can (n : Fin 32) (f : DoOut → DoOut) : (s.updOut n f).can = s.can := rfl
@[simp] theorem updOut_loops (n : Fin 32) (f : DoOut → DoOut) : (s.updOut n f).loops = s.loops := rfl
@[simp] theorem updOut_afe (n : Fin 32) (f : DoOut → DoOut) : (s.updOut n f).afe = s.afe := rfl
@[simp] theorem updOut_cells (n : Fin 32) (f : DoOut → DoOut) : (s.updOut n f).cells = s.cells := rfl
@[simp] theorem updOut_moist (n : Fin 32) (f : DoOut → DoOut) : (s.updOut n f).moist = s.moist := rfl
@[simp] theorem updOut_xf (n : Fin 32) (f : DoOut → DoOut) : (s.updOut n f).xf = s.xf := rfl
@[simp] theorem updOut_root (n : Fin 32) (f : DoOut → DoOut) : (s.updOut n f).root = s.root := rfl
@[simp] theorem updOut_time (n : Fin 32) (f : DoOut → DoOut) : (s.updOut n f).time = s.time := rfl
@[simp] theorem updOut_gnss (n : Fin 32) (f : DoOut → DoOut) : (s.updOut n f).gnss = s.gnss := rfl
@[simp] theorem updOut_sent (n : Fin 32) (f : DoOut → DoOut) : (s.updOut n f).sent = s.sent := rfl
@[simp] theorem updOut_pending (n : Fin 32) (f : DoOut → DoOut) : (s.updOut n f).pending = s.pending := rfl

@[simp] theorem updDi_now (n : Fin 8) (f : DiGroup → DiGroup) : (s.updDi n f).now = s.now := rfl
@[simp] theorem updDi_regs (n : Fin 8) (f : DiGroup → DiGroup) : (s.updDi n f).regs = s.regs := rfl
@[simp] theorem updDi_store (n : Fin 8) (f : DiGroup → DiGroup) : (s.updDi n f).store = s.store := rfl
@[simp] theorem updDi_freeCtr (n : Fin 8) (f : DiGroup → DiGroup) : (s.updDi n f).freeCtr = s.freeCtr := rfl
@[simp] theorem updDi_heart (n : Fin 8) (f : DiGroup → DiGroup) : (s.updDi n f).heart = s.heart := rfl
@[simp] theorem updDi_sup (n : Fin 8) (f : DiGroup → DiGroup) : (s.updDi n f).sup = s.sup := rfl
@[simp] theorem updDi_clk (n : Fin 8) (f : DiGroup → DiGroup) : (s.updDi n f).clk = s.clk := rfl
@[simp] theorem updDi_pwr (n : Fin 8) (f : DiGroup → DiGroup) : (s.updDi n f).pwr = s.pwr := rfl
@[simp] theorem updDi_arb (n : Fin 8) (f : DiGroup → DiGroup) : (s.updDi n f).arb = s.arb := rfl
@[simp] theorem updDi_led (n : Fin 8) (f : DiGroup → DiGroup) : (s.updDi n f).led = s.led := rfl
@[simp] theorem updDi_sensors (n : Fin 8) (f : DiGroup → DiGroup) : (s.updDi n f).sensors = s.sensors := rfl
@[simp] theorem updDi_fans (n : Fin 8) (f : DiGroup → DiGroup) : (s.updDi n f).fans = s.fans := rfl
@[simp] theorem updDi_banks (n : Fin 8) (f : DiGroup → DiGroup) : (s.updDi n f).banks = s.banks := rfl
@[simp] theorem updDi_wear (n : Fin 8) (f : DiGroup → DiGroup) : (s.updDi n f).wear = s.wear := rfl
@[simp] theorem updDi_wearSaved (n : Fin 8) (f : DiGroup → DiGroup) : (s.updDi n f).wearSaved = s.wearSaved := rfl
@[simp] theorem updDi_log (n : Fin 8) (f : DiGroup → DiGroup) : (s.updDi n f).log = s.log := rfl
@[simp] theorem updDi_summary (n : Fin 8) (f : DiGroup → DiGroup) : (s.updDi n f).summary = s.summary := rfl
@[simp] theorem updDi_can (n : Fin 8) (f : DiGroup → DiGroup) : (s.updDi n f).can = s.can := rfl
@[simp] theorem updDi_loops (n : Fin 8) (f : DiGroup → DiGroup) : (s.updDi n f).loops = s.loops := rfl
@[simp] theorem updDi_afe (n : Fin 8) (f : DiGroup → DiGroup) : (s.updDi n f).afe = s.afe := rfl
@[simp] theorem updDi_cells (n : Fin 8) (f : DiGroup → DiGroup) : (s.updDi n f).cells = s.cells := rfl
@[simp] theorem updDi_moist (n : Fin 8) (f : DiGroup → DiGroup) : (s.updDi n f).moist = s.moist := rfl
@[simp] theorem updDi_xf (n : Fin 8) (f : DiGroup → DiGroup) : (s.updDi n f).xf = s.xf := rfl
@[simp] theorem updDi_root (n : Fin 8) (f : DiGroup → DiGroup) : (s.updDi n f).root = s.root := rfl
@[simp] theorem updDi_time (n : Fin 8) (f : DiGroup → DiGroup) : (s.updDi n f).time = s.time := rfl
@[simp] theorem updDi_gnss (n : Fin 8) (f : DiGroup → DiGroup) : (s.updDi n f).gnss = s.gnss := rfl
@[simp] theorem updDi_sent (n : Fin 8) (f : DiGroup → DiGroup) : (s.updDi n f).sent = s.sent := rfl
@[simp] theorem updDi_pending (n : Fin 8) (f : DiGroup → DiGroup) : (s.updDi n f).pending = s.pending := rfl

@[simp] theorem updField_now (n : Fin 12) (f : FieldSide → FieldSide) : (s.updField n f).now = s.now := rfl
@[simp] theorem updField_regs (n : Fin 12) (f : FieldSide → FieldSide) : (s.updField n f).regs = s.regs := rfl
@[simp] theorem updField_store (n : Fin 12) (f : FieldSide → FieldSide) : (s.updField n f).store = s.store := rfl
@[simp] theorem updField_freeCtr (n : Fin 12) (f : FieldSide → FieldSide) : (s.updField n f).freeCtr = s.freeCtr := rfl
@[simp] theorem updField_heart (n : Fin 12) (f : FieldSide → FieldSide) : (s.updField n f).heart = s.heart := rfl
@[simp] theorem updField_sup (n : Fin 12) (f : FieldSide → FieldSide) : (s.updField n f).sup = s.sup := rfl
@[simp] theorem updField_clk (n : Fin 12) (f : FieldSide → FieldSide) : (s.updField n f).clk = s.clk := rfl
@[simp] theorem updField_pwr (n : Fin 12) (f : FieldSide → FieldSide) : (s.updField n f).pwr = s.pwr := rfl
@[simp] theorem updField_arb (n : Fin 12) (f : FieldSide → FieldSide) : (s.updField n f).arb = s.arb := rfl
@[simp] theorem updField_led (n : Fin 12) (f : FieldSide → FieldSide) : (s.updField n f).led = s.led := rfl
@[simp] theorem updField_sensors (n : Fin 12) (f : FieldSide → FieldSide) : (s.updField n f).sensors = s.sensors := rfl
@[simp] theorem updField_fans (n : Fin 12) (f : FieldSide → FieldSide) : (s.updField n f).fans = s.fans := rfl
@[simp] theorem updField_banks (n : Fin 12) (f : FieldSide → FieldSide) : (s.updField n f).banks = s.banks := rfl
@[simp] theorem updField_wear (n : Fin 12) (f : FieldSide → FieldSide) : (s.updField n f).wear = s.wear := rfl
@[simp] theorem updField_wearSaved (n : Fin 12) (f : FieldSide → FieldSide) : (s.updField n f).wearSaved = s.wearSaved := rfl
@[simp] theorem updField_log (n : Fin 12) (f : FieldSide → FieldSide) : (s.updField n f).log = s.log := rfl
@[simp] theorem updField_summary (n : Fin 12) (f : FieldSide → FieldSide) : (s.updField n f).summary = s.summary := rfl
@[simp] theorem updField_can (n : Fin 12) (f : FieldSide → FieldSide) : (s.updField n f).can = s.can := rfl
@[simp] theorem updField_loops (n : Fin 12) (f : FieldSide → FieldSide) : (s.updField n f).loops = s.loops := rfl
@[simp] theorem updField_afe (n : Fin 12) (f : FieldSide → FieldSide) : (s.updField n f).afe = s.afe := rfl
@[simp] theorem updField_cells (n : Fin 12) (f : FieldSide → FieldSide) : (s.updField n f).cells = s.cells := rfl
@[simp] theorem updField_moist (n : Fin 12) (f : FieldSide → FieldSide) : (s.updField n f).moist = s.moist := rfl
@[simp] theorem updField_xf (n : Fin 12) (f : FieldSide → FieldSide) : (s.updField n f).xf = s.xf := rfl
@[simp] theorem updField_root (n : Fin 12) (f : FieldSide → FieldSide) : (s.updField n f).root = s.root := rfl
@[simp] theorem updField_time (n : Fin 12) (f : FieldSide → FieldSide) : (s.updField n f).time = s.time := rfl
@[simp] theorem updField_gnss (n : Fin 12) (f : FieldSide → FieldSide) : (s.updField n f).gnss = s.gnss := rfl
@[simp] theorem updField_sent (n : Fin 12) (f : FieldSide → FieldSide) : (s.updField n f).sent = s.sent := rfl
@[simp] theorem updField_pending (n : Fin 12) (f : FieldSide → FieldSide) : (s.updField n f).pending = s.pending := rfl

@[simp] theorem updConv_now (n : Fin 8) (f : AiConv → AiConv) : (s.updConv n f).now = s.now := rfl
@[simp] theorem updConv_regs (n : Fin 8) (f : AiConv → AiConv) : (s.updConv n f).regs = s.regs := rfl
@[simp] theorem updConv_store (n : Fin 8) (f : AiConv → AiConv) : (s.updConv n f).store = s.store := rfl
@[simp] theorem updConv_freeCtr (n : Fin 8) (f : AiConv → AiConv) : (s.updConv n f).freeCtr = s.freeCtr := rfl
@[simp] theorem updConv_heart (n : Fin 8) (f : AiConv → AiConv) : (s.updConv n f).heart = s.heart := rfl
@[simp] theorem updConv_sup (n : Fin 8) (f : AiConv → AiConv) : (s.updConv n f).sup = s.sup := rfl
@[simp] theorem updConv_clk (n : Fin 8) (f : AiConv → AiConv) : (s.updConv n f).clk = s.clk := rfl
@[simp] theorem updConv_pwr (n : Fin 8) (f : AiConv → AiConv) : (s.updConv n f).pwr = s.pwr := rfl
@[simp] theorem updConv_arb (n : Fin 8) (f : AiConv → AiConv) : (s.updConv n f).arb = s.arb := rfl
@[simp] theorem updConv_led (n : Fin 8) (f : AiConv → AiConv) : (s.updConv n f).led = s.led := rfl
@[simp] theorem updConv_sensors (n : Fin 8) (f : AiConv → AiConv) : (s.updConv n f).sensors = s.sensors := rfl
@[simp] theorem updConv_fans (n : Fin 8) (f : AiConv → AiConv) : (s.updConv n f).fans = s.fans := rfl
@[simp] theorem updConv_banks (n : Fin 8) (f : AiConv → AiConv) : (s.updConv n f).banks = s.banks := rfl
@[simp] theorem updConv_wear (n : Fin 8) (f : AiConv → AiConv) : (s.updConv n f).wear = s.wear := rfl
@[simp] theorem updConv_wearSaved (n : Fin 8) (f : AiConv → AiConv) : (s.updConv n f).wearSaved = s.wearSaved := rfl
@[simp] theorem updConv_log (n : Fin 8) (f : AiConv → AiConv) : (s.updConv n f).log = s.log := rfl
@[simp] theorem updConv_summary (n : Fin 8) (f : AiConv → AiConv) : (s.updConv n f).summary = s.summary := rfl
@[simp] theorem updConv_can (n : Fin 8) (f : AiConv → AiConv) : (s.updConv n f).can = s.can := rfl
@[simp] theorem updConv_loops (n : Fin 8) (f : AiConv → AiConv) : (s.updConv n f).loops = s.loops := rfl
@[simp] theorem updConv_dio (n : Fin 8) (f : AiConv → AiConv) : (s.updConv n f).dio = s.dio := rfl
@[simp] theorem updConv_cells (n : Fin 8) (f : AiConv → AiConv) : (s.updConv n f).cells = s.cells := rfl
@[simp] theorem updConv_moist (n : Fin 8) (f : AiConv → AiConv) : (s.updConv n f).moist = s.moist := rfl
@[simp] theorem updConv_xf (n : Fin 8) (f : AiConv → AiConv) : (s.updConv n f).xf = s.xf := rfl
@[simp] theorem updConv_root (n : Fin 8) (f : AiConv → AiConv) : (s.updConv n f).root = s.root := rfl
@[simp] theorem updConv_time (n : Fin 8) (f : AiConv → AiConv) : (s.updConv n f).time = s.time := rfl
@[simp] theorem updConv_gnss (n : Fin 8) (f : AiConv → AiConv) : (s.updConv n f).gnss = s.gnss := rfl
@[simp] theorem updConv_sent (n : Fin 8) (f : AiConv → AiConv) : (s.updConv n f).sent = s.sent := rfl
@[simp] theorem updConv_pending (n : Fin 8) (f : AiConv → AiConv) : (s.updConv n f).pending = s.pending := rfl

@[simp] theorem updCell_now (n : Fin 16) (f : CellSt → CellSt) : (s.updCell n f).now = s.now := rfl
@[simp] theorem updCell_regs (n : Fin 16) (f : CellSt → CellSt) : (s.updCell n f).regs = s.regs := rfl
@[simp] theorem updCell_store (n : Fin 16) (f : CellSt → CellSt) : (s.updCell n f).store = s.store := rfl
@[simp] theorem updCell_freeCtr (n : Fin 16) (f : CellSt → CellSt) : (s.updCell n f).freeCtr = s.freeCtr := rfl
@[simp] theorem updCell_heart (n : Fin 16) (f : CellSt → CellSt) : (s.updCell n f).heart = s.heart := rfl
@[simp] theorem updCell_sup (n : Fin 16) (f : CellSt → CellSt) : (s.updCell n f).sup = s.sup := rfl
@[simp] theorem updCell_clk (n : Fin 16) (f : CellSt → CellSt) : (s.updCell n f).clk = s.clk := rfl
@[simp] theorem updCell_pwr (n : Fin 16) (f : CellSt → CellSt) : (s.updCell n f).pwr = s.pwr := rfl
@[simp] theorem updCell_arb (n : Fin 16) (f : CellSt → CellSt) : (s.updCell n f).arb = s.arb := rfl
@[simp] theorem updCell_led (n : Fin 16) (f : CellSt → CellSt) : (s.updCell n f).led = s.led := rfl
@[simp] theorem updCell_sensors (n : Fin 16) (f : CellSt → CellSt) : (s.updCell n f).sensors = s.sensors := rfl
@[simp] theorem updCell_fans (n : Fin 16) (f : CellSt → CellSt) : (s.updCell n f).fans = s.fans := rfl
@[simp] theorem updCell_banks (n : Fin 16) (f : CellSt → CellSt) : (s.updCell n f).banks = s.banks := rfl
@[simp] theorem updCell_wear (n : Fin 16) (f : CellSt → CellSt) : (s.updCell n f).wear = s.wear := rfl
@[simp] theorem updCell_wearSaved (n : Fin 16) (f : CellSt → CellSt) : (s.updCell n f).wearSaved = s.wearSaved := rfl
@[simp] theorem updCell_log (n : Fin 16) (f : CellSt → CellSt) : (s.updCell n f).log = s.log := rfl
@[simp] theorem updCell_summary (n : Fin 16) (f : CellSt → CellSt) : (s.updCell n f).summary = s.summary := rfl
@[simp] theorem updCell_can (n : Fin 16) (f : CellSt → CellSt) : (s.updCell n f).can = s.can := rfl
@[simp] theorem updCell_loops (n : Fin 16) (f : CellSt → CellSt) : (s.updCell n f).loops = s.loops := rfl
@[simp] theorem updCell_dio (n : Fin 16) (f : CellSt → CellSt) : (s.updCell n f).dio = s.dio := rfl
@[simp] theorem updCell_afe (n : Fin 16) (f : CellSt → CellSt) : (s.updCell n f).afe = s.afe := rfl
@[simp] theorem updCell_moist (n : Fin 16) (f : CellSt → CellSt) : (s.updCell n f).moist = s.moist := rfl
@[simp] theorem updCell_xf (n : Fin 16) (f : CellSt → CellSt) : (s.updCell n f).xf = s.xf := rfl
@[simp] theorem updCell_root (n : Fin 16) (f : CellSt → CellSt) : (s.updCell n f).root = s.root := rfl
@[simp] theorem updCell_time (n : Fin 16) (f : CellSt → CellSt) : (s.updCell n f).time = s.time := rfl
@[simp] theorem updCell_gnss (n : Fin 16) (f : CellSt → CellSt) : (s.updCell n f).gnss = s.gnss := rfl
@[simp] theorem updCell_sent (n : Fin 16) (f : CellSt → CellSt) : (s.updCell n f).sent = s.sent := rfl
@[simp] theorem updCell_pending (n : Fin 16) (f : CellSt → CellSt) : (s.updCell n f).pending = s.pending := rfl

@[simp] theorem updGrp_now (n : Fin 4) (f : CellGrp → CellGrp) : (s.updGrp n f).now = s.now := rfl
@[simp] theorem updGrp_regs (n : Fin 4) (f : CellGrp → CellGrp) : (s.updGrp n f).regs = s.regs := rfl
@[simp] theorem updGrp_store (n : Fin 4) (f : CellGrp → CellGrp) : (s.updGrp n f).store = s.store := rfl
@[simp] theorem updGrp_freeCtr (n : Fin 4) (f : CellGrp → CellGrp) : (s.updGrp n f).freeCtr = s.freeCtr := rfl
@[simp] theorem updGrp_heart (n : Fin 4) (f : CellGrp → CellGrp) : (s.updGrp n f).heart = s.heart := rfl
@[simp] theorem updGrp_sup (n : Fin 4) (f : CellGrp → CellGrp) : (s.updGrp n f).sup = s.sup := rfl
@[simp] theorem updGrp_clk (n : Fin 4) (f : CellGrp → CellGrp) : (s.updGrp n f).clk = s.clk := rfl
@[simp] theorem updGrp_pwr (n : Fin 4) (f : CellGrp → CellGrp) : (s.updGrp n f).pwr = s.pwr := rfl
@[simp] theorem updGrp_arb (n : Fin 4) (f : CellGrp → CellGrp) : (s.updGrp n f).arb = s.arb := rfl
@[simp] theorem updGrp_led (n : Fin 4) (f : CellGrp → CellGrp) : (s.updGrp n f).led = s.led := rfl
@[simp] theorem updGrp_sensors (n : Fin 4) (f : CellGrp → CellGrp) : (s.updGrp n f).sensors = s.sensors := rfl
@[simp] theorem updGrp_fans (n : Fin 4) (f : CellGrp → CellGrp) : (s.updGrp n f).fans = s.fans := rfl
@[simp] theorem updGrp_banks (n : Fin 4) (f : CellGrp → CellGrp) : (s.updGrp n f).banks = s.banks := rfl
@[simp] theorem updGrp_wear (n : Fin 4) (f : CellGrp → CellGrp) : (s.updGrp n f).wear = s.wear := rfl
@[simp] theorem updGrp_wearSaved (n : Fin 4) (f : CellGrp → CellGrp) : (s.updGrp n f).wearSaved = s.wearSaved := rfl
@[simp] theorem updGrp_log (n : Fin 4) (f : CellGrp → CellGrp) : (s.updGrp n f).log = s.log := rfl
@[simp] theorem updGrp_summary (n : Fin 4) (f : CellGrp → CellGrp) : (s.updGrp n f).summary = s.summary := rfl
@[simp] theorem updGrp_can (n : Fin 4) (f : CellGrp → CellGrp) : (s.updGrp n f).can = s.can := rfl
@[simp] theorem updGrp_loops (n : Fin 4) (f : CellGrp → CellGrp) : (s.updGrp n f).loops = s.loops := rfl
@[simp] theorem updGrp_dio (n : Fin 4) (f : CellGrp → CellGrp) : (s.updGrp n f).dio = s.dio := rfl
@[simp] theorem updGrp_afe (n : Fin 4) (f : CellGrp → CellGrp) : (s.updGrp n f).afe = s.afe := rfl
@[simp] theorem updGrp_moist (n : Fin 4) (f : CellGrp → CellGrp) : (s.updGrp n f).moist = s.moist := rfl
@[simp] theorem updGrp_xf (n : Fin 4) (f : CellGrp → CellGrp) : (s.updGrp n f).xf = s.xf := rfl
@[simp] theorem updGrp_root (n : Fin 4) (f : CellGrp → CellGrp) : (s.updGrp n f).root = s.root := rfl
@[simp] theorem updGrp_time (n : Fin 4) (f : CellGrp → CellGrp) : (s.updGrp n f).time = s.time := rfl
@[simp] theorem updGrp_gnss (n : Fin 4) (f : CellGrp → CellGrp) : (s.updGrp n f).gnss = s.gnss := rfl
@[simp] theorem updGrp_sent (n : Fin 4) (f : CellGrp → CellGrp) : (s.updGrp n f).sent = s.sent := rfl
@[simp] theorem updGrp_pending (n : Fin 4) (f : CellGrp → CellGrp) : (s.updGrp n f).pending = s.pending := rfl

@[simp] theorem updMoist_now (n : Fin 16) (f : MoistCell → MoistCell) : (s.updMoist n f).now = s.now := rfl
@[simp] theorem updMoist_regs (n : Fin 16) (f : MoistCell → MoistCell) : (s.updMoist n f).regs = s.regs := rfl
@[simp] theorem updMoist_store (n : Fin 16) (f : MoistCell → MoistCell) : (s.updMoist n f).store = s.store := rfl
@[simp] theorem updMoist_freeCtr (n : Fin 16) (f : MoistCell → MoistCell) : (s.updMoist n f).freeCtr = s.freeCtr := rfl
@[simp] theorem updMoist_heart (n : Fin 16) (f : MoistCell → MoistCell) : (s.updMoist n f).heart = s.heart := rfl
@[simp] theorem updMoist_sup (n : Fin 16) (f : MoistCell → MoistCell) : (s.updMoist n f).sup = s.sup := rfl
@[simp] theorem updMoist_clk (n : Fin 16) (f : MoistCell → MoistCell) : (s.updMoist n f).clk = s.clk := rfl
@[simp] theorem updMoist_pwr (n : Fin 16) (f : MoistCell → MoistCell) : (s.updMoist n f).pwr = s.pwr := rfl
@[simp] theorem updMoist_arb (n : Fin 16) (f : MoistCell → MoistCell) : (s.updMoist n f).arb = s.arb := rfl
@[simp] theorem updMoist_led (n : Fin 16) (f : MoistCell → MoistCell) : (s.updMoist n f).led = s.led := rfl
@[simp] theorem updMoist_sensors (n : Fin 16) (f : MoistCell → MoistCell) : (s.updMoist n f).sensors = s.sensors := rfl
@[simp] theorem updMoist_fans (n : Fin 16) (f : MoistCell → MoistCell) : (s.updMoist n f).fans = s.fans := rfl
@[simp] theorem updMoist_banks (n : Fin 16) (f : MoistCell → MoistCell) : (s.updMoist n f).banks = s.banks := rfl
@[simp] theorem updMoist_wear (n : Fin 16) (f : MoistCell → MoistCell) : (s.updMoist n f).wear = s.wear := rfl
@[simp] theorem updMoist_wearSaved (n : Fin 16) (f : MoistCell → MoistCell) : (s.updMoist n f).wearSaved = s.wearSaved := rfl
@[simp] theorem updMoist_log (n : Fin 16) (f : MoistCell → MoistCell) : (s.updMoist n f).log = s.log := rfl
@[simp] theorem updMoist_summary (n : Fin 16) (f : MoistCell → MoistCell) : (s.updMoist n f).summary = s.summary := rfl
@[simp] theorem updMoist_can (n : Fin 16) (f : MoistCell → MoistCell) : (s.updMoist n f).can = s.can := rfl
@[simp] theorem updMoist_loops (n : Fin 16) (f : MoistCell → MoistCell) : (s.updMoist n f).loops = s.loops := rfl
@[simp] theorem updMoist_dio (n : Fin 16) (f : MoistCell → MoistCell) : (s.updMoist n f).dio = s.dio := rfl
@[simp] theorem updMoist_afe (n : Fin 16) (f : MoistCell → MoistCell) : (s.updMoist n f).afe = s.afe := rfl
@[simp] theorem updMoist_cells (n : Fin 16) (f : MoistCell → MoistCell) : (s.updMoist n f).cells = s.cells := rfl
@[simp] theorem updMoist_xf (n : Fin 16) (f : MoistCell → MoistCell) : (s.updMoist n f).xf = s.xf := rfl
@[simp] theorem updMoist_root (n : Fin 16) (f : MoistCell → MoistCell) : (s.updMoist n f).root = s.root := rfl
@[simp] theorem updMoist_time (n : Fin 16) (f : MoistCell → MoistCell) : (s.updMoist n f).time = s.time := rfl
@[simp] theorem updMoist_gnss (n : Fin 16) (f : MoistCell → MoistCell) : (s.updMoist n f).gnss = s.gnss := rfl
@[simp] theorem updMoist_sent (n : Fin 16) (f : MoistCell → MoistCell) : (s.updMoist n f).sent = s.sent := rfl
@[simp] theorem updMoist_pending (n : Fin 16) (f : MoistCell → MoistCell) : (s.updMoist n f).pending = s.pending := rfl

@[simp] theorem updFan_now (n : Fin 8) (f : Fan → Fan) : (s.updFan n f).now = s.now := rfl
@[simp] theorem updFan_regs (n : Fin 8) (f : Fan → Fan) : (s.updFan n f).regs = s.regs := rfl
@[simp] theorem updFan_store (n : Fin 8) (f : Fan → Fan) : (s.updFan n f).store = s.store := rfl
@[simp] theorem updFan_freeCtr (n : Fin 8) (f : Fan → Fan) : (s.updFan n f).freeCtr = s.freeCtr := rfl
@[simp] theorem updFan_heart (n : Fin 8) (f : Fan → Fan) : (s.updFan n f).heart = s.heart := rfl
@[simp] theorem updFan_sup (n : Fin 8) (f : Fan → Fan) : (s.updFan n f).sup = s.sup := rfl
@[simp] theorem updFan_clk (n : Fin 8) (f : Fan → Fan) : (s.updFan n f).clk = s.clk := rfl
@[simp] theorem updFan_pwr (n : Fin 8) (f : Fan → Fan) : (s.updFan n f).pwr = s.pwr := rfl
@[simp] theorem updFan_arb (n : Fin 8) (f : Fan → Fan) : (s.updFan n f).arb = s.arb := rfl
@[simp] theorem updFan_led (n : Fin 8) (f : Fan → Fan) : (s.updFan n f).led = s.led := rfl
@[simp] theorem updFan_sensors (n : Fin 8) (f : Fan → Fan) : (s.updFan n f).sensors = s.sensors := rfl
@[simp] theorem updFan_banks (n : Fin 8) (f : Fan → Fan) : (s.updFan n f).banks = s.banks := rfl
@[simp] theorem updFan_wear (n : Fin 8) (f : Fan → Fan) : (s.updFan n f).wear = s.wear := rfl
@[simp] theorem updFan_wearSaved (n : Fin 8) (f : Fan → Fan) : (s.updFan n f).wearSaved = s.wearSaved := rfl
@[simp] theorem updFan_log (n : Fin 8) (f : Fan → Fan) : (s.updFan n f).log = s.log := rfl
@[simp] theorem updFan_summary (n : Fin 8) (f : Fan → Fan) : (s.updFan n f).summary = s.summary := rfl
@[simp] theorem updFan_can (n : Fin 8) (f : Fan → Fan) : (s.updFan n f).can = s.can := rfl
@[simp] theorem updFan_loops (n : Fin 8) (f : Fan → Fan) : (s.updFan n f).loops = s.loops := rfl
@[simp] theorem updFan_dio (n : Fin 8) (f : Fan → Fan) : (s.updFan n f).dio = s.dio := rfl
@[simp] theorem updFan_afe (n : Fin 8) (f : Fan → Fan) : (s.updFan n f).afe = s.afe := rfl
@[simp] theorem updFan_cells (n : Fin 8) (f : Fan → Fan) : (s.updFan n f).cells = s.cells := rfl
@[simp] theorem updFan_moist (n : Fin 8) (f : Fan → Fan) : (s.updFan n f).moist = s.moist := rfl
@[simp] theorem updFan_xf (n : Fin 8) (f : Fan → Fan) : (s.updFan n f).xf = s.xf := rfl
@[simp] theorem updFan_root (n : Fin 8) (f : Fan → Fan) : (s.updFan n f).root = s.root := rfl
@[simp] theorem updFan_time (n : Fin 8) (f : Fan → Fan) : (s.updFan n f).time = s.time := rfl
@[simp] theorem updFan_gnss (n : Fin 8) (f : Fan → Fan) : (s.updFan n f).gnss = s.gnss := rfl
@[simp] theorem updFan_sent (n : Fin 8) (f : Fan → Fan) : (s.updFan n f).sent = s.sent := rfl
@[simp] theorem updFan_pending (n : Fin 8) (f : Fan → Fan) : (s.updFan n f).pending = s.pending := rfl

@[simp] theorem updSensor_now (n : Fin 10) (f : Sensor → Sensor) : (s.updSensor n f).now = s.now := rfl
@[simp] theorem updSensor_regs (n : Fin 10) (f : Sensor → Sensor) : (s.updSensor n f).regs = s.regs := rfl
@[simp] theorem updSensor_store (n : Fin 10) (f : Sensor → Sensor) : (s.updSensor n f).store = s.store := rfl
@[simp] theorem updSensor_freeCtr (n : Fin 10) (f : Sensor → Sensor) : (s.updSensor n f).freeCtr = s.freeCtr := rfl
@[simp] theorem updSensor_heart (n : Fin 10) (f : Sensor → Sensor) : (s.updSensor n f).heart = s.heart := rfl
@[simp] theorem updSensor_sup (n : Fin 10) (f : Sensor → Sensor) : (s.updSensor n f).sup = s.sup := rfl
@[simp] theorem updSensor_clk (n : Fin 10) (f : Sensor → Sensor) : (s.updSensor n f).clk = s.clk := rfl
@[simp] theorem updSensor_pwr (n : Fin 10) (f : Sensor → Sensor) : (s.updSensor n f).pwr = s.pwr := rfl
@[simp] theorem updSensor_arb (n : Fin 10) (f : Sensor → Sensor) : (s.updSensor n f).arb = s.arb := rfl
@[simp] theorem updSensor_led (n : Fin 10) (f : Sensor → Sensor) : (s.updSensor n f).led = s.led := rfl
@[simp] theorem updSensor_fans (n : Fin 10) (f : Sensor → Sensor) : (s.updSensor n f).fans = s.fans := rfl
@[simp] theorem updSensor_banks (n : Fin 10) (f : Sensor → Sensor) : (s.updSensor n f).banks = s.banks := rfl
@[simp] theorem updSensor_wear (n : Fin 10) (f : Sensor → Sensor) : (s.updSensor n f).wear = s.wear := rfl
@[simp] theorem updSensor_wearSaved (n : Fin 10) (f : Sensor → Sensor) : (s.updSensor n f).wearSaved = s.wearSaved := rfl
@[simp] theorem updSensor_log (n : Fin 10) (f : Sensor → Sensor) : (s.updSensor n f).log = s.log := rfl
@[simp] theorem updSensor_summary (n : Fin 10) (f : Sensor → Sensor) : (s.updSensor n f).summary = s.summary := rfl
@[simp] theorem updSensor_can (n : Fin 10) (f : Sensor → Sensor) : (s.updSensor n f).can = s.can := rfl
@[simp] theorem updSensor_loops (n : Fin 10) (f : Sensor → Sensor) : (s.updSensor n f).loops = s.loops := rfl
@[simp] theorem updSensor_dio (n : Fin 10) (f : Sensor → Sensor) : (s.updSensor n f).dio = s.dio := rfl
@[simp] theorem updSensor_afe (n : Fin 10) (f : Sensor → Sensor) : (s.updSensor n f).afe = s.afe := rfl
@[simp] theorem updSensor_cells (n : Fin 10) (f : Sensor → Sensor) : (s.updSensor n f).cells = s.cells := rfl
@[simp] theorem updSensor_moist (n : Fin 10) (f : Sensor → Sensor) : (s.updSensor n f).moist = s.moist := rfl
@[simp] theorem updSensor_xf (n : Fin 10) (f : Sensor → Sensor) : (s.updSensor n f).xf = s.xf := rfl
@[simp] theorem updSensor_root (n : Fin 10) (f : Sensor → Sensor) : (s.updSensor n f).root = s.root := rfl
@[simp] theorem updSensor_time (n : Fin 10) (f : Sensor → Sensor) : (s.updSensor n f).time = s.time := rfl
@[simp] theorem updSensor_gnss (n : Fin 10) (f : Sensor → Sensor) : (s.updSensor n f).gnss = s.gnss := rfl
@[simp] theorem updSensor_sent (n : Fin 10) (f : Sensor → Sensor) : (s.updSensor n f).sent = s.sent := rfl
@[simp] theorem updSensor_pending (n : Fin 10) (f : Sensor → Sensor) : (s.updSensor n f).pending = s.pending := rfl

@[simp] theorem updSeg_now (n : Fin 16) (f : Seg → Seg) : (s.updSeg n f).now = s.now := rfl
@[simp] theorem updSeg_regs (n : Fin 16) (f : Seg → Seg) : (s.updSeg n f).regs = s.regs := rfl
@[simp] theorem updSeg_store (n : Fin 16) (f : Seg → Seg) : (s.updSeg n f).store = s.store := rfl
@[simp] theorem updSeg_freeCtr (n : Fin 16) (f : Seg → Seg) : (s.updSeg n f).freeCtr = s.freeCtr := rfl
@[simp] theorem updSeg_heart (n : Fin 16) (f : Seg → Seg) : (s.updSeg n f).heart = s.heart := rfl
@[simp] theorem updSeg_sup (n : Fin 16) (f : Seg → Seg) : (s.updSeg n f).sup = s.sup := rfl
@[simp] theorem updSeg_clk (n : Fin 16) (f : Seg → Seg) : (s.updSeg n f).clk = s.clk := rfl
@[simp] theorem updSeg_pwr (n : Fin 16) (f : Seg → Seg) : (s.updSeg n f).pwr = s.pwr := rfl
@[simp] theorem updSeg_arb (n : Fin 16) (f : Seg → Seg) : (s.updSeg n f).arb = s.arb := rfl
@[simp] theorem updSeg_led (n : Fin 16) (f : Seg → Seg) : (s.updSeg n f).led = s.led := rfl
@[simp] theorem updSeg_sensors (n : Fin 16) (f : Seg → Seg) : (s.updSeg n f).sensors = s.sensors := rfl
@[simp] theorem updSeg_fans (n : Fin 16) (f : Seg → Seg) : (s.updSeg n f).fans = s.fans := rfl
@[simp] theorem updSeg_banks (n : Fin 16) (f : Seg → Seg) : (s.updSeg n f).banks = s.banks := rfl
@[simp] theorem updSeg_wear (n : Fin 16) (f : Seg → Seg) : (s.updSeg n f).wear = s.wear := rfl
@[simp] theorem updSeg_wearSaved (n : Fin 16) (f : Seg → Seg) : (s.updSeg n f).wearSaved = s.wearSaved := rfl
@[simp] theorem updSeg_log (n : Fin 16) (f : Seg → Seg) : (s.updSeg n f).log = s.log := rfl
@[simp] theorem updSeg_summary (n : Fin 16) (f : Seg → Seg) : (s.updSeg n f).summary = s.summary := rfl
@[simp] theorem updSeg_can (n : Fin 16) (f : Seg → Seg) : (s.updSeg n f).can = s.can := rfl
@[simp] theorem updSeg_loops (n : Fin 16) (f : Seg → Seg) : (s.updSeg n f).loops = s.loops := rfl
@[simp] theorem updSeg_dio (n : Fin 16) (f : Seg → Seg) : (s.updSeg n f).dio = s.dio := rfl
@[simp] theorem updSeg_afe (n : Fin 16) (f : Seg → Seg) : (s.updSeg n f).afe = s.afe := rfl
@[simp] theorem updSeg_cells (n : Fin 16) (f : Seg → Seg) : (s.updSeg n f).cells = s.cells := rfl
@[simp] theorem updSeg_moist (n : Fin 16) (f : Seg → Seg) : (s.updSeg n f).moist = s.moist := rfl
@[simp] theorem updSeg_xf (n : Fin 16) (f : Seg → Seg) : (s.updSeg n f).xf = s.xf := rfl
@[simp] theorem updSeg_time (n : Fin 16) (f : Seg → Seg) : (s.updSeg n f).time = s.time := rfl
@[simp] theorem updSeg_gnss (n : Fin 16) (f : Seg → Seg) : (s.updSeg n f).gnss = s.gnss := rfl
@[simp] theorem updSeg_sent (n : Fin 16) (f : Seg → Seg) : (s.updSeg n f).sent = s.sent := rfl
@[simp] theorem updSeg_pending (n : Fin 16) (f : Seg → Seg) : (s.updSeg n f).pending = s.pending := rfl

/-! ### Moving to an instant -/

theorem advance_now (t : Nat) : (s.advance t).now = max s.now t := by
  unfold advance
  split
  · exact (Nat.max_eq_left ‹_›).symm
  · exact (Nat.max_eq_right (Nat.le_of_lt (Nat.lt_of_not_le ‹_›))).symm

@[simp] theorem advance_regs (t : Nat) : (s.advance t).regs = s.regs := by unfold advance; split <;> rfl
@[simp] theorem advance_store (t : Nat) : (s.advance t).store = s.store := by unfold advance; split <;> rfl
@[simp] theorem advance_freeCtr (t : Nat) : (s.advance t).freeCtr = s.freeCtr := by unfold advance; split <;> rfl
@[simp] theorem advance_sup (t : Nat) : (s.advance t).sup = s.sup := by unfold advance; split <;> rfl
@[simp] theorem advance_clk (t : Nat) : (s.advance t).clk = s.clk := by unfold advance; split <;> rfl
@[simp] theorem advance_pwr (t : Nat) : (s.advance t).pwr = s.pwr := by unfold advance; split <;> rfl
@[simp] theorem advance_arb (t : Nat) : (s.advance t).arb = s.arb := by unfold advance; split <;> rfl
@[simp] theorem advance_led (t : Nat) : (s.advance t).led = s.led := by unfold advance; split <;> rfl
@[simp] theorem advance_sensors (t : Nat) : (s.advance t).sensors = s.sensors := by unfold advance; split <;> rfl
@[simp] theorem advance_fans (t : Nat) : (s.advance t).fans = s.fans := by unfold advance; split <;> rfl
@[simp] theorem advance_banks (t : Nat) : (s.advance t).banks = s.banks := by unfold advance; split <;> rfl
@[simp] theorem advance_wear (t : Nat) : (s.advance t).wear = s.wear := by unfold advance; split <;> rfl
@[simp] theorem advance_wearSaved (t : Nat) : (s.advance t).wearSaved = s.wearSaved := by unfold advance; split <;> rfl
@[simp] theorem advance_log (t : Nat) : (s.advance t).log = s.log := by unfold advance; split <;> rfl
@[simp] theorem advance_summary (t : Nat) : (s.advance t).summary = s.summary := by unfold advance; split <;> rfl
@[simp] theorem advance_can (t : Nat) : (s.advance t).can = s.can := by unfold advance; split <;> rfl
@[simp] theorem advance_loops (t : Nat) : (s.advance t).loops = s.loops := by unfold advance; split <;> rfl
@[simp] theorem advance_dio (t : Nat) : (s.advance t).dio = s.dio := by unfold advance; split <;> rfl
@[simp] theorem advance_afe (t : Nat) : (s.advance t).afe = s.afe := by unfold advance; split <;> rfl
@[simp] theorem advance_cells (t : Nat) : (s.advance t).cells = s.cells := by unfold advance; split <;> rfl
@[simp] theorem advance_moist (t : Nat) : (s.advance t).moist = s.moist := by unfold advance; split <;> rfl
@[simp] theorem advance_xf (t : Nat) : (s.advance t).xf = s.xf := by unfold advance; split <;> rfl
@[simp] theorem advance_root (t : Nat) : (s.advance t).root = s.root := by unfold advance; split <;> rfl
@[simp] theorem advance_time (t : Nat) : (s.advance t).time = s.time := by unfold advance; split <;> rfl
@[simp] theorem advance_gnss (t : Nat) : (s.advance t).gnss = s.gnss := by unfold advance; split <;> rfl
@[simp] theorem advance_sent (t : Nat) : (s.advance t).sent = s.sent := by unfold advance; split <;> rfl
@[simp] theorem advance_pending (t : Nat) : (s.advance t).pending = s.pending := by unfold advance; split <;> rfl

theorem advance_of_le {t : Nat} (h : t ≤ s.now) : s.advance t = s := if_pos h

@[simp] theorem advance_rd (t a : Nat) : (s.advance t).rd a = s.rd a := by unfold rd; rw [advance_regs]

/-! ### Reading after a store -/

@[simp] theorem rd_wr_same (a : Nat) (v : Word) : (s.wr a v).rd a = v := Regs.get_set_same ..

theorem rd_wr_other {a b : Nat} (h : b ≠ a) (v : Word) : (s.wr a v).rd b = s.rd b := Regs.get_set_other _ _ h

/-- A read depends on the register map alone. -/
theorem rd_congr {s t : State} (h : t.regs = s.regs) (a : Nat) : t.rd a = s.rd a := by unfold rd; rw [h]

end Sys2Proof.Machine.State
end

