-- ==== Sys2Proof/WellFormed.lean ====
section
/-!
DEFINITION. Which commands are well formed: those whose operands lie in the ranges the spec gives what they stand for.
-/
namespace Sys2Proof

open Sys2Proof.Machine

/-- A frame fits one unfragmented datagram (R33). -/
def frameFits (frame : List Byte) : Bool := decide (frame.length ≤ 1472)

/-- A satellite the receiver knows: GPS 1 to 32, Galileo 1 to 36, BeiDou 1 to 63 (chapter 14). -/
def satOk (x : Sat) : Bool :=
  match x.sys with
  | 1 => decide (1 ≤ x.prn) && decide (x.prn ≤ 32)
  | 2 => decide (1 ≤ x.prn) && decide (x.prn ≤ 36)
  | 3 => decide (1 ≤ x.prn) && decide (x.prn ≤ 63)
  | _ => false

/-- The ranges of a command's operands: a datagram's length (R33), the causes of R422, the stages of
R395, the domains of R398, the comparators of R438, the stretch of R441, the 12-bit samples of R184, the eight channels of a group, the
flags of R341 and R343, the messages of R353, the systems of R356. Operands whose type holds only what exists need no check. -/
def Instr.wf : Instr → Bool
  | .openReq _ _ frame => frameFits frame
  | .openWaitExpiry _ _ => true
  | .openProof _ _ frame => frameFits frame
  | .request _ _ frame => frameFits frame
  | .requestExecute _ => true
  | .close _ _ frame => frameFits frame
  | .beacon _ _ => true
  | .leaseExpiry _ _ => true
  | .writeFrame _ _ _ => true
  | .readFrame _ _ => true
  | .readNext _ _ => true
  | .readStatus _ _ => true
  | .spiUnknownCommand _ _ _ => true
  | .arpRequest _ _ _ _ _ => true
  | .icmpEcho _ _ _ _ _ _ => true
  | .dhcpMessage _ _ _ => true
  | .addrChange _ => true
  | .portLinkChange _ _ _ _ => true
  | .selftestDone _ fail _ _ => decide (fail < 65536)
  | .fwEraseDone _ _ _ => true
  | .fwProgramDone _ _ => true
  | .fwVerifyDone _ ok _ err => ok || err == 1 || err == 2
  | .powerOn _ => true
  | .vlBelowOff _ => true
  | .aonResetEnd _ _ => true
  | .coreResetEnd _ => true
  | .sramTestDone _ _ => true
  | .imageAuthDone _ _ => true
  | .bootComplete _ => true
  | .bootStall _ => true
  | .rstNAccept _ => true
  | .rstNRise _ _ => true
  | .heartbeat _ => true
  | .watchdogExpiry _ => true
  | .vlSagClear _ => true
  | .wearCommit _ _ _ => true
  | .holdupMeasure _ _ => true
  | .boostCapMeasure _ _ _ _ => true
  | .xrefWindow _ _ _ => true
  | .rootLock _ => true
  | .pllRetry _ => true
  | .clockFault _ cause => cause == 1 || cause == 2
  | .muxForcedRelease _ _ => true
  | .clockFaultEnd _ _ _ => true
  | .tcxoWindow _ _ => true
  | .tcxoStop _ => true
  | .sentinelStop _ => true
  | .sentinelRestart _ _ => true
  | .fcntDone _ _ => true
  | .fcntNoref _ => true
  | .supplyMeasure _ _ _ _ _ _ _ _ _ => true
  | .vlLow _ => true
  | .vlLowClear _ => true
  | .holdupJudge _ _ => true
  | .vlFallbackDecision _ _ => true
  | .vlSagShed _ => true
  | .vlSagCommitDone _ _ _ => true
  | .vfaStageSet _ st => decide (1 ≤ st) && decide (st ≤ 3)
  | .vfaStageClear _ st => decide (1 ≤ st) && decide (st ≤ 3)
  | .vffUv _ => true
  | .vffUvClear _ => true
  | .domainPowerUp _ n => decide (n < 12)
  | .domainPowerOff _ n => decide (n < 12)
  | .domFault _ n => decide (n < 12)
  | .arbiterSlot _ _ _ => true
  | .ledgerUpdate _ => true
  | .useSpan _ => true
  | .energyLimitExpiry _ => true
  | .thermSample _ _ => true
  | .graceExpiry _ _ => true
  | .criticalTrip _ mask => decide (1 ≤ mask) && decide (mask < 64)
  | .tachStretch _ _ _ len => decide (len ≤ 100000)
  | .fanSpeedLoop _ _ _ _ => true
  | .fanWindow _ _ _ _ => true
  | .fanStart _ _ => true
  | .fanInrushRelease _ _ => true
  | .fanInrushJudge _ _ => true
  | .stallRetry _ _ => true
  | .kickEnd _ _ _ _ => true
  | .fanOverload _ _ => true
  | .fanShortTrip _ _ => true
  | .fanShortSup _ _ => true
  | .eventDue _ _ => true
  | .eventRejudge _ _ => true
  | .eventLatestDrop _ _ => true
  | .maxDelayDrop _ _ => true
  | .switchOffEnd _ _ _ _ => true
  | .minOffEnd _ _ _ => true
  | .phaseLimit _ _ _ => true
  | .diagTestStart _ _ => true
  | .diagTestEnd _ _ _ _ _ => true
  | .desatLs _ _ _ => true
  | .desatHs _ _ => true
  | .overcurrent _ _ _ => true
  | .leakGnd _ _ => true
  | .noCurrent _ _ _ => true
  | .peakTo _ _ _ => true
  | .bankOvl _ _ => true
  | .regenOvf _ _ => true
  | .reservoirMeasure _ _ _ => true
  | .bst _ _ _ => true
  | .pk _ _ _ => true
  | .hld _ _ _ => true
  | .off _ _ _ => true
  | .endProfile _ _ _ => true
  | .band _ _ _ => true
  | .ramp _ _ _ => true
  | .dipw _ _ _ => true
  | .wt _ _ _ => true
  | .wtr _ _ _ => true
  | .wi _ _ _ => true
  | .wp _ _ _ => true
  | .wd _ _ _ => true
  | .ucWaitEnd _ _ _ => true
  | .arm _ _ _ => true
  | .armExpiry _ _ _ => true
  | .jmp _ _ _ => true
  | .bc _ _ _ => true
  | .bi _ _ _ => true
  | .btm _ _ _ => true
  | .bcmp _ _ _ => true
  | .djnz _ _ _ => true
  | .ldi _ _ _ => true
  | .ldp _ _ _ => true
  | .lds _ _ _ => true
  | .alu _ _ _ => true
  | .mark _ _ _ => true
  | .nop _ _ _ => true
  | .loopSample _ _ => true
  | .loopSkip _ _ => true
  | .startCheck _ _ _ => true
  | .periodBoundary _ _ _ _ => true
  | .roundStart _ _ => true
  | .sendSample _ _ => true
  | .roundOverrun _ => true
  | .readSlot _ _ _ => true
  | .readRound _ _ _ => true
  | .roundEnd _ _ => true
  | .enumExchange _ _ _ => true
  | .enumReadInfo _ _ _ => true
  | .enumAssign _ _ _ => true
  | .addressedExchange _ _ _ => true
  | .segOverload _ _ => true
  | .segShort _ _ => true
  | .segRestart _ _ => true
  | .surge _ _ => true
  | .vrUv _ => true
  | .vrRestore _ => true
  | .diAccept _ _ _ _ _ => true
  | .diPulseWindow _ _ levels => decide (levels < 256)
  | .diGateEnd _ _ _ => true
  | .dioCmdFrame _ => true
  | .fieldCmdFrame _ _ _ loads => decide (loads.length ≤ 8)
  | .statusFrame _ _ _ limits => decide (limits < 256)
  | .statusTimeout _ _ => true
  | .silence _ _ => true
  | .rcStop _ _ => true
  | .doOverload _ _ => true
  | .doRetry _ _ => true
  | .doOt _ _ => true
  | .doOtClear _ _ => true
  | .doReadbackFlag _ _ which => decide (which < 3)
  | .doReadbackClear _ _ which => decide (which < 3)
  | .mirrorEval _ _ => true
  | .doPeriodEnd _ _ _ => true
  | .vfdUndervolt _ _ which => decide (which < 3)
  | .vfdRecover _ _ => true
  | .afeCmdFrame _ => true
  | .islandCmdReceive _ _ => true
  | .aoRefreshTimeout _ => true
  | .aiGateEnd _ _ _ _ _ => true
  | .aiPhaseSwap _ _ _ => true
  | .afeResultFrame _ _ => true
  | .aiWireBreak _ _ => true
  | .afeClockStop _ => true
  | .afeClockReturn _ => true
  | .aoReadback _ _ _ _ _ => true
  | .leadMeasureDone _ _ _ => true
  | .cellSlotStart _ _ => true
  | .cellPost _ _ => true
  | .rtdGateEnd _ _ _ _ => true
  | .rcalDone _ _ => true
  | .calMeasDone _ _ => true
  | .scanDone _ _ => true
  | .moistResult _ _ => true
  | .sweepSlotDone _ => true
  | .residualDone _ _ => true
  | .xformBlockDone _ => true
  | .xformUsePost _ => true
  | .ptpSync _ _ _ => true
  | .ptpFollowUp _ _ _ => true
  | .ptpDelayReq _ _ => true
  | .ptpDelayResp _ _ _ => true
  | .ptpAnnounce _ _ _ _ => true
  | .ptpPdelayReq _ _ _ _ => true
  | .ptpPdelayResp _ _ _ => true
  | .ptpPdelayRespFollowUp _ _ _ => true
  | .ptpMasterSend _ kind => decide (kind < 3)
  | .ptpTcForward _ _ udp _ msg => decide (udp < 3) && decide (16 ≤ msg.length)
  | .ptpLoss _ => true
  | .gnssEpoch _ ref _ _ => decide (ref < 3)
  | .sourceTrusted _ _ => true
  | .crossCheck _ => true
  | .tpPulse _ => true
  | .acqPassStart _ visible => visible.all fun x => satOk x.1
  | .acqCaptureDone _ _ => true
  | .acqPassEnd _ _ found => found.all fun x => satOk x.sat
  | .acqConfirmTimeout _ _ => true
  | .channelLoss _ _ _ => true
  | .navDecode _ _ raw _ => decide (raw.length = 300) || decide (raw.length = 302) || decide (raw.length = 480)
  | .gnssSolution _ _ _ => true
  | .antShort _ => true
  | .antRetry _ _ => true
  | .antOpen _ _ => true
  | .currentSample _ _ i0 i1 i2 i3 _ => decide (i0 < 4096) && decide (i1 < 4096) && decide (i2 < 4096) && decide (i3 < 4096)
  | .windowExpiry _ _ => true
  | .tpPulseEnd _ => true
  | .fanPeriodEnd _ _ => true
  | .channelLock _ _ => true
  | .vfdUvClear _ _ which => decide (which < 3)

end Sys2Proof
end

