-- ==== Sys2Proof/Tests/Slice0.lean ====
section
/-!
SUPPORT. Tests of the model. `wit_X`: states and operands that meet what the statement X assumes, clause by clause, in its order.
`test_X`: ill-formed commands, and figures the spec prints.
-/
namespace Sys2Proof.Tests
open Sys2Proof.Machine

set_option maxRecDepth 100000
set_option linter.unusedVariables false
set_option Elab.async false

/-! ### States -/

/-- The machine in RUN with every domain powered and every block's clock enabled. -/
def live : State :=
  { State.reset with sup := { State.reset.sup with mode := .run }, pwr := { State.reset.pwr with powered := 0xFFF } }.wr clkEnAddr 0xFFFFFFFF#32

def k32 : List Byte := List.replicate 32 7#8
/-- A session. -/
def sess0 : Sess :=
  { slot := 0, role := .service, minor := 3, via := .spi, lease := 1000, renewed := 1200000000, key := k32, h := 5, seen := [], cache := [], beacons := 0, gen := 0 }

def withSess (s : State) : State := { s with can := { s.can with sess := s.can.sess.set 0 (some sess0) } }

/-- A frame of the session. -/
def frame (kind seq ops : Nat) (body : List Byte) : List Byte :=
  mkFrame { ver := 0x13, kind := kind, sess := 0, flags := 0, seq := seq, opCount := ops, bodyLen := 0, epoch := 0, tstat := 0, failop := 0, mode := 0, tstate := 0, tdone := 0 } body (some k32)

/-- A state with the supervisor changed; and so on for the other parts. -/
def sup (s : State) (f : Sup → Sup) : State := { s with sup := f s.sup }
def clk (s : State) (f : Clocks → Clocks) : State := { s with clk := f s.clk }
def pwr (s : State) (f : Power → Power) : State := { s with pwr := f s.pwr }
/-- BOOT in one of its phases, the other bank valid. -/
def inPhase (p : BootPhase) : State := sup live fun x => { x with mode := .boot, boot := p, fw := { x.fw with bankB := ⟨true, 5#32, []⟩ } }
def net (s : State) : State := { s with can := { s.can with net := { s.can.net with ip := 0x0A000001#32, link := Vector.replicate 2 true } } }
def can (s : State) (f : Canopy → Canopy) : State := { s with can := f s.can }
def arb (s : State) (f : Arbiter → Arbiter) : State := { s with arb := f s.arb }
def led (s : State) (f : Ledger → Ledger) : State := { s with led := f s.led }
/-- A sensor or a fan changed. -/
def sensor (s : State) (n : Fin 10) (f : Sensor → Sensor) : State := { s with sensors := s.sensors.set n (f s.sensors[n]) }
def fanOf (s : State) (n : Fin 8) (f : Fan → Fan) : State := { s with fans := s.fans.set n (f s.fans[n]) }
/-- A page with EN = 1. -/
def enable (s : State) (b : Nat) : State := s.wr (b + 8) 1#32
/-- A state with a register written. -/
def put (s : State) (a : Nat) (v : Nat) : State := s.wr a (toWord v)
/-- Key slot 1 holds a key and opens. -/
def keyed : State := { live with can := { live.can with keys := live.can.keys.set 1 (some k32) } }.wr (hostBase + 0xA4) 7#32
/-- The frames of an opening. -/
def openBody : List Byte := [1#8, 0x10#8, 0x13#8, 0#8] ++ leBytes 4 1000 ++ List.replicate 16 3#8
def openFrame : List Byte := mkFrame { ver := 0x13, kind := kOpenReq, sess := 0xFF, flags := 0, seq := 1, opCount := 0, bodyLen := 0, epoch := 0, tstat := 0, failop := 0, mode := 0, tstate := 0, tdone := 0 } openBody none
def waiting : State := { keyed with can := { keyed.can with waits := keyed.can.waits.set 0 (some ⟨1, 3, 1000, false, k32, k32, 1200000000⟩) } }
def proofFrame : List Byte := mkFrame { ver := 0x13, kind := kOpenProof, sess := 0, flags := 0, seq := 1, opCount := 0, bodyLen := 0, epoch := 0, tstat := 0, failop := 0, mode := 0, tstate := 0, tdone := 0 } (State.proofOf k32 k32 k32 0 1 0x13) none
/-- An open session; a request of its. -/
def sessed : State := withSess live
def readBody : List Byte := [1#8, 0#8, 1#8, 0#8] ++ leBytes 4 0x40
def reqFrame : List Byte := frame kRequest 6 1 readBody
def queued : State := { sessed with can := { sessed.can with queue := [⟨0, 6, .spi, reqFrame⟩] } }
/-- A fan page enabled. -/
def fl : State := put (enable live (fanBase 1)) (fanBase 1 + 0x40) 0x0200010A
/-- A fan with settings. -/
def fx : State := put (put (put fl (fanBase 1 + 0x40) 0x202) (fanBase 1 + 0x4C) 700) (fanBase 1 + 0x44) 3000
/-- An event, and one that runs. -/
def ev0 : Event := { ch := 0, prof := 0, id := 77, start := 1000000, param := 5#32, latest := 3000000000, deferrable := true, fromLoop := false, seq := 0, held := 0, dueAt := 0, passed4 := false, planned := false, pstart := 0, fit := true, planAt := 0, counted := false, pre := 0, queuedAt := 0 }
def run0 : Running := { ev := ev0, startHw := 1000, startAt := 1000, begun := true, peakI := 30, motT := none, eRes := 0, eRegen := 0, ending := none }
/-- One event queued on bank 0, its profile beginning with an HLD. -/
def bankQ (f : Event → Event) : State := (put (put (enable live (actBase 0)) (ucBase 0 + 0x80) 3) (ucBase 0 + 0x800 + 12) 0x0D012000).updBank 0 fun b => { b with queue := [f ev0] }
def bankL (f : Event → Event) : State := (bankQ f).updBank 0 fun b => { b with lock := true }
def hot (f : Event → Event) : State := sensor (bankQ f) 0 fun x => { x with stage := .enforce 1 }
def chs (f : Chan → Chan) : State := (enable live (actBase 0)).updChan 0 1 f
/-- A conducting channel with a running event. -/
def bm : State := chs (fun c => {c with run := some run0, conduct := true, ctx := {c.ctx with active := true, onInt := true, phase := .hold, tph0 := some 0, itgt := 90, tonMin := 10}})
def run1 : Running := { ev := { ch := 1, prof := 0, id := 77, start := 1000000, param := 5#32, latest := 3000000000, deferrable := true, fromLoop := false, seq := 0, held := 0, dueAt := 0, passed4 := false, planned := false, pstart := 0, fit := true, planAt := 0, counted := false, pre := 0, queuedAt := 0 }, startHw := 1000, startAt := 1000, begun := true, peakI := 30, motT := none, eRes := 0, eRegen := 0, ending := none }
/-- A channel that stands at a word of the store. -/
def uc (wd : Nat) (f : Chan → Chan) : State := (State.updChan (put (enable live (actBase 0)) (ucBase 0 + 0x800 + 4 * 511) wd) 0 1 fun c => { c with i := 300, run := some run1, ctx := { c.ctx with active := true, pc := 511, v0 := 7, v1 := 1, v2 := 4000000000, v3 := 0, param := 9, tph0 := some 1200000000, tev0 := 1200000000, itgt := 200 } }).updChan 0 1 f
/-- A loop enabled. -/
def lp (f : State → State) : State := f ((put (put (put (enable live (loopBase 3)) (loopBase 3 + 0x44) 0xA0000) (loopBase 3 + 0x40) 0x100) (loopBase 3 + 0xA8) 0x3F800000).updLoop 3 fun x => { x with done := 2000000000 })
def tt : Nat := 2016405000
/-- A segment of the bus, its page enabled. -/
def sg (f : Seg → Seg) : State := { enable (enable (put (put live (segBase 2 + 0x44) 1) (rootBase + 0x40) 1) rootBase) (segBase 2) with root := { live.root with seg := live.root.seg.set 2 (f live.root.seg[2]) } }
/-- A directory entry; a round; an uplink frame with its CRC. -/
def de : DirEntry := ⟨0x0123456789ABCDEF#64, 1, 2, true, false, false, false, 0, 0x10⟩
def rr : Round := { num := 7, startAt := 0, startHw := 2000000000, stamp := 5, sampled := true, span := 3, periods := 1, next := 0, limit := 3, retry := [], sent := 0, missed := [], nOk := 0 }
def up (v : Nat) : BitVec 64 := BitVec.ofNat 64 (v * 65536 + (crc16 (beBytes 6 v)).toNat)
/-- A running segment with two nodes. -/
def uq : Seg → Seg := fun x => {x with pwr := 2, syncAt := some 2000000000, dir := [(0, de), (2, {de with serial := 5#64})]}
def r2 : Round := { rr with next := 3, retry := [2, 0], missed := [2, 0] }
def er : EnumRun := { all := true, host := true, phase := .search [(0x5000000000000000#64, 4), (0x9000000000000000#64, 4)] [9#64], tries := 0, tn := 0, last := 0, nFound := 0, nAssigned := 0, full := false }
def er1 : EnumRun := { er with phase := .search [(0x5000000000000000#64, 4)] [9#64] }
def fo : Found := ⟨5#64, 0x10, 2, 3, 4⟩
def ei : EnumRun := { er with phase := .info [5#64, 6#64] [5#64, 6#64] [] }
def ei1 : EnumRun := { er with phase := .info [5#64] [5#64, 6#64] [fo] }
def ea : EnumRun := { er with phase := .assign [(fo, 3, true)] }
def tr : Nat := 2026405000
/-- An enumeration, and a host command, in progress. -/
def se (e : EnumRun) : State := sg (fun x => {uq x with enum := some e, tn := 9})
def rc (code tries : Nat) : RootCmd := { code := code, serial := 5#64, arg := 3, tries := tries, tn := 4, last := 0 }
def sc (c : RootCmd) : State := sg (fun x => {uq x with cmd := some c, tn := 9})
/-- An input group. -/
def di (f : DiGroup → DiGroup) : State := put (put (put (put (enable { live with dio := { live.dio with di := live.dio.di.set 3 (f live.dio.di[3]) } } (diBase 3)) (diBase 3 + 0x80 + 8) 0x00020300) (diBase 3 + 0x48) 20) (diBase 3 + 0x80 + 12) 0x20302) (State.cntBase 3 0) 0x01
/-- A field side; an output on it. -/
def ff (f : FieldSide → FieldSide) (g : Fin 12) : State := enable { live with dio := { live.dio with field := live.dio.field.set g (f live.dio.field[g]) } } (doBase 1)
def snt : FieldSide → FieldSide := fun f => {f with on := true, sent := some ([1#32,0x80000000#32], 70, 0xFF)}
def dd (f : FieldSide → FieldSide) (o : DoOut → DoOut) : State := { ff f 9 with dio := { (ff f 9).dio with out := (ff f 9).dio.out.set 9 (o (ff f 9).dio.out[9]) } }
def ok : FieldSide → FieldSide := fun f => {f with on := true, silent := false, linkOk := true, cfg := Vector.replicate 8 0x100#32}
def dm : State := enable (put (put (put (put (dd ok id) (outBase 9) 0x2000000) (outBase 9 + 0x10) 0x03180000) (outBase 9 + 0x14) 2000) (outBase 9 + 0x1C) 0x3F800000) (diBase 3)
def dm2 : State := { dm with dio := { dm.dio with field := dm.dio.field.set 3 { dm.dio.field[3] with linkOk := true} } }
def dm3 : State := { dm2 with dio := { dm2.dio with di := dm2.dio.di.map fun d => { d with seen := true } } }
def rd0 : AiReading := { conv := 2, ch := 1, cfg := [0x80000001#32], range := 0, start := 1000000000, stamp := 5, countA := none, count := 7, short := none, ovr := false, exc := false, clkFb := false, lead := false }
def aiHeld (s : State) : State := { s with afe := { s.afe with cfgOut := none, conv := s.aiConfig.zipWith (fun y x => { x with en := y.1, cfg := y.2 }) s.afe.conv } }
/-- The analog island. -/
def ai (f : Afe → Afe) : State := (fun s : State => { s with afe := f s.afe }) (aiHeld (put (enable live (aiBase 2)) (aiCfg 2 1) 0x80000001))
def cfgd (f : Afe → Afe) : State := (fun s : State => { s with afe := f { s.afe with cfgOut := some s.aiConfig } }) (put (enable live (aiBase 2)) (aiCfg 2 1) 0x80000001)
def busy (r : AiReading) : State := ai fun x => { x with conv := x.conv.set 2 { x.conv[2] with busy := some r } }
def ld (l : LeadRun) : State := ai fun x => { x with conv := x.conv.set 2 { x.conv[2] with lead := x.conv[2].lead.set 1 (some l) } }
def ao (f : Afe → Afe) : State := (fun s : State => { s with afe := f s.afe }) (put (put (enable live aoBase) (aoBase + 0x48) 5000) (aoBase + 0x68) 3000)
/-- A converter group and a cell. -/
def grp (c : Fin 4) (f : CellGrp → CellGrp) : State := (fun s : State => { s with cells := { s.cells with grp := s.cells.grp.set c (f s.cells.grp[c]) } }) (enable (put live (cellBase 5 + 0x40) 0x100) (cellBase 5))
def cel (n : Fin 16) (f : CellSt → CellSt) : State := (fun s : State => { s with cells := { s.cells with cell := s.cells.cell.set n (f s.cells.cell[n]) } }) (enable (put live (cellBase 5 + 0x40) 0x100) (cellBase 5))
def dw : Dwell := ⟨5, .read, [0,1,2], [8000,8000,8000], [0,0,0], 0, 1, 1100000000, 20⟩
def win0 : Window := ⟨(List.range 16).map fun i => Int.ofNat i, false, false, false⟩
def cd : CellDone := { dwell := dw, acc := [(5,6),(7,8),(9,10)], blocks := [], peak := 5000, ovr := true, exc := false, guard := false, rtd := some ⟨F64.ofNat 100, false⟩, rtdEn := true, stamp := 777, resid := false }
def cr : CalRun := ⟨0, 3, 1, false, none, 2, [], true, []⟩
def moRead : CellRead := ⟨[0,1,2], [0x800001#32, 5#32, 6#32], false⟩
/-- A cell with a reading due for MOIST. -/
def mo : State := (fun s : State => { s with moist := { s.moist with cell := s.moist.cell.set 5 { s.moist.cell[5] with due := some moRead } } }) (enable (enable (put (put live (mcfg 5) 0x83) (cellBase 5 + 0x100) 0x800001) (cellBase 5)) moistBase)
def sw0 : Sweep := ⟨5, 0, 0, some (dw, win0), [], []⟩
def swS (x : Sweep) : State := (fun s : State => { s with moist := { s.moist with sweep := some x } }) mo
def winO : Window := { win0 with trip := true }
def linked (s : State) : State := can s fun c => {c with net := {c.net with link := Vector.replicate 2 true, ip := 1#32}}
/-- An Announce; a master; its message. -/
def an (p1 gm : Nat) : Announce := { prio1 := p1, cls := 6, acc := 0x20, var := 0x4E5D, prio2 := 128, gm := gm, steps := 0, arb := false, utc := none }
def pa : Parent := ⟨1, 5, 1, an 100 9, 0⟩
def msg : PtpMsg := { domain := 0, clock := 5, portNum := 1, seq := 7, twoStep := true, corr := 65536 * 3, ts := 1283600000, logInt := 0, reqClock := clockId, reqPort := 2 }
def ms1 : PtpMsg := { msg with twoStep := false }
/-- Heartwood with both sources enabled and the ports linked. -/
def ts (c : Nat) (f : Time → Time) : State := (fun s : State => { s with time := f s.time }) (put (linked (put (put (enable live timeBase) (timeBase + 0x60) 0x300) (timeBase + 0xC0) c)) (timeBase + 0xC4) 0x00FF0300)
def par : Time → Time := fun x => {x with ptp := {x.ptp with parent := some pa, mpd := some 400, pend := some (7, 65536, 1283599000), dreq := some (7, 1283000000), last := some (1282000000, 1282000900), seqD := 65535}}
def mas : Time → Time := fun x => {x with ptp := {x.ptp with master := true, syncTx := some 55, seqS := 65535, seqA := 8}}
def pp : Time → Time := fun x => {x with ptp := {x.ptp with pd := x.ptp.pd.set 1 ⟨some (7, 1283000000), some (7, 1283000500, 65536, 1283001500), some 3⟩}}
def src (f : TimeSrc → TimeSrc) (g : TimeSrc → TimeSrc) (h : Time → Time := id) : State := ts 0 fun x => h {x with ptpS := f x.ptpS, gnssS := g x.gnssS}
/-- The receiver running. -/
def gn (f : Gnss → Gnss) : State := (fun s : State => { s with gnss := f { s.gnss with on := true } }) (put (clk (put (enable (enable live gnssBase) timeBase) (timeBase + 0x60) 0x300) (fun c => {c with tcxoOk := true})) (gnssBase + 0x40) 0x00070301)
def y0 : Sat := ⟨1, 5⟩
def gcs (f : GnssCh → GnssCh) : State := gn fun g => { g with ch := g.ch.set 20 (f g.ch[20]) }
def fx0 : GnssFix := ⟨100, 5, 6, none⟩
/-- An epoch. -/
def e0 : Epoch := ⟨2000000000, 519000000000, 3, 5, 6⟩
/-- Two satellites in use. -/
def gs : State := put (gn (fun g => { g with epoch := some e0, ch := (g.ch.set 20 { g.ch[20] with sat := some y0, cstate := 5 }).set 21 { g.ch[20] with sat := some ⟨1, 6⟩, cstate := 5 }, live := { g.live with nav := (ephPages y0).flatMap fun p => [⟨y0, p.1, p.2, true, [], 1000000000, 0⟩, ⟨⟨1, 6⟩, p.1, p.2, true, [], 1000000000, 0⟩] } })) (gnssBase + 0x40) 0x00070101
def me (c : Fin 64) : GnssMeas := { ch := c, cn0 := 400, elev := 3000, az := 4, doppler := 3, predicted := 1, pr := 2000000100, corr := 0, sat := (2000000000, 0, 0) }
def claimPg : Nat := actBase 1
def claimFrame : List Byte := frame kRequest 7 1 ([5#8, 0#8, 0#8, 0#8] ++ leBytes 4 (claimPg + 0xFF))
def claiming : State := { sessed with can := { sessed.can with queue := [⟨0, 7, .spi, claimFrame⟩] } }
def cmdFrame_ : List Byte := frame kRequest 8 1 ([2#8, 0#8, 1#8, 0#8] ++ leBytes 4 0x44 ++ leBytes 4 4)
def commanding : State := { sessed with can := { sessed.can with queue := [⟨0, 8, .spi, cmdFrame_⟩] } }
def spiOf (f : List Byte) : List Byte := let b := leBytes 2 f.length ++ f; b ++ wordBytes (crc32 b)
def maint (s : State) : State := sup s fun x => { x with mode := .maintenance }
def dhcp (st : DhcpState) : State := can live fun c => { c with net := { c.net with link := Vector.replicate 2 true, dhcp := { c.net.dhcp with st := st } } }
def onChip : Sup → Sup := fun x => { x with straps := ⟨true, true, true, false, true⟩ }
def ph0 : NextPhase := ⟨1400000000, 77, .boost, .regen, 900, true⟩
def lpLate : State := { lp id with now := 2016405000, heart := (live.advance 2016405000).heart }
def ltc (s : State) (u : Nat) : LoopLatch := ((s.advance u).latchOf 3 2000000000).getD ⟨0, 0, 0, Vector.replicate 5 none⟩
def ub (b : BitVec 64) : List UpBit := ([true, false, true, false] ++ (List.range 64).map fun i => b.getLsbD (63 - i)).map fun v => ⟨!v, v⟩
def ubc (b : BitVec 64) (c : Nat) : List UpBit := (ub b).set (4 + c) ⟨true, true⟩
def ubm (b : BitVec 64) (c : Nat) : List UpBit := (ub b).set (4 + c) ⟨false, false⟩
def moRes : CellRead := { moRead with resid := true }
def mo5 (d : CellRead) (f : MoistCell → MoistCell) : State := (fun s : State => { s with moist := { s.moist with cell := s.moist.cell.set 5 (f { s.moist.cell[5] with due := some d }) } }) mo
def moCap : State := (fun s : State => { s with cells := { s.cells with cell := s.cells.cell.set 5 { s.cells.cell[5] with residCap := some ([0, 1, 2], win0.samples) } } }) (mo5 moRes id)
def moRdy : State := (fun s : State => { s with xf := { s.xf with ready := [.sweep, .resid 5] } }) moCap
def releaseFrame : List Byte := frame kRequest 7 1 ([6#8, 0#8, 0#8, 0#8] ++ leBytes 4 (claimPg + 0xFF))
def cl0 : Claim := ⟨claimPg, 0xFF, 0, 0, false, 0, .service⟩
def releasing : State := { sessed with can := { sessed.can with queue := [⟨0, 7, .spi, releaseFrame⟩], claims := [cl0] } }
def fireFrame (imm : Nat) : List Byte := frame kRequest 7 1 ([7#8, BitVec.ofNat 8 imm, 5#8, 0#8] ++ leBytes 4 1 ++ leBytes 4 77 ++ leBytes 4 0x80000000 ++ leBytes 4 0 ++ leBytes 4 5 ++ leBytes 4 1000)
def firing (imm : Nat) : State := (fun s : State => { s with can := { s.can with sess := s.can.sess.set 0 (some sess0), claims := [{ cl0 with page := actBase 0 }], queue := [⟨0, 7, .spi, fireFrame imm⟩] } }) ((put (put (bankQ id) (ucBase 0 + 0x44) 1) (ucBase 0 + 0x80) 0x80000003).updBank 0 fun b => { b with queue := [] })
def toff (f : Sup → Sup) : State := sup ([0, 1, 2, 3, 4, 5].foldl (fun s n => put s (State.tsCfg n) 0x101) live) fun x => f { x with mode := .thermalOff, shdnLow := true, thermalAt := 1000 }
def putPage (s : State) (b : Nat) (l : List (Nat × Nat)) : State := l.foldl (fun s x => put s (b + x.1) x.2) s
def lpf (f : Loop → Loop) : State := State.updLoop (sup (putPage (enable (sensor live 3 fun x => { x with valid := true, temp := 1600, stamp := 1990000000 }) (loopBase 4)) (loopBase 4)
  [(0x40, 0x21120000), (0x44, 0xA0000), (0x50, 0x09030000), (0xA0, 0x41200000), (0xA4, 0), (0x800, 1), (0x80C, 0x3F800000), (0x814, 0x40000000), (0x818, 0x3F800000), (0x820, 0x42C80000), (0x82C, 0x40A00000), (0x840, 0x3F000000), (0x940, 0x3E800000), (0x980, 0x3F800000), (0xA00, 0x3DCCCCCD), (0xA80, 0x3F000000)]) fun x => { x with mode := .run }) 4 fun x => f { x with done := 2000000000, xh := x.xh.set 0 0x3F800000 }
def ltd (s : State) (u : Nat) : LoopLatch := ((s.advance u).latchOf 4 2000000000).getD ⟨0, 0, 0, Vector.replicate 5 none⟩
def lpa (f : Loop → Loop) : State := State.updLoop (sup (lp fun s => put (put (put (put (put (put (put (put (sensor s 3 fun x => { x with valid := true, temp := 1600, stamp := 1990000000 }) (loopBase 3 + 0xA4) 0) (loopBase 3 + 0x50) 0x09030000) (loopBase 3 + 0x40) 0x10000) (loopBase 3 + 0xA0) 0x41200000) (loopBase 3 + 0x800) 1) (loopBase 3 + 0x80C) 0x3F800000) (loopBase 3 + 0x810) 0x3F800000) (loopBase 3 + 0x840) 0x42C80000) fun x => { x with mode := .run }) 3 f
def ap0 : AcqPass := ⟨0, true, [(y0, 40)], 300⟩
def ab0 (n : Nat) : AcqBin := ⟨y0, 50, [3, n, 2, 4, 5, 1]⟩
def pas (f : Time → Time) : State := ts 0xF00000 fun x => f { x with active := some .gnss, gnssS := { x.gnssS with present := true, trusted := true } }
def wrBody (A v : Nat) : List Byte := [2#8, 0#8, 1#8, 0#8] ++ leBytes 4 A ++ leBytes 4 v
def wrReq (A v : Nat) (via : Via := .spi) (ep : Nat := 0) : Req :=
  ⟨0, 9, via, mkFrame { ver := 0x13, kind := kRequest, sess := 0, flags := 0, seq := 9, opCount := 1, bodyLen := 0, epoch := ep, tstat := 0, failop := 0, mode := 0, tstate := 0, tdone := 0 } (wrBody A v) (some k32)⟩
def writing (s : State) (x : Sess) (A v : Nat) (via : Via := .spi) (ep : Nat := 0) : State := { s with can := { s.can with sess := s.can.sess.set 0 (some x), queue := [wrReq A v via ep] } }
def pgAt (A : Nat) : PageRow × Nat := (pageOf A).getD (⟨.dev, 0, 0, 0, 0⟩, 0)
def fsOf (A : Nat) : List Field := (live.fieldsAt (pgAt A).1.kind (pgAt A).2 (A % 0x1000)).getD []
def inMode (m : Mode) (f : Sup → Sup := id) : State := sup live fun x => f { x with mode := m }
/-- π/6, and what its sine may be: the last bit is free. -/
def el30 : F64 := F64.div (F64.mul F64.pi (F64.ofInt 3000)) (F64.ofNat 18000)

theorem sin_el30 : F64.sin el30 = 0x3FDFFFFFFFFFFFFF#64 ∨ F64.sin el30 = 0x3FE0000000000000#64 := by
  have hv : F64.val el30 = .fin false 4716158501352293 (-53) := by decide +kernel
  have hm : fmt64.cut (false != decide (Elem.circ 3 4716158501352293 (-53) < 0)) (Elem.circ 3 4716158501352293 (-53)).natAbs (-160) = 0x3FDFFFFFFFFFFFFF := by decide +kernel
  unfold F64.sin
  simp only [hv]
  rw [if_neg (by decide), if_neg (by decide +kernel)]
  unfold Elem.pick
  rw [hm]
  split
  · right; decide +kernel
  · left; decide +kernel

/-- The satellites of `gs` are in use and solve, whatever that bit is. -/
theorem gs_use : (gs.advance 2016400000).inUse (List.filter (fun m => gs.gchOn m.ch) [me 20, me 21]) = (1, [me 20, me 21]) := by decide +kernel

theorem gs_solves : ((gs.advance 2016400000).solve 1 [me 20, me 21]).isSome = true := by
  have hp : (gs.advance 2016400000).posFixed = some (0, 0, 0) := by decide +kernel
  have ho : (gs.advance 2016400000).others 1 [me 20, me 21] = [] := by decide +kernel
  unfold State.solve
  simp only [hp, ho, List.map, State.lsqSat, Option.isSome_map]
  change (Lsq.fix _ _ [⟨_, _, _, _, F64.mul (F64.sin el30) (F64.sin el30), _⟩, ⟨_, _, _, _, F64.mul (F64.sin el30) (F64.sin el30), _⟩] _ _ _).isSome = true
  rcases sin_el30 with h | h <;> rw [h] <;> decide +kernel

/-- The request taken off the queue, and how one WRITE of it is taken. -/
def deq (s : State) (t : Nat) (q : List Req) : State := { s.advance t with can := { s.can with queue := q } }
def wctx (s : State) (t : Nat) (i : Fin 8) (x : Sess) (r : Req) (A : Nat) (v : Word) : OpCtx :=
  ⟨i, x.role, x.minor, (hdrOf r.frame).epoch == s.epoch.toNat, none, badKeySlots [⟨2, 0, 1, A, [v]⟩], (s.advance t).freshFlags⟩
def wnew (s : State) (t : Nat) (i : Fin 8) (x : Sess) (r : Req) (A : Nat) (v : Word) (fs : List Field) : Word :=
  merged fs (s.rd A) v (BitVec.allOnes 32) ||| (wctx s t i x r A v).freshBits A (s.rd A)

/-- The request is one WRITE of one word of a register of page p. -/
abbrev Writes (s : State) (t : Nat) (r : Req) (q : List Req) (i : Fin 8) (x : Sess) (A : Nat) (v : Word) (p : PageRow) (n : Nat) (fs : List Field) : Prop :=
  s.canopyRuns = true ∧ s.can.queue = r :: q ∧ r.sess = ↑i ∧ s.can.sess[i] = some x ∧ requestOps x.minor r.frame = some [⟨2, 0, 1, A, [v]⟩] ∧
  (hdrOf r.frame).flags % 2 = 0 ∧ s.clockFault = false ∧ s.sup.resetDue = none ∧ (A = 68 → Alone s t 7) ∧ A % 4 = 0 ∧ State.windowOf A = none ∧
  pageOf A = some (p, n) ∧ isKeyAddr A = false ∧ State.isQry p.kind (A % 4096) = false ∧ p.kind ≠ Kind.ucode ∧ s.fieldsAt p.kind n (A % 4096) = some fs ∧
  writable fs ≠ 0#32

/-- It passes the checks up to that of the register's role. -/
abbrev Passes (s : State) (i : Fin 8) (x : Sess) (A : Nat) (v : Word) (p : PageRow) (n : Nat) (fs : List Field) : Prop :=
  s.clocked p.kind = true ∧ s.powered (domOf p.kind) = true ∧ State.below x.role Role.operate = false ∧ s.ownedAgainst (↑i) p.kind n (A % 4096) = false ∧
  s.pageLocked (pageBase p.kind n) = false ∧
  State.below x.role (State.raisedRole p.kind (A % 4096) (BitVec.toNat (asWritten fs (s.rd A) v (BitVec.allOnes 32)))) = false

/-! ### What the statements assume is met -/

theorem wit_IdleStep :
    ∃ (s : State),
      s.pending = [] :=
  ⟨live, by decide +kernel⟩

theorem wit_OpenReqReserves :
    ∃ (s : State) (t : Nat) (v : Via) (bs : List Byte) (i : Fin 8) (minor : Nat),
      (s.sup.mode = Mode.maintenance → Alone s t 7) ∧ (s.advance t).arrives v = true ∧ frameLenOk bs = true ∧ (hdrOf bs).kind = kOpenReq ∧
      (bodyOf bs).length = 24 ∧ (s.advance t).slotOpens (leAt (bodyOf bs) 0 1) = true ∧
      State.pickMinor (leAt (bodyOf bs) 1 1) (leAt (bodyOf bs) 2 1) = some minor ∧ (s.advance t).slotSession (leAt (bodyOf bs) 0 1) = none ∧
      (v = Via.spi → (s.advance t).spiTaken (if (leAt (bodyOf bs) 3 1 % 2 == 1) = true then leAt (bodyOf bs) 0 1 else 255) = false) ∧
      (s.advance t).freeNumber = some i :=
  ⟨keyed, 0, .spi, openFrame, 0, 3, by decide +kernel⟩

theorem wit_OpenProofOpens :
    ∃ (s : State) (t : Nat) (v : Via) (bs : List Byte) (i : Fin 8) (w : OpenWait) (key : List Byte),
      (s.sup.mode = Mode.maintenance → Alone s t 7) ∧ (s.advance t).arrives v = true ∧ frameLenOk bs = true ∧ (hdrOf bs).kind = kOpenProof ∧
      (hdrOf bs).sess = ↑i ∧ s.can.waits[i] = some w ∧ (s.advance t).now ≤ w.since + 1000000000 ∧ (s.advance t).slotKey w.slot = some key ∧
      bodyOf bs = State.proofOf key w.hostNonce w.modNonce (↑i) w.slot (16 + w.minor) ∧ (s.advance t).slotSession w.slot = none ∧
      (v = Via.spi → (s.advance t).spiTaken (if w.replace = true then w.slot else 255) = false) :=
  ⟨waiting, 0, .spi, proofFrame, 0, ⟨1, 3, 1000, false, k32, k32, 1200000000⟩, k32, by decide +kernel⟩

theorem wit_SessionNumbersComeFree :
    (∃ (s : State) (t : Nat) (i : Fin 8) (w : OpenWait),
      s.can.waits[i] = some w ∧ w.since + 1000000000 ≤ (s.advance t).now) ∧
    (∃ (s : State) (t : Nat) (i : Fin 8) (v : Via) (bs : List Byte) (x : Sess),
      (s.sup.mode = Mode.maintenance → Alone s t 7) ∧ (s.advance t).arrives v = true ∧ frameLenOk bs = true ∧ (hdrOf bs).kind = kClose ∧
      (s.advance t).authOf v bs = State.Authed.ok i x) ∧
    (∃ (s : State) (t : Nat) (i : Fin 8) (x : Sess),
      Alone s t 6 ∧ s.can.sess[i] = some x ∧ (s.advance t).canopyRuns = true ∧ (s.advance t).clockFault = false ∧
      x.renewed + x.lease * 1000000 ≤ (s.advance t).now) :=
  ⟨⟨waiting, 2300000000, 0, ⟨1, 3, 1000, false, k32, k32, 1200000000⟩, by decide +kernel⟩,
   ⟨sessed, 0, 0, .spi, frame kClose 6 0 [], sess0, by decide +kernel⟩,
   ⟨sessed, 2200000000, 0, sess0, by decide +kernel⟩⟩

theorem wit_RequestIsAccepted :
    ∃ (s : State) (t : Nat) (v : Via) (bs : List Byte) (i : Fin 8) (x : Sess),
      (s.sup.mode = Mode.maintenance → Alone s t 7) ∧ (s.advance t).arrives v = true ∧ frameLenOk bs = true ∧ (hdrOf bs).kind = kRequest ∧
      (s.advance t).authOf v bs = State.Authed.ok i x ∧ s.clockFault = false ∧ (hdrOf bs).seq ≠ 0 ∧ 1 ≤ State.seqDist (hdrOf bs).seq x.h ∧
      State.seqDist (hdrOf bs).seq x.h ≤ 2147483647 ∧ (List.filter (fun r => r.sess == ↑i) s.can.queue).length < 4 ∧ (requestOps x.minor bs).isSome = true :=
  ⟨sessed, 0, .spi, reqFrame, 0, sess0, by decide +kernel⟩

theorem wit_ReadRequestExecutes :
    (∃ (s : State) (t : Nat) (r : Req) (q : List Req) (i : Fin 8) (x : Sess) (es : List OpEntry),
      s.canopyRuns = true ∧ s.can.queue = r :: q ∧ r.sess = ↑i ∧ s.can.sess[i] = some x ∧ requestOps x.minor r.frame = some es ∧ s.clockFault = false ∧
      ((∃ e, e ∈ es ∧ e.stores 68 = true) → Alone s t 7)) ∧
    (∃ (s : State) (t : Nat) (r : Req) (q : List Req) (i : Fin 8) (x : Sess) (es : List OpEntry),
      s.canopyRuns = true ∧ s.can.queue = r :: q ∧ r.sess = ↑i ∧ s.can.sess[i] = some x ∧ requestOps x.minor r.frame = some es ∧ s.clockFault = false ∧
      s.sup.resetDue = none ∧ (∀ (e : OpEntry), e ∈ es → e.code = 1 ∨ e.code = 4 ∨ e.code = 8 ∨ e.code = 9)) ∧
    (∃ (s : State) (t : Nat) (r : Req) (q : List Req) (i : Fin 8) (x : Sess) (es : List OpEntry) (page : Nat),
      s.canopyRuns = true ∧ s.can.queue = r :: q ∧ r.sess = ↑i ∧ s.can.sess[i] = some x ∧ requestOps x.minor r.frame = some es ∧ s.clockFault = false ∧
      s.sup.resetDue = none ∧ es = [{ code := 5, flags := 0, n := 0, addr := page + 255, data := [] }] ∧ State.resource (page + 255) = (0, page, 255) ∧
      State.below x.role Role.operate = false ∧ s.unpowered page = false ∧ s.pageClaims page = []) ∧
    (∃ (s : State) (t : Nat) (r : Req) (q : List Req) (i : Fin 8) (x : Sess) (es : List OpEntry),
      s.canopyRuns = true ∧ s.can.queue = r :: q ∧ r.sess = ↑i ∧ s.can.sess[i] = some x ∧ requestOps x.minor r.frame = some es ∧ s.clockFault = true ∧
      s.sup.resetDue = none ∧ ((∃ e, e ∈ es ∧ e.stores 68 = true) → Alone s t 7)) ∧
    (∃ (s : State) (t : Nat) (r : Req) (q : List Req) (i : Fin 8) (x : Sess) (es : List OpEntry) (page : Nat) (c : Claim),
      s.canopyRuns = true ∧ s.can.queue = r :: q ∧ r.sess = ↑i ∧ s.can.sess[i] = some x ∧ requestOps x.minor r.frame = some es ∧ s.clockFault = false ∧
      s.sup.resetDue = none ∧ es = [{ code := 6, flags := 0, n := 0, addr := page + 255, data := [] }] ∧ State.resource (page + 255) = (0, page, 255) ∧
      State.below x.role Role.operate = false ∧ s.unpowered page = false ∧ s.claimOf page 255 = some c ∧ c.orphan = false ∧ c.owner = ↑i) ∧
    (∃ (s : State) (t : Nat) (r : Req) (q : List Req) (i : Fin 8) (x : Sess) (es : List OpEntry) (page : Nat) (c : Claim),
      s.canopyRuns = true ∧ s.can.queue = r :: q ∧ r.sess = ↑i ∧ s.can.sess[i] = some x ∧ requestOps x.minor r.frame = some es ∧ s.clockFault = false ∧
      s.sup.resetDue = none ∧ es = [{ code := 6, flags := 0, n := 0, addr := page + 255, data := [] }] ∧ State.resource (page + 255) = (0, page, 255) ∧
      State.below x.role Role.operate = false ∧ s.unpowered page = false ∧ s.claimOf page 255 = some c ∧ (c.orphan = true ∨ c.owner ≠ ↑i)) ∧
    (∃ (s : State) (t : Nat) (r : Req) (q : List Req) (i : Fin 8) (x : Sess) (es : List OpEntry) (n : Fin 12) (k : Fin 4) (prof : Nat) (imm : Bool) (id : Word) (lo : Word) (hi : Word) (param : Word) (us : Word),
      s.canopyRuns = true ∧ s.can.queue = r :: q ∧ r.sess = ↑i ∧ s.can.sess[i] = some x ∧ requestOps x.minor r.frame = some es ∧ s.clockFault = false ∧
      s.sup.resetDue = none ∧ 3 ≤ x.minor ∧ prof < 16 ∧
      es = [{ code := 7, flags := b2n imm, n := 5, addr := 256 * prof + 4 * ↑n + ↑k, data := [id, lo, hi, param, us] }] ∧ s.clocked Kind.act = true ∧
      s.powered 8 = true ∧ State.below x.role Role.operate = false ∧ (s.running = true ∨ s.sup.mode = Mode.commission ∧
      State.below x.role Role.engineer = false) ∧ Option.any (fun c => !c.orphan && c.owner == ↑i) (s.governing (actBase ↑n) ↑k) = true ∧
      s.pageLocked (actBase ↑n) = false ∧ BitVec.toNat id < 2 ^ 31 ∧ BitVec.toNat us ≤ 1000000 ∧ (deq s t q).gate2Status n k = 0 ∧
      (deq s t q).queueStatus n k (BitVec.toNat id) prof (if imm = true then (s.advance t).hwNs else BitVec.toNat lo + BitVec.toNat hi * 2 ^ 32) ((if imm = true then (s.advance t).hwNs else BitVec.toNat lo + BitVec.toNat hi * 2 ^ 32) + BitVec.toNat us * 1000) imm = 0) :=
  ⟨⟨commanding, 0, ⟨0, 8, .spi, cmdFrame_⟩, [], 0, sess0, [⟨2, 0, 1, 0x44, [4#32]⟩], by decide +kernel⟩,
   ⟨queued, 0, ⟨0, 6, .spi, reqFrame⟩, [], 0, sess0, [⟨1, 0, 1, 0x40, []⟩], by decide +kernel⟩,
   ⟨claiming, 0, ⟨0, 7, .spi, claimFrame⟩, [], 0, sess0, [⟨5, 0, 0, claimPg + 0xFF, []⟩], claimPg, by decide +kernel⟩,
   ⟨clk queued (fun x => {x with fault := 1, coreOnSentinel := true}), 0, ⟨0, 6, .spi, reqFrame⟩, [], 0, sess0, [⟨1, 0, 1, 0x40, []⟩], by decide +kernel⟩,
   ⟨releasing, 0, ⟨0, 7, .spi, releaseFrame⟩, [], 0, sess0, [⟨6, 0, 0, claimPg + 0xFF, []⟩], claimPg, cl0, by decide +kernel⟩,
   ⟨(can releasing fun c => {c with claims := [{cl0 with owner := 3}]}), 0, ⟨0, 7, .spi, releaseFrame⟩, [], 0, sess0, [⟨6, 0, 0, claimPg + 0xFF, []⟩], claimPg, {cl0 with owner := 3}, by decide +kernel⟩,
   ⟨firing 0, 0, ⟨0, 7, .spi, fireFrame 0⟩, [], 0, sess0, [⟨7, 0, 5, 1, [77#32, 0x80000000#32, 0#32, 5#32, 1000#32]⟩], 0, 1, 0, false, 77#32, 0x80000000#32, 0#32, 5#32, 1000#32, by decide +kernel⟩⟩

theorem wit_WriteRequestExecutes :
    (∃ (s : State) (t : Nat) (r : Req) (q : List Req) (i : Fin 8) (x : Sess) (A : Nat) (v : Word) (p : PageRow) (n : Nat) (fs : List Field),
      Writes s t r q i x A v p n fs ∧ s.clocked p.kind = false) ∧
    (∃ (s : State) (t : Nat) (r : Req) (q : List Req) (i : Fin 8) (x : Sess) (A : Nat) (v : Word) (p : PageRow) (n : Nat) (fs : List Field),
      Writes s t r q i x A v p n fs ∧ s.clocked p.kind = true ∧ s.powered (domOf p.kind) = false) ∧
    (∃ (s : State) (t : Nat) (r : Req) (q : List Req) (i : Fin 8) (x : Sess) (A : Nat) (v : Word) (p : PageRow) (n : Nat) (fs : List Field),
      Writes s t r q i x A v p n fs ∧ s.clocked p.kind = true ∧ s.powered (domOf p.kind) = true ∧ State.below x.role Role.operate = true) ∧
    (∃ (s : State) (t : Nat) (r : Req) (q : List Req) (i : Fin 8) (x : Sess) (A : Nat) (v : Word) (p : PageRow) (n : Nat) (fs : List Field),
      Writes s t r q i x A v p n fs ∧ s.clocked p.kind = true ∧ s.powered (domOf p.kind) = true ∧ State.below x.role Role.operate = false ∧
      s.ownedAgainst (↑i) p.kind n (A % 4096) = true) ∧
    (∃ (s : State) (t : Nat) (r : Req) (q : List Req) (i : Fin 8) (x : Sess) (A : Nat) (v : Word) (p : PageRow) (n : Nat) (fs : List Field),
      Writes s t r q i x A v p n fs ∧ s.clocked p.kind = true ∧ s.powered (domOf p.kind) = true ∧ State.below x.role Role.operate = false ∧
      s.ownedAgainst (↑i) p.kind n (A % 4096) = false ∧ s.pageLocked (pageBase p.kind n) = true) ∧
    (∃ (s : State) (t : Nat) (r : Req) (q : List Req) (i : Fin 8) (x : Sess) (A : Nat) (v : Word) (p : PageRow) (n : Nat) (fs : List Field),
      Writes s t r q i x A v p n fs ∧ s.clocked p.kind = true ∧ s.powered (domOf p.kind) = true ∧ State.below x.role Role.operate = false ∧
      s.ownedAgainst (↑i) p.kind n (A % 4096) = false ∧ s.pageLocked (pageBase p.kind n) = false ∧
      State.below x.role (State.raisedRole p.kind (A % 4096) (BitVec.toNat (asWritten fs (s.rd A) v (BitVec.allOnes 32)))) = true) ∧
    (∃ (s : State) (t : Nat) (r : Req) (q : List Req) (i : Fin 8) (x : Sess) (A : Nat) (v : Word) (p : PageRow) (n : Nat) (fs : List Field),
      Writes s t r q i x A v p n fs ∧ Passes s i x A v p n fs ∧
      (rwcWrite fs (s.rd A) (wnew s t i x r A v fs) || State.rwcCommand p.kind (A % 4096) (asWritten fs (s.rd A) v (BitVec.allOnes 32))) = true ∧
      State.below x.role Role.engineer = true) ∧
    (∃ (s : State) (t : Nat) (r : Req) (q : List Req) (i : Fin 8) (x : Sess) (A : Nat) (v : Word) (p : PageRow) (n : Nat) (fs : List Field),
      Writes s t r q i x A v p n fs ∧ Passes s i x A v p n fs ∧
      (rwcWrite fs (s.rd A) (wnew s t i x r A v fs) || State.rwcCommand p.kind (A % 4096) (asWritten fs (s.rd A) v (BitVec.allOnes 32))) = true ∧
      State.below x.role Role.engineer = false ∧ s.sup.mode ≠ Mode.commission) ∧
    (∃ (s : State) (t : Nat) (r : Req) (q : List Req) (i : Fin 8) (x : Sess) (A : Nat) (v : Word) (p : PageRow) (n : Nat) (fs : List Field),
      Writes s t r q i x A v p n fs ∧ Passes s i x A v p n fs ∧
      (rwcWrite fs (s.rd A) (wnew s t i x r A v fs) || State.rwcCommand p.kind (A % 4096) (asWritten fs (s.rd A) v (BitVec.allOnes 32))) = true ∧
      State.below x.role Role.engineer = false ∧ s.sup.mode = Mode.commission ∧ (hdrOf r.frame).epoch ≠ BitVec.toNat s.epoch) ∧
    (∃ (s : State) (t : Nat) (r : Req) (q : List Req) (i : Fin 8) (x : Sess) (A : Nat) (v : Word) (p : PageRow) (n : Nat) (fs : List Field),
      Writes s t r q i x A v p n fs ∧ Passes s i x A v p n fs ∧
      ((rwcWrite fs (s.rd A) (wnew s t i x r A v fs) || State.rwcCommand p.kind (A % 4096) (asWritten fs (s.rd A) v (BitVec.allOnes 32))) = false ∨ State.below x.role Role.engineer = false ∧
      s.sup.mode = Mode.commission ∧ (hdrOf r.frame).epoch = BitVec.toNat s.epoch) ∧ limsOk fs (asWritten fs (s.rd A) v (BitVec.allOnes 32)) = false) ∧
    (∃ (s : State) (t : Nat) (r : Req) (q : List Req) (i : Fin 8) (x : Sess) (A : Nat) (v : Word) (p : PageRow) (n : Nat) (fs : List Field) (st : Nat),
      Writes s t r q i x A v p n fs ∧ Passes s i x A v p n fs ∧
      ((rwcWrite fs (s.rd A) (wnew s t i x r A v fs) || State.rwcCommand p.kind (A % 4096) (asWritten fs (s.rd A) v (BitVec.allOnes 32))) = false ∨ State.below x.role Role.engineer = false ∧
      s.sup.mode = Mode.commission ∧ (hdrOf r.frame).epoch = BitVec.toNat s.epoch) ∧ limsOk fs (asWritten fs (s.rd A) v (BitVec.allOnes 32)) = true ∧
      State.ntcInternal p.kind (A % 4096) v = false ∧ st ≠ 0 ∧ st < 256 ∧
      ((deq s t q).wr A (wnew s t i x r A v fs)).blockCheck (wctx s t i x r A v) p.kind n (A % 4096) (s.rd A) (asWritten fs (s.rd A) v (BitVec.allOnes 32)) = st) ∧
    (∃ (s : State) (t : Nat) (r : Req) (q : List Req) (i : Fin 8) (x : Sess) (A : Nat) (v : Word) (p : PageRow) (n : Nat) (fs : List Field),
      Writes s t r q i x A v p n fs ∧ Passes s i x A v p n fs ∧
      ((rwcWrite fs (s.rd A) (wnew s t i x r A v fs) || State.rwcCommand p.kind (A % 4096) (asWritten fs (s.rd A) v (BitVec.allOnes 32))) = false ∨ State.below x.role Role.engineer = false ∧
      s.sup.mode = Mode.commission ∧ (hdrOf r.frame).epoch = BitVec.toNat s.epoch) ∧ limsOk fs (asWritten fs (s.rd A) v (BitVec.allOnes 32)) = true ∧
      State.ntcInternal p.kind (A % 4096) v = false ∧
      ((deq s t q).wr A (wnew s t i x r A v fs)).blockCheck (wctx s t i x r A v) p.kind n (A % 4096) (s.rd A) (asWritten fs (s.rd A) v (BitVec.allOnes 32)) = 0 ∧
      (((deq s t q).wr A (wnew s t i x r A v fs)).hook (↑i) p.kind n (A % 4096) (s.rd A) (asWritten fs (s.rd A) v (BitVec.allOnes 32))).settleAll.sup.resetDue = none ∧
      (rwcWrite fs (s.rd A) (wnew s t i x r A v fs) || State.rwcCommand p.kind (A % 4096) (asWritten fs (s.rd A) v (BitVec.allOnes 32))) = false) ∧
    (∃ (s : State) (t : Nat) (r : Req) (q : List Req) (i : Fin 8) (x : Sess) (A : Nat) (v : Word) (p : PageRow) (n : Nat) (fs : List Field),
      Writes s t r q i x A v p n fs ∧ Passes s i x A v p n fs ∧
      ((rwcWrite fs (s.rd A) (wnew s t i x r A v fs) || State.rwcCommand p.kind (A % 4096) (asWritten fs (s.rd A) v (BitVec.allOnes 32))) = false ∨ State.below x.role Role.engineer = false ∧
      s.sup.mode = Mode.commission ∧ (hdrOf r.frame).epoch = BitVec.toNat s.epoch) ∧ limsOk fs (asWritten fs (s.rd A) v (BitVec.allOnes 32)) = true ∧
      State.ntcInternal p.kind (A % 4096) v = false ∧
      ((deq s t q).wr A (wnew s t i x r A v fs)).blockCheck (wctx s t i x r A v) p.kind n (A % 4096) (s.rd A) (asWritten fs (s.rd A) v (BitVec.allOnes 32)) = 0 ∧
      (((deq s t q).wr A (wnew s t i x r A v fs)).hook (↑i) p.kind n (A % 4096) (s.rd A) (asWritten fs (s.rd A) v (BitVec.allOnes 32))).settleAll.sup.resetDue = none ∧
      (rwcWrite fs (s.rd A) (wnew s t i x r A v fs) || State.rwcCommand p.kind (A % 4096) (asWritten fs (s.rd A) v (BitVec.allOnes 32))) = true ∧
      (((deq s t q).wr A (wnew s t i x r A v fs)).hook (↑i) p.kind n (A % 4096) (s.rd A) (asWritten fs (s.rd A) v (BitVec.allOnes 32))).settleAll.regs = ((deq s t q).wr A (wnew s t i x r A v fs)).regs ∧
      (((deq s t q).wr A (wnew s t i x r A v fs)).hook (↑i) p.kind n (A % 4096) (s.rd A) (asWritten fs (s.rd A) v (BitVec.allOnes 32))).settleAll.fieldsAt p.kind n (A % 4096) = some fs ∧
      A % 4096 ≠ 32 ∧ A ≠ hostBase + 64) ∧
    (∃ (s : State) (t : Nat) (r : Req) (q : List Req) (i : Fin 8) (x : Sess) (A : Nat) (v : Word),
      s.canopyRuns = true ∧ s.can.queue = r :: q ∧ r.sess = ↑i ∧ s.can.sess[i] = some x ∧
      requestOps x.minor r.frame = some [{ code := 2, flags := 0, n := 1, addr := A, data := [v] }] ∧ (hdrOf r.frame).flags % 2 = 0 ∧ s.clockFault = false ∧
      s.sup.resetDue = none ∧ (A = 68 → Alone s t 7) ∧ A = 68 ∧ s.clocked Kind.dev = true ∧ s.powered 0 = true ∧ s.pageHeld (↑i) 0 = false ∧
      s.pageLocked 0 = false ∧ State.below x.role Role.operate = false ∧ v = 3#32 ∧ s.sup.mode = Mode.standby ∧ State.below x.role Role.engineer = false) ∧
    (∃ (s : State) (t : Nat) (r : Req) (q : List Req) (i : Fin 8) (x : Sess) (A : Nat) (v : Word),
      s.canopyRuns = true ∧ s.can.queue = r :: q ∧ r.sess = ↑i ∧ s.can.sess[i] = some x ∧
      requestOps x.minor r.frame = some [{ code := 2, flags := 0, n := 1, addr := A, data := [v] }] ∧ (hdrOf r.frame).flags % 2 = 0 ∧ s.clockFault = false ∧
      s.sup.resetDue = none ∧ (A = 68 → Alone s t 7) ∧ A = 68 ∧ s.clocked Kind.dev = true ∧ s.powered 0 = true ∧ s.pageHeld (↑i) 0 = false ∧
      s.pageLocked 0 = false ∧ State.below x.role Role.operate = false ∧ v = 4#32 ∧ (s.sup.mode = Mode.standby ∨ s.sup.mode = Mode.commission) ∧
      s.enfLevel = 0 ∧ s.led.energyLimit = false ∧ s.led.limiting = false ∧ s.led.rcut = false ∧ (∀ (n : Fin 12), (s.bank n).queue = [])) ∧
    (∃ (s : State) (t : Nat) (r : Req) (q : List Req) (i : Fin 8) (x : Sess) (A : Nat) (v : Word),
      s.canopyRuns = true ∧ s.can.queue = r :: q ∧ r.sess = ↑i ∧ s.can.sess[i] = some x ∧
      requestOps x.minor r.frame = some [{ code := 2, flags := 0, n := 1, addr := A, data := [v] }] ∧ (hdrOf r.frame).flags % 2 = 0 ∧ s.clockFault = false ∧
      s.sup.resetDue = none ∧ (A = 68 → Alone s t 7) ∧ A = 68 ∧ s.clocked Kind.dev = true ∧ s.powered 0 = true ∧ s.pageHeld (↑i) 0 = false ∧
      s.pageLocked 0 = false ∧ State.below x.role Role.operate = false ∧ v = 4#32 ∧ (s.sup.mode = Mode.standby ∨ s.sup.mode = Mode.commission) ∧
      0 < s.enfLevel) ∧
    (∃ (s : State) (t : Nat) (r : Req) (q : List Req) (i : Fin 8) (x : Sess) (A : Nat) (v : Word),
      s.canopyRuns = true ∧ s.can.queue = r :: q ∧ r.sess = ↑i ∧ s.can.sess[i] = some x ∧
      requestOps x.minor r.frame = some [{ code := 2, flags := 0, n := 1, addr := A, data := [v] }] ∧ (hdrOf r.frame).flags % 2 = 0 ∧ s.clockFault = false ∧
      s.sup.resetDue = none ∧ (A = 68 → Alone s t 7) ∧ A = 68 ∧ s.clocked Kind.dev = true ∧ s.powered 0 = true ∧ s.pageHeld (↑i) 0 = false ∧
      s.pageLocked 0 = false ∧ State.below x.role Role.operate = false ∧ v = 6#32 ∧
      (s.sup.mode = Mode.standby ∨ s.sup.mode = Mode.commission ∨ s.sup.mode = Mode.run ∨ s.sup.mode = Mode.constrained)) ∧
    (∃ (s : State) (t : Nat) (r : Req) (q : List Req) (i : Fin 8) (x : Sess) (A : Nat) (v : Word),
      s.canopyRuns = true ∧ s.can.queue = r :: q ∧ r.sess = ↑i ∧ s.can.sess[i] = some x ∧
      requestOps x.minor r.frame = some [{ code := 2, flags := 0, n := 1, addr := A, data := [v] }] ∧ (hdrOf r.frame).flags % 2 = 0 ∧ s.clockFault = false ∧
      s.sup.resetDue = none ∧ (A = 68 → Alone s t 7) ∧ A = 68 ∧ s.clocked Kind.dev = true ∧ s.powered 0 = true ∧ s.pageHeld (↑i) 0 = false ∧
      s.pageLocked 0 = false ∧ State.below x.role Role.operate = false ∧ v = 2#32 ∧ s.sup.mode = Mode.safeHold ∧ s.conditionActive = true) ∧
    (∃ (s : State) (t : Nat) (r : Req) (q : List Req) (i : Fin 8) (x : Sess) (A : Nat) (v : Word),
      s.canopyRuns = true ∧ s.can.queue = r :: q ∧ r.sess = ↑i ∧ s.can.sess[i] = some x ∧
      requestOps x.minor r.frame = some [{ code := 2, flags := 0, n := 1, addr := A, data := [v] }] ∧ (hdrOf r.frame).flags % 2 = 0 ∧ s.clockFault = false ∧
      s.sup.resetDue = none ∧ (A = 68 → Alone s t 7) ∧ A = 68 ∧ s.clocked Kind.dev = true ∧ s.powered 0 = true ∧ s.pageHeld (↑i) 0 = false ∧
      s.pageLocked 0 = false ∧ State.below x.role Role.operate = false ∧ v = 2#32 ∧ s.sup.mode = Mode.safeHold ∧ s.conditionActive = false ∧
      s.sup.rstLow = false) ∧
    (∃ (s : State) (t : Nat) (r : Req) (q : List Req) (i : Fin 8) (x : Sess) (A : Nat) (v : Word),
      s.canopyRuns = true ∧ s.can.queue = r :: q ∧ r.sess = ↑i ∧ s.can.sess[i] = some x ∧
      requestOps x.minor r.frame = some [{ code := 2, flags := 0, n := 1, addr := A, data := [v] }] ∧ (hdrOf r.frame).flags % 2 = 0 ∧ s.clockFault = false ∧
      s.sup.resetDue = none ∧ (A = 68 → Alone s t 7) ∧ A = 68 ∧ s.clocked Kind.dev = true ∧ s.powered 0 = true ∧ s.pageHeld (↑i) 0 = false ∧
      s.pageLocked 0 = false ∧ State.below x.role Role.operate = false ∧ v = 8#32 ∧ s.sup.mode = Mode.standby ∧ State.below x.role Role.service = false) ∧
    (∃ (s : State) (t : Nat) (r : Req) (q : List Req) (i : Fin 8) (x : Sess) (A : Nat) (v : Word),
      s.canopyRuns = true ∧ s.can.queue = r :: q ∧ r.sess = ↑i ∧ s.can.sess[i] = some x ∧
      requestOps x.minor r.frame = some [{ code := 2, flags := 0, n := 1, addr := A, data := [v] }] ∧ (hdrOf r.frame).flags % 2 = 0 ∧ s.clockFault = false ∧
      s.sup.resetDue = none ∧ (A = 68 → Alone s t 7) ∧ A = 68 ∧ s.clocked Kind.dev = true ∧ s.powered 0 = true ∧ s.pageHeld (↑i) 0 = false ∧
      s.pageLocked 0 = false ∧ State.below x.role Role.operate = false ∧ v = 4#32 ∧ s.sup.mode = Mode.maintenance) ∧
    (∃ (s : State) (t : Nat) (r : Req) (q : List Req) (i : Fin 8) (x : Sess) (A : Nat) (v : Word),
      s.canopyRuns = true ∧ s.can.queue = r :: q ∧ r.sess = ↑i ∧ s.can.sess[i] = some x ∧
      requestOps x.minor r.frame = some [{ code := 2, flags := 0, n := 1, addr := A, data := [v] }] ∧ (hdrOf r.frame).flags % 2 = 0 ∧ s.clockFault = false ∧
      s.sup.resetDue = none ∧ (A = 68 → Alone s t 7) ∧ A = 68 ∧ s.clocked Kind.dev = true ∧ s.powered 0 = true ∧ s.pageHeld (↑i) 0 = false ∧
      s.pageLocked 0 = false ∧ State.below x.role Role.operate = false ∧ v = 15#32 ∧ State.below x.role Role.service = true) ∧
    (∃ (s : State) (t : Nat) (r : Req) (q : List Req) (i : Fin 8) (x : Sess) (A : Nat) (v : Word) (p : Fin 2) (ip : Word) (port : Nat),
      s.canopyRuns = true ∧ s.can.queue = r :: q ∧ r.sess = ↑i ∧ s.can.sess[i] = some x ∧
      requestOps x.minor r.frame = some [{ code := 2, flags := 0, n := 1, addr := A, data := [v] }] ∧ (hdrOf r.frame).flags % 2 = 0 ∧ s.clockFault = false ∧
      s.sup.resetDue = none ∧ (A = 68 → Alone s t 7) ∧ A = 68 ∧ s.clocked Kind.dev = true ∧ s.powered 0 = true ∧ s.pageHeld (↑i) 0 = false ∧
      s.pageLocked 0 = false ∧ State.below x.role Role.operate = false ∧ v = 15#32 ∧ State.below x.role Role.service = false ∧ r.via = Via.udp p ip port ∧
      s.sup.resetFrame = none) :=
  ⟨⟨writing (put fl clkEnAddr 0) (sess0) (fanBase 1 + 0x44) 3000 .spi 0, 0, wrReq (fanBase 1 + 0x44) 3000 .spi 0, [], 0, sess0, (fanBase 1 + 0x44), toWord 3000, (pgAt (fanBase 1 + 0x44)).1, (pgAt (fanBase 1 + 0x44)).2, fsOf (fanBase 1 + 0x44), by decide +kernel⟩,
   ⟨writing (pwr fl fun x => {x with powered := 0x0FF}) (sess0) (fanBase 1 + 0x44) 3000 .spi 0, 0, wrReq (fanBase 1 + 0x44) 3000 .spi 0, [], 0, sess0, (fanBase 1 + 0x44), toWord 3000, (pgAt (fanBase 1 + 0x44)).1, (pgAt (fanBase 1 + 0x44)).2, fsOf (fanBase 1 + 0x44), by decide +kernel⟩,
   ⟨writing (fl) ({sess0 with role := .view}) (fanBase 1 + 0x44) 3000 .spi 0, 0, wrReq (fanBase 1 + 0x44) 3000 .spi 0, [], 0, {sess0 with role := .view}, (fanBase 1 + 0x44), toWord 3000, (pgAt (fanBase 1 + 0x44)).1, (pgAt (fanBase 1 + 0x44)).2, fsOf (fanBase 1 + 0x44), by decide +kernel⟩,
   ⟨writing (can fl fun c => {c with claims := [{cl0 with page := fanBase 1, owner := 3}]}) (sess0) (fanBase 1 + 0x44) 3000 .spi 0, 0, wrReq (fanBase 1 + 0x44) 3000 .spi 0, [], 0, sess0, (fanBase 1 + 0x44), toWord 3000, (pgAt (fanBase 1 + 0x44)).1, (pgAt (fanBase 1 + 0x44)).2, fsOf (fanBase 1 + 0x44), by decide +kernel⟩,
   ⟨writing (put fl (fanBase 1 + 0x24) 0xFFFF) (sess0) (fanBase 1 + 0x44) 3000 .spi 0, 0, wrReq (fanBase 1 + 0x44) 3000 .spi 0, [], 0, sess0, (fanBase 1 + 0x44), toWord 3000, (pgAt (fanBase 1 + 0x44)).1, (pgAt (fanBase 1 + 0x44)).2, fsOf (fanBase 1 + 0x44), by decide +kernel⟩,
   ⟨writing (enable live (cellBase 5)) ({sess0 with role := .operate}) (cellBase 5 + 0x70) 1 .spi 0, 0, wrReq (cellBase 5 + 0x70) 1 .spi 0, [], 0, {sess0 with role := .operate}, (cellBase 5 + 0x70), toWord 1, (pgAt (cellBase 5 + 0x70)).1, (pgAt (cellBase 5 + 0x70)).2, fsOf (cellBase 5 + 0x70), by decide +kernel⟩,
   ⟨writing (live) ({sess0 with role := .operate}) (thermBase + 0x40) 31 .spi 0, 0, wrReq (thermBase + 0x40) 31 .spi 0, [], 0, {sess0 with role := .operate}, (thermBase + 0x40), toWord 31, (pgAt (thermBase + 0x40)).1, (pgAt (thermBase + 0x40)).2, fsOf (thermBase + 0x40), by decide +kernel⟩,
   ⟨writing (live) (sess0) (thermBase + 0x40) 31 .spi 0, 0, wrReq (thermBase + 0x40) 31 .spi 0, [], 0, sess0, (thermBase + 0x40), toWord 31, (pgAt (thermBase + 0x40)).1, (pgAt (thermBase + 0x40)).2, fsOf (thermBase + 0x40), by decide +kernel⟩,
   ⟨writing (inMode .commission) (sess0) (thermBase + 0x40) 31 .spi (live.epoch.toNat + 1), 0, wrReq (thermBase + 0x40) 31 .spi (live.epoch.toNat + 1), [], 0, sess0, (thermBase + 0x40), toWord 31, (pgAt (thermBase + 0x40)).1, (pgAt (thermBase + 0x40)).2, fsOf (thermBase + 0x40), by decide +kernel⟩,
   ⟨writing (inMode .commission) (sess0) (thermBase + 0x40) 601 .spi (live.epoch.toNat), 0, wrReq (thermBase + 0x40) 601 .spi (live.epoch.toNat), [], 0, sess0, (thermBase + 0x40), toWord 601, (pgAt (thermBase + 0x40)).1, (pgAt (thermBase + 0x40)).2, fsOf (thermBase + 0x40), by decide +kernel⟩,
   ⟨writing (live) (sess0) (cellBase 5 + 0x70) 1 .spi live.epoch.toNat, 0, wrReq (cellBase 5 + 0x70) 1 .spi live.epoch.toNat, [], 0, sess0, (cellBase 5 + 0x70), toWord 1, (pgAt (cellBase 5 + 0x70)).1, (pgAt (cellBase 5 + 0x70)).2, fsOf (cellBase 5 + 0x70), stLocked, by decide +kernel⟩,
   ⟨writing (fl) (sess0) (fanBase 1 + 0x4C) 700 .spi 0, 0, wrReq (fanBase 1 + 0x4C) 700 .spi 0, [], 0, sess0, (fanBase 1 + 0x4C), toWord 700, (pgAt (fanBase 1 + 0x4C)).1, (pgAt (fanBase 1 + 0x4C)).2, fsOf (fanBase 1 + 0x4C), by decide +kernel⟩,
   ⟨writing (inMode .commission) (sess0) (thermBase + 0x40) 31 .spi (live.epoch.toNat), 0, wrReq (thermBase + 0x40) 31 .spi (live.epoch.toNat), [], 0, sess0, (thermBase + 0x40), toWord 31, (pgAt (thermBase + 0x40)).1, (pgAt (thermBase + 0x40)).2, fsOf (thermBase + 0x40), by decide +kernel⟩,
   ⟨writing (inMode .standby) (sess0) 0x44 3 (.spi), 0, wrReq 0x44 3 (.spi), [], 0, sess0, 0x44, 3#32, by decide +kernel⟩,
   ⟨writing (inMode .standby) (sess0) 0x44 4 (.spi), 0, wrReq 0x44 4 (.spi), [], 0, sess0, 0x44, 4#32, by decide +kernel⟩,
   ⟨writing (inMode .standby |> fun s => sensor s 3 (fun x => {x with stage := .enforce 2})) (sess0) 0x44 4 (.spi), 0, wrReq 0x44 4 (.spi), [], 0, sess0, 0x44, 4#32, by decide +kernel⟩,
   ⟨writing (inMode .run) (sess0) 0x44 6 (.spi), 0, wrReq 0x44 6 (.spi), [], 0, sess0, 0x44, 6#32, by decide +kernel⟩,
   ⟨writing (sensor (inMode .safeHold fun x => {x with safeNet := true, safeCause := State.causeSag}) 3 id |> fun s => pwr s fun x => {x with sag := some 0}) (sess0) 0x44 2 (.spi), 0, wrReq 0x44 2 (.spi), [], 0, sess0, 0x44, 2#32, by decide +kernel⟩,
   ⟨writing (inMode .safeHold fun x => {x with safeNet := true, safeCause := 1}) (sess0) 0x44 2 (.spi), 0, wrReq 0x44 2 (.spi), [], 0, sess0, 0x44, 2#32, by decide +kernel⟩,
   ⟨writing (inMode .standby) (sess0) 0x44 8 (.spi), 0, wrReq 0x44 8 (.spi), [], 0, sess0, 0x44, 8#32, by decide +kernel⟩,
   ⟨writing (inMode .maintenance) (sess0) 0x44 4 (.spi), 0, wrReq 0x44 4 (.spi), [], 0, sess0, 0x44, 4#32, by decide +kernel⟩,
   ⟨writing (inMode .standby) ({sess0 with role := .operate}) 0x44 15 (.spi), 0, wrReq 0x44 15 (.spi), [], 0, {sess0 with role := .operate}, 0x44, 15#32, by decide +kernel⟩,
   ⟨writing (inMode .standby) (sess0) 0x44 15 (.udp 0 5#32 6), 0, wrReq 0x44 15 (.udp 0 5#32 6), [], 0, sess0, 0x44, 15#32, 0, 5#32, 6, by decide +kernel⟩⟩

theorem wit_BeaconIsSent :
    ∃ (s : State) (t : Nat) (i : Fin 8) (x : Sess),
      s.canopyRuns = true ∧ s.can.sess[i] = some x ∧ s.sup.resetDue = none :=
  ⟨sessed, 0, 0, sess0, by decide +kernel⟩

theorem wit_SpiReads :
    (∃ (s : State) (t : Nat) (full : Bool),
      s.canopyRuns = true) ∧
    (∃ (s : State) (t : Nat) (full : Bool) (n : Nat),
      s.canopyRuns = true) ∧
    (∃ (s : State) (t : Nat) (full : Bool),
      s.canopyRuns = true ∧ s.sup.resetDue = none ∧ s.sup.resetFrame = none) :=
  ⟨⟨live, 0, true, by decide +kernel⟩,
   ⟨live, 0, true, 3, by decide +kernel⟩,
   ⟨live, 0, true, by decide +kernel⟩⟩

theorem wit_WriteFrameIsJudged :
    (∃ (s : State) (t : Nat) (bs : List Byte) (full : Bool),
      s.canopyRuns = true ∧ (s.sup.mode = Mode.maintenance → Alone s t 7) ∧ (State.spiLenOk bs && State.spiCrcOk bs) = false) ∧
    (∃ (s : State) (t : Nat) (bs : List Byte),
      s.canopyRuns = true ∧ (s.sup.mode = Mode.maintenance → Alone s t 7) ∧ (State.spiLenOk bs && State.spiCrcOk bs) = true) ∧
    (∃ (s : State) (t : Nat) (bs : List Byte),
      s.canopyRuns = true ∧ (s.sup.mode = Mode.maintenance → Alone s t 7) ∧ (State.spiLenOk bs && State.spiCrcOk bs) = true) ∧
    (∃ (s : State) (t : Nat) (bs : List Byte) (i : Fin 8) (x : Sess),
      s.canopyRuns = true ∧ (s.sup.mode = Mode.maintenance → Alone s t 7) ∧ (State.spiLenOk bs && State.spiCrcOk bs) = true ∧
      frameLenOk (slice bs 2 (bs.length - 6)) = true ∧ (hdrOf (slice bs 2 (bs.length - 6))).kind = kRequest ∧
      (s.advance t).authOf Via.spi (slice bs 2 (bs.length - 6)) = State.Authed.ok i x ∧ s.clockFault = false ∧
      (hdrOf (slice bs 2 (bs.length - 6))).seq ≠ 0 ∧ 1 ≤ State.seqDist (hdrOf (slice bs 2 (bs.length - 6))).seq x.h ∧
      State.seqDist (hdrOf (slice bs 2 (bs.length - 6))).seq x.h ≤ 2147483647 ∧ (List.filter (fun r => r.sess == ↑i) s.can.queue).length < 4 ∧
      (requestOps x.minor (slice bs 2 (bs.length - 6))).isSome = true) ∧
    (∃ (s : State) (t : Nat) (bs : List Byte),
      s.canopyRuns = true ∧ (s.sup.mode = Mode.maintenance → Alone s t 7) ∧ (State.spiLenOk bs && State.spiCrcOk bs) = true ∧
      frameLenOk (slice bs 2 (bs.length - 6)) = false) :=
  ⟨⟨live, 0, [], false, by decide +kernel⟩,
   ⟨live, 0, spiOf reqFrame, by decide +kernel⟩,
   ⟨live, 0, spiOf reqFrame, by decide +kernel⟩,
   ⟨sessed, 0, spiOf reqFrame, 0, sess0, by decide +kernel⟩,
   ⟨live, 0, [0,0] ++ wordBytes (crc32 [0,0]), by decide +kernel⟩⟩

theorem wit_NetworkAnswers :
    (∃ (s : State) (t : Nat) (p : Fin 2) (mac : BitVec 48) (ip : Word),
      s.canopyRuns = true ∧ s.portUp p = true ∧ s.can.net.ip ≠ 0#32) ∧
    (∃ (s : State) (t : Nat) (p : Fin 2) (ip : Word) (rest : List Byte),
      s.canopyRuns = true ∧ s.portUp p = true ∧ s.can.net.ip ≠ 0#32) ∧
    (∃ (s : State) (t : Nat) (p : Fin 2) (ip : Word) (server : Word) (secs : Nat),
      s.canopyRuns = true ∧ s.portUp p = true ∧ s.dhcpOn = true ∧
      (s.can.net.dhcp.st = DhcpState.requesting ∨ s.can.net.dhcp.st = DhcpState.renewing ∨ s.can.net.dhcp.st = DhcpState.rebinding)) ∧
    (∃ (s : State) (t : Nat) (p : Fin 2) (ip : Word) (server : Word),
      s.canopyRuns = true ∧ s.portUp p = true ∧ s.dhcpOn = true ∧ s.can.net.dhcp.st = DhcpState.selecting) ∧
    (∃ (s : State) (t : Nat) (p : Fin 2),
      s.canopyRuns = true ∧ s.portUp p = true ∧ s.dhcpOn = true ∧ s.can.net.dhcp.st = DhcpState.init) ∧
    (∃ (s : State) (t : Nat) (p : Fin 2),
      s.canopyRuns = true ∧ s.portUp p = true ∧ s.dhcpOn = true ∧
      (s.can.net.dhcp.st = DhcpState.requesting ∨ s.can.net.dhcp.st = DhcpState.renewing ∨ s.can.net.dhcp.st = DhcpState.rebinding)) ∧
    (∃ (s : State) (t : Nat),
      s.can.net.changeDue = true ∧ s.dhcpOn = false) ∧
    (∃ (s : State) (t : Nat) (p : Fin 2) (up : Bool) (fdx : Bool),
      s.powered 5 = true) :=
  ⟨⟨net live, 0, 1, 3#48, 4#32, by decide +kernel⟩,
   ⟨net live, 0, 1, 4#32, [1#8,2#8], by decide +kernel⟩,
   ⟨dhcp .renewing, 0, 0, 0x0A000002#32, 5#32, 3600, by decide +kernel⟩,
   ⟨dhcp .selecting, 0, 0, 0x0A000002#32, 5#32, by decide +kernel⟩,
   ⟨dhcp .init, 0, 0, by decide +kernel⟩,
   ⟨dhcp .rebinding, 0, 0, by decide +kernel⟩,
   ⟨(can live (fun c => {c with net := {c.net with changeDue := true}})).wr (State.linkBase + 0x48) 0#32, 0, by decide +kernel⟩,
   ⟨live, 0, 1, true, true, by decide +kernel⟩⟩

theorem wit_SelftestAndFirmwareEnd :
    (∃ (s : State) (t : Nat) (fail : Nat) (c : Nat) (boost : Vector (Nat × Nat) 6),
      s.sup.mode = Mode.maintenance ∧ s.sup.selftest = true) ∧
    (∃ (s : State) (t : Nat) (sector : Nat) (n : Nat),
      s.sup.mode = Mode.maintenance ∧ s.sup.fw.upd = UpdState.erasing) ∧
    (∃ (s : State) (t : Nat) (ok : Bool),
      s.sup.mode = Mode.maintenance ∧ s.sup.fw.upd = UpdState.programming) ∧
    (∃ (s : State) (t : Nat) (ok : Bool) (v : Word) (err : Nat),
      s.sup.mode = Mode.maintenance ∧ s.sup.fw.upd = UpdState.verifying) :=
  ⟨⟨maint (sup live (fun x => {x with selftest := true})), 0, 0, 3200, Vector.replicate 6 (1,1), by decide +kernel⟩,
   ⟨maint (sup live (fun x => {x with fw := {x.fw with upd := .erasing}})), 0, 3, 7, by decide +kernel⟩,
   ⟨maint (sup live (fun x => {x with fw := {x.fw with upd := .programming}})), 0, false, by decide +kernel⟩,
   ⟨maint (sup live (fun x => {x with fw := {x.fw with upd := .verifying}})), 0, true, 9#32, 0, by decide +kernel⟩⟩

theorem wit_BootTimeline :
    (∃ (s : State) (t : Nat) (st : Straps),
      s.inBoot BootPhase.aonReset = true) ∧
    (∃ (s : State) (t : Nat),
      s.inBoot BootPhase.coreReset = true) ∧
    (∃ (s : State) (t : Nat) (ok : Bool),
      s.inBoot BootPhase.sram = true) ∧
    (∃ (s : State) (t : Nat),
      s.inBoot BootPhase.auth = true ∧ (if s.bootBankB = true then s.sup.fw.bankB else s.sup.fw.bankA).valid = true) ∧
    (∃ (s : State) (t : Nat),
      s.inBoot BootPhase.auth = true ∧ s.sup.triedOther = false) ∧
    (∃ (s : State) (t : Nat),
      s.inBoot BootPhase.auth = true ∧ s.sup.triedOther = true) ∧
    (∃ (s : State) (t : Nat),
      s.inBoot BootPhase.clocks = true ∧ (s.clk.xrefStable && s.clk.rootLocked) = false ∧ s.sup.bootStart + 97000000 ≤ (s.advance t).now) :=
  ⟨⟨inPhase .aonReset, 0, ⟨true, true, false, true, true⟩, by decide +kernel⟩,
   ⟨inPhase .coreReset, 0, by decide +kernel⟩,
   ⟨inPhase .sram, 0, false, by decide +kernel⟩,
   ⟨inPhase .auth, 0, by decide +kernel⟩,
   ⟨inPhase .auth, 0, by decide +kernel⟩,
   ⟨sup (inPhase .auth) (fun x => {x with triedOther := true}), 0, by decide +kernel⟩,
   ⟨clk (inPhase .clocks) (fun x => {x with rootLocked := false}), 1300000000, by decide +kernel⟩⟩

theorem wit_BootCompletes :
    (∃ (s : State) (t : Nat),
      s.inBoot BootPhase.restore = true ∧ s.sup.resetCause ≠ ResetCause.watchdog ∧ s.sup.resetCause ≠ ResetCause.thermal) ∧
    (∃ (s : State) (t : Nat),
      s.inBoot BootPhase.restore = true ∧ (s.sup.resetCause = ResetCause.watchdog ∨ s.sup.resetCause = ResetCause.thermal)) :=
  ⟨⟨inPhase .restore, 0, by decide +kernel⟩,
   ⟨sup (inPhase .restore) (fun x => {x with resetCause := .watchdog}), 0, by decide +kernel⟩⟩

theorem wit_ResetRows :
    (∃ (s : State) (t : Nat),
      s.sup.mode = Mode.off) ∧
    (∃ (s : State) (t : Nat),
      s.sup.mode ≠ Mode.off) ∧
    (∃ (s : State) (t : Nat) (st : Straps),
      s.sup.mode ≠ Mode.off ∧ s.sup.rstLow = true ∧ s.sup.sentStopped = false) ∧
    (∃ (s : State) (t : Nat),
      Alone s t 3 ∧ s.sup.mode ≠ Mode.off ∧ s.sup.mode ≠ Mode.thermalOff ∧ s.sup.wdArmed = true ∧ s.sup.sentStopped = false ∧
      s.sup.lastBeat + 9700000 ≤ (s.advance t).now) ∧
    (∃ (s : State) (t : Nat),
      s.sup.mode ≠ Mode.off ∧ s.sup.sentStopped = false) ∧
    (∃ (s : State) (t : Nat) (st : Straps),
      s.sup.sentStopped = true) :=
  ⟨⟨sup live (fun x => {x with mode := .off}), 0, by decide +kernel⟩,
   ⟨withSess live, 0, by decide +kernel⟩,
   ⟨sup live (fun x => {x with rstLow := true}), 0, ⟨true, true, false, true, true⟩, by decide +kernel⟩,
   ⟨live, 1300000000, by decide +kernel⟩,
   ⟨live, 1300000000, by decide +kernel⟩,
   ⟨sup live (fun x => {x with rstLow := true, sentStopped := true, mode := .boot}), 0, ⟨true, true, false, true, true⟩, by decide +kernel⟩⟩

theorem wit_SupervisorRows :
    (∃ (s : State) (t : Nat),
      Alone s t 3 ∧ s.sup.mode ≠ Mode.off ∧ s.sup.rstLow = false) ∧
    (∃ (s : State) (t : Nat) (st : Straps),
      s.sup.sentStopped = true ∧ s.sup.bootStart + 800000 ≤ (s.advance t).now) ∧
    (∃ (s : State) (t : Nat),
      s.powered 1 = true ∧ s.sup.coreAlive = true) :=
  ⟨⟨live, 0, by decide +kernel⟩,
   ⟨sup live (fun x => {x with sentStopped := true, mode := .boot}), 1300000000, ⟨true, true, false, true, true⟩, by decide +kernel⟩,
   ⟨live, 0, by decide +kernel⟩⟩

theorem wit_SagClearAndWear :
    (∃ (s : State) (t : Nat),
      s.pwr.sag.isSome = true ∧ s.aonRuns = true) ∧
    (∃ (s : State) (t : Nat) (sector : Nat) (n : Nat),
      s.aonRuns = true) ∧
    (∃ (s : State) (t : Nat) (c : Nat),
      s.sup.mode ≠ Mode.off) ∧
    (∃ (s : State) (t : Nat) (b : Fin 6) (c : Nat) (esr : Nat),
      s.powered 8 = true ∧ s.bit (pageBase Kind.act (2 * ↑b) + 68) 16 = true) :=
  ⟨⟨sup (pwr live (fun x => {x with sag := some 0})) (fun x => {x with mode := .safeHold, safeCause := State.causeSag}), 0, by decide +kernel⟩,
   ⟨live, 0, 3, 7, by decide +kernel⟩,
   ⟨{live with wear := {live.wear with hold9 := 2}}, 0, 2000, by decide +kernel⟩,
   ⟨live.wr (pageBase .act 0 + 0x44) 0x10000#32, 0, 0, 2000, 3, by decide +kernel⟩⟩

theorem wit_RootClock :
    (∃ (s : State) (t : Nat) (count : Nat),
      s.aonRuns = true ∧ ((s.clk.rootLocked = false ∨ (State.countInRange count = true ∧
      ∀ p, s.clk.lastCount = some p → 1000 * ((count : Int) - p).natAbs ≤ p))) ∧ s.clk.windowAt ≠ some (s.advance t).now) ∧
    (∃ (s : State) (t : Nat) (count : Nat),
      s.aonRuns = true ∧ ((s.clk.rootLocked = false ∨ (State.countInRange count = true ∧
      ∀ p, s.clk.lastCount = some p → 1000 * ((count : Int) - p).natAbs ≤ p))) ∧ State.countInRange count = true ∧
      State.spreadOk (List.take 8 (count :: s.clk.run)) = true ∧ 7 ≤ s.clk.run.length ∧ s.clk.windowAt ≠ some (s.advance t).now) ∧
    (∃ (s : State) (t : Nat) (count : Nat) (absent : Bool),
      s.aonRuns = true ∧ (¬(s.clk.rootLocked = false ∨ (State.countInRange count = true ∧
      ∀ p, s.clk.lastCount = some p → 1000 * ((count : Int) - p).natAbs ≤ p))) ∧ s.clk.windowAt ≠ some (s.advance t).now ∧ s.clockFault = false ∧
      s.sup.mode.awake = true ∧ Alone s t 4) ∧
    (∃ (s : State) (t : Nat),
      s.aonRuns = true ∧ s.clk.pllOn = true ∧ s.clk.xrefStable = true ∧ s.clk.rootLocked = false ∧ s.clk.pllAt + 190000 ≤ (s.advance t).now) ∧
    (∃ (s : State) (t : Nat),
      s.aonRuns = true ∧ s.clk.pllOn = true ∧ s.clk.rootLocked = false ∧ s.clk.pllAt + 2000000 ≤ (s.advance t).now) :=
  ⟨⟨live, 0, 1600000, by decide +kernel⟩,
   ⟨clk live (fun x => {x with run := List.replicate 7 1600000, xrefStable := false, pllOn := false}), 0, 1600000, by decide +kernel⟩,
   ⟨clk live (fun x => {x with rootLocked := true, lastCount := some 1600000}), 0, 1700000, false, by decide +kernel⟩,
   ⟨clk (inPhase .clocks) (fun x => {x with pllOn := true, xrefStable := true, rootLocked := false}), 0, by decide +kernel⟩,
   ⟨clk live (fun x => {x with pllOn := true, xrefStable := true, rootLocked := false, fault := 1}), 0, by decide +kernel⟩⟩

theorem wit_ClockFaults :
    (∃ (s : State) (t : Nat) (cause : Nat),
      Alone s t 4 ∧ (cause = 1 ∨ cause = 2) ∧ s.aonRuns = true ∧ s.clockFault = false ∧ s.clk.rootLocked = true ∧ s.sup.mode.awake = true) ∧
    (∃ (s : State) (t : Nat) (cause : Nat),
      Alone s t 4 ∧ (cause = 1 ∨ cause = 2) ∧ s.aonRuns = true ∧ s.clockFault = false ∧ s.clk.rootLocked = true ∧ s.sup.mode = Mode.boot) ∧
    (∃ (s : State) (t : Nat) (dur : Nat) (ovf : Nat),
      s.clockFault = true ∧ s.clk.xrefStable = true ∧ s.clk.rootLocked = true ∧ s.can.rxq = []) :=
  ⟨⟨live, 0, 2, by decide +kernel⟩,
   ⟨inPhase .auth, 0, 1, by decide +kernel⟩,
   ⟨clk (sup (withSess live) (fun x => {x with mode := .safeHold, safeCause := State.causeClock})) (fun x => {x with fault := 1}), 0, 3, 0, by decide +kernel⟩⟩

theorem wit_ReferenceClocks :
    (∃ (s : State) (t : Nat) (t0 : Nat) (cfg : Word) (count : Nat),
      s.clk.fcnt = some (t0, cfg) ∧ fieldOf cfg 7 4 = 15) ∧
    (∃ (s : State) (t : Nat) (t0 : Nat) (cfg : Word) (count : Nat),
      s.clk.fcnt = some (t0, cfg) ∧ (s.advance t).fcntMayClose t0 cfg = true) ∧
    (∃ (s : State) (t : Nat) (t0 : Nat) (cfg : Word),
      s.clk.fcnt = some (t0, cfg) ∧ t0 + 97000000 ≤ (s.advance t).now) ∧
    (∃ (s : State) (t : Nat),
      s.powered 6 = true ∧ s.afe.onRc = true ∧ s.afe.muxRc = false ∧ s.can.rxq = []) ∧
    (∃ (s : State) (t : Nat),
      s.afe.muxRc = true ∧ s.can.rxq = []) ∧
    (∃ (s : State) (t : Nat),
      s.clk.coreOnSentinel = true ∧ s.can.rxq = []) ∧
    (∃ (s : State) (t : Nat),
      s.clockFault = true ∧ s.clk.coreOnSentinel = false ∧ s.can.rxq = []) ∧
    (∃ (s : State) (t : Nat),
      s.powered 4 = true) ∧
    (∃ (s : State) (t : Nat) (count : Nat),
      s.powered 4 = true ∧ s.clk.xrefGone = false ∧ 13 < ((count : Int) - 2600000).natAbs) ∧
    (∃ (s : State) (t : Nat) (count : Nat),
      s.powered 4 = true ∧ s.clk.xrefGone = false ∧ ((count : Int) - 2600000).natAbs ≤ 13 ∧ 7 ≤ s.clk.tcxoRun) :=
  ⟨⟨clk live (fun x => {x with fcnt := some (1200000000, 0xF1#32)}), 1302000000, 1200000000, 0xF1#32, 77, by decide +kernel⟩,
   ⟨clk live (fun x => {x with fcnt := some (1200000000, 0x21#32)}), 1302000000, 1200000000, 0x21#32, 77, by decide +kernel⟩,
   ⟨clk live (fun x => {x with fcnt := some (1200000000, 0x21#32)}), 1302000000, 1200000000, 0x21#32, by decide +kernel⟩,
   ⟨{ live with afe := { live.afe with onRc := true, muxRc := false } }, 0, by decide +kernel⟩,
   ⟨{ live with afe := { live.afe with muxRc := true } }, 0, by decide +kernel⟩,
   ⟨clk live (fun x => {x with coreOnSentinel := true}), 0, by decide +kernel⟩,
   ⟨clk live (fun x => {x with fault := 1}), 0, by decide +kernel⟩,
   ⟨live, 0, by decide +kernel⟩,
   ⟨clk live (fun x => {x with xrefGone := false}), 0, 2600014, by decide +kernel⟩,
   ⟨clk live (fun x => {x with tcxoRun := 7, xrefGone := false}), 0, 2600013, by decide +kernel⟩⟩

theorem wit_SupplyRows :
    (∃ (s : State) (t : Nat) (vl : Nat) (il : Nat) (vfa : Nat) (ifa : Nat) (vff : Nat) (iff : Nat) (vr : Nat) (ir : Nat),
      s.aonRuns = true) ∧
    (∃ (s : State) (t : Nat),
      s.aonRuns = true ∧ s.pwr.vlLow = false) ∧
    (∃ (s : State) (t : Nat),
      s.pwr.vlLow = true) ∧
    (∃ (s : State) (t : Nat),
      s.aonRuns = true ∧ s.pwr.vffUv = false) ∧
    (∃ (s : State) (t : Nat),
      s.pwr.vffUv = true) :=
  ⟨⟨live, 0, 20000, 30000, 1, 2, 3, 4, 5, 6, by decide +kernel⟩,
   ⟨live, 0, by decide +kernel⟩,
   ⟨pwr live (fun x => {x with vlLow := true}), 0, by decide +kernel⟩,
   ⟨live, 0, by decide +kernel⟩,
   ⟨pwr live (fun x => {x with vffUv := true}), 0, by decide +kernel⟩⟩

theorem wit_SagRows :
    (∃ (s : State) (t : Nat) (vl : Nat),
      Alone s t 5 ∧ s.aonRuns = true ∧ s.pwr.sag = none ∧ s.sup.mode.awake = true ∧ s.pwr.vlLow = true ∧ s.ledgerJudges = true ∧
      F64.le (s.eHu vl) (F64.add (F64.dec 120 3) (F64.dec (↑(s.fld (pwrBase + 76) 31 24)) 3)) = true) ∧
    (∃ (s : State) (t : Nat) (vl : Nat),
      Alone s t 5 ∧ s.aonRuns = true ∧ s.pwr.sag = none ∧ s.sup.mode.awake = true ∧ s.ledgerJudges = false) ∧
    (∃ (s : State) (t : Nat),
      s.pwr.sagData.isSome = true) ∧
    (∃ (s : State) (t : Nat) (sector : Nat) (n : Nat),
      s.pwr.sag.isSome = true) :=
  ⟨⟨pwr live (fun x => {x with vlLow := true}), 0, 0, by decide +kernel⟩,
   ⟨live.wr clkEnAddr 0#32, 0, 0, by decide +kernel⟩,
   ⟨pwr live (fun x => {x with sagData := some 0, sag := some 0}), 0, by decide +kernel⟩,
   ⟨pwr live (fun x => {x with sag := some 0}), 0, 3, 7, by decide +kernel⟩⟩

theorem wit_StagesAndDomains :
    (∃ (s : State) (t : Nat) (st : Nat),
      s.aonRuns = true ∧ s.pwr.vfaStage < st ∧ st ≤ 3) ∧
    (∃ (s : State) (t : Nat) (st : Nat),
      s.aonRuns = true ∧ 1 ≤ st ∧ st ≤ s.pwr.vfaStage) ∧
    (∃ (s : State) (t : Nat) (n : Nat),
      s.powering n = true ∧ s.sup.mode ≠ Mode.boot) ∧
    (∃ (s : State) (t : Nat) (n : Nat),
      s.wanted n = false ∧ (domEnables n).isEmpty = false ∧ s.powered n = true) ∧
    (∃ (s : State) (t : Nat) (n : Nat),
      s.aonRuns = true ∧ s.powered n = true ∧ (domEnables n).isEmpty = false) ∧
    (∃ (s : State) (t : Nat) (n : Nat),
      s.aonRuns = true ∧ s.powered n = true ∧ (n = 1 ∨ n = 5)) :=
  ⟨⟨live, 0, 3, by decide +kernel⟩,
   ⟨pwr live (fun x => {x with vfaStage := 3}), 0, 3, by decide +kernel⟩,
   ⟨pwr live (fun x => {x with powered := 0x2F}), 0, 8, by decide +kernel⟩,
   ⟨live.wr clkEnAddr 0#32, 0, 8, by decide +kernel⟩,
   ⟨live, 0, 8, by decide +kernel⟩,
   ⟨live, 0, 5, by decide +kernel⟩⟩

theorem wit_RechargeGrants :
    ∃ (s : State) (t : Nat) (iVfa : Nat) (iVff : Nat),
      s.arbRuns = true ∧ s.arb.pending = [] ∧ s.arb.inrush = [] :=
  ⟨live, 0, 100, 0, by decide +kernel⟩

theorem wit_LedgerRows :
    (∃ (s : State) (t : Nat),
      s.clocked Kind.ledger = true ∧ s.clockFault = false) ∧
    (∃ (s : State) (t : Nat),
      s.aonRuns = true ∧ s.powered 1 = true) ∧
    (∃ (s : State) (t : Nat),
      s.led.energyLimit = true ∧ s.led.limiting = false ∧ s.led.rcut = false ∧ s.led.limitEnd + 1000000000 ≤ (s.advance t).now ∧
      (∀ (n : Fin 12), (s.bank n).queue = [])) :=
  ⟨⟨live, 0, by decide +kernel⟩,
   ⟨led live (fun x => {x with secSum := [5000,3,3,3], secN := 2}), 0, by decide +kernel⟩,
   ⟨led (sup live (fun x => {x with mode := .constrained})) (fun x => {x with energyLimit := true}), 0, by decide +kernel⟩⟩

theorem wit_EffectiveThreshold :
    (∃ (s : State) (n : Fin 10),
      (s.wear.ended[4] = true ∨ s.wear.ended[7] = true ∧ (n = 2 ∨ n = 4))) ∧
    (∃ (s : State) (n : Fin 10),
      (¬(s.wear.ended[4] = true ∨ s.wear.ended[7] = true ∧ (n = 2 ∨ n = 4)))) ∧
    (∃ (s : State) (n : Fin 10) (k : Nat),
      (s.sensor n).stage = Stage.enforce k) ∧
    (∃ (s : State) (n : Fin 10),
      (s.sensor n).stage = Stage.request) ∧
    (∃ (s : State) (n : Fin 10) (x : Sensor) (lim : Int),
      lim ∈ x.hist) :=
  ⟨⟨{live with wear := {live.wear with ended := live.wear.ended.set 7 true}}, 4, by decide +kernel⟩,
   ⟨live, 3, by decide +kernel⟩,
   ⟨sensor live 3 (fun x => {x with stage := .enforce 2}), 3, 2, by decide +kernel⟩,
   ⟨sensor live 3 (fun x => {x with stage := .request}), 3, by decide +kernel⟩,
   ⟨live, 3, {Sensor.init with hist := [5,6,7,8]}, 5, by decide +kernel⟩⟩

theorem wit_EnforcementLevel :
    (∃ (s : State) (n : Fin 10) (k : Nat),
      s.sensors[n].stage = Stage.enforce k) ∧
    (∃ (s : State),
      s.sup.mode = Mode.run ∧ 0 < s.enfLevel) ∧
    (∃ (s : State),
      s.sup.mode = Mode.constrained ∧ s.enfLevel = 0 ∧ s.led.energyLimit = false) :=
  ⟨⟨sensor live 3 (fun x => {x with stage := .enforce 2}), 3, 2, by decide +kernel⟩,
   ⟨sensor live 3 (fun x => {x with stage := .enforce 2}), by decide +kernel⟩,
   ⟨sup live (fun x => {x with mode := .constrained}), by decide +kernel⟩⟩

theorem wit_ThermalRows :
    (∃ (s : State) (t : Nat) (v : Vector Sensed 10) (n : Fin 10) (mv : Nat) (milli : Int),
      s.aonRuns = true ∧ s.tsType n = 1 ∧ Alone s t 2 ∧ v[n] = Sensed.diode mv milli) ∧
    (∃ (s : State) (t : Nat) (n : Fin 10),
      (s.sensor n).stage = Stage.request ∧ s.thrEn n = true ∧ (s.sensor n).graceAt + s.fld (thermBase + 64) 9 0 * 1000000000 ≤ (s.advance t).now) ∧
    (∃ (s : State) (t : Nat) (mask : Nat),
      s.sup.straps.shdnOpen = true) ∧
    (∃ (s : State) (t : Nat) (mask : Nat),
      Alone s t 2 ∧ s.aonRuns = true ∧ s.armedTrips mask ≠ 0 ∧ s.sup.mode ≠ Mode.thermalOff) ∧
    (∃ (s : State) (t : Nat) (mask : Nat) (n : Fin 6),
      s.sup.straps.shdnOpen = false ∧ s.sensors[↑n].broken = true) ∧
    (∃ (s : State) (t : Nat) (mask : Nat),
      Alone s t 2 ∧ s.aonRuns = true ∧ s.armedTrips mask ≠ 0 ∧ s.sup.mode = Mode.thermalOff) ∧
    (∃ (s : State) (t : Nat) (v : Vector Sensed 10) (n : Fin 10),
      s.aonRuns = true ∧ s.tsType n ≠ 0 ∧ Alone s t 2 ∧ (∀ (b : Nat), reading (s.tsType n) b v[n] = none)) ∧
    (∃ (s : State) (t : Nat) (v : Vector Sensed 10),
      s.aonRuns = true ∧ s.sup.mode = Mode.thermalOff ∧ (∀ (n : Fin 10), ↑n < 6 → s.tsType n = 1) ∧
      (∀ (n : Fin 10), ↑n < 6 → (fun n => Option.any (fun x => decide (x ≤ (↑s.tCrit - 20) * 64)) (reading 1 0 v[n])) n = true) ∧
      s.sup.thermalAt + 60000000000 ≤ (s.advance t).now ∧ (s.advance t).thermCount < 3 ∧ s.sup.thermHold = false) ∧
    (∃ (s : State) (t : Nat) (v : Vector Sensed 10),
      s.aonRuns = true ∧ s.sup.mode = Mode.thermalOff ∧ Alone s t 2 ∧
      s.sup.thermHold = true ∨ 3 ≤ (s.advance t).thermCount ∨ (s.advance t).now < s.sup.thermalAt + 60000000000 ∨ ∃ n, ↑n < 6 ∧ s.tsType n = 1 ∧
      (reading 1 0 v[n]).isSome = true ∧ (fun n => Option.any (fun x => decide (x ≤ (↑s.tCrit - 20) * 64)) (reading 1 0 v[n])) n = false) :=
  ⟨⟨put live (State.tsCfg 3) 0x101, 0, Vector.replicate 10 (.diode 100 3), 3, 100, 3, by decide +kernel⟩,
   ⟨put (sensor live 3 (fun x => {x with stage := .request})) (State.tsCfg 3) 0x101, 100000000000, 3, by decide +kernel⟩,
   ⟨sup live onChip, 0, 5, by decide +kernel⟩,
   ⟨sup live onChip, 0, 5, by decide +kernel⟩,
   ⟨sensor (sup live (fun x => { x with straps := ⟨true, true, false, false, true⟩ })) 2 (fun x => { x with broken := true }), 0, 63, 2, by decide +kernel⟩,
   ⟨sup live (fun x => onChip {x with mode := .thermalOff}), 0, 5, by decide +kernel⟩,
   ⟨put live (State.tsCfg 3) 0x101, 0, Vector.replicate 10 (.ntc 100), 3, by decide +kernel, by decide +kernel, by decide +kernel, fun _ => by rw [show (put live (State.tsCfg 3) 0x101).tsType 3 = 1 by decide +kernel]; rfl⟩,
   ⟨toff id, 100000000000, Vector.replicate 10 (.diode 500 30000), by decide +kernel⟩,
   ⟨toff (fun x => {x with thermHold := true}), 100000000000, Vector.replicate 10 (.diode 500 30000), by decide +kernel⟩⟩

theorem wit_FanRegulation :
    (∃ (s : State) (t : Nat) (f : Fin 8) (iPeak : Nat) (iMean : Nat),
      s.fanLive = true) ∧
    (∃ (s : State) (t : Nat) (f : Fin 8),
      s.sup.safeNet = true) ∧
    (∃ (s : State) (t : Nat) (f : Fin 8),
      s.sup.safeNet = false ∧ (s.powered 11 && s.clocked Kind.fan && s.en (fanBase ↑f)) = false ∧ (s.fan f).st ≠ FanState.off) ∧
    (∃ (s : State) (t : Nat) (f : Fin 8) (d : Nat) (k : Bool),
      s.sup.safeNet = false ∧ s.powered 11 = true ∧ s.clocked .fan = true ∧ s.en (fanBase f) = true ∧ (s.fan f).overload = false ∧
      (s.fan f).shortSup = false ∧ s.pwr.vffUv = false ∧ (s.fan f).st = .run ∧
      ({ s with fans := s.fans.set f { s.fan f with waiting := false, thermOff := s.thermStopped f } } : State).fanTarget f = .duty d k ∧ d ≠ 0) ∧
    (∃ (s : State) (t : Nat) (f : Fin 8) (gap : Option Nat) (len : Nat),
      s.fanLive = true ∧ (s.fan f).duty ≠ 0 ∧ s.ppr f ≠ 0) ∧
    (∃ (s : State) (t : Nat) (f : Fin 8),
      s.sup.safeNet = false ∧ s.powered 11 = true ∧ s.clocked Kind.fan = true ∧ s.en (fanBase ↑f) = true ∧ (s.fan f).overload = false ∧
      (s.fan f).shortSup = false ∧ s.pwr.vffUv = true ∧ (s.fan f).st = FanState.run) :=
  ⟨⟨fl, 0, 1, 30, 20, by decide +kernel⟩,
   ⟨sup fl (fun x => {x with safeNet := true}), 0, 1, by decide +kernel⟩,
   ⟨fanOf live 1 (fun x => {x with duty := 500, st := .run}), 0, 1, by decide +kernel⟩,
   ⟨fanOf (put (put fl (fanBase 1 + 0x40) 0x200) (fanBase 1 + 0x4C) 700) 1 (fun x => {x with duty := 500, st := .run}), 0, 1, 700, true, by decide +kernel⟩,
   ⟨fanOf (put fl (fanBase 1 + 0x40) 0x200) 1 (fun x => {x with duty := 500}), 0, 1, some 4000, 70000, by decide +kernel⟩,
   ⟨pwr (fanOf (put (put fl (fanBase 1 + 0x40) 0x200) (fanBase 1 + 0x4C) 700) 1 (fun x => {x with duty := 500, st := .run})) (fun x => {x with vffUv := true}), 0, 1, by decide +kernel⟩⟩

theorem wit_FanStartsAndFaults :
    (∃ (s : State) (t : Nat) (f : Fin 8),
      s.fanLive = true ∧ (s.fan f).st = FanState.off ∧ (s.fan f).offSince + 1000000000 ≤ (s.advance t).now ∧ (s.fanTarget f).runs = true ∧
      s.sup.safeNet = false) ∧
    (∃ (s : State) (t : Nat) (f : Fin 8),
      s.fanLive = true ∧ (s.fan f).st = FanState.stallWait ∧ (s.fan f).shortSup = false ∧ s.sup.safeNet = false ∧
      (s.fan f).stallAt + s.fld (fanBase ↑f + 68) 25 16 * 1000000000 ≤ (s.advance t).now) ∧
    (∃ (s : State) (t : Nat) (f : Fin 8) (iVff : Nat) (r : Inrush),
      s.fanLive = true ∧ s.arbRuns = false ∧ s.arb.inrush = [r] ∧ s.pwr.vffUv = false ∧
      ↑(r.amps * 10) ≤ ↑(s.fld (pwrBase + 72) 4 0 * 100) - ↑iVff - ↑s.inrushHeld) ∧
    (∃ (s : State) (t : Nat) (f : Fin 8),
      (s.fan f).st = FanState.starting ∧ (s.fan f).waiting = false ∧ s.rpmMax f ≤ 5 * s.fanSpeed f) ∧
    (∃ (s : State) (t : Nat) (f : Fin 8) (i : Nat),
      (s.fan f).st = FanState.kick ∧ (s.fan f).waiting = false ∧ s.pwr.vffUv = false ∧ (s.fan f).startReq + 3000000000 ≤ (s.advance t).now ∧ s.ppr f ≠ 0) ∧
    (∃ (s : State) (t : Nat) (f : Fin 8) (i : Nat),
      (s.fan f).duty ≠ 0 ∧ (s.fan f).st ≠ FanState.kick ∧ s.fanLive = true ∧ s.sup.safeNet = false ∧ s.pwr.vffUv = false ∧ 15 * s.fanCfg f 4 0 < i) ∧
    (∃ (s : State) (t : Nat) (f : Fin 8),
      (s.fan f).duty ≠ 0 ∧ s.sup.safeNet = false) ∧
    (∃ (s : State) (t : Nat) (f : Fin 8),
      (s.fan f).duty ≠ 0) ∧
    (∃ (s : State) (t : Nat) (f : Fin 8) (h : Fin 8),
      (s.fan f).duty ≠ 0 ∧ (s.fan h).duty = 0) ∧
    (∃ (s : State) (t : Nat) (f : Fin 8) (i : Nat),
      (s.fan f).duty ≠ 0 ∧ (s.fan f).st = FanState.kick ∧ s.fanLive = true ∧ s.sup.safeNet = false ∧ s.pwr.vffUv = false ∧ 15 * s.fanCfg f 4 0 < i) :=
  ⟨⟨fanOf fx 1 (fun x => {x with duty := 0, st := .off}), 1300000000, 1, by decide +kernel⟩,
   ⟨fanOf fx 1 (fun x => {x with duty := 0, st := .stallWait}), 1300000000, 1, by decide +kernel⟩,
   ⟨put (arb (put fx clkEnAddr 0x80000) (fun x => {x with inrush := [⟨1, 5, 0⟩]})) (pwrBase + 0x48) 20, 1300000000, 1, 3, ⟨1, 5, 0⟩, by decide +kernel⟩,
   ⟨fanOf (arb fx (fun x => {x with inrushHeld := [⟨1, 5, 0⟩]})) 1 (fun x => {x with duty := 10, st := .starting, speed := 1000}), 1300000000, 1, by decide +kernel⟩,
   ⟨fanOf (arb fx (fun x => {x with inrushHeld := [⟨1, 5, 0⟩]})) 1 (fun x => {x with duty := 10, st := .kick, startReq := 0}), 3300000000, 1, 3, by decide +kernel⟩,
   ⟨fanOf fx 1 (fun x => {x with duty := 10, st := .run}), 1300000000, 1, 31, by decide +kernel⟩,
   ⟨fanOf fx 1 (fun x => {x with duty := 10, st := .run}), 1300000000, 1, by decide +kernel⟩,
   ⟨fanOf fx 1 (fun x => {x with duty := 10, st := .run}), 1300000000, 1, by decide +kernel⟩,
   ⟨fanOf fx 1 (fun x => {x with duty := 10, st := .run}), 1300000000, 1, 2, by decide +kernel⟩,
   ⟨fanOf fx 1 (fun x => {x with duty := 10, st := .kick}), 1300000000, 1, 31, by decide +kernel⟩⟩

theorem wit_EventsAreJudged :
    (∃ (s : State) (t : Nat) (n : Fin 12) (k : Fin 4) (ev : Event),
      (s.atBank t n).actLive n = true ∧ s.time.stepDue = false ∧ ((s.atBank t n).bank n).queue = [ev] ∧ ev.ch = ↑k ∧
      (∀ (j : Fin 4), ((s.atBank t n).chan n j).next = none) ∧ ((s.atBank t n).chan n k).switchOff = none ∧ ((s.atBank t n).chan n k).ctx.active = false ∧
      ((s.atBank t n).chan n k).conduct = false ∧ uopOf (s.storeWord (↑n) (s.fld (ucBase ↑n + 128 + 4 * ev.prof) 8 0)) = some UOp.hld ∧ ev.held = 0 ∧
      (s.atBank t n).dueOf n ev ≤ (s.atBank t n).hwNs ∧ (((s.atBank t n).bank n).lock = true ∨ ((s.atBank t n).chan n k).fault ≠ 0)) ∧
    (∃ (s : State) (t : Nat) (n : Fin 12) (k : Fin 4) (ev : Event),
      (s.atBank t n).actLive n = true ∧ s.time.stepDue = false ∧ ((s.atBank t n).bank n).queue = [ev] ∧ ev.ch = ↑k ∧
      (∀ (j : Fin 4), ((s.atBank t n).chan n j).next = none) ∧ ((s.atBank t n).chan n k).switchOff = none ∧ ((s.atBank t n).chan n k).ctx.active = false ∧
      ((s.atBank t n).chan n k).conduct = false ∧ uopOf (s.storeWord (↑n) (s.fld (ucBase ↑n + 128 + 4 * ev.prof) 8 0)) = some UOp.hld ∧ ev.held = 0 ∧
      (s.atBank t n).dueOf n ev ≤ (s.atBank t n).hwNs ∧ ((s.atBank t n).bank n).lock = false ∧ ((s.atBank t n).chan n k).fault = 0 ∧
      (s.atBank t n).gate3 ev = false) ∧
    (∃ (s : State) (t : Nat) (n : Fin 12) (k : Fin 4) (ev : Event),
      (s.atBank t n).actLive n = true ∧ s.time.stepDue = false ∧ ((s.atBank t n).bank n).queue = [ev] ∧ ev.ch = ↑k ∧
      (∀ (j : Fin 4), ((s.atBank t n).chan n j).next = none) ∧ ((s.atBank t n).chan n k).switchOff = none ∧ ((s.atBank t n).chan n k).ctx.active = false ∧
      ((s.atBank t n).chan n k).conduct = false ∧ uopOf (s.storeWord (↑n) (s.fld (ucBase ↑n + 128 + 4 * ev.prof) 8 0)) = some UOp.hld ∧ ev.held = 0 ∧
      (s.atBank t n).dueOf n ev ≤ (s.atBank t n).hwNs ∧ ((s.atBank t n).bank n).lock = false ∧ ((s.atBank t n).chan n k).fault = 0 ∧
      (s.atBank t n).gate3 ev = true ∧ (s.atBank t n).gate4 n ev = true ∧ (s.atBank t n).gate5 n ev (slotCeil (s.atBank t n).hwNs) = true) ∧
    (∃ (s : State) (t : Nat) (n : Fin 12) (k : Fin 4) (ev : Event),
      (s.atBank t n).actLive n = true ∧ s.time.stepDue = false ∧ ((s.atBank t n).bank n).queue = [ev] ∧ ev.ch = ↑k ∧
      (∀ (j : Fin 4), ((s.atBank t n).chan n j).next = none) ∧ ((s.atBank t n).chan n k).switchOff = none ∧ ((s.atBank t n).chan n k).ctx.active = false ∧
      ((s.atBank t n).chan n k).conduct = false ∧ uopOf (s.storeWord (↑n) (s.fld (ucBase ↑n + 128 + 4 * ev.prof) 8 0)) = some UOp.hld ∧
      (ev.held = 3 ∨ ev.held = 4) ∧ ((s.atBank t n).chan n k).minOffEnd ≤ (s.atBank t n).hwNs ∧
      (((s.atBank t n).bank n).lock = true ∨ ((s.atBank t n).chan n k).fault ≠ 0)) ∧
    (∃ (s : State) (t : Nat) (n : Fin 12) (k : Fin 4) (ev : Event),
      (s.atBank t n).actLive n = true ∧ s.time.stepDue = false ∧ ((s.atBank t n).bank n).queue = [ev] ∧ ev.ch = ↑k ∧
      (∀ (j : Fin 4), ((s.atBank t n).chan n j).next = none) ∧ ((s.atBank t n).chan n k).switchOff = none ∧ ((s.atBank t n).chan n k).ctx.active = false ∧
      ((s.atBank t n).chan n k).conduct = false ∧ uopOf (s.storeWord (↑n) (s.fld (ucBase ↑n + 128 + 4 * ev.prof) 8 0)) = some UOp.hld ∧
      (ev.held = 3 ∨ ev.held = 4) ∧ ((s.atBank t n).chan n k).minOffEnd ≤ (s.atBank t n).hwNs ∧ ((s.atBank t n).bank n).lock = false ∧
      ((s.atBank t n).chan n k).fault = 0 ∧ (s.atBank t n).gate3 ev = false) ∧
    (∃ (s : State) (t : Nat) (n : Fin 12) (k : Fin 4) (ev : Event),
      (s.atBank t n).actLive n = true ∧ s.time.stepDue = false ∧ ((s.atBank t n).bank n).queue = [ev] ∧ ev.ch = ↑k ∧
      (∀ (j : Fin 4), ((s.atBank t n).chan n j).next = none) ∧ ((s.atBank t n).chan n k).switchOff = none ∧ ((s.atBank t n).chan n k).ctx.active = false ∧
      ((s.atBank t n).chan n k).conduct = false ∧ uopOf (s.storeWord (↑n) (s.fld (ucBase ↑n + 128 + 4 * ev.prof) 8 0)) = some UOp.hld ∧
      (ev.held = 3 ∨ ev.held = 4) ∧ ((s.atBank t n).chan n k).minOffEnd ≤ (s.atBank t n).hwNs ∧ ((s.atBank t n).bank n).lock = false ∧
      ((s.atBank t n).chan n k).fault = 0 ∧ (s.atBank t n).gate3 ev = true ∧ (s.atBank t n).gate4 n ev = true ∧
      (s.atBank t n).gate5 n ev (s.atBank t n).hwNs = true) ∧
    (∃ (s : State) (t : Nat) (n : Fin 12) (k : Fin 4) (ev : Event) (h : Nat) (o : Nat),
      (s.atBank t n).actLive n = true ∧ s.time.stepDue = false ∧ ((s.atBank t n).bank n).queue = [ev] ∧ ev.ch = ↑k ∧
      (∀ (j : Fin 4), ((s.atBank t n).chan n j).next = none) ∧ ((s.atBank t n).chan n k).switchOff = none ∧ ((s.atBank t n).chan n k).ctx.active = false ∧
      ((s.atBank t n).chan n k).conduct = false ∧ uopOf (s.storeWord (↑n) (s.fld (ucBase ↑n + 128 + 4 * ev.prof) 8 0)) = some UOp.hld ∧
      (h, o) ∈ [(3, 16), (4, 17), (5, 18)] ∧ ev.held = h ∧ ev.latest ≤ (s.atBank t n).hwNs) ∧
    (∃ (s : State) (t : Nat) (n : Fin 12) (k : Fin 4) (ev : Event),
      (s.atBank t n).actLive n = true ∧ s.time.stepDue = false ∧ ((s.atBank t n).bank n).queue = [ev] ∧ ev.ch = ↑k ∧
      (∀ (j : Fin 4), ((s.atBank t n).chan n j).next = none) ∧ ((s.atBank t n).chan n k).switchOff = none ∧ ((s.atBank t n).chan n k).ctx.active = false ∧
      ((s.atBank t n).chan n k).conduct = false ∧ uopOf (s.storeWord (↑n) (s.fld (ucBase ↑n + 128 + 4 * ev.prof) 8 0)) = some UOp.hld ∧ ev.held = 4 ∧
      ev.dueAt + s.fld (chAddr (↑n) (↑k) 256) 31 16 * 1000 ≤ (s.atBank t n).hwNs) :=
  ⟨⟨bankL id, 1300000000, 0, 0, ev0, by decide +kernel⟩,
   ⟨hot id, 1300000000, 0, 0, ev0, by decide +kernel⟩,
   ⟨bankQ id, 1300000000, 0, 0, ev0, by decide +kernel⟩,
   ⟨bankL (fun e => {e with held := 4}), 1300000000, 0, 0, {ev0 with held := 4}, by decide +kernel⟩,
   ⟨hot (fun e => {e with held := 4}), 1300000000, 0, 0, {ev0 with held := 4}, by decide +kernel⟩,
   ⟨bankQ (fun e => {e with held := 3}), 1300000000, 0, 0, {ev0 with held := 3}, by decide +kernel⟩,
   ⟨bankQ (fun e => {e with held := 5, latest := 5}), 1300000000, 0, 0, {ev0 with held := 5, latest := 5}, 5, 18, by decide +kernel⟩,
   ⟨bankQ (fun e => {e with held := 4}), 1300000000, 0, 0, {ev0 with held := 4}, by decide +kernel⟩⟩

theorem wit_ChannelTimes :
    (∃ (s : State) (t : Nat) (n : Fin 12) (k : Fin 4) (m : OffMode) (e : Nat),
      s.time.stepDue = false ∧ ((s.atBank t n).chan n k).switchOff = some m) ∧
    (∃ (s : State) (t : Nat) (n : Fin 12) (k : Fin 4) (ev : Event),
      s.time.stepDue = false ∧ (s.atBank t n).actLive n = true ∧ ((s.atBank t n).chan n k).next = some ev ∧ ((s.atBank t n).chan n k).switchOff = none ∧
      ((s.atBank t n).bank n).lock = false ∧ ((s.atBank t n).chan n k).fault = 0 ∧ ((s.atBank t n).chan n k).minOffEnd ≤ (s.atBank t n).hwNs + 1000 ∧
      ((s.atBank t n).chan n k).minOffEnd ≤ ev.latest) ∧
    (∃ (s : State) (t : Nat) (n : Fin 12) (k : Fin 4) (ev : Event),
      s.time.stepDue = false ∧ (s.atBank t n).actLive n = true ∧ ((s.atBank t n).chan n k).next = some ev ∧ ((s.atBank t n).chan n k).switchOff = none ∧
      (((s.atBank t n).bank n).lock = true ∨ ((s.atBank t n).chan n k).fault ≠ 0) ∧ ((s.atBank t n).chan n k).minOffEnd ≤ (s.atBank t n).hwNs ∧ ev.ch = ↑k) ∧
    (∃ (s : State) (t : Nat) (n : Fin 12) (k : Fin 4),
      s.time.stepDue = false ∧ ((s.atBank t n).chan n k).ctx.active = true ∧
      (((s.atBank t n).chan n k).ctx.phase = Phase.boost ∨ ((s.atBank t n).chan n k).ctx.phase = Phase.peak) ∧
      200000 ≤ ((s.atBank t n).chan n k).ctx.tph (s.atBank t n).now) ∧
    (∃ (s : State) (t : Nat) (n : Fin 12) (k : Fin 4),
      s.time.stepDue = false) ∧
    (∃ (s : State) (t : Nat) (n : Fin 12) (k : Fin 4) (p : NextPhase),
      s.time.stepDue = false ∧ (s.chan n k).ctx.next = some p ∧ p.at_ ≤ (s.atBank t n).now) ∧
    (∃ (s : State) (t : Nat) (n : Fin 12) (k : Fin 4) (p : NextPhase),
      s.time.stepDue = false ∧ (s.chan n k).ctx.next = some p ∧ (s.atBank t n).now < p.at_) ∧
    (∃ (s : State) (t : Nat) (n : Fin 12) (k : Fin 4) (i0 : Nat) (i1 : Nat) (i2 : Nat) (i3 : Nat) (hs : Nat),
      s.time.stepDue = false ∧ s.powered 8 = true ∧ s.clocked Kind.act = true ∧ s.clockFault = false) :=
  ⟨⟨chs (fun c => {c with switchOff := some .fast, conduct := true, run := some {run0 with ending := some 5}}), 0, 0, 1, .fast, 3, by decide +kernel⟩,
   ⟨chs (fun c => {c with next := some ev0}), 0, 0, 1, ev0, by decide +kernel⟩,
   ⟨(chs (fun c => {c with next := some {ev0 with ch := 1}})).updBank 0 (fun b => {b with lock := true}), 0, 0, 1, {ev0 with ch := 1}, by decide +kernel⟩,
   ⟨arb (chs (fun c => {c with ctx := {c.ctx with active := true, phase := .peak, tph0 := some 0, itgt := 900}})) (fun a => a), 1300000000, 0, 1, by decide +kernel⟩,
   ⟨(enable live (actBase 0)).updBank 0 (fun b => {b with wins := [⟨0, 0, some 5⟩, ⟨1, 0, none⟩]}), 0, 0, 1, by decide +kernel⟩,
   ⟨chs (fun c => {c with run := some {run1 with begun := false}, ctx := {c.ctx with active := true, pc := 511, refused := true, refWin := true, next := some ph0}}), 1500000000, 0, 1, ph0, by decide +kernel⟩,
   ⟨chs (fun c => {c with run := some {run1 with begun := false}, ctx := {c.ctx with active := true, pc := 511, refused := true, refWin := true, next := some ph0}}), 1300000000, 0, 1, ph0, by decide +kernel⟩,
   ⟨chs (fun c => {c with run := some run0, conduct := true, ctx := {c.ctx with active := true, onInt := true, phase := .hold, tph0 := some 0, itgt := 90, tonMin := 10}}), 1300000000, 0, 1, 1, 100, 1, 1, 1, by decide +kernel⟩⟩

theorem wit_OffStateTest :
    (∃ (s : State) (t : Nat) (n : Fin 12),
      s.time.stepDue = false ∧ (s.atBank t n).actLive n = true ∧ s.bit (actBase ↑n + 64) 16 = true ∧ s.sup.mode ≠ Mode.maintenance ∧
      (∀ (p : Nat), ((s.atBank t n).bank n).lastTest = some p → p + s.fld (actBase ↑n + 64) 9 0 * 1000000 ≤ (s.atBank t n).now) ∧
      (∀ (k : Fin 4), ((s.atBank t n).chan n k).i < 5 ∧ ((s.atBank t n).chan n k).conduct = false ∧
      (((s.atBank t n).chan n k).next = none ∨ (s.atBank t n).hwNs + 250000 < ((s.atBank t n).chan n k).minOffEnd)) ∧
      (∀ (ev : Event), ev ∈ ((s.atBank t n).bank n).queue → (s.atBank t n).hwNs + 250000 < (s.atBank t n).dueOf n ev ∨ ev.held ≠ 0)) ∧
    (∃ (s : State) (t : Nat) (n : Fin 12) (v : Nat) (vu : Vector Nat 4) (vd : Vector Nat 4),
      s.time.stepDue = false ∧ ((s.atBank t n).bank n).testing = true) :=
  ⟨⟨put (enable live (actBase 0)) (actBase 0 + 0x40) 0x10000, 0, 0, by decide +kernel⟩,
   ⟨(enable live (actBase 0)).updBank 0 (fun b => {b with testing := true}), 0, 0, 1000, #v[3200,4000,1000,4000], #v[1800,1000,1000,4000], by decide +kernel⟩⟩

theorem wit_BankMonitors :
    (∃ (s : State) (t : Nat) (n : Fin 12) (k : Fin 4),
      s.time.stepDue = false ∧ ((s.atBank t n).chan n k).conduct = true) ∧
    (∃ (s : State) (t : Nat) (n : Fin 12) (k : Fin 4),
      s.time.stepDue = false ∧ ((s.atBank t n).chan n k).conduct = true) ∧
    (∃ (s : State) (t : Nat) (n : Fin 12) (k : Fin 4),
      s.time.stepDue = false ∧ ((s.atBank t n).chan n k).conduct = true) ∧
    (∃ (s : State) (t : Nat) (n : Fin 12) (k : Fin 4),
      s.time.stepDue = false ∧ ((s.atBank t n).chan n k).conduct = true) ∧
    (∃ (s : State) (t : Nat) (n : Fin 12) (k : Fin 4),
      s.time.stepDue = false ∧ ((s.atBank t n).chan n k).conduct = true) ∧
    (∃ (s : State) (t : Nat) (n : Fin 12) (k : Fin 4),
      s.time.stepDue = false ∧ ((s.atBank t n).chan n k).conduct = true) ∧
    (∃ (s : State) (t : Nat) (n : Fin 12) (k : Fin 4),
      s.time.stepDue = false ∧ ((s.atBank t n).chan n k).conduct = true ∧ ((s.atBank t n).chan n k).ctx.active = true ∧
      20 ≤ ((s.atBank t n).chan n k).ctx.itgt ∧ 20000 ≤ ((s.atBank t n).chan n k).ctx.tph (s.atBank t n).now ∧ ((s.atBank t n).chan n k).i < 10) ∧
    (∃ (s : State) (t : Nat) (n : Fin 12) (k : Fin 4),
      s.time.stepDue = false ∧ (s.chan n k).switchOff = some OffMode.regen) ∧
    (∃ (s : State) (t : Nat) (n : Fin 12) (k : Fin 4) (v : Nat),
      s.time.stepDue = false ∧ s.powered 8 = true ∧ s.clocked Kind.act = true ∧ s.clockFault = false) :=
  ⟨⟨bm, 0, 0, 1, by decide +kernel⟩,
   ⟨bm, 0, 0, 1, by decide +kernel⟩,
   ⟨bm, 0, 0, 1, by decide +kernel⟩,
   ⟨bm, 0, 0, 1, by decide +kernel⟩,
   ⟨bm, 0, 0, 1, by decide +kernel⟩,
   ⟨bm, 0, 0, 1, by decide +kernel⟩,
   ⟨bm, 1300000000, 0, 1, by decide +kernel⟩,
   ⟨bm.updChan 0 1 (fun c => {c with switchOff := some .regen}), 0, 0, 1, by decide +kernel⟩,
   ⟨bm, 0, 0, 1, 500, by decide +kernel⟩⟩

theorem wit_MicrocodeContext :
    (∃ (s : State) (t : Nat) (n : Fin 12) (k : Fin 4) (w : Word),
      s.time.stepDue = false ∧ (s.atBank t n).issue n k UOp.nop = some w) ∧
    (∃ (s : State) (t : Nat) (n : Fin 12) (k : Fin 4) (w : Word),
      s.time.stepDue = false ∧ (s.atBank t n).issue n k UOp.jmp = some w) ∧
    (∃ (s : State) (t : Nat) (n : Fin 12) (k : Fin 4) (w : Word),
      s.time.stepDue = false ∧ (s.atBank t n).issue n k UOp.bc = some w ∧ fieldOf w 25 22 = 0 ∧ ((s.atBank t n).chan n k).ctx.refused = true) ∧
    (∃ (s : State) (t : Nat) (n : Fin 12) (k : Fin 4) (w : Word),
      s.time.stepDue = false ∧ (s.atBank t n).issue n k UOp.bc = some w ∧ fieldOf w 25 22 = 0 ∧ ¬((s.atBank t n).chan n k).ctx.refused = true) ∧
    (∃ (s : State) (t : Nat) (n : Fin 12) (k : Fin 4) (w : Word),
      s.time.stepDue = false ∧ (s.atBank t n).issue n k UOp.bc = some w ∧ fieldOf w 25 22 = 1 ∧ ((s.atBank t n).chan n k).ctx.refWin = true) ∧
    (∃ (s : State) (t : Nat) (n : Fin 12) (k : Fin 4) (w : Word),
      s.time.stepDue = false ∧ (s.atBank t n).issue n k UOp.bc = some w ∧ fieldOf w 25 22 = 1 ∧ ¬((s.atBank t n).chan n k).ctx.refWin = true) ∧
    (∃ (s : State) (t : Nat) (n : Fin 12) (k : Fin 4) (w : Word),
      s.time.stepDue = false ∧ (s.atBank t n).issue n k UOp.bc = some w ∧ fieldOf w 25 22 = 2 ∧ ((s.atBank t n).chan n k).ctx.dip = true) ∧
    (∃ (s : State) (t : Nat) (n : Fin 12) (k : Fin 4) (w : Word),
      s.time.stepDue = false ∧ (s.atBank t n).issue n k UOp.bc = some w ∧ fieldOf w 25 22 = 2 ∧ ¬((s.atBank t n).chan n k).ctx.dip = true) ∧
    (∃ (s : State) (t : Nat) (n : Fin 12) (k : Fin 4) (w : Word),
      s.time.stepDue = false ∧ (s.atBank t n).issue n k UOp.bc = some w ∧ fieldOf w 25 22 = 3 ∧ ((s.atBank t n).chan n k).ctx.dip = false) ∧
    (∃ (s : State) (t : Nat) (n : Fin 12) (k : Fin 4) (w : Word),
      s.time.stepDue = false ∧ (s.atBank t n).issue n k UOp.bc = some w ∧ fieldOf w 25 22 = 3 ∧ ¬((s.atBank t n).chan n k).ctx.dip = false) ∧
    (∃ (s : State) (t : Nat) (n : Fin 12) (k : Fin 4) (w : Word),
      s.time.stepDue = false ∧ (s.atBank t n).issue n k UOp.bc = some w ∧ fieldOf w 25 22 = 4 ∧ ((s.atBank t n).chan n k).ctx.tgt = true) ∧
    (∃ (s : State) (t : Nat) (n : Fin 12) (k : Fin 4) (w : Word),
      s.time.stepDue = false ∧ (s.atBank t n).issue n k UOp.bc = some w ∧ fieldOf w 25 22 = 4 ∧ ¬((s.atBank t n).chan n k).ctx.tgt = true) ∧
    (∃ (s : State) (t : Nat) (n : Fin 12) (k : Fin 4) (w : Word),
      s.time.stepDue = false ∧ (s.atBank t n).issue n k UOp.bc = some w ∧ fieldOf w 25 22 = 5 ∧ ((s.atBank t n).chan n k).ctx.tgt = false) ∧
    (∃ (s : State) (t : Nat) (n : Fin 12) (k : Fin 4) (w : Word),
      s.time.stepDue = false ∧ (s.atBank t n).issue n k UOp.bc = some w ∧ fieldOf w 25 22 = 5 ∧ ¬((s.atBank t n).chan n k).ctx.tgt = false) ∧
    (∃ (s : State) (t : Nat) (n : Fin 12) (k : Fin 4) (w : Word),
      s.time.stepDue = false ∧ (s.atBank t n).issue n k UOp.bi = some w ∧ fieldOf w 25 25 = 0 ∧ fieldOf w 23 12 ≤ ((s.atBank t n).chan n k).i) ∧
    (∃ (s : State) (t : Nat) (n : Fin 12) (k : Fin 4) (w : Word),
      s.time.stepDue = false ∧ (s.atBank t n).issue n k UOp.bi = some w ∧ fieldOf w 25 25 = 0 ∧ ¬fieldOf w 23 12 ≤ ((s.atBank t n).chan n k).i) ∧
    (∃ (s : State) (t : Nat) (n : Fin 12) (k : Fin 4) (w : Word),
      s.time.stepDue = false ∧ (s.atBank t n).issue n k UOp.bi = some w ∧ fieldOf w 25 25 = 1 ∧ ((s.atBank t n).chan n k).i < fieldOf w 23 12) ∧
    (∃ (s : State) (t : Nat) (n : Fin 12) (k : Fin 4) (w : Word),
      s.time.stepDue = false ∧ (s.atBank t n).issue n k UOp.bi = some w ∧ fieldOf w 25 25 = 1 ∧ ¬((s.atBank t n).chan n k).i < fieldOf w 23 12) ∧
    (∃ (s : State) (t : Nat) (n : Fin 12) (k : Fin 4) (w : Word),
      s.time.stepDue = false ∧ (s.atBank t n).issue n k UOp.btm = some w ∧ fieldOf w 24 24 = 0 ∧
      ((s.atBank t n).chan n k).ctx.v (fieldOf w 13 12) ≤ if fieldOf w 25 25 = 0 then ((s.atBank t n).chan n k).ctx.tph (s.atBank t n).now else ((s.atBank t n).chan n k).ctx.tev (s.atBank t n).now) ∧
    (∃ (s : State) (t : Nat) (n : Fin 12) (k : Fin 4) (w : Word),
      s.time.stepDue = false ∧ (s.atBank t n).issue n k UOp.btm = some w ∧ fieldOf w 24 24 = 0 ∧
      ¬((s.atBank t n).chan n k).ctx.v (fieldOf w 13 12) ≤ if fieldOf w 25 25 = 0 then ((s.atBank t n).chan n k).ctx.tph (s.atBank t n).now else ((s.atBank t n).chan n k).ctx.tev (s.atBank t n).now) ∧
    (∃ (s : State) (t : Nat) (n : Fin 12) (k : Fin 4) (w : Word),
      s.time.stepDue = false ∧ (s.atBank t n).issue n k UOp.btm = some w ∧ fieldOf w 24 24 = 1 ∧
      (if fieldOf w 25 25 = 0 then ((s.atBank t n).chan n k).ctx.tph (s.atBank t n).now else ((s.atBank t n).chan n k).ctx.tev (s.atBank t n).now) < ((s.atBank t n).chan n k).ctx.v (fieldOf w 13 12)) ∧
    (∃ (s : State) (t : Nat) (n : Fin 12) (k : Fin 4) (w : Word),
      s.time.stepDue = false ∧ (s.atBank t n).issue n k UOp.btm = some w ∧ fieldOf w 24 24 = 1 ∧
      ¬(if fieldOf w 25 25 = 0 then ((s.atBank t n).chan n k).ctx.tph (s.atBank t n).now else ((s.atBank t n).chan n k).ctx.tev (s.atBank t n).now) < ((s.atBank t n).chan n k).ctx.v (fieldOf w 13 12)) ∧
    (∃ (s : State) (t : Nat) (n : Fin 12) (k : Fin 4) (w : Word),
      s.time.stepDue = false ∧ (s.atBank t n).issue n k UOp.bcmp = some w ∧ fieldOf w 21 21 = 0 ∧
      ((s.atBank t n).chan n k).ctx.v (fieldOf w 23 22) ≤ ((s.atBank t n).chan n k).ctx.v (fieldOf w 25 24)) ∧
    (∃ (s : State) (t : Nat) (n : Fin 12) (k : Fin 4) (w : Word),
      s.time.stepDue = false ∧ (s.atBank t n).issue n k UOp.bcmp = some w ∧ fieldOf w 21 21 = 0 ∧
      ¬((s.atBank t n).chan n k).ctx.v (fieldOf w 23 22) ≤ ((s.atBank t n).chan n k).ctx.v (fieldOf w 25 24)) ∧
    (∃ (s : State) (t : Nat) (n : Fin 12) (k : Fin 4) (w : Word),
      s.time.stepDue = false ∧ (s.atBank t n).issue n k UOp.bcmp = some w ∧ fieldOf w 21 21 = 1 ∧
      ((s.atBank t n).chan n k).ctx.v (fieldOf w 25 24) < ((s.atBank t n).chan n k).ctx.v (fieldOf w 23 22)) ∧
    (∃ (s : State) (t : Nat) (n : Fin 12) (k : Fin 4) (w : Word),
      s.time.stepDue = false ∧ (s.atBank t n).issue n k UOp.bcmp = some w ∧ fieldOf w 21 21 = 1 ∧
      ¬((s.atBank t n).chan n k).ctx.v (fieldOf w 25 24) < ((s.atBank t n).chan n k).ctx.v (fieldOf w 23 22)) ∧
    (∃ (s : State) (t : Nat) (n : Fin 12) (k : Fin 4) (w : Word),
      s.time.stepDue = false ∧ (s.atBank t n).issue n k UOp.wt = some w) ∧
    (∃ (s : State) (t : Nat) (n : Fin 12) (k : Fin 4) (w : Word),
      s.time.stepDue = false ∧ (s.atBank t n).issue n k UOp.wtr = some w ∧ ((s.atBank t n).chan n k).ctx.v (fieldOf w 1 0) = 0) ∧
    (∃ (s : State) (t : Nat) (n : Fin 12) (k : Fin 4) (w : Word),
      s.time.stepDue = false ∧ (s.atBank t n).issue n k UOp.wtr = some w ∧ ((s.atBank t n).chan n k).ctx.v (fieldOf w 1 0) ≠ 0) ∧
    (∃ (s : State) (t : Nat) (n : Fin 12) (k : Fin 4) (w : Word),
      s.time.stepDue = false ∧ (s.atBank t n).issue n k UOp.wi = some w) ∧
    (∃ (s : State) (t : Nat) (n : Fin 12) (k : Fin 4) (w : Word),
      s.time.stepDue = false ∧ (s.atBank t n).issue n k UOp.wp = some w) ∧
    (∃ (s : State) (t : Nat) (n : Fin 12) (k : Fin 4) (w : Word),
      s.time.stepDue = false ∧ (s.atBank t n).issue n k UOp.wd = some w) ∧
    (∃ (s : State) (t : Nat) (n : Fin 12) (k : Fin 4) (w : Word) (p : Wait),
      s.time.stepDue = false ∧ ((s.atBank t n).chan n k).ctx.wait = some p ∧
      match p with | Wait.decision => False | Wait.until at_ => at_ ≤ (s.atBank t n).now | Wait.current true thr => ((s.atBank t n).chan n k).i ≤ thr | Wait.current false thr => thr ≤ ((s.atBank t n).chan n k).i | Wait.tph ticks => ticks ≤ ((s.atBank t n).chan n k).ctx.tph (s.atBank t n).now | Wait.dip => ((s.atBank t n).chan n k).ctx.dip = true | Wait.offEnd => ((s.atBank t n).chan n k).conduct = false) ∧
    (∃ (s : State) (t : Nat) (n : Fin 12) (k : Fin 4) (w : Word),
      s.time.stepDue = false ∧ (s.atBank t n).issue n k UOp.arm = some w ∧ fieldOf w 25 9 = 0) ∧
    (∃ (s : State) (t : Nat) (n : Fin 12) (k : Fin 4) (w : Word),
      s.time.stepDue = false ∧ (s.atBank t n).issue n k UOp.arm = some w ∧ fieldOf w 25 9 ≠ 0) ∧
    (∃ (s : State) (t : Nat) (n : Fin 12) (k : Fin 4) (w : Word) (p : Nat) (b : Nat),
      s.time.stepDue = false ∧ ((s.atBank t n).chan n k).ctx.arm = some (p, b) ∧ ((s.atBank t n).chan n k).ctx.active = true ∧ p ≤ (s.atBank t n).now ∧
      ((s.atBank t n).chan n k).ctx.wait ≠ some Wait.decision) ∧
    (∃ (s : State) (t : Nat) (n : Fin 12) (k : Fin 4) (w : Word),
      s.time.stepDue = false ∧ (s.atBank t n).issue n k UOp.band = some w) ∧
    (∃ (s : State) (t : Nat) (n : Fin 12) (k : Fin 4) (w : Word),
      s.time.stepDue = false ∧ (s.atBank t n).issue n k UOp.dipw = some w ∧ fieldOf w 12 12 = 1) ∧
    (∃ (s : State) (t : Nat) (n : Fin 12) (k : Fin 4) (w : Word),
      s.time.stepDue = false ∧ (s.atBank t n).issue n k UOp.dipw = some w ∧ fieldOf w 12 12 = 0) ∧
    (∃ (s : State) (t : Nat) (n : Fin 12) (k : Fin 4) (w : Word),
      s.time.stepDue = false ∧ (s.atBank t n).issue n k UOp.ramp = some w ∧ (((s.atBank t n).chan n k).conduct = false ∨ fieldOf w 11 0 = 0 ∧
      (((s.atBank t n).chan n k).ctx.phase ≠ Phase.hold ∨ fieldOf w 23 12 ≤ 600))) ∧
    (∃ (s : State) (t : Nat) (n : Fin 12) (k : Fin 4) (w : Word),
      s.time.stepDue = false ∧ (s.atBank t n).issue n k UOp.ramp = some w ∧ ((s.atBank t n).chan n k).conduct = true ∧ fieldOf w 11 0 = 0 ∧
      ((s.atBank t n).chan n k).ctx.phase = Phase.hold ∧ 600 < fieldOf w 23 12) ∧
    (∃ (s : State) (t : Nat) (n : Fin 12) (k : Fin 4) (w : Word),
      s.time.stepDue = false ∧ (s.atBank t n).issue n k UOp.ramp = some w ∧ ((s.atBank t n).chan n k).conduct = true ∧ fieldOf w 11 0 ≠ 0) :=
  ⟨⟨uc 4160749568 id, 1200000100, 0, 1, 0xf8000000#32, by decide +kernel⟩,
   ⟨uc 2147483665 id, 1200000100, 0, 1, 0x80000011#32, by decide +kernel⟩,
   ⟨uc 2214592545 (fun c => {c with ctx := {c.ctx with refused := true}}), 1200000100, 0, 1, 0x84000021#32, by decide +kernel⟩,
   ⟨uc 2214592545 (fun c => {c with ctx := {c.ctx with refused := false}}), 1200000100, 0, 1, 0x84000021#32, by decide +kernel⟩,
   ⟨uc 2218786849 (fun c => {c with ctx := {c.ctx with refWin := true}}), 1200000100, 0, 1, 0x84400021#32, by decide +kernel⟩,
   ⟨uc 2218786849 (fun c => {c with ctx := {c.ctx with refWin := false}}), 1200000100, 0, 1, 0x84400021#32, by decide +kernel⟩,
   ⟨uc 2222981153 (fun c => {c with ctx := {c.ctx with dip := true}}), 1200000100, 0, 1, 0x84800021#32, by decide +kernel⟩,
   ⟨uc 2222981153 (fun c => {c with ctx := {c.ctx with dip := false}}), 1200000100, 0, 1, 0x84800021#32, by decide +kernel⟩,
   ⟨uc 2227175457 (fun c => {c with ctx := {c.ctx with dip := false}}), 1200000100, 0, 1, 0x84c00021#32, by decide +kernel⟩,
   ⟨uc 2227175457 (fun c => {c with ctx := {c.ctx with dip := true}}), 1200000100, 0, 1, 0x84c00021#32, by decide +kernel⟩,
   ⟨uc 2231369761 (fun c => {c with ctx := {c.ctx with tgt := true}}), 1200000100, 0, 1, 0x85000021#32, by decide +kernel⟩,
   ⟨uc 2231369761 (fun c => {c with ctx := {c.ctx with tgt := false}}), 1200000100, 0, 1, 0x85000021#32, by decide +kernel⟩,
   ⟨uc 2235564065 (fun c => {c with ctx := {c.ctx with tgt := false}}), 1200000100, 0, 1, 0x85400021#32, by decide +kernel⟩,
   ⟨uc 2235564065 (fun c => {c with ctx := {c.ctx with tgt := true}}), 1200000100, 0, 1, 0x85400021#32, by decide +kernel⟩,
   ⟨uc 2282930209 id, 1200000100, 0, 1, 0x8812c021#32, by decide +kernel⟩,
   ⟨uc 2282934305 id, 1200000100, 0, 1, 0x8812d021#32, by decide +kernel⟩,
   ⟨uc 2316488737 id, 1200000100, 0, 1, 0x8a12d021#32, by decide +kernel⟩,
   ⟨uc 2316484641 id, 1200000100, 0, 1, 0x8a12c021#32, by decide +kernel⟩,
   ⟨uc 2348814369 (fun c => {c with ctx := {c.ctx with tev0 := 1200000000, tph0 := some 1200000000, v1 := 10}}), 1200000100, 0, 1, 0x8c001021#32, by decide +kernel⟩,
   ⟨uc 2348814369 (fun c => {c with ctx := {c.ctx with tev0 := 1200000000, tph0 := some 1200000000, v1 := 11}}), 1200000100, 0, 1, 0x8c001021#32, by decide +kernel⟩,
   ⟨uc 2365591585 (fun c => {c with ctx := {c.ctx with tev0 := 1200000000, tph0 := some 1200000000, v1 := 11}}), 1200000100, 0, 1, 0x8d001021#32, by decide +kernel⟩,
   ⟨uc 2365591585 (fun c => {c with ctx := {c.ctx with tev0 := 1200000000, tph0 := some 1200000000, v1 := 10}}), 1200000100, 0, 1, 0x8d001021#32, by decide +kernel⟩,
   ⟨uc 2449473569 id, 1200000100, 0, 1, 0x92000021#32, by decide +kernel⟩,
   ⟨uc 2424307745 id, 1200000100, 0, 1, 0x90800021#32, by decide +kernel⟩,
   ⟨uc 2426404897 id, 1200000100, 0, 1, 0x90a00021#32, by decide +kernel⟩,
   ⟨uc 2451570721 id, 1200000100, 0, 1, 0x92200021#32, by decide +kernel⟩,
   ⟨uc 1073743058 id, 1200000100, 0, 1, 0x400004d2#32, by decide +kernel⟩,
   ⟨uc 1140850691 id, 1200000100, 0, 1, 0x44000003#32, by decide +kernel⟩,
   ⟨uc 1140850690 id, 1200000100, 0, 1, 0x44000002#32, by decide +kernel⟩,
   ⟨uc 1241919488 id, 1200000100, 0, 1, 0x4a063000#32, by decide +kernel⟩,
   ⟨uc 1275068418 id, 1200000100, 0, 1, 0x4c000002#32, by decide +kernel⟩,
   ⟨uc 1342177280 id, 1200000100, 0, 1, 0x50000000#32, by decide +kernel⟩,
   ⟨uc 1342177280 (fun c => {c with ctx := {c.ctx with wait := some (.until 1200000100), dip := true}}), 1200000100, 0, 1, 0x50000000#32, .until 1200000100, by decide +kernel⟩,
   ⟨uc 1610612741 id, 1200000100, 0, 1, 0x60000005#32, by decide +kernel⟩,
   ⟨uc 1610614277 id, 1200000100, 0, 1, 0x60000605#32, by decide +kernel⟩,
   ⟨uc 1610612736 (fun c => {c with ctx := {c.ctx with arm := some (1200000100, 44), wait := some .dip}}), 1200000100, 0, 1, 0x60000000#32, 1200000100, 44, by decide +kernel⟩,
   ⟨uc 549978957 id, 1200000100, 0, 1, 0x20c8034d#32, by decide +kernel⟩,
   ⟨uc 671092836 id, 1200000100, 0, 1, 0x28001064#32, by decide +kernel⟩,
   ⟨uc 671088740 id, 1200000100, 0, 1, 0x28000064#32, by decide +kernel⟩,
   ⟨uc 606846976 id, 1200000100, 0, 1, 0x242bc000#32, by decide +kernel⟩,
   ⟨uc 606441472 (fun c => {c with conduct := true, ctx := {c.ctx with phase := .hold}}), 1200000100, 0, 1, 0x24259000#32, by decide +kernel⟩,
   ⟨uc 606441481 (fun c => {c with conduct := true, ctx := {c.ctx with phase := .hold}}), 1200000100, 0, 1, 0x24259009#32, by decide +kernel⟩⟩

theorem wit_SaturatingArithmetic :
    (∃ (s : State) (t : Nat) (n : Fin 12) (k : Fin 4) (w : Word) (fn : Nat) (z : Int),
      s.time.stepDue = false ∧ (s.atBank t n).issue n k .alu = some w ∧
      (let vd : Int := ((s.atBank t n).chan n k).ctx.v (fieldOf w 25 24); let vs : Int := ((s.atBank t n).chan n k).ctx.v (fieldOf w 23 22); let imm := fieldOf w 17 0; (fn, z) ∈ [(0, vs), (1, vd + vs), (2, vd - vs), (3, min vd vs), (4, max vd vs), (5, vd + imm), (6, vd - imm), (7, min vd imm), (8, max vd imm), (9, vd * imm), (10, vd / 2 ^ imm), (11, vd * 2 ^ imm)]) ∧
      fieldOf w 21 18 = fn) ∧
    (∃ (s : State) (t : Nat) (n : Fin 12) (k : Fin 4) (w : Word),
      s.time.stepDue = false ∧ (s.atBank t n).issue n k UOp.djnz = some w) ∧
    (∃ (s : State) (t : Nat) (n : Fin 12) (k : Fin 4) (w : Word),
      s.time.stepDue = false ∧ (s.atBank t n).issue n k UOp.ldi = some w) ∧
    (∃ (s : State) (t : Nat) (n : Fin 12) (k : Fin 4) (w : Word),
      s.time.stepDue = false ∧ (s.atBank t n).issue n k UOp.ldp = some w) ∧
    (∃ (s : State) (t : Nat) (n : Fin 12) (k : Fin 4) (w : Word),
      s.time.stepDue = false ∧ (s.atBank t n).issue n k UOp.lds = some w ∧ fieldOf w 3 0 = 0) ∧
    (∃ (s : State) (t : Nat) (n : Fin 12) (k : Fin 4) (w : Word) (p : Nat),
      s.time.stepDue = false ∧ (s.atBank t n).issue n k UOp.lds = some w ∧ fieldOf w 3 0 = 1 ∧ ((s.atBank t n).chan n k).ctx.tph0 = some p) ∧
    (∃ (s : State) (t : Nat) (n : Fin 12) (k : Fin 4) (w : Word),
      s.time.stepDue = false ∧ (s.atBank t n).issue n k UOp.lds = some w ∧ fieldOf w 3 0 = 2) ∧
    (∃ (s : State) (t : Nat) (n : Fin 12) (k : Fin 4) (w : Word) (r : Running) (m : Nat),
      s.time.stepDue = false ∧ (s.atBank t n).issue n k UOp.lds = some w ∧ fieldOf w 3 0 = 3 ∧ ((s.atBank t n).chan n k).run = some r ∧ r.motT = some m) ∧
    (∃ (s : State) (t : Nat) (n : Fin 12) (k : Fin 4) (w : Word) (r : Running),
      s.time.stepDue = false ∧ (s.atBank t n).issue n k UOp.lds = some w ∧ fieldOf w 3 0 = 3 ∧ ((s.atBank t n).chan n k).run = some r ∧ r.motT = none) ∧
    (∃ (s : State) (t : Nat) (n : Fin 12) (k : Fin 4) (w : Word),
      s.time.stepDue = false ∧ (s.atBank t n).issue n k UOp.lds = some w ∧ fieldOf w 3 0 = 4) :=
  ⟨⟨uc 3430940677 id, 1200000100, 0, 1, 0xcc800005#32, 0, 4000000000, by decide +kernel⟩,
   ⟨uc 2483028268 id, 1200000100, 0, 1, 0x9400012c#32, by decide +kernel⟩,
   ⟨uc 3288334335 id, 1200000100, 0, 1, 0xc3ffffff#32, by decide +kernel⟩,
   ⟨uc 3338665984 id, 1200000100, 0, 1, 0xc7000000#32, by decide +kernel⟩,
   ⟨uc 3405774848 id, 1200000100, 0, 1, 0xcb000000#32, by decide +kernel⟩,
   ⟨uc 3405774849 id, 1200000100, 0, 1, 0xcb000001#32, 1200000000, by decide +kernel⟩,
   ⟨uc 3405774850 id, 1200000100, 0, 1, 0xcb000002#32, by decide +kernel⟩,
   ⟨uc 3405774851 (fun c => {c with run := some {run1 with motT := some 5000000000}}), 1200000100, 0, 1, 0xcb000003#32, {run1 with motT := some 5000000000}, 5000000000, by decide +kernel⟩,
   ⟨uc 3405774851 id, 1200000100, 0, 1, 0xcb000003#32, run1, by decide +kernel⟩,
   ⟨uc 3405774852 id, 1200000100, 0, 1, 0xcb000004#32, by decide +kernel⟩⟩

theorem wit_MicrocodePhases :
    (∃ (s : State) (t : Nat) (n : Fin 12) (k : Fin 4) (w : Word),
      s.time.stepDue = false ∧ (s.atBank t n).issue n k UOp.bst = some w ∧ (s.atBank t n).winOpenFor n k = true) ∧
    (∃ (s : State) (t : Nat) (n : Fin 12) (k : Fin 4) (w : Word),
      s.time.stepDue = false ∧ (s.atBank t n).issue n k UOp.bst = some w ∧ (s.atBank t n).winOpenFor n k = false) ∧
    (∃ (s : State) (t : Nat) (n : Fin 12) (k : Fin 4) (w : Word),
      s.time.stepDue = false ∧ (s.atBank t n).issue n k UOp.pk = some w ∧ (s.atBank t n).winOpenFor n k = true) ∧
    (∃ (s : State) (t : Nat) (n : Fin 12) (k : Fin 4) (w : Word),
      s.time.stepDue = false ∧ (s.atBank t n).issue n k UOp.pk = some w ∧ (s.atBank t n).winOpenFor n k = false) ∧
    (∃ (s : State) (t : Nat) (n : Fin 12) (k : Fin 4) (w : Word),
      s.time.stepDue = false ∧ (s.atBank t n).issue n k UOp.hld = some w) ∧
    (∃ (s : State) (t : Nat) (n : Fin 12) (k : Fin 4) (w : Word),
      s.time.stepDue = false ∧ (s.atBank t n).issue n k UOp.off = some w ∧ ((s.atBank t n).chan n k).conduct = true) ∧
    (∃ (s : State) (t : Nat) (n : Fin 12) (k : Fin 4) (w : Word) (r : Running),
      s.time.stepDue = false ∧ (s.atBank t n).issue n k UOp.endp = some w ∧ ((s.atBank t n).chan n k).run = some r ∧
      ((s.atBank t n).chan n k).conduct = true) ∧
    (∃ (s : State) (t : Nat) (n : Fin 12) (k : Fin 4) (w : Word),
      s.time.stepDue = false ∧ (s.atBank t n).issue n k UOp.off = some w ∧ ((s.atBank t n).chan n k).conduct = false) ∧
    (∃ (s : State) (t : Nat) (n : Fin 12) (k : Fin 4) (w : Word) (r : Running),
      s.time.stepDue = false ∧ (s.atBank t n).issue n k UOp.endp = some w ∧ ((s.atBank t n).chan n k).run = some r ∧
      ((s.atBank t n).chan n k).conduct = false) ∧
    (∃ (s : State) (t : Nat) (n : Fin 12) (k : Fin 4) (w : Word),
      s.time.stepDue = false ∧ (s.atBank t n).issue n k UOp.mark = some w) :=
  ⟨⟨(uc 104349796 id).updBank 0 (fun b => {b with wins := [⟨1, 0, some 1300000000⟩]}), 1200000100, 0, 1, 0x6384064#32, by decide +kernel⟩,
   ⟨uc 104349796 id, 1200000100, 0, 1, 0x6384064#32, by decide +kernel⟩,
   ⟨(uc 171458660 id).updBank 0 (fun b => {b with wins := [⟨1, 0, some 1300000000⟩]}), 1200000100, 0, 1, 0xa384064#32, by decide +kernel⟩,
   ⟨uc 171458660 id, 1200000100, 0, 1, 0xa384064#32, by decide +kernel⟩,
   ⟨uc 220151808 id, 1200000100, 0, 1, 0xd1f4000#32, by decide +kernel⟩,
   ⟨uc 285212672 (fun c => {c with conduct := true}), 1200000100, 0, 1, 0x11000000#32, by decide +kernel⟩,
   ⟨uc 352321536 (fun c => {c with conduct := true}), 1200000100, 0, 1, 0x15000000#32, run1, by decide +kernel⟩,
   ⟨uc 285212672 (fun c => {c with conduct := false}), 1200000100, 0, 1, 0x11000000#32, by decide +kernel⟩,
   ⟨uc 352321536 (fun c => {c with conduct := false}), 1200000100, 0, 1, 0x15000000#32, run1, by decide +kernel⟩,
   ⟨uc 3758096555 id, 1200000100, 0, 1, 0xe00000ab#32, by decide +kernel⟩⟩

theorem wit_LoopRows :
    (∃ (s : State) (t : Nat) (l : Fin 256) (b : Nat),
      (s.advance t).pendingB l = some b ∧ s.engineRuns = true ∧ (s.advance t).loopNext = some l ∧ b + 1000 ≤ (s.advance t).hwNs ∧
      (s.advance t).latchOf l b = none) ∧
    (∃ (s : State) (t : Nat) (l : Fin 256) (b : Nat) (o : LoopLatch),
      (s.advance t).pendingB l = some b ∧ s.engineRuns = true ∧ (s.advance t).loopNext = some l ∧ b + 1000 ≤ (s.advance t).hwNs ∧
      (s.advance t).latchOf l b = some o ∧ s.deadline (↑l) b < (s.advance t).hwNs + s.cost ↑l * 4) ∧
    (∃ (s : State) (t : Nat) (l : Fin 256) (b : Nat) (o : LoopLatch),
      (s.advance t).pendingB l = some b ∧ s.engineRuns = true ∧ (s.advance t).loopNext = some l ∧ b + 1000 ≤ (s.advance t).hwNs ∧
      (s.advance t).latchOf l b = some o ∧ (s.advance t).hwNs + s.cost ↑l * 4 ≤ s.deadline (↑l) b) ∧
    (∃ (s : State) (t : Nat) (l : Fin 256) (b : Nat),
      (s.advance t).pendingB l = some b ∧ s.engineRuns = false ∧ s.powered 2 = true ∧ s.loopEn ↑l = true) ∧
    (∃ (s : State) (t : Nat) (l : Fin 256) (b : Nat) (o : LoopLatch),
      (s.advance t).pendingB l = some b ∧ s.engineRuns = true ∧ (s.advance t).loopNext = some l ∧ b + 1000 ≤ (s.advance t).hwNs ∧
      (s.advance t).latchOf l b = some o ∧ (s.advance t).hwNs + s.cost ↑l * 4 ≤ s.deadline (↑l) b ∧ s.modePermits ↑l = true ∧ s.badConsumer ↑l = none ∧
      (s.loop l).latch = 0 ∧ (s.loop l).tune = none ∧ s.cmode ↑l ≠ 1 ∧ s.law ↑l = 1 ∧ s.plEn ↑l = false ∧ s.schedEn ↑l = false ∧
      s.setSel ↑l = (s.loop l).set_ ∧ (s.loop l).swapDue = false ∧ s.outKind (↑l) 0 = 0 ∧
      (∀ (i : Fin 5), i ∈ s.usedSels ↑l → ((s.advance t).latch l b o).ok[i] = true)) ∧
    (∃ (s : State) (t : Nat) (l : Fin 256) (b : Nat) (o : LoopLatch),
      (s.advance t).pendingB l = some b ∧ s.engineRuns = true ∧ (s.advance t).loopNext = some l ∧ b + 1000 ≤ (s.advance t).hwNs ∧
      (s.advance t).latchOf l b = some o ∧ (s.advance t).hwNs + s.cost ↑l * 4 ≤ s.deadline (↑l) b ∧ s.modePermits ↑l = true ∧ s.badConsumer ↑l = none ∧
      (s.loop l).latch = 0 ∧ (s.loop l).tune = none ∧ s.cmode ↑l ≠ 1 ∧ s.law ↑l = 2 ∧ s.plEn ↑l = false ∧ s.schedEn ↑l = false ∧
      s.setSel ↑l = (s.loop l).set_ ∧ (s.loop l).swapDue = false ∧ s.outKind (↑l) 0 = 0 ∧ (s.loopNU ↑l = 2 → s.outKind (↑l) 1 = 0) ∧
      (∀ (i : Fin 5), i ∈ s.usedSels ↑l → ((s.advance t).latch l b o).ok[i] = true)) :=
  ⟨⟨lpLate, 2016406000, 3, 2000000000, by decide +kernel⟩,
   ⟨lp id, 2036405000, 3, 2000000000, ltc (lp id) 2036405000, by decide +kernel⟩,
   ⟨lp (fun s => put s (loopBase 3 + 0xA4) 1), tt, 3, 2000000000, ltc (lp (fun s => put s (loopBase 3 + 0xA4) 1)) tt, by decide +kernel⟩,
   ⟨put (lp id) clkEnAddr 0, tt, 3, 2000000000, by decide +kernel⟩,
   ⟨lpa (fun x => x), tt, 3, 2000000000, ltc (lpa fun x => x) tt, by decide +kernel⟩,
   ⟨lpf (fun x => x), tt, 4, 2000000000, ltd (lpf (fun x => x)) tt, by decide +kernel⟩⟩

theorem wit_SegmentPower :
    (∃ (s : State) (t : Nat) (g : Fin 16),
      (s.seg g).pwr = 1 ∧ (s.seg g).checked = false ∧ (s.seg g).onAt + 200000000 ≤ (s.advance t).now) ∧
    (∃ (s : State) (t : Nat) (g : Fin 16),
      (s.seg g).pwr = 1 ∧ (s.seg g).checked = false ∧ (s.seg g).onAt + 200000000 ≤ (s.advance t).now) ∧
    (∃ (s : State) (t : Nat) (g : Fin 16),
      ((s.seg g).pwr = 2 ∨ (s.seg g).pwr = 1 ∧ (s.seg g).checked = true)) ∧
    (∃ (s : State) (t : Nat) (g : Fin 16),
      (s.seg g).pwr = 3 ∧ s.en (segBase ↑g) = true ∧ s.rootRuns = true ∧ (s.seg g).faultAt + s.fld (segBase ↑g + 68) 11 0 * 1000000000 ≤ (s.advance t).now) ∧
    (∃ (s : State) (t : Nat) (g : Fin 16),
      ((s.seg g).pwr = 2 ∨ (s.seg g).pwr = 1 ∧ (s.seg g).checked = true)) ∧
    (∃ (s : State) (t : Nat) (g : Fin 16),
      (s.seg g).pwr ≠ 2 ∧ ((s.seg g).pwr = 1 → (s.seg g).checked = false)) :=
  ⟨⟨sg (fun x => {x with pwr := 1}), 2300000000, 2, by decide +kernel⟩,
   ⟨sg (fun x => {x with pwr := 1}), 2300000000, 2, by decide +kernel⟩,
   ⟨sg (fun x => {x with pwr := 2}), 2300000000, 2, by decide +kernel⟩,
   ⟨sg (fun x => {x with pwr := 3}), 22300000000, 2, by decide +kernel⟩,
   ⟨sg (fun x => {x with pwr := 2}), 2300000000, 2, by decide +kernel⟩,
   ⟨sg (fun x => {x with pwr := 1}), 2300000000, 2, by decide +kernel⟩⟩

theorem wit_RoundRows :
    (∃ (s : State) (t : Nat) (g : Fin 16) (p : Bool) (vr : Nat) (ms : Vector (Nat × Nat) 16),
      s.rootRuns = true) ∧
    (∃ (s : State) (t : Nat) (g : Fin 16) (p : Bool),
      s.rootRuns = true ∧ s.rootMode = true ∧ s.en rootBase = true ∧ (s.advance t).startInstant = true ∧
      s.root.resumeAt ≤ (s.advance t).hwNs / 100000000 * 100000000 ∧ s.root.part = 0 ∧ (fun y => y.pwr = 2 ∧ y.enum = none ∧ y.autoDue = false) (s.seg g)) ∧
    (∃ (s : State) (t : Nat) (g : Fin 16),
      s.rootRuns = true ∧ s.rootMode = true ∧ s.en rootBase = true ∧ (s.advance t).startInstant = true ∧ s.root.part ≠ 0) ∧
    (∃ (s : State) (t : Nat) (g : Fin 16) (r : Round),
      s.rootRuns = true ∧ (s.seg g).round = some r ∧ r.sampled = false ∧ r.startHw + 1520000 ≤ (s.advance t).hwNs ∧
      (s.advance t).hwNs < r.startHw + 100000000 ∧ (s.seg g).syncAt = some r.startHw) ∧
    (∃ (s : State) (t : Nat) (g : Fin 16) (r : Round),
      s.rootRuns = true ∧ (s.seg g).round = some r ∧ r.sampled = false ∧ r.startHw + 1520000 ≤ (s.advance t).hwNs ∧
      (s.advance t).hwNs < r.startHw + 100000000 ∧ (s.seg g).syncAt ≠ some r.startHw) ∧
    (∃ (s : State) (t : Nat) (g : Fin 16) (r : Round) (rx : List UpBit),
      s.rootRuns = true ∧ (s.seg g).round = some r ∧ r.next < r.limit ∧ (s.advance t).slotEnd g r r.next ≤ (s.advance t).hwNs ∧
      slotGet (s.seg g).dir r.next = none) ∧
    (∃ (s : State) (t : Nat) (g : Fin 16) (r : Round) (rx : List UpBit) (b : BitVec 64),
      s.rootRuns = true ∧ (s.seg g).round = some r ∧ r.next < r.limit ∧ (s.advance t).slotEnd g r r.next ≤ (s.advance t).hwNs ∧
      (slotGet (s.seg g).dir r.next).isSome = true ∧ upJudge rx = Uplink.frame b ∧ upOk b = true ∧ upField b 23 16 = r.num % 256) ∧
    (∃ (s : State) (t : Nat) (g : Fin 16) (r : Round) (rx : List UpBit) (b : BitVec 64),
      s.rootRuns = true ∧ (s.seg g).round = some r ∧ r.next < r.limit ∧ (s.advance t).slotEnd g r r.next ≤ (s.advance t).hwNs ∧
      (slotGet (s.seg g).dir r.next).isSome = true ∧ upJudge rx = Uplink.frame b ∧ upOk b = false) ∧
    (∃ (s : State) (t : Nat) (g : Fin 16) (r : Round) (rx : List UpBit),
      s.rootRuns = true ∧ (s.seg g).round = some r ∧ r.next < r.limit ∧ (s.advance t).slotEnd g r r.next ≤ (s.advance t).hwNs ∧
      (slotGet (s.seg g).dir r.next).isSome = true ∧ (upJudge rx = Uplink.missing ∨ upJudge rx = Uplink.none)) ∧
    (∃ (s : State) (t : Nat) (g : Fin 16) (r : Round) (rx : List UpBit),
      s.rootRuns = true ∧ (s.seg g).round = some r ∧ r.next < r.limit ∧ (s.advance t).slotEnd g r r.next ≤ (s.advance t).hwNs ∧
      (slotGet (s.seg g).dir r.next).isSome = true ∧ (upJudge rx = Uplink.pre ∨ ∃ b c gap, upJudge rx = Uplink.coll b c gap)) ∧
    (∃ (s : State) (t : Nat) (g : Fin 16) (r : Round) (k : Nat) (rest : List Nat) (d : DirEntry) (rx : List UpBit) (b : BitVec 64),
      s.rootRuns = true ∧ (s.seg g).round = some r ∧ r.retry = k :: rest ∧ (s.advance t).cmdSpace g 9 = true ∧ r.span ≤ 80 * r.periods ∧
      r.sent < s.segCfg (↑g) 23 16 ∧ slotGet (s.seg g).dir k = some d ∧ upJudge rx = Uplink.frame b ∧ upOk b = true ∧ upField b 23 16 = r.num % 256) ∧
    (∃ (s : State) (t : Nat) (g : Fin 16) (r : Round) (k : Nat) (rest : List Nat) (d : DirEntry) (rx : List UpBit),
      s.rootRuns = true ∧ (s.seg g).round = some r ∧ r.retry = k :: rest ∧ (s.advance t).cmdSpace g 9 = true ∧ r.span ≤ 80 * r.periods ∧
      r.sent < s.segCfg (↑g) 23 16 ∧ slotGet (s.seg g).dir k = some d ∧ (match upJudge rx with | Uplink.frame bits => true | x => false) = false) ∧
    (∃ (s : State) (t : Nat) (g : Fin 16) (r : Round),
      s.rootRuns = true ∧ (s.seg g).round = some r ∧ r.sampled = true ∧ r.span ≤ 80 * r.periods ∧ r.limit ≤ r.next ∧ r.retry = []) :=
  ⟨⟨sg (fun x => {x with pwr := 1, checked := true}), 2300000000, 2, true, 555, Vector.replicate 16 (4,5), by decide +kernel⟩,
   ⟨sg uq, 2016405000, 2, true, by decide +kernel⟩,
   ⟨{ sg uq with root := { (sg uq).root with part := 4 } }, 2016405000, 2, by decide +kernel⟩,
   ⟨sg (fun x => {uq x with round := some {rr with sampled := false}}), 2026405000, 2, {rr with sampled := false}, by decide +kernel⟩,
   ⟨sg (fun x => {uq x with syncAt := none, round := some {rr with sampled := false}}), 2026405000, 2, {rr with sampled := false}, by decide +kernel⟩,
   ⟨sg (fun x => {uq x with round := some {rr with next := 1}}), 2026405000, 2, {rr with next := 1}, ub (up 0x123456789A07), by decide +kernel⟩,
   ⟨sg (fun x => {uq x with round := some rr}), 2026405000, 2, rr, ub (up 0x123456789A07), up 0x123456789A07, by decide +kernel⟩,
   ⟨sg (fun x => {uq x with round := some rr}), 2026405000, 2, rr, ub 5#64, 5#64, by decide +kernel⟩,
   ⟨sg (fun x => {uq x with round := some rr}), 2026405000, 2, rr, ubm (up 0x123456789A07) 9, by decide +kernel⟩,
   ⟨sg (fun x => {uq x with round := some rr}), 2026405000, 2, rr, ubc 0#64 3, by decide +kernel, by decide +kernel, by decide +kernel, by decide +kernel, by decide +kernel, .inr ⟨0x1000000000000000#64, 3, false, by decide +kernel⟩⟩,
   ⟨put (sg (fun x => {uq x with round := some r2})) (segBase 2 + 0x40) 0x00F30000, 2026405000, 2, r2, 2, [0], {de with serial := 5#64}, ub (up 0x123456780007), up 0x123456780007, by decide +kernel⟩,
   ⟨put (sg (fun x => {uq x with round := some r2})) (segBase 2 + 0x40) 0x00F30000, 2026405000, 2, r2, 2, [0], {de with serial := 5#64}, [], by decide +kernel⟩,
   ⟨sg (fun x => {uq x with round := some {r2 with retry := []}}), 2026405000, 2, {r2 with retry := []}, by decide +kernel⟩⟩

theorem wit_EnumerationRows :
    (∃ (s : State) (t : Nat) (g : Fin 16) (rx : List UpBit) (e : EnumRun) (p : BitVec 64) (n : Nat) (rest : List (BitVec 64 × Nat)) (found : List (BitVec 64)) (b : BitVec 64) (c : Nat),
      (s.advance t).workSpace g 10 = true ∧ (s.seg g).enum = some e ∧ e.phase = EnumPhase.search ((p, n) :: rest) found ∧ upJudge rx = Uplink.coll b c false) ∧
    (∃ (s : State) (t : Nat) (g : Fin 16) (rx : List UpBit) (e : EnumRun) (p : BitVec 64) (n : Nat) (rest : List (BitVec 64 × Nat)) (found : List (BitVec 64)),
      (s.advance t).workSpace g 10 = true ∧ (s.seg g).enum = some e ∧ e.phase = EnumPhase.search ((p, n) :: rest) found ∧
      (upJudge rx = Uplink.missing ∨ upJudge rx = Uplink.pre ∨ ∃ b c, upJudge rx = Uplink.coll b c true) ∧ e.tries < s.cmdRetry ↑g) ∧
    (∃ (s : State) (t : Nat) (g : Fin 16) (rx : List UpBit) (e : EnumRun) (p : BitVec 64) (n : Nat) (rest : List (BitVec 64 × Nat)) (found : List (BitVec 64)) (b : BitVec 64),
      (s.advance t).workSpace g 10 = true ∧ (s.seg g).enum = some e ∧ e.phase = EnumPhase.search ((p, n) :: rest) found ∧ upJudge rx = Uplink.frame b ∧
      rest ≠ []) ∧
    (∃ (s : State) (t : Nat) (g : Fin 16) (rx : List UpBit) (e : EnumRun) (p : BitVec 64) (n : Nat) (rest : List (BitVec 64 × Nat)) (found : List (BitVec 64)) (b : BitVec 64),
      (s.advance t).workSpace g 10 = true ∧ (s.seg g).enum = some e ∧ e.phase = EnumPhase.search ((p, n) :: rest) found ∧ upJudge rx = Uplink.frame b ∧
      rest = []) ∧
    (∃ (s : State) (t : Nat) (g : Fin 16) (rx : List UpBit) (e : EnumRun) (p : BitVec 64) (n : Nat) (rest : List (BitVec 64 × Nat)) (found : List (BitVec 64)),
      (s.advance t).workSpace g 10 = true ∧ (s.seg g).enum = some e ∧ e.phase = EnumPhase.search ((p, n) :: rest) found ∧ upJudge rx = Uplink.none ∧
      rest ≠ []) ∧
    (∃ (s : State) (t : Nat) (g : Fin 16) (rx : List UpBit) (e : EnumRun) (y : BitVec 64) (rest : List (BitVec 64)) (found : List (BitVec 64)) (ok : List Found) (b : BitVec 64),
      (s.advance t).workSpace g 9 = true ∧ (s.seg g).enum = some e ∧ e.phase = EnumPhase.info (y :: rest) found ok ∧ upJudge rx = Uplink.frame b ∧
      upOk b = true ∧ upField b 63 56 / 16 = 1 ∧ rest ≠ []) ∧
    (∃ (s : State) (t : Nat) (g : Fin 16) (rx : List UpBit) (e : EnumRun) (y : BitVec 64) (rest : List (BitVec 64)) (found : List (BitVec 64)) (ok : List Found) (b : BitVec 64),
      (s.advance t).workSpace g 9 = true ∧ (s.seg g).enum = some e ∧ e.phase = EnumPhase.info (y :: rest) found ok ∧ upJudge rx = Uplink.frame b ∧
      upOk b = true ∧ upField b 63 56 / 16 ≠ 1) ∧
    (∃ (s : State) (t : Nat) (g : Fin 16) (rx : List UpBit) (e : EnumRun) (f : Found) (k : Nat) (fresh : Bool) (rest : List (Found × Nat × Bool)) (b : BitVec 64),
      (s.advance t).workSpace g 10 = true ∧ (s.seg g).enum = some e ∧ e.phase = EnumPhase.assign ((f, k, fresh) :: rest) ∧ upJudge rx = Uplink.frame b ∧
      State.ackOf 5 (if e.tries = 0 then (s.seg g).tn else e.tn) b = true ∧ upField b 31 24 = 0) ∧
    (∃ (s : State) (t : Nat) (g : Fin 16) (rx : List UpBit) (c : RootCmd) (b : BitVec 64),
      (s.seg g).cmd = some c ∧ (s.advance t).workSpace g (8 + (State.cmdFrame c).snd.length) = true ∧ upJudge rx = Uplink.frame b ∧ c.code ≠ 4 ∧
      State.ackOf (State.cmdFrame c).fst (if c.tries = 0 then (s.seg g).tn else c.tn) b = true) ∧
    (∃ (s : State) (t : Nat) (g : Fin 16) (rx : List UpBit) (c : RootCmd) (b : BitVec 64),
      (s.seg g).cmd = some c ∧ (s.advance t).workSpace g (8 + (State.cmdFrame c).snd.length) = true ∧ upJudge rx = Uplink.frame b ∧ c.code = 4 ∧
      upOk b = true) ∧
    (∃ (s : State) (t : Nat) (g : Fin 16) (rx : List UpBit) (c : RootCmd),
      (s.seg g).cmd = some c ∧ (s.advance t).workSpace g (8 + (State.cmdFrame c).snd.length) = true ∧
      (match upJudge rx with | Uplink.frame bits => true | x => false) = false ∧ c.tries < s.cmdRetry ↑g) ∧
    (∃ (s : State) (t : Nat) (g : Fin 16) (rx : List UpBit) (c : RootCmd),
      (s.seg g).cmd = some c ∧ (s.advance t).workSpace g (8 + (State.cmdFrame c).snd.length) = true ∧
      (match upJudge rx with | Uplink.frame bits => true | x => false) = false ∧ s.cmdRetry ↑g ≤ c.tries) :=
  ⟨⟨se er, tr, 2, ubc 0x5800000000000000#64 6, er, 0x5000000000000000#64, 4, [(0x9000000000000000#64, 4)], [9#64], 0x5A00000000000000#64, 6, by decide +kernel⟩,
   ⟨se er, tr, 2, ubm 0x5800000000000000#64 6, er, 0x5000000000000000#64, 4, [(0x9000000000000000#64, 4)], [9#64], by decide +kernel, by decide +kernel, by decide +kernel, .inl (by decide +kernel), by decide +kernel⟩,
   ⟨se er, tr, 2, ub 0x5800000000000000#64, er, 0x5000000000000000#64, 4, [(0x9000000000000000#64, 4)], [9#64], 0x5800000000000000#64, by decide +kernel⟩,
   ⟨se er1, tr, 2, ub 0x5800000000000000#64, er1, 0x5000000000000000#64, 4, [], [9#64], 0x5800000000000000#64, by decide +kernel⟩,
   ⟨se er, tr, 2, [], er, 0x5000000000000000#64, 4, [(0x9000000000000000#64, 4)], [9#64], by decide +kernel⟩,
   ⟨se ei, tr, 2, ub (up 0x100203040506), ei, 5#64, [6#64], [5#64, 6#64], [], up 0x100203040506, by decide +kernel⟩,
   ⟨se ei1, tr, 2, ub (up 0x200203040506), ei1, 5#64, [], [5#64, 6#64], [fo], up 0x200203040506, by decide +kernel⟩,
   ⟨se ea, tr, 2, ub (up 0x050900000000), ea, fo, 3, true, [], up 0x050900000000, by decide +kernel⟩,
   ⟨sc (rc 3 0), tr, 2, ub (up (0x000900000000 + (State.cmdFrame (rc 3 0)).1 * 2^40)), rc 3 0, up (0x000900000000 + (State.cmdFrame (rc 3 0)).1 * 2^40), by decide +kernel⟩,
   ⟨sc (rc 4 0), tr, 2, ub (up 0x100203040506), rc 4 0, up 0x100203040506, by decide +kernel⟩,
   ⟨sc (rc 3 0), tr, 2, [], rc 3 0, by decide +kernel⟩,
   ⟨sc (rc 3 9), tr, 2, [], rc 3 9, by decide +kernel⟩⟩

theorem wit_DigitalInputs :
    (∃ (s : State) (t : Nat) (g : Fin 8) (k : Fin 8) (level : Bool) (seen : Nat),
      s.dioRuns (dig g) = true ∧ s.en (diBase ↑g) = true ∧ (s.diGroup g).ch[k].pulsed = false ∧ (s.diGroup g).ch[k].acc ≠ level ∧
      (if (s.diGroup g).ch[k].raw = level then (s.diGroup g).ch[k].first else max (s.diGroup g).ch[k].first (min seen (s.advance t).now)) + fieldOf (s.rd (diBase ↑g + 128 + 4 * ↑k)) 31 16 * 1000 ≤ (s.advance t).now) ∧
    (∃ (s : State) (t : Nat) (g : Fin 8) (k : Fin 8) (level : Bool) (seen : Nat),
      s.dioRuns (dig g) = true ∧ s.en (diBase ↑g) = true ∧ (s.diGroup g).ch[k].pulsed = false ∧
      (s.diGroup g).ch[k].acc = level ∨ (s.advance t).now < (if (s.diGroup g).ch[k].raw = level then (s.diGroup g).ch[k].first else max (s.diGroup g).ch[k].first (min seen (s.advance t).now)) + fieldOf (s.rd (diBase ↑g + 128 + 4 * ↑k)) 31 16 * 1000) ∧
    (∃ (s : State) (t : Nat) (g : Fin 8) (k : Fin 8) (level : Bool) (seen : Nat),
      s.dioRuns (dig g) = true ∧ s.en (diBase ↑g) = true ∧ (s.diGroup g).ch[k].pulsed = true ∧ (s.diGroup g).ch[k].acc ≠ level ∧
      (s.diGroup g).ch[k].raw = level ∧
      1 + ceilDiv (fieldOf (s.rd (diBase ↑g + 128 + 4 * ↑k)) 31 16) (s.fld (diBase ↑g + 72) 13 0) ≤ (s.diGroup g).ch[k].run) ∧
    (∃ (s : State) (t : Nat) (g : Fin 8) (levels : Nat),
      s.dioRuns (dig g) = true ∧ s.en (diBase ↑g) = true ∧ (s.advance t).hwNs / 1000 % s.fld (diBase ↑g + 72) 13 0 = 0) ∧
    (∃ (s : State) (t : Nat) (g : Fin 8) (c : Fin 2),
      s.dioRuns (dig g) = true ∧ s.bit (State.cntBase ↑g ↑c) 0 = true ∧
      (s.advance t).hwNs / 1000000 * 1000000 / 1000000 % s.fld (State.cntBase ↑g ↑c) 13 4 = 0) :=
  ⟨⟨di (fun d => {d with ch := d.ch.map fun x => {x with pulsed := false}}), 2016400000, 3, 2, true, 2016300000, by decide +kernel⟩,
   ⟨di (fun d => {d with ch := d.ch.map fun x => {x with pulsed := false}}), 2016400000, 3, 2, true, 2016399500, by decide +kernel⟩,
   ⟨di (fun d => {d with ch := d.ch.set 3 ⟨true, false, 5, 40, 3, true⟩}), 2016400000, 3, 3, true, 0, by decide +kernel⟩,
   ⟨di (fun d => {d with ch := d.ch.set 3 ⟨true, false, 5, 40, 3, true⟩}), 2016400000, 3, 0xC, by decide +kernel⟩,
   ⟨put (di (fun d => {d with cnt := d.cnt.set 0 ⟨77, 5, some 2000000000, some 1000000000, 5⟩})) (State.cntBase 3 0) 0x11, 2016405000, 3, 0, by decide +kernel⟩⟩

theorem wit_FieldLinks :
    (∃ (s : State) (t : Nat) (g : Fin 12) (loads : List Nat) (ws : List Word) (sil : Nat) (clr : Nat),
      (s.field g).on = true ∧ (s.field g).sent = some (ws, sil, clr)) ∧
    (∃ (s : State) (t : Nat) (g : Fin 12) (limits : Nat),
      s.dioRuns g = true ∧ (s.field g).on = true) ∧
    (∃ (s : State) (t : Nat) (g : Fin 12),
      s.dioRuns g = true ∧ (s.field g).linkOk = true ∧ (s.field g).lastStatus + 900000 ≤ (s.advance t).now) ∧
    (∃ (s : State) (t : Nat) (g : Fin 12),
      (s.field g).on = true ∧ (s.field g).silent = false ∧ (s.field g).lastCmd + (s.field g).silMs * 900000 ≤ (s.advance t).now) ∧
    (∃ (s : State) (t : Nat) (g : Fin 12),
      (s.field g).on = false) ∧
    (∃ (s : State) (t : Nat) (g : Fin 12) (p : Nat),
      (s.field g).recover = some p ∧ p + 90000000 ≤ (s.advance t).now) ∧
    (∃ (s : State) (t : Nat) (g : Fin 12) (loads : List Nat) (ws : List Word) (sil : Nat) (clr : Nat),
      (s.field g).on = true ∧ (s.field g).sent = some (ws, sil, clr)) :=
  ⟨⟨ff snt 9, 0, 9, List.replicate 8 5, [1#32,0x80000000#32], 70, 0xFF, by decide +kernel⟩,
   ⟨ff (fun f => {f with uv18 := true}) 9, 0, 9, 3, by decide +kernel⟩,
   ⟨ff (fun f => {f with linkOk := true}) 9, 1500000000, 9, by decide +kernel⟩,
   ⟨ff (fun f => {f with silent := false}) 9, 1500000000, 9, by decide +kernel⟩,
   ⟨ff (fun f => {f with on := false}) 9, 1500000000, 9, by decide +kernel⟩,
   ⟨ff (fun f => {f with recover := some 0}) 9, 1500000000, 9, 0, by decide +kernel⟩,
   ⟨ff snt 9, 0, 9, List.replicate 8 5, [1#32,0x80000000#32], 70, 0xFF, by decide +kernel⟩⟩

theorem wit_DigitalOutputs :
    (∃ (s : State) (t : Nat) (i : Fin 32),
      (s.advance t).driveOn (s.out i).out = true) ∧
    (∃ (s : State) (t : Nat) (i : Fin 32) (b : Bool),
      (s.out i).overload = true ∧ (s.out i).ot = false ∧ bitOf (s.fieldCfg i) 8 = true ∧ (s.out i).overAt + 900000000 ≤ (s.advance t).now ∧
      s.sup.safeNet = false ∧ (s.field (dog (outGroup i))).on = true ∧ (s.field (dog (outGroup i))).uv15 = false ∧
      (s.field (dog (outGroup i))).recover = none ∧ (s.field (dog (outGroup i))).rcStop = false ∧ (s.field (dog (outGroup i))).silent = false ∧
      s.dioRuns (dog (outGroup i)) = true ∧ s.laneRow i = 8 ∧ s.outSrc ↑i = 0 ∧ s.outMode ↑i = 0 ∧ 1 ≤ s.fld (outBase ↑i + 4) 23 0 ∧
      (s.out i).lane = Drive.steady b) ∧
    (∃ (s : State) (t : Nat) (i : Fin 32),
      s.rbRuns i = true ∧ (s.advance t).driveOn (s.out i).out = false ∧ (s.advance t).driveSince (s.out i).since (s.out i).out + 2000000 ≤ (s.advance t).now) ∧
    (∃ (s : State) (t : Nat) (i : Fin 32),
      s.rbRuns i = true ∧ (s.advance t).driveOn (s.out i).out = true ∧ (s.out i).limit = false ∧ (s.out i).ot = false ∧
      (s.field (dog (outGroup i))).uv15 = false ∧ (s.advance t).driveSince (s.out i).since (s.out i).out + 2000000 ≤ (s.advance t).now) ∧
    (∃ (s : State) (t : Nat) (i : Fin 32),
      s.rbRuns i = true ∧ (s.advance t).driveOn (s.out i).out = true ∧ s.bit (outBase ↑i) 4 = true ∧
      (s.advance t).driveSince (s.out i).since (s.out i).out + 10000000 ≤ (s.advance t).now) ∧
    (∃ (s : State) (t : Nat) (i : Fin 32),
      s.rbRuns i = true) ∧
    (∃ (s : State) (t : Nat) (i : Fin 32),
      s.rbRuns i = true) ∧
    (∃ (s : State) (t : Nat) (i : Fin 32),
      s.rbRuns i = true) ∧
    (∃ (s : State) (t : Nat) (i : Fin 32),
      s.outSrc ↑i = 2 ∧ s.dioRuns (dog (outGroup i)) = true ∧
      (s.advance t).source (fieldOf (s.rd (outBase ↑i + 16)) 31 24) (fieldOf (s.rd (outBase ↑i + 16)) 23 16) (fieldOf (s.rd (outBase ↑i + 16)) 15 8) = none) ∧
    (∃ (s : State) (t : Nat) (i : Fin 32) (st : Nat) (p : Nat) (h : Nat) (load : Nat),
      (s.out i).lane = Drive.wave st p h ∧ s.dioRuns (dog (outGroup i)) = true ∧ st + p ≤ (s.advance t).now ∧ load ≤ 100 ∧ s.laneRow i = 8 ∧
      s.mirSafe i = false) ∧
    (∃ (s : State) (t : Nat) (i : Fin 32) (st : Nat) (p : Nat) (h : Nat) (load : Nat),
      (s.out i).lane = Drive.wave st p h ∧ s.dioRuns (dog (outGroup i)) = true ∧ st + p ≤ (s.advance t).now ∧ 100 < load ∧ (s.out i).out = (s.out i).lane ∧
      0 < h ∧ h < p) ∧
    (∃ (s : State) (t : Nat) (i : Fin 32) (r : Source),
      s.outSrc ↑i = 2 ∧ s.dioRuns (dog (outGroup i)) = true ∧
      (s.advance t).source (fieldOf (s.rd (outBase ↑i + 16)) 31 24) (fieldOf (s.rd (outBase ↑i + 16)) 23 16) (fieldOf (s.rd (outBase ↑i + 16)) 15 8) = some r ∧
      r.ok = true ∧ (s.advance t).hwNs ≤ r.stamp + s.fld (outBase ↑i + 20) 15 0 * 1000000) :=
  ⟨⟨dd ok (fun o => {o with out := .steady true}), 1500000000, 9, by decide +kernel⟩,
   ⟨put (put (dd ok (fun o => {o with overload := true, overAt := 0, lane := .steady true})) (outBase 9 + 4) 1) (doBase 1 + 0x108) 0, 1500000000, 9, true, by decide +kernel⟩,
   ⟨dd ok (fun o => {o with out := .steady false}), 1500000000, 9, by decide +kernel⟩,
   ⟨dd ok (fun o => {o with out := .steady true}), 1500000000, 9, by decide +kernel⟩,
   ⟨put (dd ok (fun o => {o with out := .steady true})) (outBase 9) 0x10, 1500000000, 9, by decide +kernel⟩,
   ⟨dd ok (fun o => {o with shortSup := true}), 1500000000, 9, by decide +kernel⟩,
   ⟨dd ok (fun o => {o with rbFail := true}), 1500000000, 9, by decide +kernel⟩,
   ⟨dd ok (fun o => {o with opened := true}), 1500000000, 9, by decide +kernel⟩,
   ⟨put (dd ok id) (outBase 9) 0x2000000, 1500000000, 9, by decide +kernel⟩,
   ⟨put (put (dd ok (fun o => {o with lane := .wave 0 1000 500})) (outBase 9) 0x200000) (outBase 9 + 4) 700, 1500000000, 9, 0, 1000, 500, 100, by decide +kernel⟩,
   ⟨put (put (dd ok (fun o => {o with lane := .wave 0 1000 500, out := .wave 0 1000 500})) (outBase 9) 0x200000) (outBase 9 + 4) 700, 1500000000, 9, 0, 1000, 500, 101, by decide +kernel⟩,
   ⟨dm3, 1500000000, 9, ⟨0#32, 1483600000, true, true⟩, by decide +kernel⟩⟩

theorem wit_AnalogInputs :
    (∃ (s : State) (t : Nat) (c : Fin 8) (r : AiReading) (count : Nat),
      s.powered 6 = true ∧ (s.conv c).busy = some r ∧ r.start + r.lead0 < (s.advance t).now ∧ r.typ = 4 ∧ r.countA = none) ∧
    (∃ (s : State) (t : Nat) (c : Fin 8) (r : AiReading) (count : Nat) (ovr : Bool) (exc : Bool),
      s.powered 6 = true ∧ (s.conv c).busy = some r ∧ r.start + r.lead0 < (s.advance t).now ∧ (r.typ = 4 → r.countA.isSome = true) ∧ s.afe.rx.length < 32) ∧
    (∃ (s : State) (t : Nat) (c : Fin 8) (r : AiReading) (count : Nat),
      s.powered 6 = true ∧ (s.conv c).busy = some r ∧ r.start + r.lead0 < (s.advance t).now ∧ 3 ≤ r.typ ∧ s.afe.rx.length < 32) ∧
    (∃ (s : State) (t : Nat) (c : Fin 8) (r : AiReading) (rest : List AfeFrame) (k : Fin 4),
      s.aiRuns = true ∧ s.afe.rx = AfeFrame.ai r :: rest ∧ r.conv = ↑c ∧ r.ch = ↑k ∧
      (match rest with | AfeFrame.ao n code opened short stamp good :: tail => false | x => true) = true ∧ (s.conv c).lead[k] = none ∧ r.lead = false) ∧
    (∃ (s : State) (t : Nat) (c : Fin 8) (r : AiReading) (rest : List AfeFrame) (k : Fin 4) (l : LeadRun),
      s.aiRuns = true ∧ s.afe.rx = AfeFrame.ai r :: rest ∧ r.conv = ↑c ∧ r.ch = ↑k ∧
      (match rest with | AfeFrame.ao n code opened short stamp good :: tail => false | x => true) = true ∧ (s.conv c).lead[k] = some l ∧ r.lead = true ∧
      l.n < 8) ∧
    (∃ (s : State) (t : Nat) (c : Fin 8) (r : AiReading) (rest : List AfeFrame) (k : Fin 4),
      s.aiRuns = true ∧ s.afe.rx = AfeFrame.ai r :: rest ∧ r.conv = ↑c ∧ r.ch = ↑k ∧
      (match rest with | AfeFrame.ao n code opened short stamp good :: tail => false | x => true) = true) ∧
    (∃ (s : State) (t : Nat) (c : Fin 8) (k : Fin 4) (l : LeadRun),
      (s.conv c).lead[k] = some l ∧ 8 ≤ l.n ∧ l.flagged = false ∧ F64.lt (F64.ofNat 50) (F64.div l.sum (F64.ofNat 8)) = false) ∧
    (∃ (s : State) (t : Nat) (c : Fin 8) (k : Fin 4) (l : LeadRun),
      (s.conv c).lead[k] = some l ∧ 8 ≤ l.n ∧ (l.flagged = true ∨ F64.lt (F64.ofNat 50) (F64.div l.sum (F64.ofNat 8)) = true)) ∧
    (∃ (s : State) (t : Nat) (c : Fin 8),
      s.powered 6 = true ∧ s.afe.onRc = false) ∧
    (∃ (s : State) (t : Nat) (c : Fin 8) (cfg : AiConfig),
      s.powered 6 = true ∧ s.afe.onRc = false ∧ s.afe.cfgOut = some cfg) ∧
    (∃ (s : State) (t : Nat) (c : Fin 8) (cfg : AiConfig),
      s.powered 6 = true ∧ s.afe.onRc = false ∧ s.afe.cfgOut = some cfg) :=
  ⟨⟨busy { rd0 with cfg := [0x80000004#32] }, 2000000000, 2, { rd0 with cfg := [0x80000004#32] }, 77, by decide +kernel⟩,
   ⟨busy rd0, 2000000000, 2, rd0, 77, true, true, by decide +kernel⟩,
   ⟨busy { rd0 with cfg := [0x80000004#32] }, 2000000000, 2, { rd0 with cfg := [0x80000004#32] }, 0, by decide +kernel⟩,
   ⟨ai (fun x => {x with cmdErr := 5, rx := [.ai rd0, .ai rd0]}), 2000000000, 2, rd0, [.ai rd0], 1, by decide +kernel⟩,
   ⟨ld ⟨3, F64.ofNat 40, false⟩ |> fun s => { s with afe := { s.afe with rx := [.ai { rd0 with lead := true }] } }, 2000000000, 2, { rd0 with lead := true }, [], 1, ⟨3, F64.ofNat 40, false⟩, by decide +kernel⟩,
   ⟨ai (fun x => {x with rx := [.ai rd0, .ai rd0]}), 2000000000, 2, rd0, [.ai rd0], 1, by decide +kernel⟩,
   ⟨ld ⟨8, F64.ofNat 40, false⟩, 2000000000, 2, 1, ⟨8, F64.ofNat 40, false⟩, by decide +kernel⟩,
   ⟨ld ⟨8, F64.ofNat 408, false⟩, 2000000000, 2, 1, ⟨8, F64.ofNat 408, false⟩, by decide +kernel⟩,
   ⟨live, 0, 2, by decide +kernel⟩,
   ⟨cfgd id, 2000000000, 2, (cfgd id).aiConfig, by decide +kernel⟩,
   ⟨cfgd id, 2000000000, 2, (cfgd id).aiConfig, by decide +kernel⟩⟩

theorem wit_AnalogOutputs :
    (∃ (s : State) (t : Nat) (n : Fin 8),
      s.powered 6 = true ∧ s.clocked Kind.ao = true ∧ s.clockFault = false) ∧
    (∃ (s : State) (t : Nat) (n : Fin 8) (codes : List Nat) (safes : List Nat),
      s.powered 6 = true ∧ s.afe.cmd = some (codes, safes) ∧ s.afe.onRc = false ∧ s.afe.cfgOut = none) ∧
    (∃ (s : State) (t : Nat) (n : Fin 8) (codes : List Nat) (safes : List Nat),
      s.powered 6 = true ∧ s.afe.cmd = some (codes, safes) ∧ s.afe.onRc = false ∧ s.afe.cfgOut = none) ∧
    (∃ (s : State) (t : Nat) (n : Fin 8),
      s.powered 6 = true ∧ s.afe.refreshTo = false ∧ s.afe.lastCmd + 47500000 ≤ (s.advance t).now) ∧
    (∃ (s : State) (t : Nat) (n : Fin 8) (code : Nat) (high : Bool),
      s.powered 6 = true ∧ s.clockFault = false ∧ s.afe.rx = []) ∧
    (∃ (s : State) (t : Nat) (n : Fin 8) (code : Nat) (high : Bool),
      s.powered 6 = true ∧ s.clockFault = false ∧ s.afe.rx = []) ∧
    (∃ (s : State) (t : Nat) (n : Fin 8) (code : Nat) (high : Bool) (r : AiReading) (l : List AfeFrame) (good : Bool),
      s.powered 6 = true ∧ s.clockFault = false ∧ s.afe.rx = AfeFrame.ai r :: l ∧ l.length < 31) :=
  ⟨⟨ao id, 0, 2, by decide +kernel⟩,
   ⟨ao (fun x => {x with cmd := some ([1,2,3,4,5,6,7,8],[9,10,11,12,13,14,15,16])}), 0, 2, [1,2,3,4,5,6,7,8], [9,10,11,12,13,14,15,16], by decide +kernel⟩,
   ⟨ao (fun x => {x with cmd := some ([1,2,3,4,5,6,7,8],[9,10,11,12,13,14,15,16])}), 0, 2, [1,2,3,4,5,6,7,8], [9,10,11,12,13,14,15,16], by decide +kernel⟩,
   ⟨ao id, 1300000000, 2, by decide +kernel⟩,
   ⟨ao (fun x => {x with ao := x.ao.set 2 {x.ao[2] with code := 4000, openAt := some 0}}), 1300000000, 2, 100, true, by decide +kernel⟩,
   ⟨ao (fun x => {x with ao := x.ao.set 2 {x.ao[2] with code := 4000, openAt := none}}), 1300000000, 2, 100, true, by decide +kernel⟩,
   ⟨ao (fun x => {x with rx := [.ai rd0], ao := x.ao.set 2 {x.ao[2] with code := 4000, openAt := some 0}}), 1300000000, 2, 100, true, rd0, [], true, by decide +kernel⟩⟩

theorem wit_CellRows :
    (∃ (s : State) (t : Nat) (c : Fin 4) (ws : Vector Window 4),
      s.cellRuns = true) ∧
    (∃ (s : State) (t : Nat) (c : Fin 4) (d : Dwell) (r : F64) (brk : Bool),
      s.cellRuns = true ∧ (s.grp c).dwell = some d ∧ d.kind = DwellKind.read ∧ s.bit (cellBase ↑d.cell + 64) 8 = true) ∧
    (∃ (s : State) (t : Nat) (c : Fin 4) (d : CellDone),
      s.cellRuns = true ∧ (s.grp c).done = some d) ∧
    (∃ (s : State) (t : Nat) (c : Fin 4),
      s.cellRuns = true ∧ (s.grp c).rcal = 1 ∧ 12 ≤ (s.grp c).slots) ∧
    (∃ (s : State) (t : Nat) (c : Fin 4) (n : Fin 16) (r : CalRun),
      s.cellRuns = true ∧ (s.cell n).cal = some r ∧ 3 ≤ r.grp ∧ r.bad = true) ∧
    (∃ (s : State) (t : Nat) (c : Fin 4) (n : Fin 16) (r : CalRun),
      s.cellRuns = true ∧ (s.cell n).cal = some r ∧ 3 ≤ r.grp ∧ r.bad = false ∧ r.std = 0 ∧
      ((withIndex r.done).all fun y => F64.le y.snd.abs (F64.mul (omega y.fst) (F64.ofRat false 50 1000000000000))) = true) ∧
    (∃ (s : State) (t : Nat) (c : Fin 4) (n : Fin 16) (xs : List Code) (ovr : Bool),
      s.cellRuns = true ∧ (s.cell n).scanCap = some (xs, ovr) ∧ s.xfDone (XfJob.scan n) 1 = true) :=
  ⟨⟨grp 1 (fun g => {g with dwell := some dw}), 1300000000, 1, Vector.replicate 4 win0, by decide +kernel⟩,
   ⟨grp 1 (fun g => {g with dwell := some dw}), 1300000000, 1, dw, F64.ofNat 100, false, by decide +kernel⟩,
   ⟨grp 1 (fun g => {g with done := some cd}), 1300000000, 1, cd, by decide +kernel⟩,
   ⟨grp 1 (fun g => {g with rcal := 1, slots := 12}), 1300000000, 1, by decide +kernel⟩,
   ⟨cel 5 (fun x => {x with cal := some cr}), 1300000000, 1, 5, cr, by decide +kernel⟩,
   ⟨cel 5 (fun x => {x with cal := some {cr with bad := false}}), 1300000000, 1, 5, {cr with bad := false}, by decide +kernel⟩,
   ⟨(fun s : State => { s with xf := { s.xf with ready := [.scan 5] } }) (cel 5 (fun x => {x with scanCap := some (win0.samples, true)})), 1300000000, 5, 5, win0.samples, true, by decide +kernel⟩⟩

theorem wit_MoistureRows :
    (∃ (s : State) (t : Nat) (n : Fin 16) (d : CellRead),
      (s.moistCell n).due = some d ∧ s.moistRuns = true ∧ s.residWaits n d = true) ∧
    (∃ (s : State) (t : Nat) (n : Fin 16) (d : CellRead),
      (s.moistCell n).due = some d ∧ s.moistRuns = true ∧ s.residWaits n d = false) ∧
    (∃ (s : State) (t : Nat) (n : Fin 16) (w : Sweep) (d : Dwell) (win : Window),
      s.moist.sweep = some w ∧ w.cap = some (d, win) ∧ s.cellRuns = true ∧ (¬XfJob.sweep ∈ s.xf.moistQ ∨ s.xfRuns = false ∨ s.enfLevel ≠ 0) ∧
      State.ovrOf win = true ∧ w.retries < 3) ∧
    (∃ (s : State) (t : Nat) (n : Fin 16) (w : Sweep) (d : Dwell) (win : Window),
      s.moist.sweep = some w ∧ w.cap = some (d, win) ∧ s.cellRuns = true ∧ (¬XfJob.sweep ∈ s.xf.moistQ ∨ s.xfRuns = false ∨ s.enfLevel ≠ 0) ∧
      State.ovrOf win = true ∧ 3 ≤ w.retries) ∧
    (∃ (s : State) (t : Nat) (n : Fin 16) (w : Sweep) (d : Dwell) (win : Window),
      s.moist.sweep = some w ∧ w.cap = some (d, win) ∧ s.cellRuns = true ∧ (¬XfJob.sweep ∈ s.xf.moistQ ∨ s.xfRuns = false ∨ s.enfLevel ≠ 0) ∧
      State.ovrOf win = false ∧ w.grp < 2) ∧
    (∃ (s : State) (t : Nat) (n : Fin 16) (w : Sweep) (d : Dwell) (win : Window),
      s.moist.sweep = some w ∧ w.cap = some (d, win) ∧ s.cellRuns = true ∧ (¬XfJob.sweep ∈ s.xf.moistQ ∨ s.xfRuns = false ∨ s.enfLevel ≠ 0) ∧
      State.ovrOf win = false ∧ 2 ≤ w.grp) ∧
    (∃ (s : State) (t : Nat) (n : Fin 16) (tones : List Nat) (xs : List Code),
      (s.cell n).residCap = some (tones, xs) ∧ s.xfDone (XfJob.resid n) 1 = true ∧ s.moistRuns = true ∧ s.enfLevel = 0) ∧
    (∃ (s : State) (t : Nat) (n : Fin 16),
      s.xfRuns = true ∧ s.xf.work = 1) ∧
    (∃ (s : State) (t : Nat) (n : Fin 16),
      s.xfRuns = true ∧ s.xf.work = 2 ∧ s.xf.sub = 2 ∧ s.xf.moistQ = []) ∧
    (∃ (s : State) (t : Nat) (n : Fin 16),
      s.xfRuns = true) :=
  ⟨⟨moCap, 1300000000, 5, moRes, by decide +kernel⟩,
   ⟨mo, 1300000000, 5, moRead, by decide +kernel⟩,
   ⟨swS { sw0 with cap := some (dw, winO), retries := 2 }, 1300000000, 5, { sw0 with cap := some (dw, winO), retries := 2 }, dw, winO, by decide +kernel⟩,
   ⟨swS { sw0 with cap := some (dw, winO), retries := 3 }, 1300000000, 5, { sw0 with cap := some (dw, winO), retries := 3 }, dw, winO, by decide +kernel⟩,
   ⟨swS { sw0 with grp := 1, retries := 3 }, 1300000000, 5, { sw0 with grp := 1, retries := 3 }, dw, win0, by decide +kernel⟩,
   ⟨swS { sw0 with grp := 2, retries := 3 }, 1300000000, 5, { sw0 with grp := 2, retries := 3 }, dw, win0, by decide +kernel⟩,
   ⟨moRdy, 1300000000, 5, [0,1,2], win0.samples, by decide +kernel⟩,
   ⟨{ mo with xf := { mo.xf with work := 1, moistQ := [.scan 3, .sweep] } }, 1300000000, 5, by decide +kernel⟩,
   ⟨{ mo with xf := { mo.xf with work := 2, sub := 2, gnss4 := 2 } }, 1300000000, 5, by decide +kernel⟩,
   ⟨{ mo with xf := { mo.xf with work := 2, sub := 2, gnss4 := 2, moistNs := 1234567, gnssNs := 77777 } }, 1300000000, 5, by decide +kernel⟩⟩

theorem wit_PtpSlave :
    (∃ (s : State) (t : Nat) (p : Fin 2) (m : PtpMsg),
      s.ptpOn = true ∧ s.ptpUp p = true ∧ s.fromParent p m = true ∧ m.twoStep = true) ∧
    (∃ (s : State) (t : Nat) (p : Fin 2) (m : PtpMsg),
      s.ptpOn = true ∧ s.ptpUp p = true ∧ s.fromParent p m = true ∧ m.twoStep = false) ∧
    (∃ (s : State) (t : Nat) (p : Fin 2) (m : PtpMsg) (corr : Int) (t2 : Nat),
      s.ptpOn = true ∧ s.ptpUp p = true ∧ s.fromParent p m = true ∧ s.time.ptp.pend = some (m.seq, corr, t2)) ∧
    (∃ (s : State) (t : Nat) (p : Fin 2) (m : PtpMsg) (q : Parent),
      s.ptpOn = true ∧ s.p2p = false ∧ s.time.ptp.parent = some q) ∧
    (∃ (s : State) (t : Nat) (p : Fin 2) (m : PtpMsg) (t3 : Nat) (t1 : Int) (t2 : Nat),
      s.ptpOn = true ∧ s.p2p = false ∧ s.ptpUp p = true ∧ s.fromParent p m = true ∧ m.reqClock = clockId ∧ s.time.ptp.dreq = some (m.seq, t3) ∧
      s.time.ptp.last = some (t1, t2)) ∧
    (∃ (s : State) (t : Nat) (p : Fin 2) (m : PtpMsg) (ann : Announce),
      s.ptpOn = true ∧ s.ptpUp p = true ∧ m.domain = s.ptpCfg 7 0 ∧ m.clock ≠ clockId ∧ s.slaveOnly = true ∧ s.time.ptp.parent = none ∧
      s.time.ptp.rival = none) ∧
    (∃ (s : State) (t : Nat) (p : Fin 2) (m : PtpMsg) (ann : Announce) (o : Parent),
      s.ptpOn = true ∧ s.ptpUp p = true ∧ m.domain = s.ptpCfg 7 0 ∧ m.clock ≠ clockId ∧ s.slaveOnly = true ∧ s.time.ptp.parent = some o ∧
      o.ann.gm ≠ ann.gm ∧ lexLt (ann.key ++ [m.clock, m.portNum]) (o.ann.key ++ [o.clock, o.portNum]) = true) ∧
    (∃ (s : State) (t : Nat) (p : Fin 2) (m : PtpMsg) (q : Parent) (x : Nat),
      s.ptpOn = true ∧ s.time.ptp.parent = some q ∧ (s.advance t).now < s.time.ptp.annAt + s.ptpInt 11 8 * intervalNs q.logAnn ∧
      s.time.ptp.syncAt = some x ∧ x + 3 * intervalNs s.time.ptp.logSync ≤ (s.advance t).now) ∧
    (∃ (s : State) (t : Nat) (p : Fin 2) (m : PtpMsg) (q : Parent),
      s.ptpOn = true ∧ s.time.ptp.parent = some q ∧ s.time.ptp.annAt + s.ptpInt 11 8 * intervalNs q.logAnn ≤ (s.advance t).now) ∧
    (∃ (s : State) (t : Nat) (p : Fin 2) (m : PtpMsg) (ann : Announce),
      s.ptpOn = true ∧ s.ptpUp p = true ∧ m.domain = s.ptpCfg 7 0 ∧ m.clock ≠ clockId ∧ s.slaveOnly = false ∧ s.time.ptp.parent = none ∧
      s.time.ptp.rival = none ∧ lexLt (s.advance t).ownAnnounce.key ann.key = true) ∧
    (∃ (s : State) (t : Nat) (p : Fin 2) (m : PtpMsg) (ann : Announce) (o : Parent),
      s.ptpOn = true ∧ s.ptpUp p = true ∧ m.domain = s.ptpCfg 7 0 ∧ m.clock ≠ clockId ∧ s.slaveOnly = false ∧ s.time.ptp.parent = none ∧
      s.time.ptp.rival = some o ∧ (o.port, o.clock, o.portNum) ≠ (p, m.clock, m.portNum) ∧ lexLt (s.advance t).ownAnnounce.key ann.key = true) ∧
    (∃ (s : State) (t : Nat) (p : Fin 2) (m : PtpMsg) (ann : Announce),
      s.ptpOn = true ∧ s.ptpUp p = true ∧ m.domain = s.ptpCfg 7 0 ∧ m.clock ≠ clockId ∧ s.slaveOnly = false ∧
      lexLt (s.advance t).ownAnnounce.key ann.key = false ∧ (s.advance t).ownAnnounce.cls ≤ 127 ∧
      (∀ (o : Parent), s.time.ptp.parent.or s.time.ptp.rival = some o → lexLt (ann.key ++ [m.clock, m.portNum]) (o.ann.key ++ [o.clock, o.portNum]) = true)) ∧
    (∃ (s : State) (t : Nat) (p : Fin 2) (m : PtpMsg),
      s.ptpOn = true ∧ s.time.ptp.parent = none ∧ s.slaveOnly = false ∧ s.time.ptp.master = false ∧
      s.time.ptp.listenAt + s.ptpInt 11 8 * intervalNs (s.time.ptp.rival.elim ↑(s.ptpInt 7 4) fun q => q.logAnn) ≤ (s.advance t).now) :=
  ⟨⟨ts 0x200 par, 1300000000, 1, msg, by decide +kernel⟩,
   ⟨ts 0x200 par, 1300000000, 1, ms1, by decide +kernel⟩,
   ⟨ts 0x200 par, 1300000000, 1, msg, 65536, 1283599000, by decide +kernel⟩,
   ⟨ts 0x200 par, 1300000000, 1, msg, pa, by decide +kernel⟩,
   ⟨ts 0x200 par, 1300000000, 1, msg, 1283000000, 1282000000, 1282000900, by decide +kernel, by decide +kernel, by decide +kernel, by decide +kernel, rfl, by decide +kernel, by decide +kernel⟩,
   ⟨ts 0x200 id, 1300000000, 1, {msg with clock := clockId + 1}, an 100 9, by decide +kernel, by decide +kernel, by decide +kernel, Nat.succ_ne_self _, by decide +kernel, by decide +kernel, by decide +kernel⟩,
   ⟨ts 0x200 par, 1300000000, 1, {msg with clock := clockId + 1}, an 99 8, pa, by decide +kernel, by decide +kernel, by decide +kernel, Nat.succ_ne_self _, by decide +kernel, by decide +kernel, by decide +kernel, by decide +kernel⟩,
   ⟨ts 0x200 (fun x => (fun y => {y with ptp := {y.ptp with annAt := 19500000000, syncAt := some 0}}) (par {x with ptpS := {x.ptpS with present := true}})), 20000000000, 1, msg, pa, 0, by decide +kernel⟩,
   ⟨ts 0x200 (fun x => par {x with ptpS := {x.ptpS with present := true}}), 20000000000, 1, msg, pa, by decide +kernel⟩,
   ⟨ts 0 id, 1300000000, 1, {msg with clock := clockId + 1}, an 300 8, by decide +kernel, by decide +kernel, by decide +kernel, Nat.succ_ne_self _, by decide +kernel, by decide +kernel, by decide +kernel, by decide +kernel⟩,
   ⟨ts 0 (fun x => {x with ptp := {x.ptp with rival := some pa}}), 1300000000, 0, {msg with clock := clockId + 1}, an 300 8, pa, by decide +kernel, by decide +kernel, by decide +kernel, Nat.succ_ne_self _, by decide +kernel, by decide +kernel, by decide +kernel, by decide +kernel, by decide +kernel⟩,
   ⟨pas id, 1300000000, 1, {msg with clock := clockId + 1}, an 100 9, by decide +kernel, by decide +kernel, by decide +kernel, Nat.succ_ne_self _, by decide +kernel, by decide +kernel, by decide +kernel, (fun o h => absurd h (by rw [show ((pas id).time.ptp.parent.or (pas id).time.ptp.rival) = none by decide +kernel]; exact nofun))⟩,
   ⟨ts 0 id, 20000000000, 1, msg, by decide +kernel⟩⟩

theorem wit_PtpMaster :
    (∃ (s : State) (t : Nat) (p : Fin 2) (m : PtpMsg),
      s.ptpOn = true ∧ s.time.ptp.master = true) ∧
    (∃ (s : State) (t : Nat) (p : Fin 2) (m : PtpMsg) (x : Nat),
      s.ptpOn = true ∧ s.time.ptp.master = true ∧ s.time.ptp.syncTx = some x) ∧
    (∃ (s : State) (t : Nat) (p : Fin 2) (m : PtpMsg),
      s.ptpOn = true ∧ s.time.ptp.master = true) ∧
    (∃ (s : State) (t : Nat) (p : Fin 2) (m : PtpMsg),
      s.ptpOn = true ∧ s.time.ptp.master = true ∧ s.p2p = false ∧ s.ptpUp p = true ∧ m.domain = s.ptpCfg 7 0 ∧ m.clock ≠ clockId) ∧
    (∃ (s : State) (t : Nat) (p : Fin 2) (m : PtpMsg),
      s.timeOn = true ∧ s.p2p = true ∧ s.ptpUp p = true) ∧
    (∃ (s : State) (t : Nat) (p : Fin 2) (m : PtpMsg) (turn : Nat),
      s.timeOn = true ∧ s.p2p = true ∧ s.ptpUp p = true) ∧
    (∃ (s : State) (t : Nat) (p : Fin 2) (m : PtpMsg) (t1 : Nat),
      s.timeOn = true ∧ s.p2p = true ∧ s.ptpUp p = true ∧ m.reqClock = clockId ∧ m.reqPort = ↑p + 1 ∧ s.time.ptp.pd[p].sent = some (m.seq, t1) ∧
      m.twoStep = true) ∧
    (∃ (s : State) (t : Nat) (p : Fin 2) (m : PtpMsg) (t1 : Nat),
      s.timeOn = true ∧ s.p2p = true ∧ s.ptpUp p = true ∧ m.reqClock = clockId ∧ m.reqPort = ↑p + 1 ∧ s.time.ptp.pd[p].sent = some (m.seq, t1) ∧
      m.twoStep = false) ∧
    (∃ (s : State) (t : Nat) (p : Fin 2) (m : PtpMsg) (q : Nat) (t1 : Nat) (t2 : Nat) (corr : Int) (t4 : Nat),
      s.timeOn = true ∧ s.p2p = true ∧ s.ptpUp p = true ∧ m.reqClock = clockId ∧ m.reqPort = ↑p + 1 ∧ s.time.ptp.pd[p].sent = some (q, t1) ∧
      s.time.ptp.pd[p].resp = some (m.seq, t2, corr, t4)) ∧
    (∃ (s : State) (t : Nat) (p : Fin 2) (m : PtpMsg) (udp : Nat) (residence : Nat) (msg : List Byte),
      s.ptpUp 0 = true ∧ s.ptpUp 1 = true ∧ s.ptpCfg 10 10 = 0) ∧
    (∃ (s : State) (t : Nat) (p : Fin 2) (m : PtpMsg) (udp : Nat) (residence : Nat) (msg : List Byte),
      s.ptpUp 0 = true ∧ s.ptpUp 1 = true ∧ s.timeOn = true ∧ s.ptpCfg 10 10 = 1) :=
  ⟨⟨ts 0 mas, 1300000000, 1, msg, by decide +kernel⟩,
   ⟨ts 0 mas, 1300000000, 1, msg, 55, by decide +kernel⟩,
   ⟨ts 0 mas, 1300000000, 1, msg, by decide +kernel⟩,
   ⟨ts 0 mas, 1300000000, 1, {msg with clock := clockId + 1}, by decide +kernel, by decide +kernel, by decide +kernel, by decide +kernel, by decide +kernel, Nat.succ_ne_self _⟩,
   ⟨ts 0x100 pp, 1300000000, 1, msg, by decide +kernel⟩,
   ⟨ts 0x100 pp, 1300000000, 1, msg, 900, by decide +kernel⟩,
   ⟨ts 0x100 pp, 1300000000, 1, msg, 1283000000, by decide +kernel, by decide +kernel, by decide +kernel, rfl, by decide +kernel, by decide +kernel, by decide +kernel⟩,
   ⟨ts 0x100 pp, 1300000000, 1, ms1, 1283000000, by decide +kernel, by decide +kernel, by decide +kernel, rfl, by decide +kernel, by decide +kernel, by decide +kernel⟩,
   ⟨ts 0x100 pp, 1300000000, 1, msg, 7, 1283000000, 1283000500, 65536, 1283001500, by decide +kernel, by decide +kernel, by decide +kernel, rfl, by decide +kernel, by decide +kernel, by decide +kernel⟩,
   ⟨ts 0x100 pp, 1300000000, 1, msg, 3, 5, [1#8,2#8], by decide +kernel⟩,
   ⟨ts 0x400 pp, 1300000000, 0, msg, 0, 5, List.replicate 44 3#8, by decide +kernel⟩⟩

theorem wit_TrustAndPulse :
    (∃ (s : State) (t : Nat) (i : SrcId) (q : Nat),
      s.timeOn = true ∧ s.srcEn i = true ∧ (s.src i).present = true ∧ (s.src i).pass = true ∧ (s.src i).trusted = false ∧ (s.src i).qualAt = some q ∧
      q + 59900000000 ≤ (s.advance t).now ∧ (s.src i).filt ≠ []) ∧
    (∃ (s : State) (t : Nat),
      s.timeOn = true ∧ s.srcEn SrcId.ptp = true ∧ s.srcEn SrcId.gnss = true ∧ s.time.ptpS.present = true ∧ s.time.gnssS.present = true ∧
      (s.time.ptpS.trusted = true ∨ s.time.gnssS.trusted = true) ∧ (s.offset SrcId.ptp - s.offset SrcId.gnss).natAbs ≤ s.fld (timeBase + 108) 15 0) ∧
    (∃ (s : State) (t : Nat),
      s.timeOn = true ∧ s.srcEn SrcId.ptp = true ∧ s.srcEn SrcId.gnss = true ∧ s.time.ptpS.present = true ∧ s.time.gnssS.present = true ∧
      (s.time.ptpS.trusted = true ∨ s.time.gnssS.trusted = true) ∧ s.fld (timeBase + 108) 15 0 < (s.offset SrcId.ptp - s.offset SrcId.gnss).natAbs ∧
      s.time.xfail + 1 < 10) ∧
    (∃ (s : State) (t : Nat),
      s.timeOn = true ∧ s.srcEn SrcId.ptp = true ∧ s.srcEn SrcId.gnss = true ∧ s.time.ptpS.present = true ∧ s.time.gnssS.present = true ∧
      (s.time.ptpS.trusted = true ∨ s.time.gnssS.trusted = true) ∧ s.fld (timeBase + 108) 15 0 < (s.offset SrcId.ptp - s.offset SrcId.gnss).natAbs ∧
      9 ≤ s.time.xfail) ∧
    (∃ (s : State) (t : Nat),
      s.tpRuns = true ∧ s.time.tpAt + 2000000 ≤ (s.advance t).now ∧ s.fld (timeBase + 148) 15 0 * 1000000 ≤ (s.advance t).hwNs ∧
      ((s.advance t).hwNs - s.fld (timeBase + 148) 15 0 * 1000000) % max 1 (s.fld (timeBase + 148) 31 16 * 1000000) < 9) ∧
    (∃ (s : State) (t : Nat) (x : Nat),
      s.time.pulse = some x ∧ x ≤ (s.advance t).now) :=
  ⟨⟨src (fun y => {y with present := true, pass := true, qualAt := some 0, filt := [500]}) id, 60000000000, .ptp, 0, by decide +kernel⟩,
   ⟨src (fun y => {y with present := true, trusted := true, filt := [500]}) (fun y => {y with present := true, trusted := true, filt := [500]}) (fun x => {x with xfail := 3}), 60000000000, by decide +kernel⟩,
   ⟨src (fun y => {y with present := true, trusted := true, filt := [500000]}) (fun y => {y with present := true, trusted := true, filt := [500]}) (fun x => {x with xfail := 8}), 60000000000, by decide +kernel⟩,
   ⟨src (fun y => {y with present := true, trusted := true, filt := [500000]}) (fun y => {y with present := true, trusted := true, filt := [500]}) (fun x => {x with xfail := 9}), 60000000000, by decide +kernel⟩,
   ⟨put (put (ts 0 id) (timeBase + 0x90) 1) (timeBase + 0x94) 0x03E80000, 2016400000, by decide +kernel⟩,
   ⟨put (put (ts 0 (fun x => {x with pulse := some 2000000000})) (timeBase + 0x90) 3) (timeBase + 0x98) 10, 2016400008, 2000000000, by decide +kernel⟩⟩

theorem wit_GnssTracking :
    (∃ (s : State) (t : Nat) (c : Fin 64) (vis : List (Sat × Int)),
      s.gnssRuns = true ∧ s.gnss.pass = none ∧ (s.advance t).candidates vis ≠ [] ∧ s.freeCh.isSome = true ∧ s.clk.tcxoOk = true ∧ s.gnss.thr = 0) ∧
    (∃ (s : State) (t : Nat) (c : Fin 64) (q : AcqPass) (stamp : Nat),
      s.gnssRuns = true ∧ s.gnss.pass = some q ∧ q.captured = false ∧ q.start + 40000000 ≤ (s.advance t).now) ∧
    (∃ (s : State) (t : Nat) (c : Fin 64) (q : AcqPass) (y : Sat) (d : Int) (smp : Nat) (b : AcqBin) (k : Nat) (top : Nat),
      s.gnssRuns = true ∧ s.gnss.pass = some q ∧ q.captured = true ∧ s.xfGnssBusy = false ∧ (y, d) ∈ q.cand ∧ s.freeCh = some c ∧ b.sat = y ∧
      (b.dop - d).natAbs ≤ State.dopHalf s.gnss.start ∧ b.cells[k]? = some top ∧ (∀ (j : Fin b.cells.length), b.cells[j] ≤ top ∧
      (↑j < k → b.cells[j] < top)) ∧ 10 ^ s.fld (gnssBase + 84) 7 0 * (b.cells.sum - top) ^ 100 < (top * (b.cells.length - 1)) ^ 100 ∧ s.tracked y = false ∧
      s.sysEn y.sys = true) ∧
    (∃ (s : State) (t : Nat) (c : Fin 64) (q : AcqPass) (y : Sat) (d : Int) (smp : Nat) (b : AcqBin) (k : Nat) (top : Nat),
      s.gnssRuns = true ∧ s.gnss.pass = some q ∧ q.captured = true ∧ s.xfGnssBusy = false ∧ (y, d) ∈ q.cand ∧ s.freeCh = some c ∧ b.sat = y ∧
      (b.dop - d).natAbs ≤ State.dopHalf s.gnss.start ∧ b.cells[k]? = some top ∧ (∀ (j : Fin b.cells.length), b.cells[j] ≤ top ∧
      (↑j < k → b.cells[j] < top)) ∧ ¬10 ^ s.fld (gnssBase + 84) 7 0 * (b.cells.sum - top) ^ 100 < (top * (b.cells.length - 1)) ^ 100) ∧
    (∃ (s : State) (t : Nat) (c : Fin 64) (h : Nat) (y : Sat),
      s.gnssRuns = true ∧ (s.gch c).handed = some h ∧ (s.gch c).sat = some y ∧ (s.gch c).cstate = 0 ∧ h + 900000000 ≤ (s.advance t).now) ∧
    (∃ (s : State) (t : Nat) (c : Fin 64) (cn0 : Nat),
      s.gnssRuns = true ∧ (s.gch c).cstate ≠ 0 ∧ cn0 < s.fld (gnssBase + 88) 31 24 * 10) ∧
    (∃ (s : State) (t : Nat) (c : Fin 64) (y : Sat),
      s.gnssRuns = true ∧ (s.gch c).sat = some y ∧ (s.gch c).cstate < 5 ∧ ((s.gch c).cstate = 4 → (s.advance t).ephValid y = true)) ∧
    (∃ (s : State) (t : Nat) (c : Fin 64) (y : Sat) (raw : List Bool) (ago : Nat),
      s.gnssRuns = true ∧ (s.gch c).sat = some y ∧ 4 ≤ (s.gch c).cstate) :=
  ⟨⟨gn id, 1300000000, 3, [(y0, 40)], by decide +kernel⟩,
   ⟨gn (fun g => {g with pass := some ⟨0, false, [(y0, 40)], 0⟩}), 1300000000, 3, ⟨0, false, [(y0, 40)], 0⟩, 555, by decide +kernel⟩,
   ⟨gn (fun g => {g with pass := some ap0}), 1300000000, 0, ap0, y0, 40, 777, ab0 4000, 1, 4000, by decide +kernel⟩,
   ⟨gn (fun g => {g with pass := some ap0}), 1300000000, 0, ap0, y0, 40, 777, ab0 10, 1, 10, by decide +kernel⟩,
   ⟨gcs (fun c => {c with sat := some y0, handed := some 0}), 1300000000, 20, 0, y0, by decide +kernel⟩,
   ⟨gcs (fun c => {c with sat := some y0, cstate := 3}), 1300000000, 20, 10, by decide +kernel⟩,
   ⟨gcs (fun c => {c with sat := some y0, cstate := 0}), 1300000000, 20, y0, by decide +kernel⟩,
   ⟨put (gcs (fun c => {c with sat := some y0, cstate := 4})) (gnssBase + 0x64) 7, 1300000000, 20, y0, List.replicate 300 true, 20000, by decide +kernel⟩⟩

theorem wit_GnssSolutions :
    (∃ (s : State) (t : Nat) (ref : Nat) (sec : Nat) (qerr : Int),
      s.gnssRuns = true) ∧
    (∃ (s : State) (t : Nat) (ms : List GnssMeas) (fx : GnssFix),
      s.gnssRuns = true ∧ s.enfLevel = s.gnss.thr ∧ s.gnss.epoch = none) ∧
    (∃ (s : State) (t : Nat) (ms : List GnssMeas) (fx : GnssFix) (e : Epoch),
      s.gnssRuns = true ∧ s.enfLevel = s.gnss.thr ∧ s.gnss.epoch = some e ∧
      ((s.advance t).inUse (List.filter (fun m => s.gchOn m.ch) ms)).snd.length < (s.advance t).unknowns ((s.advance t).inUse (List.filter (fun m => s.gchOn m.ch) ms)).fst ((s.advance t).inUse (List.filter (fun m => s.gchOn m.ch) ms)).snd + 1) ∧
    (∃ (s : State) (t : Nat) (ms : List GnssMeas) (fx : GnssFix) (e : Epoch),
      s.gnssRuns = true ∧ s.enfLevel = s.gnss.thr ∧ s.gnss.epoch = some e ∧ ((s.advance t).inUse (List.filter (fun m => s.gchOn m.ch) ms)).fst ≠ 0 ∧
      (s.advance t).unknowns ((s.advance t).inUse (List.filter (fun m => s.gchOn m.ch) ms)).fst ((s.advance t).inUse (List.filter (fun m => s.gchOn m.ch) ms)).snd + 1 ≤ ((s.advance t).inUse (List.filter (fun m => s.gchOn m.ch) ms)).snd.length ∧
      ((s.advance t).solve ((s.advance t).inUse (List.filter (fun m => s.gchOn m.ch) ms)).fst ((s.advance t).inUse (List.filter (fun m => s.gchOn m.ch) ms)).snd).isSome = true ∧
      s.gcfg 9 8 = 1) ∧
    (∃ (s : State) (t : Nat),
      s.antOn = true ∧ s.gnss.ant ≠ 2) ∧
    (∃ (s : State) (t : Nat) (limits : Bool),
      s.antOn = true ∧ s.gnss.ant = 2 ∧ s.gnss.antAt + 4500000000 ≤ (s.advance t).now) ∧
    (∃ (s : State) (t : Nat) (i : Nat),
      s.antOn = true ∧ s.gnss.ant = 0 ∧ i < 20) ∧
    (∃ (s : State) (t : Nat) (i : Nat),
      s.antOn = true ∧ s.gnss.ant = 1 ∧ 30 ≤ i) :=
  ⟨⟨gn id, 2016400000, 1, 500, 3, by decide +kernel⟩,
   ⟨gn id, 2016400000, [], fx0, by decide +kernel⟩,
   ⟨gn (fun g => {g with epoch := some e0}), 2016400000, [me 20], fx0, e0, by decide +kernel⟩,
   ⟨gs, 2016400000, [me 20, me 21], fx0, e0, by decide +kernel, by decide +kernel, by decide +kernel, by decide +kernel, by decide +kernel, by rw [gs_use]; exact gs_solves, by decide +kernel⟩,
   ⟨gn id, 2016400000, by decide +kernel⟩,
   ⟨gn (fun g => {g with ant := 2}), 12016400000, true, by decide +kernel⟩,
   ⟨gn id, 2016400000, 19, by decide +kernel⟩,
   ⟨gn (fun g => {g with ant := 1}), 2016400000, 30, by decide +kernel⟩⟩

/-- RST_N accepted low waits in front. -/
def stepping (s : State) : State := { s with pending := [.rstNAccept 0] }

/-- What a step then leads to. -/
def stepped (s : State) : State := (({ s with pending := [] } : State).advance 0).rstAcceptRow

theorem step_stepping (s : State) : step (stepping s) = .next (stepped s) := rfl

/-- A ring that is full. -/
def fullRing : List LogEntry := List.replicate 16384 ⟨0, 0, 0, 0, 0, 0xFF, 0, 0⟩

theorem wit_StepKeepsCanonical : ∃ s t : State, Canonical s ∧ s.regs ≠ [] ∧ step s = .next t :=
  ⟨stepping live, stepped live, by unfold Canonical; decide +kernel, by decide +kernel, step_stepping _⟩

theorem wit_StepBoundsEventLog : ∃ s t : State, s.log.ring.length ≤ 16384 ∧ 16384 ≤ s.log.ring.length ∧ step s = .next t :=
  ⟨stepping { live with log := { live.log with ring := fullRing } }, _, Nat.le_of_eq List.length_replicate, Nat.le_of_eq List.length_replicate.symm, step_stepping _⟩

theorem wit_StepHoldsSafeNet : ∃ s t : State, SafeNetHeld s ∧ s.sup.mode = .safeHold ∧ step s = .next t :=
  ⟨stepping (sup live fun x => { x with mode := .safeHold, safeNet := true }), _, by unfold SafeNetHeld; decide +kernel, by decide +kernel, step_stepping _⟩

theorem wit_StepKeepsPins :
    (∃ s t : State, LifeWaveTrue s ∧ s.sup.lifeWave = true ∧ step s = .next t) ∧
    (∃ s t : State, ShutdownOnlyHot s ∧ s.sup.shdnLow = true ∧ step s = .next t) :=
  ⟨⟨stepping (sup live fun x => { x with lifeWave := true }), _, by unfold LifeWaveTrue; decide +kernel, by decide +kernel, step_stepping _⟩,
   ⟨stepping (sup live fun x => { x with mode := .thermalOff, shdnLow := true }), _, by unfold ShutdownOnlyHot; decide +kernel, by decide +kernel, step_stepping _⟩⟩


/-! ### Ill-formed commands: one for each check, and what is well formed beside it -/

theorem test_wf_frames :
    (Instr.openReq 0 .spi (List.replicate 1473 0#8)).wf = false ∧ (Instr.openProof 0 .spi (List.replicate 1473 0#8)).wf = false ∧
    (Instr.request 0 .spi (List.replicate 1473 0#8)).wf = false ∧ (Instr.close 0 .spi (List.replicate 1473 0#8)).wf = false ∧
    (Instr.request 0 .spi (List.replicate 1472 0#8)).wf = true := by decide +kernel

theorem test_wf_supervisor :
    (Instr.selftestDone 0 65536 3300 (Vector.replicate 6 (1, 1))).wf = false ∧ (Instr.fwVerifyDone 0 false 0#32 0).wf = false ∧
    (Instr.fwVerifyDone 0 false 0#32 3).wf = false ∧ (Instr.fwVerifyDone 0 false 0#32 2).wf = true ∧
    (Instr.clockFault 0 0).wf = false ∧ (Instr.clockFault 0 3).wf = false ∧ (Instr.clockFault 0 2).wf = true := by decide

theorem test_wf_power :
    (Instr.vfaStageSet 0 0).wf = false ∧ (Instr.vfaStageSet 0 4).wf = false ∧ (Instr.vfaStageClear 0 0).wf = false ∧
    (Instr.vfaStageClear 0 4).wf = false ∧ (Instr.domainPowerUp 0 12).wf = false ∧ (Instr.domainPowerOff 0 12).wf = false ∧
    (Instr.domFault 0 12).wf = false ∧ (Instr.criticalTrip 0 0).wf = false ∧ (Instr.criticalTrip 0 64).wf = false ∧
    (Instr.criticalTrip 0 63).wf = true := by decide

theorem test_wf_samples :
    (Instr.tachStretch 0 0 none 100001).wf = false ∧ (Instr.tachStretch 0 0 none 100000).wf = true ∧
    (Instr.currentSample 0 0 4096 0 0 0 0).wf = false ∧ (Instr.currentSample 0 0 0 4096 0 0 0).wf = false ∧
    (Instr.currentSample 0 0 0 0 4096 0 0).wf = false ∧ (Instr.currentSample 0 0 0 0 0 4096 0).wf = false ∧
    (Instr.currentSample 0 0 4095 4095 4095 4095 0).wf = true ∧ (Instr.statusFrame 0 0 true 256).wf = false ∧
    (Instr.statusFrame 0 0 true 255).wf = true := by decide

theorem test_wf_digital :
    (Instr.diPulseWindow 0 0 256).wf = false ∧ (Instr.diPulseWindow 0 0 255).wf = true ∧ (Instr.fieldCmdFrame 0 0 true (List.replicate 9 0)).wf = false ∧
    (Instr.doReadbackFlag 0 0 3).wf = false ∧ (Instr.doReadbackClear 0 0 3).wf = false ∧ (Instr.vfdUndervolt 0 0 3).wf = false ∧
    (Instr.vfdUvClear 0 0 3).wf = false ∧ (Instr.vfdUvClear 0 0 2).wf = true := by decide

theorem test_wf_time :
    (Instr.ptpMasterSend 0 3).wf = false ∧ (Instr.ptpTcForward 0 0 3 0 (List.replicate 16 0#8)).wf = false ∧
    (Instr.ptpTcForward 0 0 0 0 (List.replicate 15 0#8)).wf = false ∧ (Instr.gnssEpoch 0 3 0 0).wf = false ∧
    (Instr.acqPassStart 0 [(⟨1, 33⟩, 0)]).wf = false ∧ (Instr.acqPassStart 0 [(⟨0, 1⟩, 0)]).wf = false ∧ (Instr.acqPassEnd 0 0 [⟨⟨2, 37⟩, 50, []⟩]).wf = false ∧
    (Instr.acqPassEnd 0 0 [⟨⟨3, 63⟩, 50, []⟩]).wf = true ∧ (Instr.navDecode 0 0 (List.replicate 301 true) 0).wf = false ∧
    (Instr.navDecode 0 0 (List.replicate 300 true) 0).wf = true := by decide +kernel

/-! ### Figures the spec prints: its check value and its worked examples -/

/-- The check value of the CRC-32 (chapter 02, R40). -/
theorem test_crc32 : crc32 ("123456789".toList.map fun c => BitVec.ofNat 8 c.toNat) = 0xCBF43926#32 := by decide +kernel

/-- The check value the CRC catalogues give for CRC-24Q, of "123456789". -/
theorem test_crc24 :
    Nav.crc24 (("123456789".toList.map Char.toNat).flatMap fun n => (List.range 8).map fun i => n.testBit (7 - i)) = 0xCDE703 := by decide +kernel

/-- The worked example of chapter 19: the event record of ACT17 begins at 0x0001_4154. -/
theorem test_register_address : chAddr 4 1 0x114 = 0x14154 := by decide

/-- A figure times a power of ten, rounded. -/
def times (x : F64) (n : Nat) : Int := F64.nearest (F64.mul x (F64.ofNat n))

/-- Microsiemens, thousandths, as siemens. -/
def microS (re im : Int) : Cx := ⟨F64.dec re 9, F64.dec im 9⟩

/-- The worked example of chapter 04: the accumulators of tone 4 give Ym4 = 500.000 + j1,000.000 µS. -/
theorem test_cell_admittance :
    let ym := admittance (-31875737600000, -63751475200000) 950000 8000 1 Cx.one
    (times ym.re 1000000000, times ym.im 1000000000) = (500000, 1000000) := by decide +kernel

/-- The same example: the three standards correct it to 505.17 + j957.39 µS. -/
theorem test_cell_correction :
    let yo := microS 2000 60000
    let ys : Cx := ⟨F64.dec 8 2, F64.dec (-6) 2⟩
    let load : Cx := ⟨F64.dec 1 5, F64.mul (omega 14) (F64.dec 1 10)⟩
    let y := Cx.mul (loadFactor yo ys (microS 9426 611652) load) (openShort yo ys (microS 500000 1000000))
    (times y.re 100000000, times y.im 100000000) = (50517, 95739) := by decide +kernel

/-- The worked example of chapter 05: ε′ and ε″ at 247 kHz and at 4,436 kHz. -/
theorem test_permittivity :
    let el := permittivity (F64.dec 893921 10) (F64.dec 2905244 10) 10 (F64.ofNat 48)
    let eh := permittivity (F64.dec 2006799 10) (F64.dec 44149581 10) 19 (F64.ofNat 48)
    [el.1, el.2, eh.1, eh.2].map (fun x => times x 10000) = [39000, 12000, 33000, 1500] := by decide +kernel

/-- The worked example of chapter 06: a gate of 100 ms that ends with COUNT 2,123,587, and the temperature of 130.89675 Ω. -/
theorem test_analog_input :
    let r := { rd0 with cfg := [0x80000005#32, 0x0640C864#32] }
    r.lead0 = 1052000 ∧ times (r.freqOf 2123587) 100 = 265448375 ∧ times (r.qOf 2123587) 1000000000 = 327241875 ∧
    times (Iec.temp (F64.dec 13089675 5) (F64.ofNat 100)) 100000 = 7999987 := by decide +kernel

/-- The worked example of chapter 14: the blocks of the first cold pass, GPS and BeiDou, and Galileo. -/
theorem test_pass_work :
    live.passWork ((List.range 32).map fun i => (⟨1, i + 1⟩, 0)) = (32 * 25 * 4, 0) ∧
    live.passWork ((List.range 63).map fun i => (⟨3, i + 1⟩, 0)) = (63 * 25 * 4, 0) ∧
    live.passWork ((List.range 36).map fun i => (⟨2, i + 1⟩, 0)) = (0, 36 * 97) := by decide +kernel

/-- An event of the worked example of chapter 15. -/
def dose (c p q : Nat) : Event :=
  { ev0 with ch := c, prof := p, id := q, start := 2000000000, latest := 2002000000, deferrable := false, seq := q, fit := false }

/-- The converter and the events of the worked example of chapter 15. -/
def dosing : State :=
  let s := put (put (put live (actBase 0 + 0x44) 0x11460) (actBase 2 + 0x44) 0x11460) (ledBase + 0x40) 0x5032
  let s := put (put (put s 0x8064 0x800898) (pwrBase + 0x68) 2400) (actBase 0 + 0x48) 480
  let s := put (put s (actBase 0 + 0x204) 0x3200320) (actBase 1 + 0x208) 0x3840320
  (s.updBank 0 fun b => { b with queue := [dose 0 1 0, dose 1 1 1] }).updBank 1 fun b => { b with queue := [dose 0 2 2] }

/-- The worked example of chapter 15: E_MAX 190.08 mJ, P_R 38.4 mJ/ms, and E0, E1 planned at 0 µs, E4 at 1,561 µs. -/
theorem test_ledger_plan :
    times (dosing.eMax 0) 100000 = 19008 ∧ times (dosing.pR 0) 10 = 384 ∧
    (let u := (dosing.advance 2016400000).ledgerUpdate
     ((u.bank 0).queue ++ (u.bank 1).queue).map (fun e => (e.pstart, e.fit)) = [(2000000000, true), (2000000000, true), (2001561000, true)]) := by
  decide +kernel

/-- Registers written one after another. -/
def puts (s : State) (l : List (Nat × Nat)) : State := l.foldl (fun s p => put s p.1 p.2) s

/-- A decimal number as a binary32 word. -/
def dec32 (n : Int) (k : Nat) : Nat := (F64.narrow (F64.dec n k)).toNat

/-- Loop 1 of the worked example of chapter 09 before its sample. -/
def roll : State :=
  let b := loopBase 1
  (puts (enable live b) [(b + 0x40, 0x10000), (b + 0x44, 0x7D00000), (b + 0x50, 0x02010100), (b + 0x54, 500), (b + 0xA0, dec32 15 0), (b + 0xA4, 2),
    (b + 0x800, 1), (b + 0x80C, dec32 5 2), (b + 0x810, dec32 2 0), (b + 0x83C, dec32 2 0), (b + 0x840, dec32 10 0),
    (moistRes 1, 0x800000), (moistRes 1 + 4, 1900000000), (moistRes 1 + 0xC, 15240 * 65536), (moistRes 1 + 0x10, 0x100)]).updLoop 1
    fun x => { x with lst := 2, i := #v[F64.narrow (F64.dec 52 1), 0#32], done := 2000000000 }

/-- What a loop has posted: U0 and I0 in ten-thousandths, FLAGS, SET. -/
def posted (l : Nat) (o : Host.Outcome State Fault Refusal) : Option (Int × Int × Nat × Nat) :=
  match o with
  | .next u =>
    let r := loopBase l + 0x200
    some (times (F32.widen (u.rd (r + 0x18))) 10000, times (F32.widen (u.rd (r + 0x20))) 10000, u.fld r 7 0, u.fld r 10 8)
  | _ => none

/-- The worked example of chapter 09: 520 cycles, U0 = 4.6960 rpm, I0 = 5.1760. -/
theorem test_loop_sample :
    roll.cost 1 = 520 ∧ posted 1 (exec (.loopSample 2016405000 1) roll) = some (46960, 51760, 0, 0) := by decide +kernel

/-- Loop 0 of the worked example of chapter 10 before sample n. -/
def plenum : State :=
  let b := loopBase 0
  (puts (enable live b) [(b + 0x40, 0x10000), (b + 0x44, 0x3E80000), (b + 0x50, 0x01000000), (b + 0x70, 0x01010000), (b + 0xA0, dec32 82 0),
    (b + 0xA4, 2), (b + 0xB8, 0x120), (b + 0xBC, dec32 2 0), (b + 0x800, 1), (b + 0x804, dec32 (-40) 0), (b + 0x808, dec32 8 0),
    (b + 0x80C, dec32 4 1), (b + 0x810, dec32 6 0), (b + 0x840, dec32 100 0), (b + 0x900, 1), (b + 0x904, dec32 8 0), (b + 0x908, dec32 60 0),
    (b + 0x90C, dec32 3 1), (b + 0x910, dec32 4 0), (b + 0x940, dec32 80 0), (b + 0x944, dec32 5 0), (aiRes 0 0, 0x800000),
    (aiRes 0 0 + 4, 1900000000), (aiRes 0 0 + 0x14, dec32 795 1), (aiRes 0 1, 0x800000), (aiRes 0 1 + 4, 1900000000),
    (aiRes 0 1 + 0x14, dec32 103 1)]).updLoop 0
    fun x => { x with lst := 2, up := #v[F64.narrow (F64.ofNat 100), 0#32], done := 2000000000 }

/-- The worked example of chapter 10, sample n: the swap to set 1 presets the integrator, the clamp leaves I0 = 70.0000, and the slew
gives u0 = 95.0000, with SAT, SLEW and SWAP. -/
theorem test_loop_swap : posted 0 (exec (.loopSample 2016405000 0) plenum) = some (950000, 700000, 0x86, 1) := by decide +kernel

end Sys2Proof.Tests
end

section
/-!
PROOFS. The microcode instructions that act on their context only (R221): what such a command leaves as it was, said once
for all of them, and the saturating arithmetic of ALU, DJNZ, the loads and the timers (R222).
-/
namespace Sys2Proof.Machine

/-! ### A channel after an update -/

@[simp] theorem State.chan_updChan_same (s : State) (n : Fin 12) (k : Fin 4) (f : Chan → Chan) :
    (s.updChan n k f).chan n k = f (s.chan n k) := by
  simp [State.chan, State.bank, State.updChan, State.updBank]

theorem State.chan_updChan_other (s : State) (n : Fin 12) {j k : Fin 4} (h : j ≠ k) (f : Chan → Chan) :
    (s.updChan n k f).chan n j = s.chan n j := by
  have hv : k.val ≠ j.val := fun e => h (Fin.ext e.symm)
  simp [State.chan, State.bank, State.updChan, State.updBank, Vector.getElem_set_ne, hv]

theorem State.chan_congr {s t : State} (h : t.banks = s.banks) (n : Fin 12) (k : Fin 4) : t.chan n k = s.chan n k := by
  unfold State.chan State.bank
  rw [h]

/-! ### The frame of a command of a bank -/

theorem SameBut.trans {ps : List Part} {s t u : State} (h : SameBut ps s t) (k : SameBut ps t u) : SameBut ps s u :=
  fun p hp => Part.same_trans (h p hp) (k p hp)

theorem Does.sameBut {ps qs : List Part} {s t : State} (h : Does ps s t) (e : Part.sub ps qs = true) : SameBut qs s t :=
  (h.mono e).only

/-- Time that passes changes Heartwood only. -/
theorem State.advance_sameBut (s : State) (t : Nat) : SameBut [.heart] s (s.advance t) := by
  intro p hp
  cases p
  case heart => exact absurd (List.mem_singleton_self _) hp
  all_goals simp [Part.same]

theorem State.atBank_sameBut (s : State) (t : Nat) (n : Fin 12) : SameBut bankParts s (s.atBank t n) :=
  SameBut.trans (fun p hp => s.advance_sameBut t p fun hm => hp (Part.of_sub (by decide) hm))
    ((State.ripen_does _ n).sameBut rfl)

@[simp] theorem State.atBank_time (s : State) (t : Nat) (n : Fin 12) : (s.atBank t n).time = s.time :=
  s.atBank_sameBut t n .time (by decide)

@[simp] theorem State.settle_banks (s : State) : s.settle.banks = s.banks := s.settle_does.only .banks (by decide)

@[simp] theorem State.settle_time (s : State) : s.settle.time = s.time := s.settle_does.only .time (by decide)

theorem State.settleStep_of_not_due {s : State} (h : s.time.stepDue = false) : s.settleStep = s := by
  simp [State.settleStep, h]

theorem State.atBank_regs (s : State) (t : Nat) (n : Fin 12) : (s.atBank t n).regs = s.regs :=
  ((State.ripen_does _ n).only .regs (by decide)).trans (s.advance_regs t)

/-! ### An instruction that acts on its context only -/

/-- From `s` to `u`, context k of bank n has come to `x`; the other channels of the bank are as at the command's instant,
and nothing outside the bank and what follows it has changed. -/
structure CtxComesTo (s : State) (t : Nat) (n : Fin 12) (k : Fin 4) (x : Ctx) (u : State) : Prop where
  ctx : (u.chan n k).ctx = x
  others : ∀ j : Fin 4, j ≠ k → u.chan n j = (s.atBank t n).chan n j
  frame : SameBut bankParts s u

/-- An issued instruction that acts on its context only takes it through `f`, as the bank stands at the instant. -/
theorem State.issueCtx_comesTo {s : State} {t : Nat} {n : Fin 12} {k : Fin 4} {op : UOp} {w : Word}
    (f : Word → Chan → Ctx → Ctx) (due : s.time.stepDue = false) (issued : (s.atBank t n).issue n k op = some w) :
    let c := (s.atBank t n).chan n k
    CtxComesTo s t n k (f w c c.ctx) (((s.atBank t n).issueCtx n k op f).settle.settleStep) := by
  intro c
  have hissue : (s.atBank t n).issueCtx n k op f = (s.atBank t n).updChan n k fun c => { c with ctx := f w c c.ctx } := by
    simp only [State.issueCtx, issued]
  have hdoes := State.issueCtx_does (s.atBank t n) n k op f
  have htime : ((s.atBank t n).issueCtx n k op f).settle.time = s.time :=
    (State.settle_time _).trans ((hdoes.only .time (by decide)).trans (s.atBank_time t n))
  rw [State.settleStep_of_not_due (by rw [htime, due])]
  have hchan := State.chan_congr (State.settle_banks ((s.atBank t n).issueCtx n k op f)) n
  constructor
  · rw [hchan, hissue, State.chan_updChan_same]
  · intro j hj
    rw [hchan, hissue, State.chan_updChan_other _ _ hj]
  · exact (s.atBank_sameBut t n).trans ((hdoes.sameBut rfl).trans ((State.settle_does _).sameBut rfl))

/-! ### The values V0 to V3 -/

theorem fieldOf_lt (w : Word) (hi lo : Nat) : fieldOf w hi lo < 2 ^ (hi - lo + 1) := Nat.mod_lt _ (Nat.two_pow_pos _)

namespace Ctx

variable (c : Ctx)

@[simp] theorem setV_pc (i x : Nat) : (c.setV i x).pc = c.pc := by
  unfold setV
  split <;> rfl

/-- Each value after one of them is set; a value is named by its number modulo 4. -/
theorem setV_v (i j x : Nat) : (c.setV i x).v j = if j % 4 = i % 4 then x else c.v j := by
  have hi : i % 4 = 0 ∨ i % 4 = 1 ∨ i % 4 = 2 ∨ i % 4 = 3 := by omega
  have hj : j % 4 = 0 ∨ j % 4 = 1 ∨ j % 4 = 2 ∨ j % 4 = 3 := by omega
  unfold setV v
  rcases hi with hi | hi | hi | hi <;> rcases hj with hj | hj | hj | hj <;> rw [hi, hj] <;> rfl

@[simp] theorem step_v (i : Nat) : c.step.v i = c.v i := rfl

@[simp] theorem step_pc : c.step.pc = (c.pc + 1) % 512 := rfl

@[simp] theorem goto_v (taken : Bool) (a i : Nat) : (c.goto taken a).v i = c.v i := by
  cases taken <;> rfl

theorem goto_pc (taken : Bool) (a : Nat) : (c.goto taken a).pc = if taken then a else (c.pc + 1) % 512 := by
  cases taken <;> rfl

end Ctx

/-! ### Saturation (R222) -/

/-- A result held between 0 and 0xFFFF_FFFF (R222). -/
def saturate (z : Int) : Nat := if z < 0 then 0 else if 0xFFFFFFFF < z then 0xFFFFFFFF else z.toNat

theorem saturate_natCast (m : Nat) : saturate m = satU 32 m := by
  simp only [saturate, satU, maxOf]
  split
  · omega
  · split <;> omega

theorem satU_eq_saturate {m : Nat} {z : Int} (h : (m : Int) = z) : satU 32 m = saturate z :=
  h ▸ (saturate_natCast m).symm

/-- A difference of naturals stops at 0, as the saturated difference does. -/
theorem satU_sub (a b : Nat) : satU 32 (a - b) = saturate ((a : Int) - b) := by
  simp only [saturate, satU, maxOf]
  split
  · omega
  · split <;> omega

/-- The functions of ALU as integers, before saturation, under their FN (R221). -/
def aluTable (d v imm : Nat) : List (Nat × Int) :=
  [(0, v), (1, (d : Int) + v), (2, (d : Int) - v), (3, min (d : Int) v), (4, max (d : Int) v), (5, (d : Int) + imm),
    (6, (d : Int) - imm), (7, min (d : Int) imm), (8, max (d : Int) imm), (9, (d : Int) * imm), (10, (d : Int) / 2 ^ imm),
    (11, (d : Int) * 2 ^ imm)]

/-- ALU saturates the integer result of its function. -/
theorem aluFn_eq_saturate {fn d v imm : Nat} {z : Int} (h : (fn, z) ∈ aluTable d v imm) : aluFn fn d v imm = saturate z := by
  simp only [aluTable, List.mem_cons, Prod.mk.injEq, List.not_mem_nil, or_false] at h
  rcases h with ⟨rfl, rfl⟩ | ⟨rfl, rfl⟩ | ⟨rfl, rfl⟩ | ⟨rfl, rfl⟩ | ⟨rfl, rfl⟩ | ⟨rfl, rfl⟩ | ⟨rfl, rfl⟩ |
    ⟨rfl, rfl⟩ | ⟨rfl, rfl⟩ | ⟨rfl, rfl⟩ | ⟨rfl, rfl⟩ | ⟨rfl, rfl⟩
  · exact satU_eq_saturate rfl
  · exact satU_eq_saturate (Int.natCast_add d v)
  · exact satU_sub d v
  · exact satU_eq_saturate (m := min d v) (by omega)
  · exact satU_eq_saturate (m := max d v) (by omega)
  · exact satU_eq_saturate (Int.natCast_add d imm)
  · exact satU_sub d imm
  · exact satU_eq_saturate (m := min d imm) (by omega)
  · exact satU_eq_saturate (m := max d imm) (by omega)
  · exact satU_eq_saturate (Int.natCast_mul d imm)
  · exact satU_eq_saturate ((Int.natCast_ediv d (2 ^ imm)).trans (congrArg ((d : Int) / ·) (Int.natCast_pow 2 imm)))
  · exact satU_eq_saturate ((Int.natCast_mul d (2 ^ imm)).trans (congrArg ((d : Int) * ·) (Int.natCast_pow 2 imm)))

theorem Ctx.tph_eq_saturate {c : Ctx} {p : Nat} (h : c.tph0 = some p) (now : Nat) :
    c.tph now = saturate (((now - p) / 10 : Nat) : Int) := by
  rw [saturate_natCast, Ctx.tph, h]

theorem Ctx.tev_eq_saturate (c : Ctx) (now : Nat) : c.tev now = saturate (((now - c.tev0) / 10 : Nat) : Int) :=
  (saturate_natCast _).symm

/-! ### The instructions that write a value -/

/-- From `s` to `u`, context k of bank n holds `v` in value `d` and goes on at `pc`; the other values and channels stay, and
nothing outside the bank and what follows it has changed. -/
def ValueComesTo (s : State) (t : Nat) (n : Fin 12) (k : Fin 4) (d v pc : Nat) (u : State) : Prop :=
  let c := (s.atBank t n).chan n k
  (u.chan n k).ctx.v d = v ∧ (u.chan n k).ctx.pc = pc ∧ (∀ j : Fin 4, j.val ≠ d → (u.chan n k).ctx.v j = c.ctx.v j) ∧
    (∀ j : Fin 4, j ≠ k → u.chan n j = (s.atBank t n).chan n j) ∧ SameBut bankParts s u

section
variable {s u : State} {t : Nat} {n : Fin 12} {k : Fin 4} {w : Word}

/-- A context that comes to `x`, whose values are as before but for `v` in value `d`. -/
theorem CtxComesTo.value {x : Ctx} {d v : Nat} (h : CtxComesTo s t n k x u) (hd : d < 4)
    (hv : ∀ j, x.v j = (((s.atBank t n).chan n k).ctx.setV d v).v j) : ValueComesTo s t n k d v x.pc u := by
  obtain ⟨hctx, hothers, hframe⟩ := h
  refine ⟨?_, congrArg Ctx.pc hctx, fun j hj => ?_, hothers, hframe⟩
  · rw [hctx, hv, Ctx.setV_v, if_pos rfl]
  · rw [hctx, hv, Ctx.setV_v, if_neg (by omega)]

/-- An instruction that loads a value into Vd and goes on with the next word. -/
theorem State.issueCtx_loads {op : UOp} (v : Word → Chan → Ctx → Nat) (due : s.time.stepDue = false)
    (issued : (s.atBank t n).issue n k op = some w) :
    ValueComesTo s t n k (fieldOf w 25 24) (v w ((s.atBank t n).chan n k) ((s.atBank t n).chan n k).ctx)
      ((((s.atBank t n).chan n k).ctx.pc + 1) % 512)
      (((s.atBank t n).issueCtx n k op fun w ch c => c.step.setV (fieldOf w 25 24) (v w ch c)).settle.settleStep) := by
  have h := (State.issueCtx_comesTo (fun w ch c => c.step.setV (fieldOf w 25 24) (v w ch c)) due issued).value
    (v := v w ((s.atBank t n).chan n k) ((s.atBank t n).chan n k).ctx) (fieldOf_lt w 25 24)
    (fun j => by simp only [Ctx.setV_v, Ctx.step_v])
  rwa [Ctx.setV_pc, Ctx.step_pc] at h

theorem ldi_yields (due : s.time.stepDue = false) (issued : (s.atBank t n).issue n k .ldi = some w) :
    Yields (.ldi t n k) s (ValueComesTo s t n k (fieldOf w 25 24) (fieldOf w 23 0)
      ((((s.atBank t n).chan n k).ctx.pc + 1) % 512)) :=
  ⟨_, rfl, State.issueCtx_loads (fun w _ _ => fieldOf w 23 0) due issued⟩

theorem ldp_yields (due : s.time.stepDue = false) (issued : (s.atBank t n).issue n k .ldp = some w) :
    Yields (.ldp t n k) s (ValueComesTo s t n k (fieldOf w 25 24) ((s.atBank t n).chan n k).ctx.param
      ((((s.atBank t n).chan n k).ctx.pc + 1) % 512)) :=
  ⟨_, rfl, State.issueCtx_loads (fun _ _ c => c.param) due issued⟩

theorem lds_yields {src v : Nat} (due : s.time.stepDue = false) (issued : (s.atBank t n).issue n k .lds = some w)
    (hsrc : fieldOf w 3 0 = src) (hv : (s.atBank t n).ldsValue n ((s.atBank t n).chan n k) src = v) :
    Yields (.lds t n k) s (ValueComesTo s t n k (fieldOf w 25 24) v ((((s.atBank t n).chan n k).ctx.pc + 1) % 512)) :=
  hv ▸ hsrc ▸ ⟨_, rfl, State.issueCtx_loads (fun w ch _ => (s.atBank t n).ldsValue n ch (fieldOf w 3 0)) due issued⟩

theorem alu_yields {fn : Nat} {z : Int} (due : s.time.stepDue = false) (issued : (s.atBank t n).issue n k .alu = some w)
    (hfn : fieldOf w 21 18 = fn) (hz : (fn, z) ∈ aluTable (((s.atBank t n).chan n k).ctx.v (fieldOf w 25 24))
      (((s.atBank t n).chan n k).ctx.v (fieldOf w 23 22)) (fieldOf w 17 0)) :
    Yields (.alu t n k) s (ValueComesTo s t n k (fieldOf w 25 24) (saturate z)
      ((((s.atBank t n).chan n k).ctx.pc + 1) % 512)) :=
  aluFn_eq_saturate hz ▸ hfn ▸ ⟨_, rfl, State.issueCtx_loads
    (fun w _ c => aluFn (fieldOf w 21 18) (c.v (fieldOf w 25 24)) (c.v (fieldOf w 23 22)) (fieldOf w 17 0)) due issued⟩

/-- DJNZ takes Vd one down, no further than 0, and branches unless that leaves 0. -/
theorem djnz_yields (due : s.time.stepDue = false) (issued : (s.atBank t n).issue n k .djnz = some w) :
    let x := ((s.atBank t n).chan n k).ctx
    let d := fieldOf w 25 24
    Yields (.djnz t n k) s (ValueComesTo s t n k d (if x.v d = 0 then 0 else x.v d - 1)
      (if x.v d ≤ 1 then (x.pc + 1) % 512 else fieldOf w 8 0)) := by
  intro x d
  have h := (State.issueCtx_comesTo (fun w _ c => let v := c.v (fieldOf w 25 24) - 1
    (c.setV (fieldOf w 25 24) v).goto (v != 0) (fieldOf w 8 0)) due issued).value (v := x.v d - 1)
    (fieldOf_lt w 25 24) (fun j => Ctx.goto_v _ _ _ _)
  have hvalue : (if x.v d = 0 then 0 else x.v d - 1) = x.v d - 1 := by
    split <;> omega
  have hpc : (if x.v d ≤ 1 then (x.pc + 1) % 512 else fieldOf w 8 0) =
      ((x.setV d (x.v d - 1)).goto (x.v d - 1 != 0) (fieldOf w 8 0)).pc := by
    rw [Ctx.goto_pc, Ctx.setV_pc]
    by_cases hle : x.v d ≤ 1
    · simp [hle]
    · simp [hle, Nat.sub_eq_zero_iff_le]
  rw [hvalue, hpc]
  exact ⟨_, rfl, h⟩

end

/-! ### The sources of LDS -/

section
variable (s : State) (n : Fin 12) (ch : Chan)

theorem State.ldsValue_current : s.ldsValue n ch 0 = ch.i := rfl

theorem State.ldsValue_tph {p : Nat} (h : ch.ctx.tph0 = some p) :
    s.ldsValue n ch 1 = saturate (((s.now - p) / 10 : Nat) : Int) :=
  Ctx.tph_eq_saturate h s.now

theorem State.ldsValue_tev : s.ldsValue n ch 2 = saturate (((s.now - ch.ctx.tev0) / 10 : Nat) : Int) :=
  ch.ctx.tev_eq_saturate s.now

theorem State.ldsValue_dip {r : Running} {m : Nat} (hr : ch.run = some r) (hm : r.motT = some m) :
    s.ldsValue n ch 3 = saturate (m : Int) := by
  simp [saturate_natCast, State.ldsValue, hr, hm]

theorem State.ldsValue_no_dip {r : Running} (hr : ch.run = some r) (hm : r.motT = none) : s.ldsValue n ch 3 = 0 := by
  simp [State.ldsValue, hr, hm, satU]

theorem State.ldsValue_reservoir : s.ldsValue n ch 4 = s.vres (convOf n) := rfl

theorem State.vres_atBank (t b : Nat) : (s.atBank t n).vres b = s.vres b := by
  unfold State.vres State.fld
  rw [State.rd_congr (s.atBank_regs t n)]

end

/-- Settles O43: each of the instructions acts on its context only (`State.issueCtx_comesTo`), and what ALU, DJNZ and the
timers give is the integer result held between 0 and 0xFFFF_FFFF (`saturate`). -/
theorem saturatingArithmetic : Obligations.SaturatingArithmetic := by
  intro s t n k w
  dsimp only
  intro due
  refine ⟨fun issued _ _ hz hfn => alu_yields due issued hfn hz, djnz_yields due, ldi_yields due, ldp_yields due,
    fun issued => ?_⟩
  exact ⟨fun src => lds_yields due issued src (State.ldsValue_current ..),
    fun _ src hp => lds_yields due issued src (State.ldsValue_tph _ _ _ hp),
    fun src => lds_yields due issued src (State.ldsValue_tev ..),
    fun _ _ src hr hm => lds_yields due issued src (State.ldsValue_dip _ _ _ hr hm),
    fun _ src hr hm => lds_yields due issued src (State.ldsValue_no_dip _ _ _ hr hm),
    fun src => lds_yields due issued src ((State.ldsValue_reservoir ..).trans (State.vres_atBank ..))⟩

end Sys2Proof.Machine
end

section
/-!
PROOFS. Throttling (spec/17_thermal_and_fans.md): the effective threshold and the judgement of a sensor against it (R431,
R432), and the enforcement level with what follows it, the bits of DEV_STAT and the modes RUN and CONSTRAINED (R433).
-/
namespace Sys2Proof.Machine

/-! ### The effective threshold and the fall limit (R431) -/

theorem State.thrLowered_eq_true_iff (s : State) (n : Fin 10) :
    s.thrLowered n = true ↔ s.wear.ended[(4 : Fin 8)] = true ∨ (s.wear.ended[(7 : Fin 8)] = true ∧ (n = 2 ∨ n = 4)) := by
  have hdef : s.thrLowered n =
      (s.wear.ended[(4 : Fin 8)] || (s.wear.ended[(7 : Fin 8)] && (n == 2 || n == 4))) := rfl
  rw [hdef, Bool.or_eq_true, Bool.and_eq_true, Bool.or_eq_true, beq_iff_eq, beq_iff_eq]

theorem State.thrEff_of_lowered {s : State} {n : Fin 10} (h : s.thrLowered n = true) :
    s.thrEff n = signed 16 (s.fld (State.tsCfg n) 31 16) - 640 := if_pos h

theorem State.thrEff_of_not_lowered {s : State} {n : Fin 10} (h : ¬ s.thrLowered n = true) :
    s.thrEff n = signed 16 (s.fld (State.tsCfg n) 31 16) := if_neg h

theorem State.fallLimit_enforce {s : State} {n : Fin 10} {k : Nat} (h : (s.sensor n).stage = .enforce k) :
    s.fallLimit n = s.thrEff n + 320 * ((k : Int) - 1) - 320 := by
  simp only [State.fallLimit, h, deg5]

theorem State.fallLimit_request {s : State} {n : Fin 10} (h : (s.sensor n).stage = .request) :
    s.fallLimit n = s.thrEff n - 320 := by
  simp only [State.fallLimit, h, deg5]

/-- A reading at a limit does not exceed it (R431). -/
theorem State.above4_eq_false_of_mem {x : Sensor} {lim : Int} (h : lim ∈ x.hist) : State.above4 x lim = false := by
  have hat : (x.hist.all fun t => decide (lim < t)) = false :=
    List.all_eq_false.mpr ⟨lim, h, by simp⟩
  rw [State.above4, hat, Bool.and_false]

/-! ### A sensor after an update -/

@[simp] theorem State.sensor_updSensor_same (s : State) (n : Fin 10) (f : Sensor → Sensor) :
    (s.updSensor n f).sensor n = f (s.sensor n) := by
  simp [State.sensor, State.updSensor]

@[simp] theorem State.sensor_thermFlag (s : State) (n m : Fin 10) (bit cls : Nat) (st : Stage) :
    (s.thermFlag n bit cls st).sensor m = s.sensor m :=
  congrArg (fun v : Vector Sensor 10 => v[m]) ((s.thermFlag_does n bit cls st).only .sensors (by decide))

/-- A move to a stage ends in that stage, whichever flag it raises. -/
@[simp] theorem State.stage_toStage (s : State) (n : Fin 10) (st : Stage) : ((s.toStage n st).sensor n).stage = st := by
  unfold State.toStage
  cases st with
  | none => simp
  | request => simp
  | enforce k =>
    dsimp only
    split <;> simp

/-! ### The stage judgement (R432) -/

/-- Since when the readings of a sensor have stayed at or below its fall limit is noted, before its stage is judged. -/
def State.noteLow (s : State) (n : Fin 10) : State :=
  s.updSensor n fun y =>
    { y with lowSince := if (s.sensor n).temp ≤ s.fallLimit n then some ((s.sensor n).lowSince.getD s.now) else none }

@[simp] theorem State.stage_noteLow (s : State) (n : Fin 10) : ((s.noteLow n).sensor n).stage = (s.sensor n).stage := by
  simp [State.noteLow]

@[simp] theorem State.above4_noteLow (s : State) (n : Fin 10) (lim : Int) :
    State.above4 ((s.noteLow n).sensor n) lim = State.above4 (s.sensor n) lim := by
  simp [State.noteLow, State.above4]

@[simp] theorem State.thrEff_noteLow (s : State) (n m : Fin 10) : (s.noteLow n).thrEff m = s.thrEff m := rfl

theorem State.judgeStage_of_thrEn_false {s : State} {n : Fin 10} (h : s.thrEn n = false) : s.judgeStage n = s := by
  simp [State.judgeStage, h]

section
variable {s : State} {n : Fin 10} (en : s.thrEn n = true) (whole : (s.sensor n).broken = false)
include en whole

/-- A sensor in NONE enters REQUEST where four readings exceed THR_EFF, and stays in NONE otherwise. -/
theorem State.judgeStage_none (h : (s.sensor n).stage = .none) :
    s.judgeStage n = if State.above4 (s.sensor n) (s.thrEff n) then (s.noteLow n).toStage n .request else s.noteLow n := by
  simp [State.judgeStage, ← State.noteLow.eq_1, en, whole, h]

/-- A sensor in ENFORCE below level 3 goes one level up where four readings exceed the next boundary. -/
theorem State.judgeStage_enforce_up {k : Nat} (h : (s.sensor n).stage = .enforce k) (hk : k < 3)
    (above : State.above4 (s.sensor n) (s.thrEff n + 320 * k) = true) :
    s.judgeStage n = (s.noteLow n).toStage n (.enforce (k + 1)) := by
  simp [State.judgeStage, ← State.noteLow.eq_1, en, whole, h, hk, deg5, above]

end

/-- Settles O33: the limits are read off their definitions, and a judgement that finds the readings above the threshold or
the next boundary is the move to that stage (`State.judgeStage_none`, `State.judgeStage_enforce_up`). -/
theorem effectiveThreshold : Obligations.EffectiveThreshold := by
  intro s n thr
  rw [← s.thrLowered_eq_true_iff n]
  refine ⟨State.thrEff_of_lowered, State.thrEff_of_not_lowered, fun _ => State.fallLimit_enforce, State.fallLimit_request,
    fun _ _ => State.above4_eq_false_of_mem, State.judgeStage_of_thrEn_false, fun en whole h => ?_,
    fun k en whole h hk above => ?_⟩
  · rw [State.judgeStage_none en whole h]
    split
    · exact State.stage_toStage _ _ _
    · exact (State.stage_noteLow _ _).trans h
  · rw [State.judgeStage_enforce_up en whole h hk above, State.stage_toStage]

/-! ### The enforcement level (R433) -/

theorem State.mem_sensors_iff (s : State) (x : Sensor) : x ∈ s.sensors.toList ↔ ∃ n : Fin 10, s.sensors[n] = x := by
  rw [Vector.mem_toList_iff, Vector.mem_iff_getElem]
  exact ⟨fun ⟨i, hi, h⟩ => ⟨⟨i, hi⟩, h⟩, fun ⟨n, h⟩ => ⟨n, n.isLt, h⟩⟩

theorem Stage.eq_enforce_of_level_ne_zero {st : Stage} (h : st.level ≠ 0) : st = .enforce st.level := by
  cases st with
  | none => exact absurd rfl h
  | request => exact absurd rfl h
  | enforce k => rfl

/-- ENF_LEVEL is the greatest of 0 and the levels of the sensors. -/
theorem State.enfLevel_isGreatest (s : State) :
    s.enfLevel ∈ 0 :: s.sensors.toList.map (·.stage.level) ∧
      ∀ k ∈ 0 :: s.sensors.toList.map (·.stage.level), k ≤ s.enfLevel := by
  have hfold : s.enfLevel = (s.sensors.toList.map (·.stage.level)).foldl max 0 := List.foldl_map.symm
  exact List.max?_eq_some_iff.mp (hfold ▸ List.max?_cons')

theorem State.level_le_enfLevel (s : State) (n : Fin 10) : s.sensors[n].stage.level ≤ s.enfLevel :=
  s.enfLevel_isGreatest.2 _ (List.mem_cons_of_mem _ (List.mem_map_of_mem ((s.mem_sensors_iff _).mpr ⟨n, rfl⟩)))

theorem State.enfLevel_eq_zero_or_exists (s : State) :
    s.enfLevel = 0 ∨ ∃ n : Fin 10, s.sensors[n].stage = .enforce s.enfLevel := by
  by_cases h0 : s.enfLevel = 0
  · exact .inl h0
  · obtain ⟨x, hx, hlevel⟩ := List.mem_map.mp (List.mem_of_ne_of_mem h0 s.enfLevel_isGreatest.1)
    obtain ⟨n, rfl⟩ := (s.mem_sensors_iff x).mp hx
    exact .inr ⟨n, hlevel ▸ Stage.eq_enforce_of_level_ne_zero (hlevel ▸ h0)⟩

theorem State.thrRequest_iff (s : State) : s.thrRequest = true ↔ ∃ n : Fin 10, s.sensors[n].stage = .request := by
  simp only [State.thrRequest, List.any_eq_true, beq_iff_eq, s.mem_sensors_iff]
  exact ⟨fun ⟨_, ⟨n, hn⟩, h⟩ => ⟨n, hn ▸ h⟩, fun ⟨n, h⟩ => ⟨_, ⟨n, rfl⟩, h⟩⟩

/-! ### DEV_STAT and the mode -/

/-- The word of one flag has that flag's bit and no other. -/
@[simp] theorem State.getElem_vb (n : Nat) (b : Bool) {k : Nat} (hk : k < 32) :
    (State.vb n b)[k] = (decide (n = k) && b) := by
  rw [← BitVec.getLsbD_eq_getElem, State.vb, fieldAt, BitVec.getLsbD_ofNat]
  cases b with
  | false => simp [b2n]
  | true => simp [b2n, hk, Nat.testBit_two_pow]

theorem State.viewDev_thrRequest (s : State) (w : Word) : (s.viewDev 0x48 w).getLsbD 2 = s.thrRequest := by
  simp [State.viewDev]

theorem State.viewDev_thrEnforce (s : State) (w : Word) : (s.viewDev 0x48 w).getLsbD 3 = decide (0 < s.enfLevel) := by
  simp [State.viewDev]

theorem State.settleMode_run {s : State} (run : s.sup.mode = .run) (h : 0 < s.enfLevel) :
    s.settleMode.sup.mode = .constrained := by
  have hset : s.settleMode = s.setMode .constrained := by simp [State.settleMode, run, h]
  rw [hset, State.setMode_mode]

theorem State.settleMode_constrained {s : State} (constrained : s.sup.mode = .constrained) (h : s.enfLevel = 0)
    (energy : s.led.energyLimit = false) : s.settleMode.sup.mode = .run := by
  have hset : s.settleMode = s.setMode .run := by simp [State.settleMode, constrained, h, energy]
  rw [hset, State.setMode_mode]

/-- Settles O34: ENF_LEVEL is the greatest of 0 and the sensors' levels (`State.enfLevel_isGreatest`), and the mode follows it
through `State.setMode`. -/
theorem enforcementLevel : Obligations.EnforcementLevel := by
  intro s
  refine ⟨fun n k h => ?_, s.enfLevel_eq_zero_or_exists, s.thrRequest_iff,
    fun w => ⟨s.viewDev_thrRequest w, s.viewDev_thrEnforce w⟩, State.settleMode_run, State.settleMode_constrained⟩
  have hlevel := s.level_le_enfLevel n
  rwa [h] at hlevel

end Sys2Proof.Machine
end
